-- ==== Sys2Proof/Word.lean ====
section
/-! DEFINITION. Sys2Proof/Word.lean: the native 24-bit word (R1, R3), the byte, and the plainest operations on
their bits. Everything a test could show wrong (packing, byte order, field layouts) is in Machine/Bits.lean. -/

namespace Sys2Proof

/-- Vachatre's native word: a register, or one word of a descriptor, completion or event entry. -/
abbrev Word := BitVec 24

/-- One byte of host memory or of a frame. -/
abbrev Byte := BitVec 8

/-- A sparse table: keys rising, no entry equal to the table's default (`Machine/Tab.lean` reads and writes it). -/
abbrev Tab (α : Type) := List (Nat × α)

end Sys2Proof
end

