-- ==== Sys2Proof/Syntax.lean ====
section
/-! DEFINITION. Sys2Proof/Syntax.lean: the commands of the block, one constructor per row of spec/opcode_table.json.
A descriptor's command names its ring and its SQ index; the descriptor's words are in the ring's window. -/

namespace Sys2Proof

/-- A host read of one register: its offset, and whether the access is 32 bits wide (R2). -/
structure RegRead where
  off : BitVec 17
  full : Bool
  deriving DecidableEq, Repr

/-- Which step of a scrub of R198 this is, and in which table: the failed entry is found and becomes a miss, or (`done`) the pair is
inserted again. -/
structure ScrubStep where
  shadow : Bool
  done : Bool
  deriving DecidableEq, Repr

/-- The commands of the block. -/
inductive Instr where
  /-- REGISTER_WRITE (R9): A write to a register field that has no row of its own sets the field, subject to locks, power domain and the register's own range rules. -/
  | registerWrite (off : BitVec 17) (val : BitVec 32) (full : Bool)
  /-- GLB_PG_LOCK (R68): Writing 1 to GLB_PG_LOCK LOCK locks every permission-group and ring-group register until the next reset of the block. -/
  | glbPgLock
  /-- RING_ENABLE (R38): Writing ENABLE = 1 to a DISABLED or STOPPED ring checks the ring; on success it zeroes the indices, sets PHASE and enters RUNNING, otherwise it records ERR_CODE. -/
  | ringEnable (n : Fin 64)
  /-- RING_DISABLE (R70): Writing ENABLE = 0 to a RUNNING ring starts a stop, so that STATE becomes STOPPING and every posted descriptor is ended. -/
  | ringDisable (n : Fin 64)
  /-- RESUME_CQ (R73): Writing RESUME_CQ = 1 after a CQ write error retries the held completions, starting from HRE_RINGn_ERR_IDX. -/
  | resumeCq (n : Fin 64)
  /-- DBL_SQ_TAIL (R40): A doorbell write of a new SQ tail posts descriptors, or is ignored, or stops the ring with DB_RANGE, depending on ring state and value. -/
  | dblSqTail (n : Fin 64) (v : Word)
  /-- DBL_CQ_HEAD (R41): A doorbell write of a new CQ head returns CQ slots to Vachatre, or stops the ring with DB_RANGE or HEAD_RANGE. -/
  | dblCqHead (n : Fin 64) (v : Word)
  /-- DESCRIPTOR_FETCH (R36): The HRE fetches a posted descriptor once a CQ slot is reserved for it, or fetches it into the group window; a fetch error completes it with BAD_DESC FETCH. -/
  | descriptorFetch (n : Fin 64)
  /-- COMPLETION_WRITE (R49): A completion is written into its reserved CQ slot in SQ order, with the PHASE byte made visible last. -/
  | completionWrite (n : Fin 64)
  /-- NOTIFY_TIMER (R76): The ring notification timer expires TIMER µs after the first unnotified completion and raises HR_CQk. -/
  | notifyTimer (n : Fin 64)
  /-- COMMIT_GROUP_STAGING (R60): A ready commit group enters staging, where every member is checked against current state plus earlier members and its resources are reserved. -/
  | commitGroupStaging (n : Fin 64)
  /-- COMMIT_POINT (R62): A staged group applies in all four pipelines in one CK_DP clock, and every member completes with OK and the same TIME. -/
  | commitPoint (n : Fin 64)
  /-- NOP (R81): NOP performs no action and completes with RESULT 0. -/
  | nop (n : Fin 64) (i : Nat)
  /-- BARRIER (R81): BARRIER starts only after the earlier-posted descriptors of the masked rings have completed. -/
  | barrier (n : Fin 64) (i : Nat)
  /-- RING_STOP (R81): RING_STOP stops the named ring of the same permission group. -/
  | ringStop (n : Fin 64) (i : Nat)
  /-- SW_EVENT (R81): SW_EVENT raises HR_SW_EVENT with the DETAIL given in the descriptor. -/
  | swEvent (n : Fin 64) (i : Nat)
  /-- SECY_SET (R112): SECY_SET creates or modifies a SecY and its transmit channel. -/
  | secySet (n : Fin 64) (i : Nat)
  /-- SECY_DELETE (R113): SECY_DELETE deletes a SecY that has no dependants. -/
  | secyDelete (n : Fin 64) (i : Nat)
  /-- RXSC_SET (R115): RXSC_SET creates or modifies a receive channel, inserting or binding its SLT entry. -/
  | rxscSet (n : Fin 64) (i : Nat)
  /-- RXSC_DELETE (R116): RXSC_DELETE removes a receive channel and its SLT entry. -/
  | rxscDelete (n : Fin 64) (i : Nat)
  /-- LT_READ (R117): LT_READ writes one SecY, channel or association record at a snapshot instant. -/
  | ltRead (n : Fin 64) (i : Nat)
  /-- CNT_SNAPSHOT (R121): CNT_SNAPSHOT writes the counter records of a run of objects at one snapshot instant. -/
  | cntSnapshot (n : Fin 64) (i : Nat)
  /-- SA_INSTALL (R262): SA_INSTALL creates a transmit or receive association in INSTALLED, after its checks and the recording of its first lease. -/
  | saInstall (n : Fin 64) (i : Nat)
  /-- SA_SWITCH (R264): SA_SWITCH arms, replaces or cancels a change of a transmit channel's encoding association. -/
  | saSwitch (n : Fin 64) (i : Nat)
  /-- SA_RETIRE (R268): SA_RETIRE returns an association to FREE and frees its Belfry slot. -/
  | saRetire (n : Fin 64) (i : Nat)
  /-- SA_ADJUST (R269): SA_ADJUST moves a PN forward, or changes a threshold, the mirror policy or the release mode. -/
  | saAdjust (n : Fin 64) (i : Nat)
  /-- TREE_LOAD (R141): TREE_LOAD writes classifier nodes into the inactive bank and, when FINAL is set, validates that bank. -/
  | treeLoad (n : Fin 64) (i : Nat)
  /-- TREE_SWITCH (R142): TREE_SWITCH exchanges the active and inactive classifier banks. -/
  | treeSwitch (n : Fin 64) (i : Nat)
  /-- TREE_READ (R143): TREE_READ writes the nodes of either bank to host memory. -/
  | treeRead (n : Fin 64) (i : Nat)
  /-- SLT_SEED (R200): SLT_SEED builds the shadow SLT under a new seed. -/
  | sltSeed (n : Fin 64) (i : Nat)
  /-- SLT_REBUILD (R200): SLT_REBUILD makes a READY shadow SLT active. -/
  | sltRebuild (n : Fin 64) (i : Nat)
  /-- SLT_ENTRY (R201): SLT_ENTRY reads SLT entries, removes a PENDING or BLOCKED entry, or blocks a PENDING entry. -/
  | sltEntry (n : Fin 64) (i : Nat)
  /-- SLOT_UNWRAP (R300): SLOT_UNWRAP unwraps a blob under a wrap key into a VOLATILE slot. -/
  | slotUnwrap (n : Fin 64) (i : Nat)
  /-- SLOT_GENERATE (R312): SLOT_GENERATE fills a slot with a key from the DRBG. -/
  | slotGenerate (n : Fin 64) (i : Nat)
  /-- SLOT_WRAP (R302): SLOT_WRAP exports a VOLATILE Direct key as a blob under a wrap key. -/
  | slotWrap (n : Fin 64) (i : Nat)
  /-- SLOT_ERASE (R314): SLOT_ERASE makes a LOADED slot REVOKED at its effect instant. -/
  | slotErase (n : Fin 64) (i : Nat)
  /-- SLOT_ATTR (R315): SLOT_ATTR removes destination bits from T or C, or sets LOCK, on a LOADED slot. -/
  | slotAttr (n : Fin 64) (i : Nat)
  /-- SLOT_READ (R316): SLOT_READ writes the attribute word and generation of a run of slots. -/
  | slotRead (n : Fin 64) (i : Nat)
  /-- MKA_DERIVE (R303): MKA_DERIVE derives the KEK and the ICK from a CAK into two slots. -/
  | mkaDerive (n : Fin 64) (i : Nat)
  /-- SIGN_DIGEST (R318): SIGN_DIGEST signs a 48-byte digest with a device-bound P-384 key, or returns its public key. -/
  | signDigest (n : Fin 64) (i : Nat)
  /-- KUM_APPLY (R332): KUM_APPLY checks a key update message and writes the new image bank and an RPMB write request, leaving one commit pending. -/
  | kumApply (n : Fin 64) (i : Nat)
  /-- KUM_COMMIT (R333): KUM_COMMIT decides the pending commit from an RPMB response and, when it is committed, applies the new persistent key set. -/
  | kumCommit (n : Fin 64) (i : Nat)
  /-- IMAGE_NONCE (R335): IMAGE_NONCE draws a nonce, writes the RPMB write-counter and read requests, and moves COLD to LOADING. -/
  | imageNonce (n : Fin 64) (i : Nat)
  /-- IMAGE_LOAD (R335): IMAGE_LOAD checks the RPMB responses and the record and loads the named persistent bank, or enters ALARMED or READY without keys. -/
  | imageLoad (n : Fin 64) (i : Nat)
  /-- LC_CHANGE (R338): LC_CHANGE performs an allowed life-cycle transition, checking a token where one is required, and empties every slot. -/
  | lcChange (n : Fin 64) (i : Nat)
  /-- RPMB_PROVISION (R336): RPMB_PROVISION writes the RPMB key-programming frame and blows the PROV fuse. -/
  | rpmbProvision (n : Fin 64) (i : Nat)
  /-- REPAIR_EXPORT (R245): REPAIR_EXPORT writes an authenticated repair record of every retired unit. -/
  | repairExport (n : Fin 64) (i : Nat)
  /-- REPAIR_LOAD (R245): REPAIR_LOAD checks a repair record and retires the units it marks. -/
  | repairLoad (n : Fin 64) (i : Nat)
  /-- ATTEST (R343): ATTEST writes a signed attestation statement, or the device's public keys. -/
  | attest (n : Fin 64) (i : Nat)
  /-- MEAS_EXTEND (R342): MEAS_EXTEND extends one of M2 to M15 with a 48-byte value. -/
  | measExtend (n : Fin 64) (i : Nat)
  /-- MEAS_READ (R346): MEAS_READ writes M0 to M15 to host memory. -/
  | measRead (n : Fin 64) (i : Nat)
  /-- LOG_DUMP (R471): LOG_DUMP writes event-log entries to host memory at a snapshot instant. -/
  | logDump (n : Fin 64) (i : Nat)
  /-- JOB_GCM (R367): JOB_GCM performs AES-GCM encryption or decryption on host memory. -/
  | jobGcm (n : Fin 64) (i : Nat)
  /-- JOB_XTS (R368): JOB_XTS encrypts or decrypts one XTS data unit from host memory. -/
  | jobXts (n : Fin 64) (i : Nat)
  /-- JOB_SECOC (R369): JOB_SECOC generates or verifies CMAC MACs for a batch of up to 64 PDUs. -/
  | jobSecoc (n : Fin 64) (i : Nat)
  /-- JOB_MKPDU_ICV (R371): JOB_MKPDU_ICV generates or verifies an MKPDU ICV under an ICK. -/
  | jobMkpduIcv (n : Fin 64) (i : Nat)
  /-- JOB_RANDOM (R372): JOB_RANDOM writes bytes from the DRBG to host memory. -/
  | jobRandom (n : Fin 64) (i : Nat)
  /-- STC_CFG_SET (R360): STC_CFG_SET writes or invalidates one storage configuration entry after resolving its keys. -/
  | stcCfgSet (n : Fin 64) (i : Nat)
  /-- STC_CFG_READ (R361): STC_CFG_READ writes storage configuration entries to host memory. -/
  | stcCfgRead (n : Fin 64) (i : Nat)
  /-- TIME_SAMPLE (R399): TIME_SAMPLE applies a ring offset sample to a domain's servo. -/
  | timeSample (n : Fin 64) (i : Nat)
  /-- TIME_DOMAIN (R399): TIME_DOMAIN resets a domain to INVALID or sets its rate. -/
  | timeDomain (n : Fin 64) (i : Nat)
  /-- TIME_SELECT (R399): TIME_SELECT selects the domain that is the source of the working clock. -/
  | timeSelect (n : Fin 64) (i : Nat)
  /-- TIME_READ (R399): TIME_READ writes LC, both domains, the working clock and PULL at a snapshot instant. -/
  | timeRead (n : Fin 64) (i : Nat)
  /-- CAL_LOAD (R399): CAL_LOAD writes a port's inactive calendar bank. -/
  | calLoad (n : Fin 64) (i : Nat)
  /-- CAL_SWITCH (R399): CAL_SWITCH activates the inactive calendar bank, or stops the calendar, at the next boundary. -/
  | calSwitch (n : Fin 64) (i : Nat)
  /-- CAL_READ (R399): CAL_READ writes a calendar bank to host memory. -/
  | calRead (n : Fin 64) (i : Nat)
  /-- SPL_READ (R444): SPL_READ reads registers of a far node through an RD_REQ. -/
  | splRead (n : Fin 64) (i : Nat)
  /-- SPL_WRITE (R444): SPL_WRITE posts a register write to a far node. -/
  | splWrite (n : Fin 64) (i : Nat)
  /-- SPL_LOCKED (R429): SPL_LOCKED runs a locked sequence of far and near register operations. -/
  | splLocked (n : Fin 64) (i : Nat)
  /-- SPL_KEY_SEND (R435): SPL_KEY_SEND transfers a VOLATILE key into a far node's slot under the domain key. -/
  | splKeySend (n : Fin 64) (i : Nat)
  /-- SPL_BCAST (R443): SPL_BCAST broadcasts a register write or check and gathers the results. -/
  | splBcast (n : Fin 64) (i : Nat)
  /-- EG_FRAME_ADMIT (R139): An egress frame is admitted, parsed, classified, checked against its SecY, numbered and offered to the calendar under the state in force in its admission clock. -/
  | egFrameAdmit (port : Fin 24) (express : Bool) (len : BitVec 14) (bytes : List Byte) (launch : Option (BitVec 32)) (err : Bool)
  /-- SWITCH_FIRE (R266): An armed AT_TIME switch fires when the working clock reaches AT_TIME, and the new association becomes IN_USE. -/
  | switchFire (secy : Fin 512)
  /-- AON_LEASE_CONFIRM (R276): The AON writes a lease record to its mark and confirms it, so that LEASE_END advances and waiting frames proceed. -/
  | aonLeaseConfirm (sa : Fin 8192)
  /-- MIRROR_CONFIRM_TIMEOUT (R148): A mirrored lease record not confirmed within 100 µs ends the wait, so that MIRROR_REQUIRED frames are dropped or MIRROR_BEST raises EG_MIRROR_LOST. -/
  | mirrorConfirmTimeout (sa : Fin 8192)
  /-- LEASE_RECORD_RESEND (R277): An unconfirmed or refused mirrored lease record is resent to the partner every 20 µs. -/
  | leaseRecordResend (sa : Fin 8192)
  /-- ITEM_DISPATCH (R225): The crossbar sends a waiting item to a tower with a free input slot, in HASH or ROUND mode. -/
  | itemDispatch (id : Nat)
  /-- KEY_FETCH_DONE (R291): The Dome answers a tower's key fetch after resolving the KREF, with the key in shares or a failure status. -/
  | keyFetchDone (id : Nat)
  /-- TOWER_ITEM_DONE (R222): A tower completes an item and returns its results in order, and frees its context for the next item. -/
  | towerItemDone (id : Nat)
  /-- PARITY_MISMATCH (R239): A round-core or GHASH parity mismatch poisons the block, retires the unit and ends the item. -/
  | parityMismatch (tower : Fin 8) (ghash : Bool) (unit : Fin 9) (id : Nat)
  /-- ROLLING_TEST_STEP (R240): Every PERIOD ms, the out-of-service unit of each tower enters service and the next unit leaves service for the known-answer test. -/
  | rollingTestStep
  /-- KNOWN_ANSWER_TEST_DONE (R241): A unit's known-answer test ends, and the unit stays out of service on a pass or is retired on a fail. -/
  | knownAnswerTestDone (tower : Fin 8) (ghash : Bool) (unit : Fin 9) (pass : Bool)
  /-- STAGING_START (R251): Belfry staging of a scheduled association's next PN starts once the slot is consumed, the lead time is reached and the budget holds its cost. -/
  | stagingStart (slot : Fin 512)
  /-- STAGING_RAISE (R252): A staging is raised to class C0 when less than 1 µs remains before its known launch time. -/
  | stagingRaise (slot : Fin 512)
  /-- EG_FRAME_START (R159): The Port Adapter starts a frame at the MAC once its ciphertext leads by 128 bytes or is complete. -/
  | egFrameStart (id : Nat)
  /-- LAUNCH_RELEASE (R391): At a frame's release instant it is handed off, or it is judged late and handled under the late policy. -/
  | launchRelease (id : Nat)
  /-- EG_FRAME_END (R165): A frame's final byte goes to the MAC, possibly with pa_tx_err_o, and its counters are counted. -/
  | egFrameEnd (id : Nat)
  /-- CAL_INSTANCE_PASS (R390): A calendar instance whose launch time passes unclaimed is counted in TMU_Pn_CAL_UNUSED. -/
  | calInstancePass (port : Fin 24)
  /-- RETURN_QUEUE_SEND (R504): A TO_HOST frame leaves the return queue to the switch core with its port, TRAP and RULE. -/
  | returnQueueSend (k : Fin 4)
  /-- IG_FRAME_RECEIVE (R172): An ingress frame from the MAC passes the ordered checks up to lookup, association and preliminary replay, and is dispatched or delivered or dropped. -/
  | igFrameReceive (port : Fin 24) (express : Bool) (bytes : List Byte) (status : Fin 4) (ts : BitVec 40)
  /-- SLT_LEARN_STEP (R192): The insertion engine makes a learn step for a missed sender, inserting a PENDING entry or refusing it. -/
  | sltLearnStep (k : Fin 4)
  /-- HOLD_LIMIT_EXPIRE (R211): A frame whose verification has not arrived within the hold limit ends as HoldLimitDrop. -/
  | holdLimitExpire (id : Nat)
  /-- IG_FRAME_RELEASE (R206): A verified HOLD frame, or a CUT frame's final beat, leaves toward the switch core, with pa_abort_o when it has failed. -/
  | igFrameRelease (id : Nat)
  /-- SLT_AGING_SWEEP (R195): Every PERIOD ms, the sweep visits every SLT entry, clearing AGE, removing idle PENDING or BLOCKED entries and idling or removing BOUND entries. -/
  | sltAgingSweep (k : Fin 4)
  /-- SLT_SCRUB (R198): An SLT entry that failed parity is invalidated and its channel's pair is inserted again. -/
  | sltScrub (k : Fin 4) (st : ScrubStep) (loc : Nat)
  /-- STC_REQUEST (R354): A storage transfer request is accepted, taking its configuration entry and resolving both KREFs. -/
  | stcRequest (c : Fin 2) (tag : Fin 32) (fromDev : Bool) (ce : Bool) (cfg : Fin 128) (dun : BitVec 64) (len : Word)
  /-- STC_DATA_IN (R513): A storage data unit arrives from the controller and is dispatched to a tower, or passes unchanged. -/
  | stcDataIn (c : Fin 2) (fromDev : Bool) (bytes : List Byte) (last : Bool)
  /-- STC_TRANSFER_COMPLETE (R351): A transfer's last output beat returns to the controller with its TAG and status. -/
  | stcTransferComplete (c : Fin 2) (fromDev : Bool)
  /-- PRECEDING_KEY_RELEASE (R296): The Dome releases a preceding key once every earlier-dispatched item has taken it, and a waiting UPDATE proceeds. -/
  | precedingKeyRelease
  /-- DRBG_HEALTH_FAIL (R307): A continuous health-test failure uninstantiates the DRBG and raises DM_ENTROPY_FAIL. -/
  | drbgHealthFail
  /-- DRBG_RESTART_DONE (R307): The repeated start-up test ends, and the DRBG is reinstantiated or, after four failures, stays down. -/
  | drbgRestartDone (pass : Bool)
  /-- DRBG_STARTUP_DONE (R306): At PD_DOME power-up the DRBG start-up test ends and the DRBG is instantiated. -/
  | drbgStartupDone (pass : Bool)
  /-- REMASK_DONE (R341): Re-masking of every slot after a wake from RETAIN ends, and the Dome serves key fetches. -/
  | remaskDone
  /-- LC_HALFWRAP (R377): LC bit 31 changes and TM_HALFWRAP is raised with LC bits [54:31]. -/
  | lcHalfwrap
  /-- SAMPLE_LOSS_EXPIRE (R382): A domain's loss limit expires in LOCKED, so that it enters HOLDOVER and TM_SAMPLE_LOST is raised. -/
  | sampleLossExpire (k : Fin 2)
  /-- SLEW_DONE (R384): The working clock's slew reaches its source and TM_SLEW_DONE is raised. -/
  | slewDone
  /-- CYC_SYNC_EDGE (R394): A counting CYC_SYNC edge is timed against the reference boundary and gives a pull. -/
  | cycSyncEdge (falling : Bool)
  /-- CYC_PULL_APPLY (R395): At the first boundary at least 4 µs after an edge or CLEAR, PULL changes and the boundaries move. -/
  | cycPullApply
  /-- CYC_SYNC_LOST (R395): Eight consecutive cycles without a counting edge set LOST and raise TM_CYC_SYNC_LOST. -/
  | cycSyncLost
  /-- CAL_CHANGEOVER (R399): At the changeover boundary the named calendar bank becomes active, or none does, and TM_CAL_SWITCHED is raised. -/
  | calChangeover (port : Fin 24)
  /-- TMU_SYNC_CLEAR (R395): Writing CLEAR = 1 requests that PULL return to 0 at the next boundary at least 4 µs later. -/
  | tmuSyncClear
  /-- SPL_PORT_ENABLE (R406): Writing SPL_Pp_CTRL ENABLE = 1 starts training of the port from DETECT. -/
  | splPortEnable (p : Fin 3)
  /-- SPL_PORT_DISABLE (R410): Writing SPL_Pp_CTRL ENABLE = 0 takes the port DOWN. -/
  | splPortDisable (p : Fin 3)
  /-- SPL_RETRAIN_REQUEST (R409): Writing SPL_Pp_CTRL RETRAIN = 1 makes an ACTIVE port retrain. -/
  | splRetrainRequest (p : Fin 3)
  /-- RECEIVER_DETECT_DONE (R516): The SerDes reports the end of receiver detection on a lane. -/
  | receiverDetectDone (p : Fin 3) (lane : Fin 4) (present : Bool)
  /-- TRAINING_SET_RECEIVE (R405): A received TS1 or TS2 advances the port's training steps, up to ACTIVE, or requests a retrain. -/
  | trainingSetReceive (p : Fin 3) (words : List Word)
  /-- SPL_RATE_ACK (R516): spl_rate_ack_i confirms that the port's PLL runs at the requested rate. -/
  | splRateAck (p : Fin 3)
  /-- TRAINING_TIMEOUT (R406): A training step that has not ended after 2 ms, or Gen2 not reached in 1 ms, returns the port to DETECT or Gen1. -/
  | trainingTimeout (p : Fin 3)
  /-- LANE_LOCK_CHANGE (R409): A loss of CDR lock on some lanes retrains an ACTIVE port, and a loss on all lanes starts the 1 µs down timer. -/
  | laneLockChange (p : Fin 3) (locked : BitVec 4)
  /-- LOCK_LOSS_TIMEOUT (R410): Lock lost on every lane for 1 µs takes the port DOWN. -/
  | lockLossTimeout (p : Fin 3)
  /-- RETRAIN_TIMEOUT (R410): A retrain that has not reached ACTIVE within 3 ms takes the port DOWN. -/
  | retrainTimeout (p : Fin 3)
  /-- GEN2_FRAMING_ERROR (R409): A Gen2 framing error makes the port retrain. -/
  | gen2FramingError (p : Fin 3)
  /-- SPL_PACKET_SEND (R418): The port transmits the next packet, chosen by VC priority and XOFF, and keeps it in the replay buffer. -/
  | splPacketSend (p : Fin 3)
  /-- REPLAY_TIMEOUT (R415): The replay timer expires and every unacknowledged packet is resent. -/
  | replayTimeout (p : Fin 3)
  /-- ACK_TIMER (R416): After 200 ns without sending, a receiver with unacknowledged accepted packets sends an ACK packet. -/
  | ackTimer (p : Fin 3)
  /-- ACK (R414): A received ACK packet acknowledges packets up to its ACK value and updates the peer XOFF bits. -/
  | ack (p : Fin 3) (words : List Word)
  /-- SPL_FORWARD (R422): A packet for another node is forwarded on its outgoing port, or is answered as unroutable. -/
  | splForward (p : Fin 3) (words : List Word)
  /-- RD_REQ (R426): A received RD_REQ is executed against the node's register window and answered with a CPL. -/
  | rdReq (p : Fin 3) (words : List Word)
  /-- WR (R426): A received WR is performed on the register window, or answered with an ERR_NOTICE. -/
  | wr (p : Fin 3) (words : List Word)
  /-- LOCK_REQ (R430): A received LOCK_REQ runs the far operations under the held bus, or is refused with RETRY LOCK. -/
  | lockReq (p : Fin 3) (words : List Word)
  /-- BCAST (R443): A received BCAST is forwarded down the tree, applied locally and gathered. -/
  | bcast (p : Fin 3) (words : List Word)
  /-- CPL (R425): A received CPL completes its outstanding request when its tag and epoch match, or is discarded as stale. -/
  | cpl (p : Fin 3) (words : List Word)
  /-- ERR_NOTICE (R427): A received ERR_NOTICE writes a posted-error log entry and raises SP_POSTED_ERR. -/
  | errNotice (p : Fin 3) (words : List Word)
  /-- EVENT_PACKET (R440): A received EVENT packet raises SP_REMOTE_EVENT. -/
  | eventPacket (p : Fin 3) (words : List Word)
  /-- LEASE_RECORD_RECEIVE (R277): A partner receives a lease record, and writes and accepts it or refuses it. -/
  | leaseRecordReceive (p : Fin 3) (words : List Word)
  /-- PARTNER_LEASE_CONFIRM (R277): A lease confirmation arrives from the partner, so that a waiting record or mirrored install proceeds or fails. -/
  | partnerLeaseConfirm (p : Fin 3) (words : List Word)
  /-- OPEN (R437): A far Dome checks a key-transfer OPEN and answers with a NONCE. -/
  | openPkt (p : Fin 3) (words : List Word)
  /-- NONCE (R436): The near Dome receives a NONCE and sends the wrapped BLOB. -/
  | nonce (p : Fin 3) (words : List Word)
  /-- BLOB (R437): A far Dome rechecks and unwraps a BLOB into the target slot and answers DONE. -/
  | blob (p : Fin 3) (words : List Word)
  /-- DONE (R437): The near node receives DONE and completes SPL_KEY_SEND. -/
  | done (p : Fin 3) (words : List Word)
  /-- TIME_REQ_TIMER (R438): Every sample interval, a domain sourced from a Spire port sends a TIME REQ. -/
  | timeReqTimer (k : Fin 2)
  /-- TIME_REQ (R438): The partner receives a TIME REQ and answers with a RESP carrying T2 and T3. -/
  | timeReq (p : Fin 3) (words : List Word)
  /-- TIME_RESP (R438): A TIME RESP gives the requester an offset sample, which the servo applies. -/
  | timeResp (p : Fin 3) (words : List Word)
  /-- TEST (R442): A received TEST packet is checked against the sequence and counted. -/
  | test (p : Fin 3) (words : List Word)
  /-- REQUEST_TIMEOUT (R432): A non-posted request with no CPL after SPL_TIMEOUT completes with TIMEOUT. -/
  | requestTimeout (tag : Nat)
  /-- LOCK_TIMEOUT (R429): A locked sequence's near hold expires after LOCK_TO, completing with TIMEOUT and releasing the bus. -/
  | lockTimeout
  /-- GATHER_TIMEOUT (R443): A broadcast's gather wait expires and the node sends its CPL without the missing subtrees. -/
  | gatherTimeout (tag : Nat)
  /-- SPL_NODE_LOCK (R420): Writing SPL_NODE LOCK = 1 locks NODE, TREE and ROOT. -/
  | splNodeLock
  /-- SPL_ACCESS_LOCK (R426): Writing SPL_ACCESS LOCK = 1 locks UNITS and BCAST_EN. -/
  | splAccessLock
  /-- SPL_KT_CTRL_LOCK (R447): Writing SPL_KT_CTRL LOCK = 1 locks the key-transport control register. -/
  | splKtCtrlLock
  /-- DOM_RPMB_ADDR_LOCK (R349): Writing DOM_RPMB_ADDR LOCK = 1 locks the RPMB record address and enables the RPMB commands. -/
  | domRpmbAddrLock
  /-- TMP_CTRL_LOCK (R455): Writing TMP_CTRL LOCK = 1 locks the tamper settings until a power-up of PD_AON. -/
  | tmpCtrlLock
  /-- LOOP_WINDOW_END (R451): At the end of a 16-tick window, each enabled loop's window is classified and the loop enters or leaves fault after debounce. -/
  | loopWindowEnd (held level : Vector (BitVec 16) 4)
  /-- SHIELD_EVALUATE (R453): Every 4 ticks the active shield's latest 16 samples are classified, and a fault is a detection. -/
  | shieldEvaluate (held level : BitVec 16)
  /-- CLOCK_GLITCH (R453): A CK_DOME glitch or frequency error is detected. -/
  | clockGlitch (freq : Bool)
  /-- TEMPERATURE_SAMPLE (R453): A temperature sample is taken and compared with the limits after debounce. -/
  | temperatureSample (code : Byte)
  /-- TAMPER_RESPONSE (R456): A TL1 or TL2 response reaches every unit in one alarm clock, erasing working keys and ending affected work with ALARM. -/
  | tamperResponse
  /-- TAMPER_ERASE_DONE (R457): Slot cells and the scrambling key are overwritten and TP_ERASED is raised. -/
  | tamperEraseDone
  /-- EVENT_RING_WRITE (R531): A queued event entry is written to its event ring, or is lost to a full ring, and an HR_EVR_OVERFLOW entry is written when space returns. -/
  | eventRingWrite (m : Fin 8)
  /-- LOG_WRITE (R466): One queued event is written to the AON log, and LG_THRESH is raised when LOG_UNREAD reaches THRESH. -/
  | logWrite
  /-- EVT_RING_ENABLE (R78): Writing EVT_RINGm_CTRL ENABLE checks base and size and enables or disables the event ring. -/
  | evtRingEnable (m : Fin 8) (v : Word)
  /-- EVT_RING_HEAD (R80): Writing EVT_RINGm_HEAD returns event-ring entries and lets pending overflow reporting resume. -/
  | evtRingHead (m : Fin 8) (v : Word)
  /-- EVT_PEND_CLEAR (R533): A W1C write to EVT_PENDb clears pending bits and the interrupt lines follow. -/
  | evtPendClear (b : Fin 6) (v : Word)
  /-- EVT_FORCE (R535): A write to EVT_FORCEb raises the named sources while debug is open. -/
  | evtForce (b : Fin 6) (v : Word)
  /-- LOG_CTRL_ACK (R472): Writing LOG_CTRL ACK = 1 sets LOG_UNREAD to 0 and rearms LG_THRESH. -/
  | logCtrlAck
  /-- LOG_RD_IDX (R470): Writing LOG_RD_IDX latches the four words of that log entry. -/
  | logRdIdx (v : Word)
  /-- READ_CLEAR (R9): A read of an RC field returns its value and clears it, keeping any set in the same clock. -/
  | readClear (rd : RegRead)
  /-- LATCHING_LO_READ (R402): A read of TMU_LC_LO, LOG_TICK_LO or an STC _LO register latches its upper part, so that the parts read as one value. -/
  | latchingLoRead (rd : RegRead)
  /-- VCH_WAKE (R521): The synchronised VCH_WAKE level rising in IDLE, RETAIN or OFF is a wake request. -/
  | vchWake (level : Bool)
  /-- PWR_REQ_RUN (R478): Writing PWR_REQ TARGET = RUN is a wake request, which starts the exit from IDLE, the wake from RETAIN or the cold start. -/
  | pwrReqRun
  /-- PWR_REQ_IDLE (R481): Writing PWR_REQ TARGET = IDLE gates the fast clocks when the IDLE conditions hold, or is refused. -/
  | pwrReqIdle
  /-- PWR_REQ_RETAIN (R483): Writing PWR_REQ TARGET = RETAIN starts the entry to RETAIN with its checks and ring stop. -/
  | pwrReqRetain
  /-- PWR_REQ_OFF (R483): Writing PWR_REQ TARGET = OFF starts the entry to OFF, or from RETAIN opens the island. -/
  | pwrReqOff
  /-- PWR_DOMAIN_WRITE (R479): A write to PWR_DOMAIN switches domains in RUN in the fixed order, records them in RETAIN or OFF, or is refused. -/
  | pwrDomainWrite (v : Word)
  /-- DOMAIN_DRAIN_DONE (R31): Work inside a domain to be switched off has finished or ended, so its switch may open. -/
  | domainDrainDone
  /-- ENTRY_DRAIN_DONE (R483): After rings stop and the pipelines drain, the retention counter increments, the context image is written and the domains switch off. -/
  | entryDrainDone
  /-- PWR_SW_ACK (R500): A power-switch acknowledge releases the domain from reset and isolation, and the domain's start actions run. -/
  | pwrSwAck (d : Fin 8)
  /-- PWR_SWITCH_STAGGER (R500): The stagger interval ends and the next domain switch closes or opens. -/
  | pwrSwitchStagger
  /-- PWR_ACK_TIMEOUT (R501): A switchable domain's ack missing 100 µs after close opens the switch again and raises PW_REFUSED cause 3. -/
  | pwrAckTimeout (d : Fin 8)
  /-- CLOCK_OK (R497): A change of ck_ok_i reports a clock stable or going away. -/
  | clockOk (bits : BitVec 5)
  /-- IDLE_EXIT (R482): The fast clocks run again after an IDLE exit trigger, and the block is back in RUN. -/
  | idleExit
  /-- PWR_CTX_RESTORE (R488): Writing PWR_CTX_CTRL RESTORE = 1 requests a restore of the context image. -/
  | pwrCtxRestore
  /-- PWR_CTX_DISCARD (R488): Writing PWR_CTX_CTRL DISCARD = 1 clears VALID. -/
  | pwrCtxDiscard
  /-- CONTEXT_RESTORE_START (R488): Once PD_PIPE is on, re-masking is done and a tower has passed its test, the requested restore starts, with its ordered checks. -/
  | contextRestoreStart
  /-- CONTEXT_RESTORE_DONE (R488): The restore loads the pipeline state, records new leases, raises PW_RESTORED and lets the Port Adapters act. -/
  | contextRestoreDone
  /-- BLOCK_RESET (R498): vch_rst_n_i resets the block, ending every posted descriptor without completion and leaving the block in OFF. -/
  | blockReset
  /-- AON_POWER_UP (R498): vch_aon_rst_n_i returns everything, including PD_AON state, to reset values and logs TP_AON_POWERUP. -/
  | aonPowerUp
  /-- SHADOW_BUILD_DONE (R200): The shadow SLT build started by SLT_SEED ends, and the shadow leaves BUILDING for READY or FAILED with SLT_SEED completing. -/
  | shadowBuildDone (k : Fin 4)
  /-- PACKET_DISCARD (R414): A received Spire packet with a bad CRC, an unexpected SEQ, no receive-buffer room or a bad TYPE is discarded and counted, a duplicate triggers an acknowledgement, and eight CRC failures within 100 µs make the port retrain. -/
  | packetDiscard (p : Fin 3) (words : List Word)
  /-- GEN1_FRAMING_RESYNC (R404): A Gen1 receiver that has lost framing regains it at the next K27.7 packet start and resumes taking packets. -/
  | gen1FramingResync (p : Fin 3)
  /-- CLOCK_FAULT_CLEAR (R453): One microsecond after the last CK_DOME glitch or frequency error, TMP_STATUS CLOCK clears and TP_SENSOR_OK is raised for source code 5. -/
  | clockFaultClear
  /-- IDLE_RANGE_ACCESS (R482): A register read or write of any width to the PA, PPL, TWR or STC ranges in IDLE starts the exit to RUN and stalls until the clocks run. -/
  | idleRangeAccess (off : BitVec 17)
deriving DecidableEq, Repr

end Sys2Proof
end

