-- ==== Sys2Proof/Machine/Tab.lean ====
section
/-! DEFINITION. Sys2Proof/Machine/Tab.lean: reading and writing the sparse tables that hold everything the block
keeps by number (rings, associations, slots, registers, host memory bytes). A table lists no entry equal to its
default and lists its keys rising, so equal tables are equal data (`tabWf`; Laws/Tab.lean proves it is kept). -/

namespace Sys2Proof.Machine

/-- The entry at key `k`, the default `d` where none is listed. -/
def tabGet {α : Type} (d : α) : Tab α → Nat → α
  | [], _ => d
  | (j, v) :: r, k => if j = k then v else tabGet d r k

/-- The table without key `k`. -/
def tabDel {α : Type} : Tab α → Nat → Tab α
  | [], _ => []
  | (j, v) :: r, k => if j = k then tabDel r k else (j, v) :: tabDel r k

/-- The table with `v` listed at key `k`, in key order. -/
def tabIns {α : Type} : Tab α → Nat → α → Tab α
  | [], k, v => [(k, v)]
  | (j, w) :: r, k, v =>
    if j = k then (k, v) :: r else if k < j then (k, v) :: (j, w) :: r else (j, w) :: tabIns r k v

/-- Writing key `k`: the default removes the entry, so the table stays canonical. -/
def tabPut {α : Type} [DecidableEq α] (d : α) (t : Tab α) (k : Nat) (v : α) : Tab α :=
  if v = d then tabDel t k else tabIns t k v

/-- Every listed key is above `b` and the keys rise. -/
def tabRising {α : Type} : Nat → Tab α → Bool
  | _, [] => true
  | b, (j, _) :: r => b ≤ j && tabRising (j + 1) r

/-- The canonical form: keys rising, no entry equal to the default. -/
def tabWf {α : Type} [DecidableEq α] (d : α) (t : Tab α) : Bool :=
  tabRising 0 t && t.all fun p => p.2 != d

/-- The listed keys. -/
def tabKeys {α : Type} (t : Tab α) : List Nat := t.map Prod.fst

/-- The table with every listed value changed by `f` (an entry that becomes the default is dropped). -/
def tabMap {α : Type} [DecidableEq α] (d : α) (f : Nat → α → α) (t : Tab α) : Tab α :=
  (t.map fun p => (p.1, f p.1 p.2)).filter fun p => p.2 != d

/-- The table without the keys that `p` names. -/
def tabDrop {α : Type} (p : Nat → Bool) (t : Tab α) : Tab α := t.filter fun e => !p e.1

end Sys2Proof.Machine
end

