-- ==== Sys2Proof/Machine/Bits.lean ====
section
/-! DEFINITION. Sys2Proof/Machine/Bits.lean: bit fields, byte order and packing (R1, R3, R5, R6), counters that
wrap or saturate, and the small list operations the units share. -/

namespace Sys2Proof.Machine

/-- Bits `[lo+len-1 : lo]` of a number. -/
def bitsN (v lo len : Nat) : Nat := (v >>> lo) % 2 ^ len

/-- Bit `i` of a number. -/
def bitN (v i : Nat) : Bool := v.testBit i

/-- A Boolean as 0 or 1. -/
def b2n (b : Bool) : Nat := if b then 1 else 0

/-- `v` with bits `[lo+len-1 : lo]` replaced by the low bits of `x`. -/
def setBitsN (v lo len x : Nat) : Nat :=
  v - (bitsN v lo len) * 2 ^ lo + (x % 2 ^ len) * 2 ^ lo

/-- Bits `[lo+len-1 : lo]` of a word. -/
def fld (w : Word) (lo len : Nat) : Nat := bitsN w.toNat lo len

/-- Bit `i` of a word. -/
def flag (w : Word) (i : Nat) : Bool := w.toNat.testBit i

/-- A word from a number, its upper bits dropped. -/
def mkW (n : Nat) : Word := BitVec.ofNat 24 n

/-- Low word of a wider number (R5). -/
def wLo (n : Nat) : Word := mkW n

/-- Second word of a wider number (R5). -/
def wHi (n : Nat) : Word := mkW (n / 2 ^ 24)

/-- A 48-bit value from its two words, low first (R5). -/
def join48 (lo hi : Word) : Nat := lo.toNat + hi.toNat * 2 ^ 24

/-- A number as `n` words, low word first. -/
def toWords : Nat → Nat → List Word
  | 0, _ => []
  | n + 1, v => mkW v :: toWords n (v / 2 ^ 24)

/-- A number from its words, low word first. -/
def ofWords : List Word → Nat
  | [] => 0
  | w :: r => w.toNat + ofWords r * 2 ^ 24

/-- A byte from a number. -/
def mkB (n : Nat) : Byte := BitVec.ofNat 8 n

/-- A number as `n` bytes, least significant byte first. -/
def toBytesLE : Nat → Nat → List Byte
  | 0, _ => []
  | n + 1, v => mkB v :: toBytesLE n (v / 256)

/-- A number from its bytes, least significant byte first. -/
def ofBytesLE : List Byte → Nat
  | [] => 0
  | b :: r => b.toNat + ofBytesLE r * 256

/-- A number as `n` bytes, most significant byte first (network order). -/
def toBytesBE (n v : Nat) : List Byte := (toBytesLE n v).reverse

/-- A number from its bytes, most significant byte first. -/
def ofBytesBE (l : List Byte) : Nat := ofBytesLE l.reverse

/-- The three bytes of a word in host memory (R3). -/
def wordBytes (w : Word) : List Byte := toBytesLE 3 w.toNat

/-- Words packed into bytes without padding (R3). -/
def wordsBytes (l : List Word) : List Byte := l.flatMap wordBytes

/-- Bytes read as words (R3); a missing byte reads as zero. -/
def bytesWords : Nat → List Byte → List Word
  | 0, _ => []
  | n + 1, l => mkW (ofBytesLE (l.take 3)) :: bytesWords n (l.drop 3)

/-- Word `k` of a list of words, zero beyond its end. -/
def wAt (l : List Word) (k : Nat) : Word := l.getD k 0

/-- The sum of two numbers, stopping at `2^w - 1` (a saturating counter). -/
def satAdd (w a b : Nat) : Nat := min (a + b) (2 ^ w - 1)

/-- XOR of two byte strings, to the length of the shorter. -/
def xorBytes (a b : List Byte) : List Byte := List.zipWith (fun x y => x ^^^ y) a b

/-- `n` zero bytes. -/
def zeroBytes (n : Nat) : List Byte := List.replicate n 0

/-- A list padded with zero bytes, or cut, to length `n`. -/
def fitBytes (n : Nat) (l : List Byte) : List Byte := (l ++ zeroBytes (n - l.length)).take n

/-- The ceiling of `a / b`. -/
def ceilDiv (a b : Nat) : Nat := (a + b - 1) / b

/-- The first element that `p` holds of, with its place. -/
def findIdxFrom {α : Type} (p : α → Bool) : Nat → List α → Option (Nat × α)
  | _, [] => none
  | i, x :: r => if p x then some (i, x) else findIdxFrom p (i + 1) r

/-- The list with element `i` changed by `f`. -/
def modAt {α : Type} (f : α → α) : Nat → List α → List α
  | _, [] => []
  | 0, x :: r => f x :: r
  | i + 1, x :: r => x :: modAt f i r

/-- A two's complement number of `w` bits. -/
def sgn (w n : Nat) : Int := if n % 2 ^ w < 2 ^ (w - 1) then (n % 2 ^ w : Int) else (n % 2 ^ w : Int) - 2 ^ w

/-- An integer as a two's complement number of `w` bits. -/
def unsgn (w : Nat) (i : Int) : Nat := (i % (2 ^ w : Int)).toNat

/-- An integer held between two bounds. -/
def clampI (lo hi i : Int) : Int := max lo (min hi i)

/-- `n` bytes from offset `i`. -/
def slice (l : List Byte) (i n : Nat) : List Byte := (l.drop i).take n

end Sys2Proof.Machine
end

