-- ==== Sys2Proof/Machine/Aes.lean ====
section
/-! DEFINITION. Sys2Proof/Machine/Aes.lean: the AES modes that the spec names without restating them, from the standards it
names: the block cipher (FIPS 197), GCM with a 12-byte IV (SP 800-38D; R96, R367), CMAC (SP 800-38B; R294), XTS with
ciphertext stealing (IEEE 1619; R352, R368), key wrap (RFC 3394, RFC 5649; R300) and the KDF of IEEE 802.1X-2020 (R303).
PRESUMED throughout: the arithmetic is the published standards', not the spec's own text (assumption log 6). Blocks are
numbers, most significant byte first; a byte of a block is a number below 256. -/

namespace Sys2Proof.Machine

/-! ### The block cipher (FIPS 197) -/

/-- The S-box, entry `x` in byte `x` from the least significant. -/
def aesSbox : Nat :=
  0x16bb54b00f2d99416842e6bf0d89a18cdf2855cee9871e9b948ed9691198f8e19e1dc186b95735610ef6034866b53e708a8bbd4b1f74dde8c6b4a61c2e2578ba08ae7a65eaf4566ca94ed58d6d37c8e779e4959162acd3c25c2406490a3a32e0db0b5ede14b8ee4688902a22dc4f816073195d643d7ea7c41744975fec130ccdd2f3ff1021dab6bcf5389d928f40a351a89f3c507f02f94585334d43fbaaefd0cf584c4a39becb6a5bb1fc20ed00d153842fe329b3d63b52a05a6e1b1a2c830975b227ebe28012079a059618c323c7041531d871f1e5a534ccf73f362693fdb7c072a49cafa2d4adf04759fa7dc982ca76abd7fe2b670130c56f6bf27b777c63

/-- The inverse S-box, in the same form. -/
def aesInvSbox : Nat :=
  0x7d0c2155631469e126d677ba7e042b17619953833cbbebc8b0f52aae4d3be0a0ef9cc9939f7ae52d0d4ab519a97f51605fec8027591012b131c7078833a8dd1ff45acd78fec0db9a2079d2c64b3e56fc1bbe18aa0e62b76f89c5291d711af1476edf751ce837f9e28535ade72274ac9673e6b4f0cecff297eadc674f4111913a6b8a130103bdafc1020f3fca8f1e2cd00645b3b80558e4f70ad3bc8c00abd890849d8da75746155edab9edfd5048706c92b6655dcc5ca4d41698688664f6f87225d18b6d49a25b76b224d92866a12e084ec3fa420b954cee3d23c2a632947b54cbe9dec444438e3487ff2f9b8239e37cfbd7f3819ea340bf38a53630d56a0952

/-- SubBytes of one byte. -/
def aesSub (x : Nat) : Nat := (aesSbox >>> (8 * x)) % 256

/-- InvSubBytes of one byte. -/
def aesInvSub (x : Nat) : Nat := (aesInvSbox >>> (8 * x)) % 256

/-- Multiplication by x in GF(2^8). -/
def gfX (x : Nat) : Nat := (2 * x) ^^^ (x / 128 * 0x11B)

/-- The product of a byte by a constant below 16 in GF(2^8). -/
def gfMul (c x : Nat) : Nat :=
  (c % 2 * x) ^^^ (c / 2 % 2 * gfX x) ^^^ (c / 4 % 2 * gfX (gfX x)) ^^^ (c / 8 * gfX (gfX (gfX x)))

/-- Byte `i` of a block of 16, the first byte the most significant. -/
def blkByte (b i : Nat) : Nat := (b >>> (120 - 8 * i)) % 256

/-- A number from its bytes, the first the most significant. -/
def packBE (l : List Nat) : Nat := l.foldl (fun a x => a * 256 + x) 0

/-- The four bytes of a word, each through the S-box. -/
def subWord (w : Nat) : Nat :=
  packBE [aesSub (w >>> 24 % 256), aesSub ((w >>> 16) % 256), aesSub ((w >>> 8) % 256), aesSub (w % 256)]

/-- A word rotated by one byte. -/
def rotWord (w : Nat) : Nat := (w * 256) % 2 ^ 32 + w / 2 ^ 24

/-- The key schedule: `n` more words after those of `acc` (latest first), word number `i`, the round constant. -/
def expandFrom (nk : Nat) : Nat → Nat → Nat → List Nat → List Nat
  | 0, _, _, acc => acc.reverse
  | n + 1, i, rc, acc =>
    let t := acc.headD 0
    let p := acc.getD (nk - 1) 0
    if i % nk = 0 then expandFrom nk n (i + 1) (gfX rc) ((p ^^^ subWord (rotWord t) ^^^ (rc * 2 ^ 24)) :: acc)
    else if 6 < nk ∧ i % nk = 4 then expandFrom nk n (i + 1) rc ((p ^^^ subWord t) :: acc)
    else expandFrom nk n (i + 1) rc ((p ^^^ t) :: acc)

/-- The words of a byte string of `4 * n` bytes. -/
def words32 : Nat → List Byte → List Nat
  | 0, _ => []
  | n + 1, l => ofBytesBE (l.take 4) :: words32 n (l.drop 4)

/-- Four words a round key. -/
def roundKeys : List Nat → List Nat
  | a :: b :: c :: d :: r => (((a * 2 ^ 32 + b) * 2 ^ 32 + c) * 2 ^ 32 + d) :: roundKeys r
  | _ => []

/-- The round keys of a key of 16 or 32 bytes, as blocks. -/
@[irreducible] def aesKeys (key : List Byte) : List Nat :=
  let nk := key.length / 4
  roundKeys (expandFrom nk (3 * nk + 28) nk 1 (words32 nk key).reverse)

/-- SubBytes and ShiftRows: byte `4c + r` of the result is the S-box of byte `4(c + r) + r`. -/
def subShift (b : Nat) : List Nat :=
  [0, 5, 10, 15, 4, 9, 14, 3, 8, 13, 2, 7, 12, 1, 6, 11].map fun i => aesSub (blkByte b i)

/-- InvShiftRows and InvSubBytes. -/
def invSubShift (b : Nat) : List Nat :=
  [0, 13, 10, 7, 4, 1, 14, 11, 8, 5, 2, 15, 12, 9, 6, 3].map fun i => aesInvSub (blkByte b i)

/-- MixColumns, the coefficients of its first row given: 2 3 1 1, or 14 11 13 9 for its inverse. -/
def mixCols (a b c d : Nat) : List Nat → List Nat
  | x :: y :: z :: w :: r =>
    (gfMul a x ^^^ gfMul b y ^^^ gfMul c z ^^^ gfMul d w) :: (gfMul d x ^^^ gfMul a y ^^^ gfMul b z ^^^ gfMul c w)
      :: (gfMul c x ^^^ gfMul d y ^^^ gfMul a z ^^^ gfMul b w) :: (gfMul b x ^^^ gfMul c y ^^^ gfMul d z ^^^ gfMul a w)
      :: mixCols a b c d r
  | _ => []

/-- The rounds of the cipher after the first key addition. -/
def aesRounds : List Nat → Nat → Nat
  | [], b => b
  | [k], b => packBE (subShift b) ^^^ k
  | k :: r, b => aesRounds r (packBE (mixCols 2 3 1 1 (subShift b)) ^^^ k)

/-- AES of one block under expanded keys. -/
@[irreducible] def aesEnc (ks : List Nat) (b : Nat) : Nat := aesRounds ks.tail (b ^^^ ks.headD 0)

/-- The rounds of the inverse cipher, over the round keys from the last but one to the first. -/
def aesInvRounds : List Nat → Nat → Nat
  | [], b => b
  | [k], b => packBE (invSubShift b) ^^^ k
  | k :: r, b =>
    let t := packBE (invSubShift b) ^^^ k
    aesInvRounds r (packBE (mixCols 14 11 13 9 ((List.range 16).map (blkByte t))))

/-- The inverse cipher of one block under expanded keys. -/
@[irreducible] def aesDec (ks : List Nat) (b : Nat) : Nat := aesInvRounds ks.reverse.tail (b ^^^ ks.getLastD 0)

/-- A block from its 16 bytes, missing bytes zero. -/
def blkOf (l : List Byte) : Nat := ofBytesBE (fitBytes 16 l)

/-- A byte string as blocks, the last padded with zeros. -/
def blocksOf (l : List Byte) : List Nat := (List.range (ceilDiv l.length 16)).map fun i => blkOf (l.drop (16 * i))

/-! ### GCM (SP 800-38D) -/

/-- Multiplication in GF(2^128) of GCM, bit by bit from the most significant. -/
def ghashMulFrom : Nat → Nat → Nat → Nat → Nat
  | 0, _, _, z => z
  | n + 1, x, v, z =>
    ghashMulFrom n x (v / 2 ^^^ (v % 2 * (0xE1 * 2 ^ 120))) (z ^^^ (x >>> n % 2 * v))

/-- The product of two blocks. -/
def ghashMul (x y : Nat) : Nat := ghashMulFrom 128 x y 0

/-- GHASH of blocks under a hash key. -/
@[irreducible] def ghash (h : Nat) : List Nat → Nat → Nat
  | [], y => y
  | x :: r, y => ghash h r (ghashMul (y ^^^ x) h)

/-- The counter block number `i` of a 12-byte IV; J0 is number 1 (R367). -/
def gcmCtr (iv : List Byte) (i : Nat) : Nat := ofBytesBE (fitBytes 12 iv) * 2 ^ 32 + i % 2 ^ 32

/-- The keystream of `n` blocks from counter 2 on. -/
def gcmStream (ks : List Nat) (iv : List Byte) (n : Nat) : List Byte :=
  (List.range n).flatMap fun i => toBytesBE 16 (aesEnc ks (gcmCtr iv (i + 2)))

/-- GCM encryption or decryption of data: XOR with the keystream (R96, R367). -/
def gcmCrypt (key iv data : List Byte) : List Byte :=
  xorBytes data (gcmStream (aesKeys key) iv (ceilDiv data.length 16))

/-- The 16-byte GCM tag of additional data and ciphertext (R96, R367). -/
@[irreducible] def gcmTag (key iv aad ct : List Byte) : List Byte :=
  let ks := aesKeys key
  let y := ghash (aesEnc ks 0) (blocksOf aad ++ blocksOf ct ++ [8 * aad.length * 2 ^ 64 + 8 * ct.length]) 0
  toBytesBE 16 (y ^^^ aesEnc ks (gcmCtr iv 1))

/-! ### CMAC (SP 800-38B) and the KDF of IEEE 802.1X-2020 -/

/-- Doubling of a block in CMAC's field. -/
def cmacDbl (x : Nat) : Nat := (2 * x) % 2 ^ 128 ^^^ (x / 2 ^ 127 * 0x87)

/-- The chain over the blocks but the last, then the last with its subkey. -/
def cmacChain (ks : List Nat) (k1 k2 : Nat) : Nat → List Byte → Nat → Nat
  | 0, l, c =>
    aesEnc ks (c ^^^ (if l.length = 16 then blkOf l ^^^ k1 else blkOf (l ++ [0x80]) ^^^ k2))
  | n + 1, l, c => cmacChain ks k1 k2 n (l.drop 16) (aesEnc ks (c ^^^ blkOf (l.take 16)))

/-- AES-CMAC of a message; 16 bytes. -/
@[irreducible] def cmac (key msg : List Byte) : List Byte :=
  let ks := aesKeys key
  let k1 := cmacDbl (aesEnc ks 0)
  toBytesBE 16 (cmacChain ks k1 (cmacDbl k1) (ceilDiv msg.length 16 - 1) msg 0)

/-- The KEK or, with `ick`, the ICK of a CAK: the counter-mode KDF with AES-CMAC, the label "IEEE8021 KEK" or
"IEEE8021 ICK", the Keyid as context, `len` bytes (R303). -/
@[irreducible] def mkaKdf (ick : Bool) (cak keyid : List Byte) (len : Nat) : List Byte :=
  (List.range (ceilDiv len 16)).flatMap fun i =>
    cmac cak ([mkB (i + 1), 0x49, 0x45, 0x45, 0x45, 0x38, 0x30, 0x32, 0x31, 0x20]
      ++ (if ick then [0x49, 0x43, 0x4B] else [0x4B, 0x45, 0x4B]) ++ [0x00] ++ keyid ++ toBytesBE 2 (8 * len))

/-! ### XTS (IEEE 1619) -/

/-- The tweak of the next block: multiplication by alpha of the block read least significant byte first. -/
def xtsNext (t : Nat) : Nat := (2 * t) % 2 ^ 128 ^^^ (t / 2 ^ 127 * 0x87)

/-- The tweak as a block in byte order, from the number read least significant byte first. -/
def revBlk (t : Nat) : Nat := ofBytesLE (toBytesBE 16 t)

/-- One block of XTS under the tweak `t` (a number read least significant byte first). -/
def xtsBlk (enc : Bool) (ks : List Nat) (t : Nat) (l : List Byte) : List Byte :=
  let w := revBlk t
  toBytesBE 16 ((if enc then aesEnc ks (blkOf l ^^^ w) else aesDec ks (blkOf l ^^^ w)) ^^^ w)

/-- The blocks of a data unit; the last whole block and a partial one by ciphertext stealing. -/
def xtsFrom (enc : Bool) (ks : List Nat) : Nat → Nat → List Byte → List Byte
  | 0, _, _ => []
  | n + 1, t, l =>
    if l.length ≤ 16 then (if l.length = 16 then xtsBlk enc ks t l else l)
    else if l.length < 32 then
      let c := xtsBlk enc ks (if enc then t else xtsNext t) (l.take 16)
      let tail := l.drop 16
      xtsBlk enc ks (if enc then xtsNext t else t) (tail ++ c.drop tail.length) ++ c.take tail.length
    else xtsBlk enc ks t (l.take 16) ++ xtsFrom enc ks n (xtsNext t) (l.drop 16)

/-- XTS-AES of one data unit: encrypt or decrypt, data key, tweak key, data unit number, data (R352, R368). -/
@[irreducible] def xts (enc : Bool) (dk tk : List Byte) (dun : Nat) (data : List Byte) : List Byte :=
  xtsFrom enc (aesKeys dk) (ceilDiv data.length 16) (revBlk (aesEnc (aesKeys tk) (ofBytesLE (toBytesBE 16 dun)))) data

/-! ### Key wrap (RFC 3394, RFC 5649) -/

/-- Semiblocks of eight bytes. -/
def semiblocks : Nat → List Byte → List Nat
  | 0, _ => []
  | n + 1, l => ofBytesBE (fitBytes 8 l) :: semiblocks n (l.drop 8)

/-- One pass of the wrapping over the semiblocks, `t` the step number before it. -/
def kwPass (ks : List Nat) : Nat → Nat → List Nat → Nat × List Nat
  | _, a, [] => (a, [])
  | t, a, r :: rs =>
    let b := aesEnc ks (a * 2 ^ 64 + r)
    let q := kwPass ks (t + 1) ((b / 2 ^ 64) ^^^ (t + 1)) rs
    (q.1, b % 2 ^ 64 :: q.2)

/-- The six passes, `j` of them left. -/
def kwPasses (ks : List Nat) : Nat → Nat → List Nat → Nat × List Nat
  | 0, a, rs => (a, rs)
  | j + 1, a, rs =>
    let q := kwPass ks ((5 - j) * rs.length) a rs
    kwPasses ks j q.1 q.2

/-- One pass backwards, over the semiblocks from the last, `t` the step number of the first of them. -/
def kwBack (ks : List Nat) : Nat → Nat → List Nat → Nat × List Nat
  | _, a, [] => (a, [])
  | t, a, r :: rs =>
    let b := aesDec ks ((a ^^^ t) * 2 ^ 64 + r)
    let q := kwBack ks (t - 1) (b / 2 ^ 64) rs
    (q.1, b % 2 ^ 64 :: q.2)

/-- The six passes backwards, `j` of them left, the semiblocks from the last. -/
def kwBacks (ks : List Nat) : Nat → Nat → List Nat → Nat × List Nat
  | 0, a, rs => (a, rs)
  | j + 1, a, rs =>
    let q := kwBack ks ((j + 1) * rs.length) a rs
    kwBacks ks j q.1 q.2

/-- The alternative initial value of RFC 5649 for a plaintext of `len` bytes. -/
def kwpIv (len : Nat) : Nat := 0xA65959A6 * 2 ^ 32 + len

/-- The default initial value of RFC 3394. -/
def kwIv : Nat := 0xA6A6A6A6A6A6A6A6

/-- AES-KW or, with `pad`, AES-KWP wrapping of a key of 16 or 32 bytes (R300, R302). -/
@[irreducible] def kwWrap (pad : Bool) (wk key : List Byte) : List Byte :=
  let q := kwPasses (aesKeys wk) 6 (if pad then kwpIv key.length else kwIv) (semiblocks (key.length / 8) key)
  toBytesBE 8 q.1 ++ q.2.flatMap (toBytesBE 8)

/-- AES-KW or AES-KWP unwrapping of a blob; none when the integrity check fails, for AES-KWP too when the length indicator is
not the length of the plaintext: a blob of 24 or 40 bytes then holds 16 or 32 bytes without padding (R300). -/
@[irreducible] def kwUnwrap (pad : Bool) (wk blob : List Byte) : Option (List Byte) :=
  let n := blob.length / 8 - 1
  let q := kwBacks (aesKeys wk) 6 (ofBytesBE (blob.take 8)) (semiblocks n (blob.drop 8)).reverse
  if q.1 = (if pad then kwpIv (8 * n) else kwIv) then some (q.2.reverse.flatMap (toBytesBE 8)) else none

end Sys2Proof.Machine
end

