-- ==== Sys2Proof/Config.lean ====
section
/-! DEFINITION. Sys2Proof/Config.lean: what the spec leaves to the part or to chance, as uninterpreted constants and
functions without a body: nothing can be proved of their values (assumption log 5). The published algorithms that the spec names
without restating are in Machine/Aes.lean, Sha.lean, Curve.lean and MlDsa.lean (assumption log 6). -/

namespace Sys2Proof.Config

/-- The byte that the DRBG gives at a draw (R306): the draw counter of the state numbers the draws (assumption log 5). -/
opaque drbgByte : Nat → Byte

/-- A number that the spec leaves open at a point where the block goes on (how many bytes of a write that host memory
answers with an error have reached it, R52): the draw counter of the state numbers the uses (assumption log 5). -/
opaque freeNat : Nat → Nat

/-- The roots in fuses of this part (R321): production and test (assumption log 6). -/
opaque prodRoot : List Byte
opaque testRoot : List Byte

end Sys2Proof.Config
end

