-- ==== Sys2Proof/Machine/Sha.lean ====
section
/-! DEFINITION. Sys2Proof/Machine/Sha.lean: the hash functions that the spec names without restating them: SHA-384 (FIPS 180-4;
R322, R342), HMAC-SHA-256 (RFC 2104; the RPMB frames of R331), HKDF-SHA-384 (RFC 5869; R327, R436) and SHAKE (FIPS 202, for
ML-DSA). PRESUMED throughout: the arithmetic is the published standards' (assumption log 6). Words are numbers. -/

namespace Sys2Proof.Machine

/-- What SHA-256 and SHA-384 differ in (FIPS 180-4): the word's bits, the bits of the length field, the constants, and the
rotations of the two large and the two small sigma functions (the last number of a small one is a shift). -/
structure ShaKind where
  w : Nat
  lenBytes : Nat
  k : List Nat
  big0 : Nat × Nat × Nat
  big1 : Nat × Nat × Nat
  small0 : Nat × Nat × Nat
  small1 : Nat × Nat × Nat
  deriving DecidableEq, Repr

/-- The round constants of SHA-256. -/
def shaK256 : List Nat :=
  [0x428A2F98, 0x71374491, 0xB5C0FBCF, 0xE9B5DBA5, 0x3956C25B,
   0x59F111F1, 0x923F82A4, 0xAB1C5ED5, 0xD807AA98, 0x12835B01,
   0x243185BE, 0x550C7DC3, 0x72BE5D74, 0x80DEB1FE, 0x9BDC06A7,
   0xC19BF174, 0xE49B69C1, 0xEFBE4786, 0x0FC19DC6, 0x240CA1CC] ++
  [0x2DE92C6F, 0x4A7484AA, 0x5CB0A9DC, 0x76F988DA, 0x983E5152,
   0xA831C66D, 0xB00327C8, 0xBF597FC7, 0xC6E00BF3, 0xD5A79147,
   0x06CA6351, 0x14292967, 0x27B70A85, 0x2E1B2138, 0x4D2C6DFC,
   0x53380D13, 0x650A7354, 0x766A0ABB, 0x81C2C92E, 0x92722C85] ++
  [0xA2BFE8A1, 0xA81A664B, 0xC24B8B70, 0xC76C51A3, 0xD192E819,
   0xD6990624, 0xF40E3585, 0x106AA070, 0x19A4C116, 0x1E376C08,
   0x2748774C, 0x34B0BCB5, 0x391C0CB3, 0x4ED8AA4A, 0x5B9CCA4F,
   0x682E6FF3, 0x748F82EE, 0x78A5636F, 0x84C87814, 0x8CC70208] ++
  [0x90BEFFFA, 0xA4506CEB, 0xBEF9A3F7, 0xC67178F2]

/-- The round constants of SHA-384. -/
def shaK512 : List Nat :=
  [0x428A2F98D728AE22, 0x7137449123EF65CD, 0xB5C0FBCFEC4D3B2F, 0xE9B5DBA58189DBBC,
   0x3956C25BF348B538, 0x59F111F1B605D019, 0x923F82A4AF194F9B, 0xAB1C5ED5DA6D8118,
   0xD807AA98A3030242, 0x12835B0145706FBE, 0x243185BE4EE4B28C, 0x550C7DC3D5FFB4E2,
   0x72BE5D74F27B896F, 0x80DEB1FE3B1696B1, 0x9BDC06A725C71235, 0xC19BF174CF692694,
   0xE49B69C19EF14AD2, 0xEFBE4786384F25E3, 0x0FC19DC68B8CD5B5, 0x240CA1CC77AC9C65] ++
  [0x2DE92C6F592B0275, 0x4A7484AA6EA6E483, 0x5CB0A9DCBD41FBD4, 0x76F988DA831153B5,
   0x983E5152EE66DFAB, 0xA831C66D2DB43210, 0xB00327C898FB213F, 0xBF597FC7BEEF0EE4,
   0xC6E00BF33DA88FC2, 0xD5A79147930AA725, 0x06CA6351E003826F, 0x142929670A0E6E70,
   0x27B70A8546D22FFC, 0x2E1B21385C26C926, 0x4D2C6DFC5AC42AED, 0x53380D139D95B3DF,
   0x650A73548BAF63DE, 0x766A0ABB3C77B2A8, 0x81C2C92E47EDAEE6, 0x92722C851482353B] ++
  [0xA2BFE8A14CF10364, 0xA81A664BBC423001, 0xC24B8B70D0F89791, 0xC76C51A30654BE30,
   0xD192E819D6EF5218, 0xD69906245565A910, 0xF40E35855771202A, 0x106AA07032BBD1B8,
   0x19A4C116B8D2D0C8, 0x1E376C085141AB53, 0x2748774CDF8EEB99, 0x34B0BCB5E19B48A8,
   0x391C0CB3C5C95A63, 0x4ED8AA4AE3418ACB, 0x5B9CCA4F7763E373, 0x682E6FF3D6B2B8A3,
   0x748F82EE5DEFB2FC, 0x78A5636F43172F60, 0x84C87814A1F0AB72, 0x8CC702081A6439EC] ++
  [0x90BEFFFA23631E28, 0xA4506CEBDE82BDE9, 0xBEF9A3F7B2C67915, 0xC67178F2E372532B,
   0xCA273ECEEA26619C, 0xD186B8C721C0C207, 0xEADA7DD6CDE0EB1E, 0xF57D4F7FEE6ED178,
   0x06F067AA72176FBA, 0x0A637DC5A2C898A6, 0x113F9804BEF90DAE, 0x1B710B35131C471B,
   0x28DB77F523047D84, 0x32CAAB7B40C72493, 0x3C9EBE0A15C9BEBC, 0x431D67C49C100D4C,
   0x4CC5D4BECB3E42B6, 0x597F299CFC657E2A, 0x5FCB6FAB3AD6FAEC, 0x6C44198C4A475817]

/-- The initial chaining value of SHA-256. -/
def shaH256 : List Nat :=
  [0x6A09E667, 0xBB67AE85, 0x3C6EF372, 0xA54FF53A,
   0x510E527F, 0x9B05688C, 0x1F83D9AB, 0x5BE0CD19]

/-- The initial chaining value of SHA-384. -/
def shaH384 : List Nat :=
  [0xCBBB9D5DC1059ED8, 0x629A292A367CD507, 0x9159015A3070DD17, 0x152FECD8F70E5939,
   0x67332667FFC00B31, 0x8EB44A8768581511, 0xDB0C2E0D64F98FA7, 0x47B5481DBEFA4FA4]

/-- SHA-256. -/
def kind256 : ShaKind := ⟨32, 8, shaK256, (2, 13, 22), (6, 11, 25), (7, 18, 3), (17, 19, 10)⟩

/-- SHA-384 and SHA-512. -/
def kind512 : ShaKind := ⟨64, 16, shaK512, (28, 34, 39), (14, 18, 41), (1, 8, 7), (19, 61, 6)⟩

/-- Rotation of a `w`-bit word to the right. -/
def rotR (w x n : Nat) : Nat := x >>> n + (x % 2 ^ n) * 2 ^ (w - n)

/-- A large sigma function. -/
def bigSigma (w : Nat) (r : Nat × Nat × Nat) (x : Nat) : Nat := rotR w x r.1 ^^^ rotR w x r.2.1 ^^^ rotR w x r.2.2

/-- A small sigma function. -/
def smallSigma (w : Nat) (r : Nat × Nat × Nat) (x : Nat) : Nat := rotR w x r.1 ^^^ rotR w x r.2.1 ^^^ x >>> r.2.2

/-- The message schedule: `n` more words after those of `acc` (latest first). -/
def shaSchedule (p : ShaKind) : Nat → List Nat → List Nat
  | 0, acc => acc.reverse
  | n + 1, acc => shaSchedule p n
      (((smallSigma p.w p.small1 (acc.getD 1 0) + acc.getD 6 0 + smallSigma p.w p.small0 (acc.getD 14 0) + acc.getD 15 0) % 2 ^ p.w)
        :: acc)

/-- The rounds over constants and schedule. -/
def shaRounds (p : ShaKind) : List (Nat × Nat) → List Nat → List Nat
  | (k, m) :: r, [a, b, c, d, e, f, g, h] =>
    let t := h + bigSigma p.w p.big1 e + ((e &&& f) ^^^ ((2 ^ p.w - 1 - e) &&& g)) + k + m
    let u := bigSigma p.w p.big0 a + ((a &&& b) ^^^ (a &&& c) ^^^ (b &&& c))
    shaRounds p r [(t + u) % 2 ^ p.w, a, b, c, (d + t) % 2 ^ p.w, e, f, g]
  | _, l => l

/-- The words of a block. -/
def shaWords (p : ShaKind) : Nat → List Byte → List Nat
  | 0, _ => []
  | n + 1, l => ofBytesBE (l.take (p.w / 8)) :: shaWords p n (l.drop (p.w / 8))

/-- One block folded into the chaining value. -/
def shaBlock (p : ShaKind) (h : List Nat) (b : List Byte) : List Nat :=
  List.zipWith (fun x y => (x + y) % 2 ^ p.w) h
    (shaRounds p (p.k.zip (shaSchedule p (p.k.length - 16) (shaWords p 16 b).reverse)) h)

/-- All blocks of a padded message, `n` of them. -/
def shaBlocks (p : ShaKind) : Nat → List Byte → List Nat → List Nat
  | 0, _, h => h
  | n + 1, l, h => shaBlocks p n (l.drop (2 * p.w)) (shaBlock p h (l.take (2 * p.w)))

/-- The padding: a one bit, zeros, and the message's length in bits. -/
def shaPad (p : ShaKind) (l : List Byte) : List Byte :=
  let used := (l.length + 1 + p.lenBytes) % (2 * p.w)
  l ++ [0x80] ++ zeroBytes ((2 * p.w - used) % (2 * p.w)) ++ toBytesBE p.lenBytes (8 * l.length)

/-- The hash of a message, its final chaining value as bytes. -/
@[irreducible] def shaOf (p : ShaKind) (h : List Nat) (l : List Byte) : List Byte :=
  let m := shaPad p l
  (shaBlocks p (m.length / (2 * p.w)) m h).flatMap (toBytesBE (p.w / 8))

/-- SHA-256: 32 bytes. -/
@[irreducible] def sha256 (l : List Byte) : List Byte := shaOf kind256 shaH256 l

/-- SHA-384: 48 bytes. -/
@[irreducible] def sha384 (l : List Byte) : List Byte := (shaOf kind512 shaH384 l).take 48

/-- HMAC over a hash of `block`-byte blocks (RFC 2104). -/
def hmacOf (hash : List Byte → List Byte) (block : Nat) (key msg : List Byte) : List Byte :=
  let k := fitBytes block (if key.length ≤ block then key else hash key)
  hash (k.map (fun b => b ^^^ 0x5C) ++ hash (k.map (fun b => b ^^^ 0x36) ++ msg))

/-- HMAC-SHA-256: key, message; 32 bytes. -/
@[irreducible] def hmacSha256 (key msg : List Byte) : List Byte := hmacOf sha256 64 key msg

/-- HKDF-SHA-384 of at most 48 bytes: salt, input key, info, output length (RFC 5869, with one block of output: R327 and R436
take 32 bytes). -/
@[irreducible] def hkdfSha384 (salt ikm info : List Byte) (len : Nat) : List Byte :=
  (hmacOf sha384 128 (hmacOf sha384 128 salt ikm) (info ++ [0x01])).take len

/-! ### SHAKE (FIPS 202): the 25 lanes of the state stand in a list, lane (x, y) in place x + 5y -/

/-- A state from its lanes. -/
def kLanes (f : Nat → Nat → Nat) : List Nat := (List.range 25).map fun i => f (i % 5) (i / 5)

/-- A lane; coordinates count modulo 5. -/
def kLane (a : List Nat) (x y : Nat) : Nat := a.getD (x % 5 + 5 * (y % 5)) 0

/-- Rotation of a 64-bit lane to the left. -/
def rotL64 (x n : Nat) : Nat := rotR 64 x ((64 - n % 64) % 64)

/-- The parity of a column sheet. -/
def kColumn (a : List Nat) (x : Nat) : Nat := [0, 1, 2, 3, 4].foldl (fun c y => c ^^^ kLane a x y) 0

/-- Theta. -/
def kTheta (a : List Nat) : List Nat :=
  let c := [0, 1, 2, 3, 4].map (kColumn a)
  kLanes fun x y => kLane a x y ^^^ c.getD ((x + 4) % 5) 0 ^^^ rotL64 (c.getD ((x + 1) % 5) 0) 1

/-- The walk over the lanes other than (0, 0), from (1, 0), which rho takes: step `t` names the place of its lane. -/
def kWalk : Nat → Nat → Nat → List Nat
  | 0, _, _ => []
  | n + 1, x, y => (x + 5 * y) :: kWalk n y ((2 * x + 3 * y) % 5)

/-- Rho's rotation of the lane in place `i`: step t of the walk rotates by (t + 1)(t + 2) / 2; lane (0, 0) is not rotated. -/
def kOffset (i : Nat) : Nat := if i = 0 then 0 else ((kWalk 24 1 0).idxOf i + 1) * ((kWalk 24 1 0).idxOf i + 2) / 2

/-- Rho, then pi, which takes lane (x, y) from (x + 3y, x). -/
def kRhoPi (a : List Nat) : List Nat :=
  let r := kLanes fun x y => rotL64 (kLane a x y) (kOffset (x + 5 * y))
  kLanes fun x y => kLane r (x + 3 * y) x

/-- Chi. -/
def kChi (a : List Nat) : List Nat := kLanes fun x y => kLane a x y ^^^ ((kLane a (x + 1) y ^^^ (2 ^ 64 - 1)) &&& kLane a (x + 2) y)

/-- One step of the shift register whose output gives iota's constants, x^8 + x^6 + x^5 + x^4 + 1. -/
def kShift (r : Nat) : Nat := if r.testBit 7 then (2 * r) ^^^ 0x171 else 2 * r

/-- A round's constant and the register after it: output j of the round's seven goes to bit 2^j - 1. -/
def kConst (r : Nat) : Nat × Nat :=
  [0, 1, 2, 3, 4, 5, 6].foldl (fun c j => (c.1 + c.2 % 2 * 2 ^ (2 ^ j - 1), kShift c.2)) (0, r)

/-- Rounds of the permutation, with the register of their constants. -/
def kRounds : Nat → Nat → List Nat → List Nat
  | 0, _, a => a
  | n + 1, r, a => kRounds n (kConst r).2 (match kChi (kRhoPi (kTheta a)) with | v :: l => (v ^^^ (kConst r).1) :: l | [] => [])

/-- The permutation of 1,600 bits: 24 rounds. -/
@[irreducible] def keccakF (a : List Nat) : List Nat := kRounds 24 1 a

/-- A block goes into the state: byte 8i + j is bits [8j + 7:8j] of the lane in place i. -/
def kMix (a : List Nat) (b : List Byte) : List Nat := a.mapIdx fun i v => v ^^^ ofBytesLE (slice b (8 * i) 8)

/-- The sponge's input, `n` blocks of `rate` bytes. -/
def spongeIn (rate : Nat) : Nat → List Byte → List Nat → List Nat
  | 0, _, a => a
  | n + 1, l, a => spongeIn rate n (l.drop rate) (keccakF (kMix a (l.take rate)))

/-- The sponge's output, `n` blocks of `rate` bytes. -/
def spongeOut (rate : Nat) : Nat → List Nat → List Byte
  | 0, _ => []
  | n + 1, a => (a.flatMap (toBytesLE 8)).take rate ++ spongeOut rate n (keccakF a)

/-- What fills the last block of an input of `n` bytes: the bits 1111 of an extendable output, then the padding 10*1. -/
def shakePad (rate n : Nat) : List Byte :=
  let q := rate - n % rate
  (List.range q).map fun j => mkB ((if j = 0 then 0x1F else 0) + (if j + 1 = q then 0x80 else 0))

/-- A SHAKE function of rate `rate` bytes: `len` bytes of output. -/
@[irreducible] def shake (rate : Nat) (l : List Byte) (len : Nat) : List Byte :=
  (spongeOut rate (ceilDiv len rate) (spongeIn rate (l.length / rate + 1) (l ++ shakePad rate l.length) (List.replicate 25 0))).take len

/-- SHAKE128. -/
def shake128 (l : List Byte) (len : Nat) : List Byte := shake 168 l len

/-- SHAKE256. -/
def shake256 (l : List Byte) (len : Nat) : List Byte := shake 136 l len

end Sys2Proof.Machine
end

