-- ==== Sys2Proof/Machine/Curve.lean ====
section
/-! DEFINITION. Sys2Proof/Machine/Curve.lean: the group P-384 (FIPS 186, SP 800-186) with the ECDSA and the ECDH that the spec
names without restating them (R305, R327, R328, R343). PRESUMED throughout: the arithmetic is the published standards'
(assumption log 6). Field elements and scalars are numbers; a point is in Jacobian coordinates, `z = 0` the point at infinity. -/

namespace Sys2Proof.Machine

/-- The prime of the field. -/
def p384P : Nat := 2 ^ 384 - 2 ^ 128 - 2 ^ 96 + 2 ^ 32 - 1

/-- The order of the group (R305). -/
def p384Order : Nat :=
  0xFFFFFFFFFFFFFFFFFFFFFFFFFFFFFFFFFFFFFFFFFFFFFFFFC7634D81F4372DDF581A0DB248B0A77AECEC196ACCC52973

/-- The coefficient b of the curve y² = x³ - 3x + b. -/
def p384B : Nat :=
  0xB3312FA7E23EE7E4988E056BE3F82D19181D9C6EFE8141120314088F5013875AC656398D8A2ED19D2A85C8EDD3EC2AEF

/-- A point: x / z², y / z³, each coordinate below the prime. -/
structure JPoint where
  x : Nat
  y : Nat
  z : Nat
  deriving DecidableEq, Repr

/-- The base point. -/
def p384G : JPoint :=
  ⟨0xAA87CA22BE8B05378EB1C71EF320AD746E1D3B628BA79B9859F741E082542A385502F25DBF55296C3A545E3872760AB7,
   0x3617DE4A96262C6F5D9E98BF9292DC29F8F41DBD289A147CE9DA3113B5F0B8C00A60B1CE1D7E819D7A431D7C90EA0E5F, 1⟩

/-- The point at infinity. -/
def jZero : JPoint := ⟨1, 1, 0⟩

/-- Product in the field. -/
def fMul (a b : Nat) : Nat := a * b % p384P

/-- Difference in the field. -/
def fSub (a b : Nat) : Nat := (a + (p384P - b % p384P)) % p384P

/-- Power modulo `m`, the exponent below `2 ^ n`. -/
@[irreducible] def powMod (m b : Nat) : Nat → Nat → Nat
  | 0, _ => 1
  | n + 1, e => let h := powMod m b n (e / 2); if e % 2 = 1 then h * h % m * b % m else h * h % m

/-- The inverse modulo a prime of at most 384 bits, by Fermat's little theorem. -/
def invMod (m a : Nat) : Nat := powMod m (a % m) 384 (m - 2)

/-- Twice a point. -/
def jDouble (p : JPoint) : JPoint :=
  if p.z = 0 then jZero
  else
    let y2 := fMul p.y p.y
    let z2 := fMul p.z p.z
    let s := fMul 4 (fMul p.x y2)
    let m := fMul 3 (fMul (fSub p.x z2) ((p.x + z2) % p384P))
    let x := fSub (fMul m m) (fMul 2 s)
    ⟨x, fSub (fMul m (fSub s x)) (fMul 8 (fMul y2 y2)), fMul 2 (fMul p.y p.z)⟩

/-- The sum of two points. -/
def jAdd (p q : JPoint) : JPoint :=
  if p.z = 0 then q
  else if q.z = 0 then p
  else
    let pz2 := fMul p.z p.z
    let qz2 := fMul q.z q.z
    let u1 := fMul p.x qz2
    let s1 := fMul p.y (fMul q.z qz2)
    let h := fSub (fMul q.x pz2) u1
    let r := fSub (fMul q.y (fMul p.z pz2)) s1
    if h = 0 then (if r = 0 then jDouble p else jZero)
    else
      let h2 := fMul h h
      let h3 := fMul h h2
      let v := fMul u1 h2
      let x := fSub (fSub (fMul r r) h3) (fMul 2 v)
      ⟨x, fSub (fMul r (fSub v x)) (fMul s1 h3), fMul h (fMul p.z q.z)⟩

/-- A multiple of a point, the scalar below `2 ^ n`. -/
@[irreducible] def jMul (p : JPoint) : Nat → Nat → JPoint
  | 0, _ => jZero
  | n + 1, k => let h := jDouble (jMul p n (k / 2)); if k % 2 = 1 then jAdd h p else h

/-- The affine coordinates of a point; none at infinity. -/
def jAffine (p : JPoint) : Option (Nat × Nat) :=
  if p.z = 0 then none
  else let i := invMod p384P p.z; some (fMul p.x (fMul i i), fMul p.y (fMul i (fMul i i)))

/-- The bytes X ‖ Y of a point, most significant byte first; zeros at infinity, which no key gives. -/
def pointBytes (p : JPoint) : List Byte :=
  match jAffine p with
  | some (x, y) => toBytesBE 48 x ++ toBytesBE 48 y
  | none => zeroBytes 96

/-- The point whose bytes X ‖ Y are given. -/
def pointOf (l : List Byte) : JPoint := ⟨ofBytesBE (l.take 48), ofBytesBE ((l.drop 48).take 48), 1⟩

/-- Are 96 bytes X ‖ Y a valid point of P-384: both below the prime, on the curve (R328 row 11)? -/
@[irreducible] def onCurve (l : List Byte) : Bool :=
  let p := pointOf l
  l.length == 96 && decide (p.x < p384P) && decide (p.y < p384P)
    && fMul p.y p.y == (fSub (fMul p.x (fMul p.x p.x)) (fMul 3 p.x) + p384B) % p384P

/-- The public key X ‖ Y of a secret scalar. -/
@[irreducible] def ecdsaPub (d : Nat) : List Byte := pointBytes (jMul p384G 384 d)

/-- The ECDH shared secret of a secret scalar and a point: the x-coordinate of the product (R327). -/
@[irreducible] def ecdh (d : Nat) (pt : List Byte) : List Byte := (pointBytes (jMul (pointOf pt) 384 d)).take 48

/-- The nonce of a signature, a free value from 1 to the order less one: the draw counter of the state numbers it. The spec says
that it comes from the DRBG (R305), not by which rule (assumption logs 5 and 6). -/
def ecdsaNonce (k : Nat) : Nat := Config.freeNat k % (p384Order - 1) + 1

/-- The ECDSA signature r ‖ s of a 48-byte digest under a secret scalar and a nonce (R305). -/
@[irreducible] def ecdsaSign (d : Nat) (digest : List Byte) (nonce : Nat) : List Byte :=
  let r := ofBytesBE ((ecdsaPub nonce).take 48) % p384Order
  let s := invMod p384Order nonce * ((ofBytesBE digest + r * d) % p384Order) % p384Order
  toBytesBE 48 r ++ toBytesBE 48 s

/-- Does an ECDSA signature r ‖ s of a digest verify under a public key X ‖ Y? -/
@[irreducible] def ecdsaVerify (pub digest sig : List Byte) : Bool :=
  let r := ofBytesBE (sig.take 48)
  let s := ofBytesBE ((sig.drop 48).take 48)
  if !onCurve pub || r == 0 || s == 0 || decide (p384Order ≤ r) || decide (p384Order ≤ s) then false
  else
    let w := invMod p384Order s
    match jAffine (jAdd (jMul p384G 384 (ofBytesBE digest * w % p384Order)) (jMul (pointOf pub) 384 (r * w % p384Order))) with
    | some (x, _) => x % p384Order == r
    | none => false

end Sys2Proof.Machine
end

