-- ==== Sys2Proof/Machine/MlDsa.lean ====
section
/-! DEFINITION. Sys2Proof/Machine/MlDsa.lean: ML-DSA-65 (FIPS 204), which the spec names without restating it (R321, R324, R343),
with an empty context string: the key pair of a seed, signing with 32 random bytes, and verification. PRESUMED throughout: the
arithmetic is the published standard's (assumption log 6). A polynomial is a list of 256 coefficients below the modulus. -/

namespace Sys2Proof.Machine

/-- The modulus q. -/
def mqQ : Nat := 8380417

/-- The dimensions of the matrix, the weight of a challenge, the bounds γ1, γ2, β and ω of ML-DSA-65. -/
def mqK : Nat := 6
def mqL : Nat := 5
def mqTau : Nat := 49
def mqGamma1 : Nat := 2 ^ 19
def mqGamma2 : Nat := 261888
def mqBeta : Nat := 196
def mqOmega : Nat := 55

/-- A polynomial, in either domain. -/
abbrev Poly := List Nat

/-- Power modulo q, the exponent below `2 ^ n`. -/
def mqPow (b : Nat) : Nat → Nat → Nat
  | 0, _ => 1
  | n + 1, e => let h := mqPow b n (e / 2); if e % 2 = 1 then h * h % mqQ * b % mqQ else h * h % mqQ

/-- The eight bits of a number reversed. -/
def bitRev8 (k : Nat) : Nat :=
  (List.range 8).foldl (fun a i => a * 2 + (k >>> i) % 2) 0

/-- The root of unity of node `k` of the transform, or its inverse. -/
def mqZeta (inv : Bool) (k : Nat) : Nat := mqPow 1753 9 (if inv then 512 - bitRev8 k else bitRev8 k)

/-- Sum, difference, product and multiple of polynomials, coefficient by coefficient. -/
def polyAdd (a b : Poly) : Poly := List.zipWith (fun x y => (x + y) % mqQ) a b
def polySub (a b : Poly) : Poly := List.zipWith (fun x y => (x + (mqQ - y)) % mqQ) a b
def polyMul (a b : Poly) : Poly := List.zipWith (fun x y => x * y % mqQ) a b
def polyScale (c : Nat) (a : Poly) : Poly := a.map fun x => c * x % mqQ

/-- The zero polynomial. -/
def polyZero : Poly := List.replicate 256 0

/-- The transform of the node `k`, over `2 ^ n` coefficients. -/
def nttFrom : Nat → Nat → Poly → Poly
  | 0, _, l => l
  | n + 1, k, l =>
    let a := l.take (2 ^ n)
    let t := polyScale (mqZeta false k) (l.drop (2 ^ n))
    nttFrom n (2 * k) (polyAdd a t) ++ nttFrom n (2 * k + 1) (polySub a t)

/-- The inverse transform of the node `k`, but for the division by the number of coefficients. -/
def inttFrom : Nat → Nat → Poly → Poly
  | 0, _, l => l
  | n + 1, k, l =>
    let a := inttFrom n (2 * k) (l.take (2 ^ n))
    let b := inttFrom n (2 * k + 1) (l.drop (2 ^ n))
    polyAdd a b ++ polyScale (mqZeta true k) (polySub a b)

/-- The number-theoretic transform. -/
def ntt (a : Poly) : Poly := nttFrom 8 1 a

/-- The inverse transform; 8347681 is the inverse of 256. -/
def intt (a : Poly) : Poly := polyScale 8347681 (inttFrom 8 1 a)

/-- The sum of the products of two vectors of polynomials in the transform's domain. -/
def polyDot (a b : List Poly) : Poly := (List.zipWith polyMul a b).foldl polyAdd polyZero

/-- Coefficients packed in `w` bits each, from the least significant bit of the first byte on. -/
def polyPack (w : Nat) (a : Poly) : List Byte := toBytesLE (32 * w) (a.foldr (fun x r => x + r * 2 ^ w) 0)

/-- The coefficients packed in `w` bits each. -/
def polyUnpack (w : Nat) (l : List Byte) : Poly :=
  let v := ofBytesLE (l.take (32 * w))
  (List.range 256).map fun i => (v >>> (w * i)) % 2 ^ w

/-- Coefficients of a matrix entry from a stream, three bytes a candidate. -/
def rejNtt : List Byte → Poly
  | a :: b :: c :: r =>
    let z := a.toNat + 256 * b.toNat + 65536 * (c.toNat % 128)
    if z < mqQ then z :: rejNtt r else rejNtt r
  | _ => []

/-- The coefficient of a half byte: 4 less it, when it is below 9. -/
def halfCoeff (b : Nat) : List Nat := if b < 9 then [(4 + mqQ - b) % mqQ] else []

/-- The matrix of a public seed, in the transform's domain. The 1,008 bytes are more than the 894 that FIPS 204 asks for. -/
def expandA (rho : List Byte) : List (List Poly) :=
  (List.range mqK).map fun r => (List.range mqL).map fun s => (rejNtt (shake128 (rho ++ [mkB s, mkB r]) 1008)).take 256

/-- A short secret polynomial. The 544 bytes are more than the 481 that FIPS 204 asks for. -/
def expandS (rho : List Byte) (r : Nat) : Poly :=
  ((shake256 (rho ++ toBytesLE 2 r) 544).flatMap fun b => halfCoeff (b.toNat % 16) ++ halfCoeff (b.toNat / 16)).take 256

/-- A mask polynomial. -/
def expandMask (rho : List Byte) (r : Nat) : Poly :=
  (polyUnpack 20 (shake256 (rho ++ toBytesLE 2 r) 640)).map fun v => (mqGamma1 + mqQ - v) % mqQ

/-- The next place of the challenge: the first byte not above `i`, with the rest of the stream. -/
def nextPlace (i : Nat) : List Byte → Nat × List Byte
  | [] => (0, [])
  | b :: r => if b.toNat ≤ i then (b.toNat, r) else nextPlace i r

/-- The challenge from place `i` on, `n` places left, over the sign bits. -/
def ballFrom (signs : Nat) : Nat → List Byte → Poly → Poly
  | 0, _, c => c
  | n + 1, l, c =>
    let i := 255 - n
    let q := nextPlace i l
    ballFrom signs n q.2 ((c.set i (c.getD q.1 0)).set q.1 (if signs.testBit (mqTau - 1 - n) then mqQ - 1 else 1))

/-- The challenge of a commitment hash: 49 coefficients 1 or -1. The 136 bytes are more than the 121 that FIPS 204 asks for. -/
def sampleInBall (ct : List Byte) : Poly :=
  let s := shake256 ct 136
  ballFrom (ofBytesLE (s.take 8)) mqTau (s.drop 8) polyZero

/-- The high and low parts of a coefficient, the low part plus γ2 so as to be a number. -/
def mqDecompose (r : Nat) : Nat × Nat :=
  let m := r % (2 * mqGamma2)
  let hi := if m ≤ mqGamma2 then r / (2 * mqGamma2) else r / (2 * mqGamma2) + 1
  let lo := if m ≤ mqGamma2 then m + mqGamma2 else m - mqGamma2
  if hi = 16 then (0, lo - 1) else (hi, lo)

/-- The high part. -/
def mqHigh (r : Nat) : Nat := (mqDecompose r).1

/-- The size of a coefficient, taken about zero. -/
def mqAbs (x : Nat) : Nat := min x (mqQ - x)

/-- Is every coefficient's size below a bound? -/
def polyBelow (b : Nat) (a : Poly) : Bool := a.all fun x => decide (mqAbs x < b)

/-- The upper ten bits of a coefficient rounded by 2^13, and what is left. -/
def mqT1 (r : Nat) : Nat := (r + 4095) / 8192
def mqT0 (r : Nat) : Nat := (r + mqQ - mqT1 r * 8192) % mqQ

/-- What a seed gives: ρ, K, s1 and s2 in the transform's domain, and t. -/
structure MlKey where
  rho : List Byte
  k : List Byte
  s1 : List Poly
  s2 : List Poly
  t : List Poly
  deriving DecidableEq, Repr

/-- The key of a seed. -/
@[irreducible] def mldsaKey (seed : List Byte) : MlKey :=
  let h := shake256 (seed ++ [mkB mqK, mkB mqL]) 128
  let rho := h.take 32
  let rs := (h.drop 32).take 64
  let s1 := (List.range mqL).map fun i => ntt (expandS rs i)
  let s2 := (List.range mqK).map fun i => expandS rs (mqL + i)
  let t := List.zipWith (fun row s => polyAdd (intt (polyDot row s1)) s) (expandA rho) s2
  ⟨rho, h.drop 96, s1, s2.map ntt, t⟩

/-- The 1,952-byte public key of a key. -/
def mldsaPubOf (m : MlKey) : List Byte := m.rho ++ m.t.flatMap fun p => polyPack 10 (p.map mqT1)

/-- The public key of a seed. -/
@[irreducible] def mldsaPub (seed : List Byte) : List Byte := mldsaPubOf (mldsaKey seed)

/-- The message representative of a public key and a message, the context string empty. -/
def mldsaMu (pub msg : List Byte) : List Byte := shake256 (shake256 pub 64 ++ [0, 0] ++ msg) 64

/-- The commitment hash of the high parts. -/
def mldsaCommit (mu : List Byte) (w1 : List Poly) : List Byte := shake256 (mu ++ w1.flatMap (polyPack 4)) 48

/-- The places of the ones of a hint. -/
def hintPlaces (h : Poly) : List Nat := (List.range 256).filter fun j => h.getD j 0 = 1

/-- A hint packed: the places, then the running count after each polynomial. -/
def hintPack (h : List Poly) : List Byte :=
  let p := h.map hintPlaces
  let places := p.flatten
  let counts := (List.range mqK).map fun i => ((p.take (i + 1)).map List.length).sum
  fitBytes mqOmega (places.map mkB) ++ counts.map mkB

/-- Do the numbers rise strictly? -/
def rising : List Nat → Bool
  | a :: b :: r => decide (a < b) && rising (b :: r)
  | _ => true

/-- The hint of its packed form; none when it is malformed. -/
def hintUnpack (l : List Byte) : Option (List Poly) :=
  let y := l.map BitVec.toNat
  let counts := y.drop mqOmega
  let parts := List.zipWith (fun a b => ((y.take mqOmega).take b).drop a) (0 :: counts) counts
  let last := counts.getLastD 0
  if (List.zipWith (fun a b => decide (a ≤ b)) (0 :: counts) counts).all id && decide (last ≤ mqOmega) && parts.all rising
      && ((y.take mqOmega).drop last).all (· == 0) then
    some (parts.map fun p => (List.range 256).map fun j => if p.contains j then 1 else 0)
  else none

/-- The signing attempts, `n` of them left, with the counter of masks. -/
def mldsaTry (m : MlKey) (a : List (List Poly)) (mu rs : List Byte) : Nat → Nat → List Byte
  | 0, _ => []
  | n + 1, kappa =>
    let y := (List.range mqL).map fun r => expandMask rs (kappa + r)
    let yh := y.map ntt
    let w := a.map fun row => intt (polyDot row yh)
    let ct := mldsaCommit mu (w.map fun p => p.map mqHigh)
    let c := ntt (sampleInBall ct)
    let z := List.zipWith (fun y s => polyAdd y (intt (polyMul c s))) y m.s1
    let v := List.zipWith (fun w s => polySub w (intt (polyMul c s))) w m.s2
    let ct0 := m.t.map fun p => intt (polyMul c (ntt (p.map mqT0)))
    let h := List.zipWith (fun v t => List.zipWith (fun x u => if mqHigh ((x + u) % mqQ) ≠ mqHigh x then 1 else 0) v t) v ct0
    if z.all (polyBelow (mqGamma1 - mqBeta))
        && v.all (fun p => p.all fun x => decide (mqBeta < (mqDecompose x).2 ∧ (mqDecompose x).2 < 2 * mqGamma2 - mqBeta))
        && ct0.all (polyBelow mqGamma2) && decide ((h.map List.sum).sum ≤ mqOmega) then
      ct ++ (z.flatMap fun p => polyPack 20 (p.map fun x => (mqGamma1 + mqQ - x) % mqQ)) ++ hintPack h
    else mldsaTry m a mu rs n (kappa + mqL)

/-- The 3,309-byte signature of a message under a seed, with 32 random bytes. The 814 attempts are the least that FIPS 204 asks
for. -/
@[irreducible] def mldsaSign (seed msg rnd : List Byte) : List Byte :=
  let m := mldsaKey seed
  let mu := mldsaMu (mldsaPubOf m) msg
  mldsaTry m (expandA m.rho) mu (shake256 (m.k ++ rnd ++ mu) 64) 814 0

/-- The 32 random bytes of a signature: draws of the DRBG from number `k` on (assumption log 5). -/
def mldsaRnd (k : Nat) : List Byte := (List.range 32).map fun i => Config.drbgByte (k + i)

/-- A high part mended by a hint. -/
def mqUseHint (h r : Nat) : Nat :=
  let d := mqDecompose r
  if h = 1 then (if mqGamma2 < d.2 then (d.1 + 1) % 16 else (d.1 + 15) % 16) else d.1

/-- Does a signature of a message verify under a public key? -/
@[irreducible] def mldsaVerify (pub msg sig : List Byte) : Bool :=
  match hintUnpack (sig.drop 3248) with
  | none => false
  | some h =>
    if pub.length ≠ 1952 ∨ sig.length ≠ 3309 then false
    else
      let z := (List.range mqL).map fun i =>
        (polyUnpack 20 (sig.drop (48 + 640 * i))).map fun v => (mqGamma1 + mqQ - v) % mqQ
      let t1 := (List.range mqK).map fun i => (polyUnpack 10 (pub.drop (32 + 320 * i))).map fun v => v * 8192 % mqQ
      let c := ntt (sampleInBall (sig.take 48))
      let zh := z.map ntt
      let w := List.zipWith (fun row t => intt (polySub (polyDot row zh) (polyMul c (ntt t)))) (expandA (pub.take 32)) t1
      z.all (polyBelow (mqGamma1 - mqBeta))
        && mldsaCommit (mldsaMu pub msg) (List.zipWith (List.zipWith mqUseHint) h w) == sig.take 48

end Sys2Proof.Machine
end

