-- ==== Sys2Proof/Machine/Operands.lean ====
section
/-! DEFINITION. Sys2Proof/Machine/Operands.lean: the operand forms that descriptors share: KREFs and their labels
(R290), 64-bit values (R111), buffers and runs, and the checks of step 5 of R46 in word order. -/

namespace Sys2Proof.Machine

/-- The type of a KREF: 0 slot, 1 derived, 2 none, 3 reserved (R290). -/
def krefType (k : Nat) : Nat := k / 2 ^ 22 % 4

/-- The expected generation of a KREF, 0 for no check (R290). -/
def krefExp (k : Nat) : Nat := k / 2 ^ 12 % 1024

/-- The owner group of a slot (R284). -/
def slotOwner (i : Nat) : Nat := i / 512

/-- The pipeline of a port (R15). -/
def pplOf (port : Nat) : Nat := if port < 8 then port % 4 else (port - 8) / 4

/-- The six ports of a pipeline (R15). -/
def portsOf (k : Nat) : List Nat := [k, 4 + k, 8 + 4 * k, 9 + 4 * k, 10 + 4 * k, 11 + 4 * k]

/-- One check of step 5: does it fail, and which word is the offending one. -/
abbrev Chk := Bool × Nat

/-- The lowest offending word of the checks that fail (WORD, R48). -/
def firstChk : List Chk → Option Nat
  | [] => none
  | (b, w) :: r =>
    match b, firstChk r with
    | false, o => o
    | true, none => some w
    | true, some v => some (min w v)

/-- A KREF word that must be of type slot. -/
def chkSlotRef (w : List Word) (k : Nat) : Chk := (krefType (wAt w k).toNat != 0, k)

/-- A KREF word of type slot or derived with its label word: a label stands with a derived KREF only. -/
def chkKeyRef (w : List Word) (k : Nat) : List Chk :=
  [(2 ≤ krefType (wAt w k).toNat, k), (krefType (wAt w k).toNat != 1 && wAt w (k + 1) != 0, k + 1)]

/-- Words that an operation does not use and that must be zero. -/
def chkUnused (w : List Word) (unused : Bool) (ks : List Nat) : List Chk := ks.map fun k => (unused && wAt w k != 0, k)

/-- A run of `count` objects from `first`, at most `limit` in all, named at word `k`. -/
def chkRun (first count limit k : Nat) : Chk := (count = 0 || limit < first + count, k)

/-- A number of words of a 64-bit value (R111). -/
def val64 (w : List Word) (k : Nat) : Nat := ofWords [wAt w k, wAt w (k + 1), wAt w (k + 2)] % 2 ^ 64

/-- Do two KREFs with their labels name the same key (R358)? -/
def sameKey (k1 l1 k2 l2 : Nat) : Bool :=
  krefType k1 == krefType k2 && k1 % 4096 == k2 % 4096 && (krefType k1 != 1 || l1 == l2)

end Sys2Proof.Machine
end

