-- ==== Sys2Proof/Machine/RegMap.lean ====
section
/-! DEFINITION. Sys2Proof/Machine/RegMap.lean: the 128 KiB register window (R537): the offset of every register, the
power domain of every range, and the reset value of every register whose bits the block stores by offset. -/

namespace Sys2Proof.Machine

/-! Power domains, by their bit in PWR_STATE DOMAINS_ON (R494). -/

def dAON : Nat := 0
def dDOME : Nat := 1
def dHOST : Nat := 2
def dPIPE : Nat := 3
def dTWA : Nat := 4
def dTWB : Nat := 5
def dTIME : Nat := 6
def dSPIRE : Nat := 7

/-- The power domain that a register offset lies in (R537); none for the reserved ranges. -/
def regDomain (off : Nat) : Option Nat :=
  if off < 0x2000 then some dAON
  else if off < 0x3000 then some dHOST
  else if off < 0x4000 then some dAON
  else if off < 0x7000 then some dHOST
  else if off < 0x9000 then some dPIPE
  else if off < 0xA000 then some dTIME
  else if off < 0xB000 then some dSPIRE
  else if off < 0xC000 then some dHOST
  else if off < 0xD000 then some dDOME
  else if off < 0xE000 then some dAON
  else if off < 0x10000 then none
  else if off < 0x20000 then some dHOST
  else none

/-! GLB (R536, R67). -/

def rGLB_ID : Nat := 0x000000
def rGLB_VERSION : Nat := 0x000004
def rGLB_CAP : Nat := 0x000008
def rGLB_SCRATCH : Nat := 0x00000C
def rPG_OPS (g : Nat) : Nat := 0x000400 + 0x10 * g
def rPG_KEYGRP (g : Nat) : Nat := 0x000404 + 0x10 * g
def rPG_PORTS (g : Nat) : Nat := 0x000408 + 0x10 * g
def rRGRP (k : Nat) : Nat := 0x000480 + 4 * k
def rPG_LOCK : Nat := 0x0004A0

/-! PWR (R494). -/

def rPWR_STATE : Nat := 0x001000
def rPWR_REQ : Nat := 0x001004
def rPWR_DOMAIN : Nat := 0x001008
def rPWR_CTX_BASE_LO : Nat := 0x00100C
def rPWR_CTX_BASE_HI : Nat := 0x001010
def rPWR_CTX_LEN : Nat := 0x001014
def rPWR_CTX_CTRL : Nat := 0x001018
def rPWR_CTX_STATUS : Nat := 0x00101C
def rPWR_RETCNT : Nat := 0x001020
def rPWR_CLK : Nat := 0x001024
def rPWR_TIMING : Nat := 0x001028
def rPWR_SWITCH : Nat := 0x00102C

/-! EVT (R532, R78). -/

def rEVT_PEND (b : Nat) : Nat := 0x002000 + 0x40 * b
def rEVT_EN (b : Nat) : Nat := 0x002004 + 0x40 * b
def rEVT_LINE (b j : Nat) : Nat := 0x002008 + 0x40 * b + 4 * j
def rEVT_ROUTE (b j : Nat) : Nat := 0x002014 + 0x40 * b + 4 * j
def rEVT_FORCE (b : Nat) : Nat := 0x002024 + 0x40 * b
def rEVT_IRQ_STATUS : Nat := 0x002200
def rEVT_IRQ_SRC (k : Nat) : Nat := 0x002204 + 4 * k
def rEVT_RING_BASE_LO (m : Nat) : Nat := 0x002800 + 0x20 * m
def rEVT_RING_BASE_HI (m : Nat) : Nat := 0x002804 + 0x20 * m
def rEVT_RING_CTRL (m : Nat) : Nat := 0x002808 + 0x20 * m
def rEVT_RING_STATUS (m : Nat) : Nat := 0x00280C + 0x20 * m
def rEVT_RING_HEAD (m : Nat) : Nat := 0x002810 + 0x20 * m
def rEVT_RING_LOST (m : Nat) : Nat := 0x002814 + 0x20 * m

/-! LOG (R475). -/

def rLOG_STATUS : Nat := 0x003000
def rLOG_TOTAL : Nat := 0x003004
def rLOG_UNREAD : Nat := 0x003008
def rLOG_CTRL : Nat := 0x00300C
def rLOG_RD_IDX : Nat := 0x003010
def rLOG_RD_W (i : Nat) : Nat := 0x003014 + 4 * i
def rLOG_TICK_LO : Nat := 0x003024
def rLOG_TICK_HI : Nat := 0x003028

/-! HRE (R36): ring pair `n`. -/

def rSQ_BASE_LO (n : Nat) : Nat := 0x004000 + 0x80 * n
def rSQ_BASE_HI (n : Nat) : Nat := 0x004004 + 0x80 * n
def rCQ_BASE_LO (n : Nat) : Nat := 0x004008 + 0x80 * n
def rCQ_BASE_HI (n : Nat) : Nat := 0x00400C + 0x80 * n
def rRING_SIZE (n : Nat) : Nat := 0x004010 + 0x80 * n
def rRING_CTRL (n : Nat) : Nat := 0x004014 + 0x80 * n
def rRING_NOTIFY (n : Nat) : Nat := 0x00402C + 0x80 * n

/-! TWR (R257). -/

def rTWR_HEALTH : Nat := 0x006000
def rTWR_CAP128 : Nat := 0x006004
def rTWR_CAP256 : Nat := 0x006008
def rTWR_ITBL_GEN : Nat := 0x00600C
def rTWR_TEST : Nat := 0x006010
def rTWR_ITBL (w : Nat) : Nat := 0x006020 + 4 * w
def rTWR_DEFECT (w : Nat) : Nat := 0x006080 + 4 * w
def rTWR_TOW_STATUS (t : Nat) : Nat := 0x006100 + 0x10 * t
def rTWR_TOW_MISS (t : Nat) : Nat := 0x006104 + 0x10 * t
def rTWR_TOW_CTX (t : Nat) : Nat := 0x006108 + 0x10 * t
def rBELFRY_CTRL : Nat := 0x006200
def rBELFRY_BUDGET : Nat := 0x006204
def rBELFRY_STATUS : Nat := 0x006208
def rBELFRY_STAGED : Nat := 0x00620C
def rBELFRY_DISC_NR : Nat := 0x006210
def rBELFRY_DISC_GEN : Nat := 0x006214
def rBELFRY_DISC_LEN : Nat := 0x006218
def rBELFRY_DISC_DROP : Nat := 0x00621C

/-! PPL (R171, R220): pipeline `k`. -/

def rPPL (k off : Nat) : Nat := 0x007000 + 0x400 * k + off
def rPPL_EG_CTRL (k : Nat) : Nat := rPPL k 0x000
def rPPL_EG_TREE (k : Nat) : Nat := rPPL k 0x004
def rPPL_EG_FAULT (k : Nat) : Nat := rPPL k 0x008
def rPPL_EG_ROB (k : Nat) : Nat := rPPL k 0x00C
def rPPL_EG_RETURN (k : Nat) : Nat := rPPL k 0x010
def rPPL_IG_SLT (k : Nat) : Nat := rPPL k 0x200
def rPPL_IG_SEED (k : Nat) : Nat := rPPL k 0x204
def rPPL_IG_SHADOW_SEED (k : Nat) : Nat := rPPL k 0x208
def rPPL_IG_LEARN (k : Nat) : Nat := rPPL k 0x20C
def rPPL_IG_AGE (k : Nat) : Nat := rPPL k 0x210
def rPPL_IG_HOLD (k : Nat) : Nat := rPPL k 0x214
def rPPL_IG_PARITY (k : Nat) : Nat := rPPL k 0x218

/-! PA (R170, R219): port `n`. -/

def rPA (n off : Nat) : Nat := 0x008000 + 0x80 * n + off
def rPA_EG_CTRL (n : Nat) : Nat := rPA n 0x00
def rPA_EG_MAXLEN (n : Nat) : Nat := rPA n 0x04
def rPA_EG_STATUS (n : Nat) : Nat := rPA n 0x08
def rPA_EG_LATENCY (n : Nat) : Nat := rPA n 0x0C
def rPA_IG_CTRL (n : Nat) : Nat := rPA n 0x40
def rPA_IG_MAXLEN (n : Nat) : Nat := rPA n 0x44
def rPA_IG_LEARN (n : Nat) : Nat := rPA n 0x48
def rPA_IG_BYPASS (n i : Nat) : Nat := rPA n (0x4C + 4 * i)
def rPA_IG_STATUS (n : Nat) : Nat := rPA n 0x5C
def rPA_IG_LATENCY (n : Nat) : Nat := rPA n 0x60

/-! TMU (R402): domain `k`, port `n`. -/

def rLC_INCR_LO : Nat := 0x009000
def rLC_INCR_HI : Nat := 0x009004
def rLC_LO : Nat := 0x009008
def rLC_MID : Nat := 0x00900C
def rLC_HI : Nat := 0x009010
def rTMU_WC : Nat := 0x009014
def rTMU_LAUNCH : Nat := 0x009018
def rTMU_LAUNCH_AHEAD : Nat := 0x00901C
def rSYNC_CTRL : Nat := 0x009020
def rSYNC_PORTS : Nat := 0x009024
def rSYNC_PULL : Nat := 0x009028
def rSYNC_LAST : Nat := 0x00902C
def rSYNC_STATUS : Nat := 0x009030
def rD_CTRL (k : Nat) : Nat := 0x009040 + 0x20 * k
def rD_KP (k : Nat) : Nat := 0x009044 + 0x20 * k
def rD_KI (k : Nat) : Nat := 0x009048 + 0x20 * k
def rD_STEP (k : Nat) : Nat := 0x00904C + 0x20 * k
def rD_STATUS (k : Nat) : Nat := 0x009050 + 0x20 * k
def rD_OFS (k : Nat) : Nat := 0x009054 + 0x20 * k
def rD_RATE_LO (k : Nat) : Nat := 0x009058 + 0x20 * k
def rD_RATE_HI (k : Nat) : Nat := 0x00905C + 0x20 * k
def rP_TX_DELAY (n : Nat) : Nat := 0x009100 + 0x20 * n
def rP_RX_DELAY (n : Nat) : Nat := 0x009104 + 0x20 * n
def rP_LAUNCH (n : Nat) : Nat := 0x009108 + 0x20 * n
def rP_CAL (n : Nat) : Nat := 0x00910C + 0x20 * n
def rP_CAL_UNUSED (n : Nat) : Nat := 0x009110 + 0x20 * n

/-! SPL (R447): port `p` is 0 U, 1 DA, 2 DB. -/

def rSPL_NODE : Nat := 0x00A000
def rSPL_ACCESS : Nat := 0x00A004
def rSPL_TIMEOUT : Nat := 0x00A008
def rSPL_GATHER : Nat := 0x00A00C
def rSPL_KT_CTRL : Nat := 0x00A010
def rSPL_EVT_CTRL : Nat := 0x00A014
def rSPL_PERR_STATUS : Nat := 0x00A018
def rSPL_TAGS : Nat := 0x00A01C
def rSPL_ROUTE_RANGE (r : Nat) : Nat := 0x00A040 + 4 * r
def rSPL_ROUTE_PORT (r : Nat) : Nat := 0x00A080 + 4 * r
def rSPL_PERR (i w : Nat) : Nat := 0x00A100 + 0x10 * i + 4 * w
def rSP (p off : Nat) : Nat := 0x00A400 + 0x100 * p + off
def rSP_CTRL (p : Nat) : Nat := rSP p 0x00
def rSP_STATUS (p : Nat) : Nat := rSP p 0x04
def rSP_PARTNER (p : Nat) : Nat := rSP p 0x08
def rSP_REPLAY (p : Nat) : Nat := rSP p 0x0C
def rSP_FC (p : Nat) : Nat := rSP p 0x10
def rSP_LINKQ (p : Nat) : Nat := rSP p 0x14
def rSP_ERR (p : Nat) : Nat := rSP p 0x18
def rSP_DROP (p : Nat) : Nat := rSP p 0x1C
def rSP_TIME (p : Nat) : Nat := rSP p 0x20
def rSP_TEST (p : Nat) : Nat := rSP p 0x24
def rSP_TEST_RX (p : Nat) : Nat := rSP p 0x28
def rSP_TEST_ERR (p : Nat) : Nat := rSP p 0x2C

/-! STC (R364): channel `c`. -/

def rSTC (c off : Nat) : Nat := 0x00B000 + 0x100 * c + off
def rSTC_CTRL (c : Nat) : Nat := rSTC c 0x00
def rSTC_STATUS (c : Nat) : Nat := rSTC c 0x04
def rSTC_XFER_OK (c : Nat) : Nat := rSTC c 0x08
def rSTC_XFER_FAIL (c : Nat) : Nat := rSTC c 0x0C
def rSTC_FAIL_LAST (c : Nat) : Nat := rSTC c 0x10
def rSTC_ENC_LO (c : Nat) : Nat := rSTC c 0x14
def rSTC_ENC_HI (c : Nat) : Nat := rSTC c 0x18
def rSTC_DEC_LO (c : Nat) : Nat := rSTC c 0x1C
def rSTC_DEC_HI (c : Nat) : Nat := rSTC c 0x20
def rSTC_PLAIN_LO (c : Nat) : Nat := rSTC c 0x24
def rSTC_PLAIN_HI (c : Nat) : Nat := rSTC c 0x28
def rSTC_LATENCY (c : Nat) : Nat := rSTC c 0x2C

/-! DOM (R320, R349). -/

def rDOM_STATE : Nat := 0x00C000
def rDOM_SLOTS : Nat := 0x00C004
def rDOM_REVOKED : Nat := 0x00C008
def rDOM_DCACHE : Nat := 0x00C00C
def rDOM_DCACHE_MISS : Nat := 0x00C010
def rDOM_HELD : Nat := 0x00C014
def rDOM_FETCH_FAIL : Nat := 0x00C018
def rDOM_DRBG : Nat := 0x00C01C
def rDOM_UID (w : Nat) : Nat := 0x00C020 + 4 * w
def rDOM_TRUST : Nat := 0x00C100
def rDOM_POLICY : Nat := 0x00C104
def rDOM_KUM_CTR_LO : Nat := 0x00C108
def rDOM_KUM_CTR_HI : Nat := 0x00C10C
def rDOM_IMAGE_GEN_LO : Nat := 0x00C110
def rDOM_IMAGE_GEN_HI : Nat := 0x00C114
def rDOM_PERSIST : Nat := 0x00C118
def rDOM_RPMB_ADDR : Nat := 0x00C11C
def rDOM_RPMB_WCNT_LO : Nat := 0x00C120
def rDOM_RPMB_WCNT_HI : Nat := 0x00C124
def rDOM_LC_NONCE (i : Nat) : Nat := 0x00C130 + 4 * i
def rDOM_AUTH_FUSE : Nat := 0x00C150
def rDOM_LAST_REJECT : Nat := 0x00C154

/-! TMP (R474). -/

def rTMP_CTRL : Nat := 0x00D000
def rTMP_LEVEL : Nat := 0x00D004
def rTMP_DEBOUNCE : Nat := 0x00D008
def rTMP_TEMP_LIMIT : Nat := 0x00D00C
def rTMP_STATUS : Nat := 0x00D010
def rTMP_LOOP_PEER : Nat := 0x00D014
def rTMP_TEMP : Nat := 0x00D018
def rTMP_LATCH : Nat := 0x00D01C
def rTMP_COUNT : Nat := 0x00D020
def rTMP_LAST : Nat := 0x00D024

/-! DBL (R39). -/

def rDBL_SQ (n : Nat) : Nat := 0x010000 + 0x400 * n
def rDBL_CQ (n : Nat) : Nat := 0x010004 + 0x400 * n

/-- Is `off` one of `n` registers spaced `step` apart from `base`? -/
def inArr (off base step n : Nat) : Bool :=
  base ≤ off && (off - base) % step == 0 && (off - base) / step < n

/-- The reset value of each register whose bits the block stores by offset (the Reset columns of R67, R78, R170,
R171, R219, R220, R257, R364, R402, R447, R474, R475, R494 and of the ring pair table). SPL_NODE and SPL_ACCESS have the value
of a part out of MANUFACTURE here; `spireResetRegs` writes the value of a part in MANUFACTURE (R447). -/
def regReset (off : Nat) : Word :=
  if off < 0x1000 then
    if off = rPG_OPS 0 then 0x7F else if off = rPG_KEYGRP 0 then 0xFF else if off = rPG_PORTS 0 then 0xFFFFFF else 0
  else if off < 0x2000 then
    if off = rPWR_REQ then 3 else if off = rPWR_DOMAIN then 0xFF else if off = rPWR_SWITCH then 0x14 else 0
  else if off < 0x4000 then
    if off = rLOG_CTRL then 0x200 else 0
  else if off < 0x6000 then
    if inArr off (rRING_SIZE 0) 0x80 64 then 0x404 else 0
  else if off < 0x7000 then
    if off = rTWR_TEST then 0x0A else if inArr off (rTWR_ITBL 0) 4 16 then 0xFAC688
    else if off = rBELFRY_CTRL then 0x1388 else if off = rBELFRY_BUDGET then 0x200 else 0
  else if off < 0x8000 then
    if inArr off (rPPL_EG_CTRL 0) 0x400 4 then 1 else if inArr off (rPPL_IG_LEARN 0) 0x400 4 then 0x100
    else if inArr off (rPPL_IG_AGE 0) 0x400 4 then 0x3E8 else if inArr off (rPPL_IG_HOLD 0) 0x400 4 then 0x14 else 0
  else if off < 0x9000 then
    if inArr off (rPA_EG_MAXLEN 0) 0x80 24 then 0x5F2 else if inArr off (rPA_IG_MAXLEN 0) 0x80 24 then 0x612
    else if inArr off (rPA_IG_LEARN 0) 0x80 24 then 0x10 else 0
  else if off < 0xA000 then
    if off = rLC_INCR_HI then 0x200 else if off = rTMU_LAUNCH then 0x190 else if off = rTMU_LAUNCH_AHEAD then 0x0F4240
    else if inArr off (rD_CTRL 0) 0x20 2 then 0xF4 else if inArr off (rD_KP 0) 0x20 2 then 0x1800
    else if inArr off (rD_KI 0) 0x20 2 then 0x400 else if inArr off (rD_STEP 0) 0x20 2 then 0x2710 else 0
  else if off < 0xB000 then
    if off = rSPL_TIMEOUT then 0x1403E8 else if off = rSPL_GATHER then 0x32 else if off = rSPL_EVT_CTRL then 0x3000
    else if inArr off (rSP_CTRL 0) 0x100 3 then 0xC else if inArr off (rSP_REPLAY 0) 0x100 3 then 0xFA0
    else if inArr off (rSP_FC 0) 0x100 3 then 0x10 else 0
  else if off < 0xC000 then
    if inArr off (rSTC_CTRL 0) 0x100 2 then 2 else 0
  else if off < 0xD000 then 0
  else
    if off = rTMP_LEVEL then 0x8655 else if off = rTMP_DEBOUNCE then 0x32
    else if off = rTMP_TEMP_LIMIT then 0xC713 else if off = rTMP_STATUS then 0xDB6 else 0

/-- The bits of a register that a read clears (access code RC of R9). -/
def regRc (off : Nat) : Word :=
  if off < 0x2000 then (if off = rPWR_TIMING then 0xFFFFFF else 0)
  else if off < 0x6000 then (if inArr off (rEVT_RING_LOST 0) 0x20 8 then 0xFFFFFF else 0)
  else if off < 0x7000 then
    if inArr off (rTWR_TOW_MISS 0) 0x10 8 || inArr off rBELFRY_STAGED 4 5 then 0xFFFFFF
    else if inArr off (rTWR_TOW_CTX 0) 0x10 8 then 0x1F00 else 0
  else if off < 0x8000 then
    if inArr off (rPPL_EG_FAULT 0) 0x400 4 then 0xFFFFFF else if inArr off (rPPL_IG_PARITY 0) 0x400 4 then 0xFF7FFF else 0
  else if off < 0x9000 then
    if inArr off (rPA_EG_LATENCY 0) 0x80 24 then 0xFFF else if inArr off (rPA_IG_LATENCY 0) 0x80 24 then 0xFFFFFF else 0
  else if off < 0xA000 then (if inArr off (rP_CAL_UNUSED 0) 0x20 24 then 0xFFFFFF else 0)
  else if off < 0xB000 then
    if off = rSPL_PERR_STATUS then 0xFFF000
    else if inArr off (rSP_ERR 0) 0x100 3 || inArr off (rSP_DROP 0) 0x100 3 || inArr off (rSP_TEST_RX 0) 0x100 3
        || inArr off (rSP_TEST_ERR 0) 0x100 3 then 0xFFFFFF else 0
  else if off < 0xC000 then
    if inArr off (rSTC_XFER_OK 0) 0x100 2 || inArr off (rSTC_XFER_FAIL 0) 0x100 2
        || inArr off (rSTC_FAIL_LAST 0) 0x100 2 then 0xFFFFFF
    else if inArr off (rSTC_LATENCY 0) 0x100 2 then 0xFFF else 0
  else if off < 0xD000 then
    if off = rDOM_DCACHE_MISS || off = rDOM_FETCH_FAIL || off = rDOM_DRBG || off = rDOM_LAST_REJECT then 0xFFFFFF else 0
  else 0

end Sys2Proof.Machine
end

