-- ==== Sys2Proof/Machine/DomeTypes.lean ====
section
/-! DEFINITION. Sys2Proof/Machine/DomeTypes.lean: the data of the Dome (R283 to R349): key slots, preceding keys, the
derived-key cache, the random bit generator, the fuses, persistence, measurements. -/

namespace Sys2Proof.Machine

/-- State of a slot (R287). -/
inductive SlotSt where
  | empty | loaded | revoked
deriving DecidableEq, Repr

/-- A key slot (R283, R285). `attr` holds attribute bits [9:0]; a generation of `none` is the one drawn at cold start. -/
structure Slot where
  st : SlotSt := .empty
  attr : Nat := 0
  testRoot : Bool := false
  claim : Bool := false
  ick : Bool := false
  gen : Option Nat := none
  key : List (BitVec 8) := []
  /-- The first of the two stored shares, r; the second is the key XOR r (R341). -/
  share : List (BitVec 8) := []
deriving DecidableEq, Repr

/-- A preceding key that the Dome holds for items dispatched before an UPDATE (R271, R296). -/
structure Held where
  slot : Nat
  gen : Nat
  body : Slot
deriving DecidableEq, Repr

/-- What a key is asked for (R289). -/
inductive Use where
  | link | stor | job | sign | wrap | mkaCak | mkaIck
deriving DecidableEq, Repr

/-- Tag of a derived-key cache entry (R295): parent slot, its generation, label, use, length in bytes. -/
structure DTag where
  slot : Nat
  gen : Nat
  label : Nat
  use : Use
  len : Nat
  /-- A parity upset of the entry, set by no command. -/
  bad : Bool := false
deriving DecidableEq, Repr

/-- DOM_STATE STATE (R308). -/
inductive DomeSt where
  | cold | loading | ready | alarmed
deriving DecidableEq, Repr

/-- Life-cycle states (R338). -/
inductive LifeCycle where
  | manufacture | sealed | fieldDebug | returned
deriving DecidableEq, Repr

/-- The one-time fuses (R320 to R322, R336 to R338). -/
structure Fuses where
  uid : Nat := 0
  defect : Nat := 0
  life : LifeCycle := .manufacture
  hybrid : Bool := false
  prov : Bool := false
  eccHash : Tab (List (BitVec 8)) := []
  pqHash : Tab (List (BitVec 8)) := []
  prodDestroyed : Bool := false
deriving DecidableEq, Repr

/-- One persistent key of the key image (R329). -/
structure PKey where
  slot : Nat
  attr : Nat
  key : List (BitVec 8)
deriving DecidableEq, Repr

/-- The RPMB commit record as the Dome holds it (R330). -/
structure Record where
  counter : Nat := 0
  imageGen : Nat := 0
  policy : Nat := 0
  bank : Nat := 0
  imageHash : List (BitVec 8) := []
deriving DecidableEq, Repr

/-- A pending commit (R332): the new record, the keys of the new image, the slots that its records write or destroy in their order,
the hash of the message, whether it re-arms. -/
structure PendingCommit where
  record : Record
  keys : List PKey
  ops : List (Nat × Option PKey)
  kumHash : List (BitVec 8)
  rearm : Bool
deriving DecidableEq, Repr

/-- The Dome. -/
structure Dome where
  st : DomeSt := .cold
  slots : Tab Slot := []
  /-- The draw that numbers the cold-start generations (R288). -/
  genBase : Nat := 0
  /-- The draw that keys the address permutation of the slot memory (R341). -/
  permBase : Nat := 0
  held : List Held := []
  dcache : List DTag := []
  drbgOk : Bool := false
  /-- A restart after a failed health test or start-up test is under way (R307). -/
  drbgRetry : Bool := false
  drbgFails : Nat := 0
  drbgDown : Bool := false
  drbgCalls : Nat := 0
  /-- A disturbance of the next dual computation (R341): set by no command, the environment's. -/
  upset : Bool := false
  debug : Bool := false
  record : Record := {}
  recordValid : Bool := false
  recordBlank : Bool := false
  imageLost : Bool := false
  commit : Option PendingCommit := none
  writeCnt : Nat := 0
  nonce : Option (List (BitVec 8)) := none
  lcNonce : List (BitVec 8) := []
  meas : Tab (List (BitVec 8)) := []
deriving DecidableEq, Repr

end Sys2Proof.Machine
end

