-- ==== Sys2Proof/Machine/HostTypes.lean ====
section
/-! DEFINITION. Sys2Proof/Machine/HostTypes.lean: the data of the Host Ring Engine, the event unit and the event log:
completions, descriptors in a ring's window, ring pairs, the staged commit group, event rings, log entries. -/

namespace Sys2Proof.Machine

/-- The status codes of R51. -/
inductive Status where
  | ok | badDesc | perm | keyDenied | keyStale | keyRevoked | keyEmpty | authFail | alarm | linkLost | remoteErr
  | timeout | retry | noRoom | pnExhausted | capacity | commitFail | lifecycle | aborted
deriving DecidableEq, Repr

/-- What a descriptor's execution answers: the status with the fields of completion words W3, W4, W5 and W7 (R48). -/
structure Res where
  st : Status := .ok
  reason : Nat := 0
  word : Nat := 0
  detail : Nat := 0
  result : Nat := 0
  ext : Nat := 0
deriving DecidableEq, Repr

/-- A completion as generated: its answer and the instant of R50, waiting to be written (R48). -/
structure Comp where
  res : Res
  time : Nat
  notime : Bool
deriving DecidableEq, Repr

/-- Where a fetched descriptor stands. -/
inductive EntSt where
  | waiting
  | running
  | done (c : Comp)
deriving DecidableEq, Repr

/-- A descriptor fetched and not yet completed (R36): its SQ index, the acceptance number of the doorbell that posted it
(R43), its words, whether it was readable, whether it is a member of a commit group, whether its CQ slot is reserved, and,
for a group member, the answer of the step of R46 that it failed at fetch (R59). -/
structure Ent where
  idx : Nat
  seq : Nat
  words : List Word
  readable : Bool := true
  member : Bool := false
  slot : Bool := false
  bad : Option Res := none
  st : EntSt := .waiting
  /-- Its completion was kept after a CQ write error and is not written yet (R73). -/
  kept : Bool := false
deriving DecidableEq, Repr

/-- STATE of a ring pair. -/
inductive RState where
  | disabled | running | stopping | stopped
deriving DecidableEq, Repr

/-- The commit group in a ring's group window (R59 to R61): none, open (END not fetched), ended (END fetched, with the order
number of that fetch), staged. -/
inductive Grp where
  | none
  | opened
  | ended (order : Nat)
  | staged
deriving DecidableEq, Repr

/-- A ring pair (R35 to R38, R70 to R76). Its bases, sizes and notification settings are registers. -/
structure Ring where
  state : RState := .disabled
  /-- ENABLE of HRE_RINGn_CTRL. -/
  en : Bool := false
  err : Nat := 0
  errIdx : Nat := 0
  sqHead : Nat := 0
  sqTail : Nat := 0
  cqTail : Nat := 0
  cqHead : Nat := 0
  phase : Bool := true
  ccnt : Nat := 0
  /-- Posted and not fetched: runs of (count, acceptance number), oldest first (R40, R43). -/
  posted : List (Nat × Nat) := []
  window : List Ent := []
  grp : Grp := .none
  /-- Completions written since the last notification, and the clock at which the timer runs out (R76). -/
  unnot : Nat := 0
  timer : Option Nat := none
  /-- Completion writing is suspended after a write error (R73). -/
  held : Bool := false
deriving DecidableEq, Repr

/-- An object that a staged commit group creates, changes or deletes (R60). -/
inductive Obj where
  | secy (i : Nat)
  | secyOn (port i : Nat)
  | rxsc (i : Nat)
  | sa (i : Nat)
  | an (rx : Bool) (channel an : Nat)
  | claim (slot : Nat)
  | belfry (sa : Nat)
  | pair (port sci : Nat)
  | tree (k : Nat)
  | shadow (k : Nat)
  | cal (p : Nat)
  | arm (secy : Nat)
  /-- An association with CUT on a receive channel (R101). -/
  | cutOn (rxsc : Nat)
  /-- Dependants that the group creates: of a SecY, associations of a SecY, associations of a receive channel. -/
  | dep (secy : Nat)
  | depSa (secy : Nat)
  | depCh (rxsc : Nat)
deriving DecidableEq, Repr

/-- A raised event on its way to the pending bits, its event ring and the log (R529). -/
structure Event where
  src : Nat
  inst : Nat
  detail : Nat
  sev : Nat
  /-- The event ring whose loss an HR_EVR_OVERFLOW reports: no second entry goes there (R80). -/
  skip : Option Nat := none
deriving DecidableEq, Repr

/-- An event-ring entry in a write queue (R79): its event, the time and sequence number taken when it was raised. -/
structure EvEntry where
  ev : Event
  time : Nat
  notime : Bool
  seq : Nat
deriving DecidableEq, Repr

/-- An event ring (R78, R80, R531). Its base and LOST are registers. -/
structure EvRing where
  enable : Bool := false
  log2 : Nat := 4
  tail : Nat := 0
  phase : Bool := true
  cfgErr : Bool := false
  head : Nat := 0
  seq : Nat := 0
  queue : List EvEntry := []
  /-- Entries lost and not yet reported by HR_EVR_OVERFLOW (R80). -/
  lost : Nat := 0
deriving DecidableEq, Repr

/-- A log entry: the four words of R467. -/
structure LogEntry where
  w0 : Word := 0
  w1 : Word := 0
  w2 : Word := 0
  w3 : Word := 0
  /-- The entry fails parity on readout (R467): set by no command, the environment's. -/
  bad : Bool := false
deriving DecidableEq, Repr

/-- The AON event log (R466 to R472). -/
structure LogSt where
  next : Nat := 0
  wrapped : Bool := false
  total : Nat := 0
  unread : Nat := 0
  /-- LG_THRESH was raised and not yet rearmed by ACK (R472). -/
  threshed : Bool := false
  entries : Tab LogEntry := []
  /-- Events on their way to the log (R466). -/
  queue : List LogEntry := []
  epoch : Nat := 0
deriving DecidableEq, Repr

end Sys2Proof.Machine
end

