-- ==== Sys2Proof/Machine/LinkTypes.lean ====
section
/-! DEFINITION. Sys2Proof/Machine/LinkTypes.lean: the objects of the protection model (R82 to R104): SecYs with their
transmit channels, receive channels, associations, armed switches, packet-number leases and lease marks. -/

namespace Sys2Proof.Machine

/-- A SecY and its transmit channel. `settings` is W4 of SECY_SET with CREATE read as 0 (R118); the counters are numbered
in the order of R104, those of the transmit channel in `txCnt`. -/
structure Secy where
  valid : Bool := false
  /-- The number of its creation: frames in flight count only in the SecY that they began under (R103, R183). -/
  serial : Nat := 0
  settings : Word := 0
  window : Nat := 0
  sci : Nat := 0
  cnt : Tab Nat := []
  txCnt : Tab Nat := []
deriving DecidableEq, Repr

/-- A receive channel. -/
structure Rxsc where
  valid : Bool := false
  /-- The number of its creation, as for a SecY. -/
  serial : Nat := 0
  secy : Nat := 0
  fwdOnly : Bool := false
  enable : Bool := false
  idle : Bool := false
  sci : Nat := 0
  cnt : Tab Nat := []
deriving DecidableEq, Repr

/-- State of an association (R99). -/
inductive AState where
  | free | installed | inUse | exhausted
deriving DecidableEq, Repr

/-- A lease record on its way (R275 to R277): the PN it ends at, whether the AON and the partner have confirmed it, when it
was first sent to the partner (requested, while `sent` is false), whether the 100 µs have passed, it was refused or its link went down, and
when it is sent again. -/
structure LeaseReq where
  endPn : Nat
  aon : Bool := false
  partner : Bool := false
  since : Nat := 0
  sent : Bool := false
  late : Bool := false
  resendAt : Nat := 0
  /-- Why it is late: the cause that EG_MIRROR_LOST carries under MIRROR_BEST. -/
  cause : Nat := 0
deriving DecidableEq, Repr

/-- An association (R98). -/
structure Assoc where
  state : AState := .free
  /-- The number of its install: frames in flight count only in the association that they were bound to. -/
  serial : Nat := 0
  rx : Bool := false
  channel : Nat := 0
  an : Nat := 0
  kref : Nat := 0
  label : Nat := 0
  nextPn : Nat := 0
  lowestPn : Nat := 0
  leaseEnd : Nat := 0
  threshPn : Nat := 0
  threshSent : Bool := false
  ssci : Nat := 0
  salt : Nat := 0
  scheduled : Bool := false
  mirrored : Bool := false
  best : Bool := false
  cut : Bool := false
  leaseLog2 : Nat := 16
  partner : Nat := 0
  spent : Bool := false
  belfry : Option Nat := none
  /-- The first frame since install has verified (R282). -/
  seen : Bool := false
  req : Option LeaseReq := none
  /-- Mirroring is lost under MIRROR_BEST (R277); frames are stalled under MIRROR_REQUIRED (R148). -/
  mirrorLost : Bool := false
  stalled : Bool := false
  cnt : Tab Nat := []
deriving DecidableEq, Repr

/-- When an armed switch fires (R266). -/
inductive Trigger where
  | atPn (pn : Nat)
  /-- The working-clock instant in ns at which the armed AT_TIME lies. -/
  | atTime (t : Nat)
deriving DecidableEq, Repr

/-- An armed switch of a transmit channel (R265). -/
structure Armed where
  target : Nat
  trigger : Trigger
deriving DecidableEq, Repr

/-- A lease mark of the AON (R274). -/
structure Mark where
  valid : Bool := false
  sa : Nat := 0
  mark : Nat := 0
deriving DecidableEq, Repr

/-- A mirrored SA_INSTALL or SA_ADJUST that waits for the partner's answer (R262, R270): its ring and SQ index, or its place in the staged
group that it is a member of; and the association that it will leave. -/
structure MirrorOp where
  ring : Nat
  idx : Nat
  staged : Bool
  adjust : Bool
  plan : Assoc
  endPn : Nat
  since : Nat
deriving DecidableEq, Repr

/-- The staged commit group (R60): its ring, the objects it creates, the objects it holds, the associations planned at
staging (with their lease already recorded), and the associations whose record the partner has still to confirm. -/
structure Staged where
  ring : Nat
  creates : List Obj
  holds : List Obj
  plans : List (Nat × Assoc)
  waits : List Nat
deriving DecidableEq, Repr

end Sys2Proof.Machine
end

