-- ==== Sys2Proof/Machine/PipeTypes.lean ====
section
/-! DEFINITION. Sys2Proof/Machine/PipeTypes.lean: the data of the four pipelines and the 24 Port Adapters (R123 to R220):
classifier trees, SCI lookup tables, egress and ingress frames in flight, the return queue. -/

namespace Sys2Proof.Machine

/-- A classifier node (R133). -/
structure TNode where
  w0 : Word := 0
  w1 : Word := 0
  w2 : Word := 0
  w3 : Word := 0
deriving DecidableEq, Repr

/-- A tree bank (R132). -/
structure Bank where
  valid : Bool := false
  nodes : Nat := 0
  image : Tab TNode := []
deriving DecidableEq, Repr

/-- STATE of an SLT entry (R185). `reserved` is a way that staging keeps free for an RXSC_SET (R193): no lookup sees it. -/
inductive SltSt where
  | bound | pending | blocked | reserved
deriving DecidableEq, Repr

/-- An SLT entry (R185). -/
structure SltEnt where
  port : Nat
  sci : Nat
  st : SltSt
  rxsc : Nat := 0
  age : Bool := true
  idle : Bool := false
  epoch : Bool := false
  /-- The clock (plus 1) of the latest hit, 0 before one: in that clock the sweep neither idles nor removes the entry (R196). -/
  hitAt : Nat := 0
deriving DecidableEq, Repr

/-- A scrub in progress (R198): the table and LOC of the entry that failed its parity and is invalidated, and the receive channel whose
pair is to be inserted again. -/
structure Scrub where
  shadow : Bool
  loc : Nat
  rxsc : Option Nat
deriving DecidableEq, Repr

/-- An SLT: its seed and its entries by LOC (R184, R185). -/
structure Slt where
  seed : Nat := 0
  ents : Tab (Option SltEnt) := []
deriving DecidableEq, Repr

/-- SHADOW of PPL_IG_SLT (R199). -/
inductive ShadowSt where
  | empty | building | ready | failed
deriving DecidableEq, Repr

/-- A frame in a return queue (R138, R504). -/
structure RetFrame where
  id : Nat
  port : Nat
  trap : Nat
  rule : Nat
  bytes : List Byte
deriving DecidableEq, Repr

/-- A pipeline. -/
structure Ppl where
  bank0 : Bank := {}
  bank1 : Bank := {}
  actBank : Bool := false
  active : Slt := {}
  shadow : Slt := {}
  shSt : ShadowSt := .empty
  /-- The ring and SQ index of the SLT_SEED that builds the shadow (R200). -/
  seedCmd : Option (Nat × Nat) := none
  epoch : Bool := false
  /-- The clock (plus 1) of the latest sweep, 0 before one (R195). -/
  sweptAt : Nat := 0
  /-- Scrubs in progress (R198). -/
  scrubs : List Scrub := []
  /-- Ingress frames that wait for the insertion engine (R192), oldest first. -/
  learnQ : List Nat := []
  retQ : List RetFrame := []
deriving DecidableEq, Repr

/-- What stage 2 and 3 decided for an egress frame. -/
inductive EgAct where
  /-- Sent without protection; the send counter of R166 that counts it. -/
  | plain (counter : Nat)
  | protect
  | toHost (trap rule : Nat)
deriving DecidableEq, Repr

/-- Where an admitted egress frame stands: waiting for a lease record (R148), for reorder space (R158), for the return queue
(R138); ciphered by a tower; complete; started at the MAC. -/
inductive EgSt where
  | leaseWait | spaceWait | returnWait | cipher | whole
deriving DecidableEq, Repr

/-- A launch: late at admission (R388), a working-clock instant in ns (an explicit time, or a calendar launch kept at a
changeover, R399), or an instance of the port's calendar (R390). -/
inductive Launch where
  | late
  | instant (t : Int)
  | inst (i : Int)
deriving DecidableEq, Repr

/-- An egress frame in flight (R123 to R163). -/
structure EgFrame where
  port : Nat
  express : Bool
  /-- The announced length L (R123) and the bytes presented. -/
  len : Nat
  bytes : List Byte
  /-- It ends with pa_tx_err_o because of pa_eg_err_i or its byte count (R503). -/
  marked : Bool
  launch : Option Launch := none
  act : EgAct
  secy : Nat := 0
  /-- The number of the SecY's creation (R103, R139). -/
  ySerial : Nat := 0
  settings : Word := 0
  txSci : Nat := 0
  sa : Nat := 0
  serial : Nat := 0
  an : Nat := 0
  ssci : Nat := 0
  salt : Nat := 0
  pn : Nat := 0
  /-- Reorder space in 64-byte units (R158). -/
  units : Nat := 0
  st : EgSt := .whole
  started : Bool := false
  /-- The launch is due: LAUNCH_RELEASE has handed it off or sends it late. -/
  released : Bool := false
  /-- The Belfry slot it hit: the key and nonce of the staged keystream (R155). -/
  belfry : Option (List Byte × List Byte) := none
  /-- The bytes for the MAC once the tower has returned them. -/
  out : List Byte := []
  /-- A started frame that is aborted: the counter of its cause (R163). -/
  abort : Option Nat := none
  since : Nat := 0
deriving DecidableEq, Repr

/-- The latest frame on a MAC transmit interface (R505). -/
structure MacFrame where
  bytes : List Byte
  err : Bool
deriving DecidableEq, Repr

/-- The latest frame on a switch-core interface (R507). -/
structure CoreFrame where
  bytes : List Byte
  ts : Nat
  info : Nat
  abort : Bool
deriving DecidableEq, Repr

/-- Where a received frame stands: at the insertion engine, in a tower's hands, decided and waiting for its lane. -/
inductive IgSt where
  | learn | cipher | decided
deriving DecidableEq, Repr

/-- An ingress frame in flight (R172 to R214). -/
structure IgFrame where
  port : Nat
  express : Bool
  bytes : List Byte
  ts : Nat
  /-- Hold-buffer cells in use (R180). -/
  cells : Nat
  st : IgSt
  /-- Number of clear tags, and length of the SecTAG (0 without one). -/
  tags : Nat := 0
  tagLen : Nat := 0
  sci : Nat := 0
  /-- Length of the secure data (R93). -/
  n : Nat := 0
  secy : Option Nat := none
  /-- The numbers of the SecY's and of the channel's creation (R103, R183). -/
  ySerial : Nat := 0
  settings : Word := 0
  rxsc : Option Nat := none
  cSerial : Nat := 0
  an : Option Nat := none
  sa : Nat := 0
  serial : Nat := 0
  kref : Nat := 0
  label : Nat := 0
  ssci : Nat := 0
  salt : Nat := 0
  pn : Nat := 0
  cut : Bool := false
  /-- Some plaintext has gone to the switch core (R207). -/
  started : Bool := false
  /-- An outcome known with the frame's bytes: the counter of R216 and the bad-tag cause (R173, R174). -/
  late : Option (Nat × Nat) := none
  /-- The outcome (the counter of R216) once decided, with the delivered bytes. -/
  outcome : Nat := 0
  delayed : Bool := false
  out : List Byte := []
  since : Nat := 0
deriving DecidableEq, Repr

end Sys2Proof.Machine
end

