-- ==== Sys2Proof/Machine/PowerTypes.lean ====
section
/-! DEFINITION. Sys2Proof/Machine/PowerTypes.lean: the data of the power controller and the tamper monitor
(R448 to R461, R476 to R501). -/

namespace Sys2Proof.Machine

/-- STATE of PWR_STATE (R476, R494). -/
inductive PState where
  | run | idle | retain | off
deriving DecidableEq, Repr

/-- The transition in progress (R478, R479, R482, R483, R489): none, the exit from IDLE, an entry to RETAIN or OFF,
a wake (from RETAIN, or a cold start from OFF), or the switching of a PWR_DOMAIN write. -/
inductive Trans where
  | none
  | idleExit
  | entry (toOff : Bool)
  | wake (cold : Bool)
  | domains
deriving DecidableEq, Repr

/-- The power controller. -/
structure Pwr where
  state : PState := .off
  /-- The state that the transition in progress left. -/
  prev : PState := .off
  trans : Trans := .none
  stage : Nat := 0
  /-- Switches still to move, in order: domain and whether it closes (R479, R483, R489). -/
  todo : List (Nat × Bool) := []
  /-- The domain whose switch has closed and whose acknowledge is awaited, and the clock of the close (R500, R501). -/
  closing : Option (Nat × Nat) := none
  /-- The clock from which the next switch may move; none once PWR_SWITCH_STAGGER has come (R500). -/
  nextAt : Option Nat := none
  /-- The work of the domain that opens next has ended (R479). -/
  drained : Bool := false
  /-- Domains on, bit per domain (DOMAINS_ON), and switches closed (pwr_sw_o). -/
  on : Nat := 1
  sw : Nat := 0
  refuse : Nat := 0
  wakeHeld : Bool := false
  wakePin : Bool := false
  wakeO : Bool := false
  retO : Bool := false
  /-- Clocks present and stable: CK_SYS, CK_DP, CK_AES, CK_TS, CK_STC (R497). -/
  ckOk : Nat := 0
  /-- The retention island holds the Dome's state (R483), its context key, its copy of the retention counter. -/
  island : Bool := false
  ctxKey : Option (List (BitVec 8)) := none
  islandCnt : Nat := 0
  /-- Length of the latest context image (R487). -/
  imgLen : Nat := 0
  restoreReq : Bool := false
  restoring : Bool := false
  restoreAt : Nat := 0
  /-- Re-masking after a wake is in progress (R341, R489). -/
  remasking : Bool := false
  /-- The clocks of the latest wake request and of the latest stop. -/
  wakeAt : Nat := 0
  entryAt : Nat := 0
deriving DecidableEq, Repr

/-- One tamper loop's debounce (R451). -/
structure Loop where
  fault : Bool := false
  /-- The class that the latest TP_LOOP_FAULT carried. -/
  cls : Nat := 0
  bad : Nat := 0
  good : Nat := 0
deriving DecidableEq, Repr

/-- The tamper monitor. -/
structure Tmp where
  loops : Tab Loop := []
  shieldFault : Bool := false
  clockFault : Bool := false
  clockAt : Nat := 0
  tempFault : Bool := false
  tempBad : Nat := 0
  tempGood : Nat := 0
  /-- The pattern sequence's state (R449) and whether it waits to be reseeded at a window boundary. -/
  pattern : Nat := 1
  reseed : Bool := false
  /-- The pattern's state a window earlier, the windows that have ended, the latest shield evaluation in units of 4 CK_AON ticks, and the
  clock from which the next temperature sample is due (R450, R453). -/
  prevPattern : Nat := 1
  windows : Nat := 0
  shieldAt : Nat := 3
  tempAt : Nat := 0
  /-- Detections waiting for the alarm clock: source mask and highest level (R454, R456). -/
  pendMask : Nat := 0
  pendLevel : Nat := 0
  /-- The alarm clock of the latest response, as State.clock counted it (R75, R454). -/
  alarmAt : Option Nat := none
  /-- An erasure is in progress (R457), and the level of its response (R459). -/
  erasing : Bool := false
  eraseLevel : Nat := 0
  /-- LOADED_MARK (R335). The ALARMED latch and RESET_REQUIRED are bits of TMP_LATCH. -/
  loadedMark : Bool := false
deriving DecidableEq, Repr

end Sys2Proof.Machine
end

