-- ==== Sys2Proof/Machine/SpireTypes.lean ====
section
/-! DEFINITION. Sys2Proof/Machine/SpireTypes.lean: the data of Spire Link (R403 to R447): ports and their training, packets, tags,
locked sequences, key transfers, gathers, the posted-error log. -/

namespace Sys2Proof.Machine

/-- STATE of a port (R408). -/
inductive LinkSt where
  | down | training | active | retrain
deriving DecidableEq, Repr

/-- A training step (R406). -/
inductive TrainStep where
  | detect | poll | config | rate | active
deriving DecidableEq, Repr

/-- A packet's end-to-end fields (R412): H1 VC and TYPE, H2, H3 and the payload. -/
structure Pkt where
  vc : Nat
  ty : Nat
  dest : Nat
  src : Nat
  tag : Nat := 0
  epoch : Nat := 0
  hops : Nat := 0
  sub : Nat := 0
  payload : List Word := []
deriving DecidableEq, Repr

/-- A packet queued on a port: the port whose receive buffer it still occupies, and the SPL_WRITE descriptor that it completes. -/
structure QPkt where
  pkt : Pkt
  from_ : Option Nat := none
  own : Option (Nat × Nat) := none
deriving DecidableEq, Repr

/-- A packet in a replay buffer (R414): its sequence number. -/
structure RPkt where
  seq : Nat
  pkt : Pkt
  fwd : Bool
deriving DecidableEq, Repr

/-- What a lane has received in the present training: the LANE number of its TS1 (the peer's physical lane), whether it has had
64 good TS1 in a row, the run of them, the logical LANE number of its TS2 and their run, whether it is inverted (R405 to R407). -/
structure Lane where
  sent : Option Nat := none
  good : Bool := false
  ts1 : Nat := 0
  num : Option Nat := none
  ts2 : Nat := 0
  inv : Bool := false
deriving DecidableEq, Repr

/-- A port. -/
structure SPort where
  st : LinkSt := .down
  step : TrainStep := .detect
  stepAt : Nat := 0
  /-- Lanes whose detection has ended, and those with a receiver. -/
  detDone : Nat := 0
  present : Nat := 0
  locked : Nat := 0
  lockLost : Option Nat := none
  lane0 : Lane := {}
  lane1 : Lane := {}
  lane2 : Lane := {}
  lane3 : Lane := {}
  peerWidths : Nat := 0
  peerRates : Nat := 0
  /-- RX_OK of the peer's TS1, in this port's physical lane numbers, and of its TS2, in logical ones (R407). -/
  peerOk : Nat := 0
  peerRx : Nat := 0
  peerNode : Nat := 0
  peerPort : Nat := 0
  /-- The rate asked of the PLL (spl_rate_o), and whether the PLL runs at it. -/
  rate2 : Bool := false
  rateOk : Bool := false
  width : Nat := 0
  gen2 : Bool := false
  lanesOk : Nat := 0
  reversed : Bool := false
  inverted : Nat := 0
  partner : Option (Nat × Nat) := none
  retrainAt : Nat := 0
  retrainCause : Nat := 0
  txSeq : Nat := 0
  rxSeq : Nat := 0
  /-- Accepted packets that no sent packet has acknowledged (R416), and since when nothing was sent. -/
  ackDue : Bool := false
  sentAt : Nat := 0
  queue : List QPkt := []
  replay : List RPkt := []
  /-- Sequence numbers still to be resent (R415). -/
  resend : List Nat := []
  replayAt : Nat := 0
  /-- Replay expiries in a row, retrains in a row without an acknowledgement, clocks of the latest CRC failures. -/
  expiries : Nat := 0
  retrains : Nat := 0
  crcAt : List Nat := []
  /-- CRC failures and overruns since the last SP_LINK_ERR. -/
  crcSince : Nat := 0
  ovrSince : Nat := 0
  xoffTx : Nat := 0
  xoffRx : Nat := 0
  /-- The last VC of the round-robin group that sent. -/
  rr : Nat := 1
  /-- Gen1 framing is lost, with the lock of every lane in use (R404; assumption log 31). -/
  framingLost : Bool := false
  testNext : Nat := 1
  testWant : Option Nat := some 1
  /-- The words of the latest packet sent, and the byte slot of the stream, modulo 4, that its packet start stands in (R404). -/
  line : List Word := []
  lineAt : Nat := 0
deriving DecidableEq, Repr

/-- What an outstanding tag is for (R424, R425). -/
inductive TagUse where
  | read | locked | key | bcast
deriving DecidableEq, Repr

/-- A tag in use, or freed by TIMEOUT and not to be taken until the epoch changes or a clock is reached (R425). -/
inductive Tag where
  | free
  | used (use : TagUse) (ring idx epoch port deadline : Nat)
  | posted
  | parked (until_ : Nat)
deriving DecidableEq, Repr

/-- A nonce that a far node holds for a transfer (R437). -/
structure OpenNonce where
  src : Nat
  tag : Nat
  target : Nat
  attr : Nat
  gen : Nat
  expGen : Nat
  nonce : List (BitVec 8)
  since : Nat
  /-- A tamper response fell on the transfer (R437). -/
  alarm : Bool := false
deriving DecidableEq, Repr

/-- A gather under way (R443): where its CPL goes (none at the origin), the ports awaited, what has been counted. -/
structure Gather where
  src : Nat
  tag : Nat
  epoch : Nat
  back : Option Nat
  awaited : List Nat
  count : Nat
  fails : Nat
  low : Nat
  deadline : Nat
deriving DecidableEq, Repr

/-- The locked sequence that holds the near bus (R429): its tag and the node it goes to. -/
structure NearHold where
  tag : Nat
  node : Nat
  deadline : Nat
deriving DecidableEq, Repr

/-- A Spire time exchange in progress for a domain (R438): T1 in the domain's time and in LC, when the next REQ is due. -/
structure TimeReq where
  sent : Bool := false
  t1Dom : Nat := 0
  t1Lc : Nat := 0
  nextAt : Nat := 0
deriving DecidableEq, Repr

/-- Spire Link. -/
structure Spire where
  ports : Tab SPort := []
  epoch : Nat := 0
  /-- A tree node has its ID (R423). -/
  hasId : Bool := false
  tags : Tab Tag := []
  nextTag : Nat := 0
  nonces : List OpenNonce := []
  gathers : List Gather := []
  hold : Option NearHold := none
  /-- Accepted accesses to the near bus that wait while it is held, with the port each arrived on (R429). -/
  busWait : List (Nat × Pkt) := []
  /-- The register slave port served Spire Link last, not the host (R426). -/
  lastFar : Bool := false
  perrNext : Nat := 0
  perrValid : Nat := 0
  time0 : TimeReq := {}
  time1 : TimeReq := {}
deriving DecidableEq, Repr

end Sys2Proof.Machine
end

