-- ==== Sys2Proof/Machine/StcTypes.lean ====
section
/-! DEFINITION. Sys2Proof/Machine/StcTypes.lean: the data of the storage channels (R350 to R364). -/

namespace Sys2Proof.Machine

/-- A configuration entry (R357). `lost`: the latest resolution failed. -/
structure StcCfg where
  valid : Bool := false
  alg : Bool := false
  dus : Bool := false
  dataKref : Nat := 0
  dataLabel : Nat := 0
  tweakKref : Nat := 0
  tweakLabel : Nat := 0
  lastStatus : Nat := 0
  lost : Bool := false
deriving DecidableEq, Repr

/-- A data unit that has arrived: its item number, its data, what the tower returned, and when its first block arrived. -/
structure StcUnit where
  id : Nat
  data : List (BitVec 8)
  out : Option (List (BitVec 8)) := none
  since : Nat := 0
deriving DecidableEq, Repr

/-- An accepted transfer (R350 to R355), with the entry it took. -/
structure StcXfer where
  tag : Nat
  fromDev : Bool
  ce : Bool
  cfg : Nat
  dun : Nat
  len : Nat
  entry : StcCfg := {}
  units : List StcUnit := []
  /-- Bytes that do not make up a data unit yet, and all bytes presented. -/
  buf : List (BitVec 8) := []
  got : Nat := 0
  /-- When the first block of the next data unit arrived (R362). -/
  since : Nat := 0
  last : Bool := false
  /-- The failure, and the number of the data unit from which bytes return as zero. -/
  fail : Option (Res × Nat) := none
deriving DecidableEq, Repr

/-- The latest transfer returned on an output (R513). -/
structure StcOut where
  tag : Nat
  status : Nat
  bytes : List (BitVec 8)
deriving DecidableEq, Repr

/-- A request (R350). -/
structure StcReq where
  tag : Nat
  fromDev : Bool
  ce : Bool
  cfg : Nat
  dun : Nat
  len : Nat
deriving DecidableEq, Repr

/-- A storage channel: its accepted transfers oldest first, its entries, a request that waits for its TAG. -/
structure Stc where
  xfers : List StcXfer := []
  cfgs : Tab StcCfg := []
  tagWait : Option StcReq := none
  out0 : Option StcOut := none
  out1 : Option StcOut := none
deriving DecidableEq, Repr

end Sys2Proof.Machine
end

