-- ==== Sys2Proof/Machine/TimeTypes.lean ====
section
/-! DEFINITION. Sys2Proof/Machine/TimeTypes.lean: the data of the Time Unit (R374 to R395). Times are counts of 2^-32 ns,
modulo 2^96: 64 bits of nanoseconds and 32 of fraction. -/

namespace Sys2Proof.Machine

/-- State of a domain (R379). -/
inductive DState where
  | invalid | locked | holdover
deriving DecidableEq, Repr

/-- A domain: its time, RATE and I in units of 2^-32, its state, and the clock at which its loss limit expires (R382). -/
structure Domain where
  time : Nat := 0
  rate : Int := 0
  integ : Int := 0
  st : DState := .invalid
  lossAt : Nat := 0
  /-- Latest sample offset in ns, saturating (TMU_Dk_OFS). -/
  ofs : Int := 0
deriving DecidableEq, Repr

/-- A calendar bank (R389): BASE and CYCLE in ns, entries of OFFSET and SecY. -/
structure CalBank where
  valid : Bool := false
  base : Nat := 0
  cycle : Nat := 0
  entries : List (Nat × Nat) := []
deriving DecidableEq, Repr

/-- A pending changeover (R399): STOP or the bank to activate, and the boundary (by its cycle number) at which it happens. -/
structure CalPend where
  stop : Bool
  bank : Nat
  cycle : Int
deriving DecidableEq, Repr

/-- A port's calendar. Instance `(k, j)` is numbered `k * COUNT + j`; `seen` is the first instance not yet passed, `claimed`
holds the claimed ones not yet passed. -/
structure Cal where
  bank0 : CalBank := {}
  bank1 : CalBank := {}
  running : Bool := false
  active : Nat := 0
  pend : Option CalPend := none
  claimed : List Int := []
  seen : Int := 0
deriving DecidableEq, Repr

/-- Source of the working clock (TMU_WC SOURCE). -/
inductive WcSrc where
  | lc | d0 | d1
deriving DecidableEq, Repr

/-- The Time Unit. -/
structure Tmu where
  lc : Nat := 0
  d0 : Domain := {}
  d1 : Domain := {}
  wc : Nat := 0
  /-- The latest nanosecond of the working clock that lies before the present clock: the instants that the clock contains are later (R391). -/
  wcWas : Int := -1
  src : WcSrc := .lc
  sel : Nat := 0
  slewing : Bool := false
  /-- LC bit 31 has changed and TM_HALFWRAP is due (R377). -/
  halfDue : Bool := false
  cals : Tab Cal := []
  /-- Cycle sync (R394, R395): PULL, the latest error, pulls waiting for the first boundary not before a working-clock time
  (`none` clears PULL), the interval of the latest counting edge or of the start of the count. -/
  pull : Int := 0
  syncErr : Int := 0
  pulls : List (Option Int × Nat) := []
  lost : Bool := false
  edgeAt : Option Int := none
  /-- The working-clock ns of the latest edge that counted (R394). -/
  lastEdge : Option Int := none
deriving DecidableEq, Repr

end Sys2Proof.Machine
end

