-- ==== Sys2Proof/Machine/TowerTypes.lean ====
section
/-! DEFINITION. Sys2Proof/Machine/TowerTypes.lean: the data of the cipher array and the Belfry (R221 to R257): items, towers,
their expanded-key caches, Belfry slots. -/

namespace Sys2Proof.Machine

/-- Whose work an item is (R222): an egress or ingress frame of the same number, a Belfry staging, a storage data unit of
the same number, the cipher work of a descriptor. -/
inductive ItemKind where
  | eg
  | ig
  | staging (slot : Nat)
  | unit
  | job (ring idx : Nat)
deriving DecidableEq, Repr

/-- Where an item stands: at the crossbar, in a tower's input queue, in an active context, in the context store. -/
inductive ItemSt where
  | crossbar | queued | active | suspended
deriving DecidableEq, Repr

/-- A key that an item names. -/
structure KeyReq where
  kref : Nat
  label : Nat
  use : Use
  len : Nat
deriving DecidableEq, Repr

/-- A key that a dispatched item is to take, or has taken: the request, and the slot's generation, state and attributes at the dispatch, without
a key (R271, R291, R315). -/
structure Take where
  req : KeyReq
  gen : Nat
  body : Slot
deriving DecidableEq, Repr

/-- An item (R222): its scheduling class 0 to 3, its dispatch key, the keys it names, as they stood at its dispatch (R271), the keys it has
taken, its tower and the order number of its latest move. -/
structure Item where
  kind : ItemKind
  cls : Nat
  dkey : Nat
  reqs : List KeyReq
  takes : List Take := []
  keys : List (List Byte) := []
  hasKeys : Bool := false
  st : ItemSt := .crossbar
  tower : Nat := 0
  order : Nat := 0
deriving DecidableEq, Repr

/-- An expanded-key cache entry (R234). `tagBad` and `keyBad` are parity upsets, set by no command (R237). -/
structure CacheEnt where
  slot : Nat
  gen : Nat
  derived : Bool
  label : Nat
  use : Use
  len : Nat
  /-- The slot's destination attributes, without a key. -/
  attr : Slot
  key : List Byte
  tagBad : Bool := false
  keyBad : Bool := false
deriving DecidableEq, Repr

/-- A tower: its retired cores and GHASH units (bit masks), the unit of each kind out of service, whether that unit's test
runs, its cache with the most recently used entry first. -/
structure Tower where
  started : Bool := false
  removed : Bool := false
  leaving : Bool := false
  coreBad : Nat := 0
  ghBad : Nat := 0
  outCore : Nat := 0
  outGh : Nat := 0
  /-- The units whose start-up test still runs: cores in [8:0], GHASH units in [11:9] (R243). -/
  kat : Nat := 0
  testCore : Bool := false
  testGh : Bool := false
  cache : List CacheEnt := []
deriving DecidableEq, Repr

/-- State of a Belfry slot (R250). -/
inductive StageSt where
  | empty
  | staging (id : Nat)
  | ready
deriving DecidableEq, Repr

/-- A Belfry slot (R249, R250): the association that holds it, its state, the PN and key generation it is staged for, the key and
nonce that its keystream and tag mask are of, whether a failed staging bars another before the next start (R239, R251). -/
structure BSlot where
  sa : Option Nat := none
  st : StageSt := .empty
  pn : Nat := 0
  gen : Nat := 0
  key : List Byte := []
  nonce : List Byte := []
  barred : Bool := false
deriving DecidableEq, Repr

/-- The cipher array and the Belfry. -/
structure Array8 where
  towers : Tab Tower := []
  /-- The next item number and the next order number. -/
  nextId : Nat := 0
  nextOrder : Nat := 0
  /-- The last tower that took an item in ROUND mode (R226). -/
  lastRound : Nat := 7
  /-- GEN of the latest export, and the largest loaded since reset (R244). -/
  expGen : Nat := 0
  loadGen : Nat := 0
  belfry : Tab BSlot := []
  /-- Staging tokens in 1/500 block, and the clock they were counted at (R253). -/
  tokens : Nat := 0
  tokenAt : Nat := 0
  /-- The clock of the latest step of the rolling test (R240). -/
  testAt : Nat := 0
deriving DecidableEq, Repr

end Sys2Proof.Machine
end

