-- ==== Sys2Proof/Machine/State.lean ====
section
/-! DEFINITION. Sys2Proof/Machine/State.lean: the state of the block, the state after reset, faults and refusals. The records it is made of
are in the files named …Types.lean. Every table is sparse: what it does not list has the default of its type. -/

namespace Sys2Proof.Machine

/-- What a context image holds of the pipelines (R486). -/
structure PipeSave where
  regs : Tab Word
  secys : Tab Secy
  rxscs : Tab Rxsc
  assocs : Tab Assoc
  ppls : Tab Ppl
  cnt : Tab Nat
deriving DecidableEq, Repr

/-- The state of the block. -/
structure State where
  /-- Registers whose bits the block stores, by offset in the register window (R537); unlisted: `regReset`. -/
  regs : Tab Word := []
  /-- Host memory by byte address (R3); unlisted: 0 (assumption log 4). -/
  mem : Tab Byte := []
  /-- Ranges (address, length) that host memory answers with an error on a read and on a write (R52): the environment's, set by no
  command (assumption log 4). -/
  memRdErr : List (Nat × Nat) := []
  memWrErr : List (Nat × Nat) := []
  /-- The 64 ring pairs (R32 to R38). -/
  rings : Tab Ring := []
  /-- Doorbells accepted (R43), and the next order number of a group's END (R60). -/
  dbSeq : Nat := 0
  endSeq : Nat := 0
  /-- The ring from which the HRE fetched last (R36). -/
  lastFetch : Nat := 63
  /-- The commit group past staging (R60 to R62). -/
  groupStaged : Option Staged := none
  /-- SecYs with their transmit channels, receive channels, associations (R82 to R88). -/
  secys : Tab Secy := []
  rxscs : Tab Rxsc := []
  assocs : Tab Assoc := []
  /-- Creations and installs made: numbers the successive lives of SecYs, receive channels and associations. -/
  installSeq : Nat := 0
  /-- Armed switches by SecY (R264, R266). -/
  armed : Tab (Option Armed) := []
  /-- The AON's lease marks by 4 × SecY + AN (R274, R276). -/
  marks : Tab Mark := []
  /-- Mirrored commands that wait for the partner, by SA index (R262, R270). -/
  mirrorOps : Tab (Option MirrorOp) := []
  /-- The four pipelines: classifier banks, SLTs, queues (R126 to R138, R184 to R203); their counters (R166, R216). -/
  ppls : Tab Ppl := []
  plCnt : Tab Nat := []
  /-- Frames in progress by number (R139, R172), and the latest output toward each MAC, the switch core and the host path (R502 to R505). -/
  egFrames : Tab (Option EgFrame) := []
  igFrames : Tab (Option IgFrame) := []
  macOut : Tab (Option MacFrame) := []
  coreOut : Tab (Option CoreFrame) := []
  retOut : Tab (Option RetFrame) := []
  /-- The cipher array and the Belfry (R222 to R256), and the items in the crossbar and in towers by number. -/
  arr : Array8 := {}
  items : Tab (Option Item) := []
  /-- The two storage channels (R350 to R364). -/
  stcs : Tab Stc := []
  /-- Spire Link (R403 to R447). -/
  spl : Spire := {}
  /-- The eight event rings (R78 to R80), the events raised by the command in progress, the clock (plus 1) of a limited source's latest raise (R527). -/
  evRings : Tab EvRing := []
  raised : List Event := []
  limits : Tab Nat := []
  /-- The AON event log (R466 to R472). -/
  log : LogSt := {}
  /-- The power controller (R476 to R501), and what the latest context image holds (R486). -/
  pwr : Pwr := {}
  saved : Option PipeSave := none
  /-- The tamper monitor (R448 to R461). -/
  tmp : Tmp := {}
  /-- The Time Unit (R373 to R402). -/
  tmu : Tmu := {}
  /-- The Dome and the one-time fuses (R284 to R349). -/
  dome : Dome := {}
  fuses : Fuses := {}
  /-- What the latest read by the host returned (R2, R9), and the host's accesses that wait while the near bus is held (R429). -/
  rdata : BitVec 32 := 0
  hostWait : List Instr := []
  /-- The commands that wait, first in, first out. -/
  pending : List Instr := []
  /-- Clocks of 2 ns since the power-up of PD_AON: the MODEL's own time base (assumption log 2). -/
  clock : Nat := 0
  /-- Random draws and other free values taken: the MODEL's own counter, which numbers them (assumption log 5). -/
  draws : Nat := 0
deriving DecidableEq, Repr

/-- TP_AON_POWERUP on its way to the log (R469): source 115, NOTICE, AON time base, tick 0. -/
def powerupEntry : LogEntry := { w0 := 0x000573 }

/-- The block right after the power-up of PD_AON: OFF, every register at its reset value, TP_AON_POWERUP to be logged (R469, R478, R498).
The fuses are unprogrammed (assumption log 7). -/
def State.reset : State := { log := { queue := [powerupEntry] } }

/-- No command of this model ends in a fault: the type has one constructor, and no meaning answers it. -/
inductive Fault where
  /-- Raised by no command: every behaviour that the spec describes has a next state (safe: it stops nothing). -/
  | never
deriving DecidableEq, Repr

/-- Refusals. -/
inductive Refusal where
  /-- A command whose meaning is not written: raised by its arm in Dispatch.lean alone (safe: the machine stops). -/
  | notModelled (mnemonic : String)
deriving DecidableEq, Repr

end Sys2Proof.Machine
end

