-- ==== Sys2Proof/Machine/Flags.lean ====
section
/-! DEFINITION. Sys2Proof/Machine/Flags.lean: status and reason codes (R46, R51, R109), event severities and limits
(R527), and the readings of single status and control bits. -/

namespace Sys2Proof.Machine

/-- The code of a status (R51). -/
def statusCode : Status → Nat
  | .ok => 0x00
  | .badDesc => 0x01
  | .perm => 0x02
  | .keyDenied => 0x03
  | .keyStale => 0x04
  | .keyRevoked => 0x05
  | .keyEmpty => 0x06
  | .authFail => 0x07
  | .alarm => 0x08
  | .linkLost => 0x09
  | .remoteErr => 0x0A
  | .timeout => 0x0B
  | .retry => 0x0C
  | .noRoom => 0x0D
  | .pnExhausted => 0x0E
  | .capacity => 0x0F
  | .commitFail => 0x10
  | .lifecycle => 0x11
  | .aborted => 0x12

/-- The status of a code that a far node's packet carries; a code that R51 does not define reads as REMOTE_ERR. -/
def codeStatus (c : Nat) : Status :=
  ([.ok, .badDesc, .perm, .keyDenied, .keyStale, .keyRevoked, .keyEmpty, .authFail, .alarm, .linkLost, .remoteErr, .timeout, .retry,
    .noRoom, .pnExhausted, .capacity, .commitFail, .lifecycle, .aborted] : List Status).getD c .remoteErr

/-- OK with a RESULT (R48). -/
def okRes (result : Nat := 0) (ext : Nat := 0) (detail : Nat := 0) : Res := { st := .ok, result, ext, detail }

/-- A failing answer with its reason. -/
def failRes (st : Status) (reason : Nat) : Res := { st, reason }

/-- BAD_DESC with its reason and the first offending word (R48). -/
def badRes (reason word : Nat) : Res := { st := .badDesc, reason, word }

/-- BAD_DESC RANGE at a word (R46 step 5). -/
def rangeRes (word : Nat) : Res := badRes 0x05 word

/-- Chain of checks: the first failure decides. -/
def orElse (a : Option Res) (b : Unit → Option Res) : Option Res :=
  match a with
  | some r => some r
  | none => b ()

/-- The severity of a source (R527); SP_REMOTE_EVENT carries the forwarded one. -/
def sevOf (src : Nat) : Nat :=
  if src = 109 then 3
  else if [9, 10, 25, 26, 27, 28, 30, 31, 32, 33, 40, 42, 50, 51, 59, 60, 61, 62, 63, 72, 73, 74, 81, 97, 106, 110, 112,
      114, 120, 125, 127, 131, 134, 142].contains src then 2
  else if [12, 13, 24, 29, 35, 37, 38, 48, 49, 54, 55, 56, 57, 58, 64, 65, 75, 76, 77, 78, 79, 99, 101, 103, 107, 108, 111,
      113, 115, 121, 123, 124, 128, 132, 133, 137, 138, 140].contains src then 1
  else 0

/-- Is `src` a source of R527 (the other numbers are reserved and never raised)? -/
def isSource (src : Nat) : Bool :=
  src ≤ 13 || (24 ≤ src && src ≤ 42) || (48 ≤ src && src ≤ 66) || (72 ≤ src && src ≤ 81) || (96 ≤ src && src ≤ 116)
    || (120 ≤ src && src ≤ 143)

/-- The bits of a bank's event registers that belong to sources (R532). -/
def bankMask (b : Nat) : Nat :=
  (List.range 24).foldl (fun m i => if isSource (24 * b + i) then m + 2 ^ i else m) 0

/-- Sources raised at most once per 1 ms (R527). -/
def isLimited (src : Nat) : Bool :=
  [26, 27, 28, 29, 30, 31, 32, 33, 35, 40, 42, 49, 54, 55, 56, 57, 58, 59, 60, 61, 62, 63, 64, 65, 77, 78, 79, 101, 112,
    113, 120, 127, 128, 135, 137].contains src

end Sys2Proof.Machine
end

