-- ==== Sys2Proof/Machine/Ops.lean ====
section
/-! DEFINITION. Sys2Proof/Machine/Ops.lean: the named operations over the register file, host memory, time, random
draws, events and ring pairs that every unit uses. -/

namespace Sys2Proof.Machine

/-! ### The register file -/

/-- The stored bits of the register at `off`. -/
def rget (s : State) (off : Nat) : Word := tabGet (regReset off) s.regs off

/-- Store a register. -/
def rset (off : Nat) (v : Word) (s : State) : State := { s with regs := tabPut (regReset off) s.regs off v }

/-- A field of a stored register. -/
def rfld (s : State) (off lo len : Nat) : Nat := fld (rget s off) lo len

/-- A flag of a stored register. -/
def rflag (s : State) (off i : Nat) : Bool := flag (rget s off) i

/-- Replace one field of a stored register. -/
def rsetFld (off lo len v : Nat) (s : State) : State := rset off (mkW (setBitsN (rget s off).toNat lo len v)) s

/-- Add to a field of a stored register that saturates. -/
def rsat (off lo len inc : Nat) (s : State) : State := rsetFld off lo len (satAdd len (rfld s off lo len) inc) s

/-- Raise a field of a stored register to a larger value, saturating (the MAX fields). -/
def rmax (off lo len v : Nat) (s : State) : State :=
  rsetFld off lo len (max (rfld s off lo len) (min v (2 ^ len - 1))) s

/-- Add to a 48-bit byte or event counter held in two registers, modulo 2^48. -/
def radd48 (lo hi inc : Nat) (s : State) : State :=
  let v := (join48 (rget s lo) (rget s hi) + inc) % 2 ^ 48
  rset hi (wHi v) (rset lo (wLo v) s)

/-- Return the registers of a power domain to their reset values (a domain that goes off loses its state). -/
def dropRegs (d : Nat) (s : State) : State := { s with regs := tabDrop (fun o => regDomain o == some d) s.regs }

/-! ### Power domains and time -/

/-- Is power domain `d` on? -/
def domOn (s : State) (d : Nat) : Bool := s.pwr.on.testBit d

/-- Are the pipelines powered and clocked: CK_DP is gated outside RUN (R477, R481)? -/
def dpRuns (s : State) : Bool := domOn s dPIPE && s.pwr.state == .run

/-- Ticks of CK_AON, 32.768 kHz, since the power-up of PD_AON, counted over the model's clock of 2 ns. -/
def aonTicks (s : State) : Nat := s.clock * 65536 / 1000000000

/-- The AON tick counter (R468), modulo 2^32. -/
def aonTick (s : State) : Nat := aonTicks s % 2 ^ 32

/-- Clocks of 2 ns in a microsecond. -/
def usClocks : Nat := 500

/-- Nanoseconds of LC. -/
def lcNs (s : State) : Nat := s.tmu.lc / 2 ^ 32

/-- Nanoseconds of the working clock (R383). -/
def wcNs (s : State) : Nat := s.tmu.wc / 2 ^ 32

/-- TIME of a completion, event entry or posted-error entry: 32 bits of the working clock, 0 while PD_TIME is off. -/
def stamp (s : State) : Nat := if domOn s dTIME then wcNs s % 2 ^ 32 else 0

/-! ### Random draws -/

/-- `n` bytes drawn from the DRBG. -/
def drawBytes (n : Nat) (s : State) : State × List Byte :=
  ({ s with draws := s.draws + n }, (List.range n).map fun i => Config.drbgByte (s.draws + i))

/-! ### Host memory -/

/-- Does `[addr, addr+len)` meet one of the ranges? -/
def meets (rs : List (Nat × Nat)) (addr len : Nat) : Bool :=
  rs.any fun r => addr < r.1 + r.2 && r.1 < addr + len

/-- Does host memory answer a read with an error? An address from 2^48 on does not exist. -/
def memRdBad (s : State) (addr len : Nat) : Bool := meets s.memRdErr addr len || 2 ^ 48 < addr + len

/-- Does host memory answer a write with an error? -/
def memWrBad (s : State) (addr len : Nat) : Bool := meets s.memWrErr addr len || 2 ^ 48 < addr + len

/-- One byte of host memory (an unlisted byte reads 0: assumption log 4). -/
def memByte (s : State) (a : Nat) : Byte := tabGet 0 s.mem a

/-- `len` bytes of host memory, or none when host memory answers with an error. -/
def memRead (s : State) (addr len : Nat) : Option (List Byte) :=
  if memRdBad s addr len then none else some ((List.range len).map fun i => memByte s (addr + i))

/-- `n` words of host memory (R3). -/
def memReadWords (s : State) (addr n : Nat) : Option (List Word) := (memRead s addr (3 * n)).map (bytesWords n)

/-- Store bytes, in address order. -/
def storeBytes : Nat → List Byte → Tab Byte → Tab Byte
  | _, [], t => t
  | a, b :: r, t => storeBytes (a + 1) r (tabPut 0 t a b)

/-- The bytes of a write that precede the first one host memory refuses. -/
def goodPrefix (s : State) : Nat → Nat → Nat
  | _, 0 => 0
  | addr, n + 1 => if memWrBad s addr 1 then 0 else 1 + goodPrefix s (addr + 1) n

/-- Write bytes to host memory. On an error, a free number of the bytes before it have been written (R52). -/
def memWrite (addr : Nat) (l : List Byte) (s : State) : State × Bool :=
  if memWrBad s addr l.length then
    let n := min (Config.freeNat s.draws) (goodPrefix s addr l.length)
    ({ s with mem := storeBytes addr (l.take n) s.mem, draws := s.draws + 1 }, false)
  else ({ s with mem := storeBytes addr l s.mem }, true)

/-- Write words to host memory (R3). -/
def memWriteWords (addr : Nat) (l : List Word) (s : State) : State × Bool := memWrite addr (wordsBytes l) s

/-! ### Events (R527, R529 to R531) -/

/-- Key of a limited source and its INSTANCE. -/
def limitKey (src inst : Nat) : Nat := src * 2 ^ 16 + inst

/-- Raise a source with a severity: a limited one only when 1 ms has passed since its last raise (R527). -/
def raiseSev (sev src inst detail : Nat) (s : State) : State :=
  let e : Event := { src, inst := inst % 256, detail := detail % 2 ^ 24, sev }
  if isLimited src then
    let last := tabGet 0 s.limits (limitKey src inst)
    if last = 0 || last + 1000 * usClocks ≤ s.clock + 1 then
      { s with raised := s.raised ++ [e], limits := tabPut 0 s.limits (limitKey src inst) (s.clock + 1) }
    else s
  else { s with raised := s.raised ++ [e] }

/-- Raise a source. -/
def raise (src inst detail : Nat) (s : State) : State := raiseSev (sevOf src) src inst detail s

/-- Insert an event behind those of lower or equal SOURCE, then INSTANCE (R531). -/
def evInsert (e : Event) : List Event → List Event
  | [] => [e]
  | f :: r => if e.src < f.src || (e.src == f.src && e.inst < f.inst) then e :: f :: r else f :: evInsert e r

/-- The events of one clock in ascending SOURCE and INSTANCE order (R531). -/
def evSort (l : List Event) : List Event := l.foldl (fun acc e => evInsert e acc) []

/-- The log entry of an event (R467, R468). -/
def logEntryOf (e : Event) (s : State) : LogEntry :=
  let onT := domOn s dTIME
  let time := if onT then lcNs s % 2 ^ 32 else aonTick s
  { w0 := mkW (e.src + e.sev * 2 ^ 8 + b2n (!onT) * 2 ^ 10 + e.inst * 2 ^ 16), w1 := mkW e.detail,
    w2 := mkW time, w3 := mkW (time / 2 ^ 24 + s.log.epoch * 2 ^ 8) }

/-- The pending bit of a source, in its bank's register. -/
def setPend (src : Nat) (s : State) : State :=
  rset (rEVT_PEND (src / 24)) (rget s (rEVT_PEND (src / 24)) ||| mkW (2 ^ (src % 24))) s

/-- The routing nibble of a source: RING and RING_EN (R532). -/
def routeOf (s : State) (src : Nat) : Nat := rfld s (rEVT_ROUTE (src / 24) (src % 24 / 6)) (4 * (src % 6)) 4

/-- An event ring. -/
def evRing (s : State) (m : Nat) : EvRing := tabGet {} s.evRings m

def setEvRing (m : Nat) (r : EvRing) (s : State) : State := { s with evRings := tabPut {} s.evRings m r }

/-- Is the event ring full (R80)? -/
def evFull (r : EvRing) : Bool := (r.tail + 1) % 2 ^ r.log2 == r.head

/-- An entry of event ring `m` is lost: LOST saturates, the loss is reported when space returns (R80). -/
def evLose (m : Nat) (s : State) : State :=
  rsat (rEVT_RING_LOST m) 0 24 1 (setEvRing m { evRing s m with lost := satAdd 24 (evRing s m).lost 1 } s)

/-- Queue an event for event ring `m` (R529, R531): not while the ring is disabled; lost when the ring is full as it is routed there (R80),
or its queue of 128 is. -/
def evQueue (m : Nat) (e : Event) (s : State) : State :=
  let r := evRing s m
  if !r.enable then s
  else
    let r' := { r with seq := (r.seq + 1) % 2 ^ 16 }
    if r.queue.length < 128 && !evFull r then
      setEvRing m { r' with queue := r.queue ++ [{ ev := e, time := stamp s, notime := !domOn s dTIME, seq := r.seq }] } s
    else evLose m (setEvRing m r' s)

/-- The level of vch_irq_o, bit per line (R520, R533). -/
def irqLines (s : State) : Nat :=
  if domOn s dHOST then
    (List.range 144).foldl (fun acc src =>
      let b := src / 24
      let i := src % 24
      if flag (rget s (rEVT_PEND b)) i && flag (rget s (rEVT_EN b)) i then
        acc ||| 2 ^ (rfld s (rEVT_LINE b (i / 8)) (3 * (i % 8)) 3) else acc) 0
  else 0

/-- The lowest source that is pending, enabled and routed to line `k` (EVT_IRQ_SRCk). -/
def irqSrc (s : State) (k : Nat) : Option Nat :=
  (List.range 144).find? fun src =>
    flag (rget s (rEVT_PEND (src / 24))) (src % 24) && flag (rget s (rEVT_EN (src / 24))) (src % 24)
      && rfld s (rEVT_LINE (src / 24) (src % 24 / 8)) (3 * (src % 8)) 3 == k

/-! ### Ring pairs -/

def ring (s : State) (n : Nat) : Ring := tabGet {} s.rings n

def setRing (n : Nat) (r : Ring) (s : State) : State := { s with rings := tabPut {} s.rings n r }

def modRing (n : Nat) (f : Ring → Ring) (s : State) : State := setRing n (f (ring s n)) s

/-- SQ and CQ sizes of ring pair `n` (R34). -/
def sqSize (s : State) (n : Nat) : Nat := 2 ^ rfld s (rRING_SIZE n) 0 4
def cqSize (s : State) (n : Nat) : Nat := 2 ^ rfld s (rRING_SIZE n) 8 4

def sqBase (s : State) (n : Nat) : Nat := join48 (rget s (rSQ_BASE_LO n)) (rget s (rSQ_BASE_HI n))
def cqBase (s : State) (n : Nat) : Nat := join48 (rget s (rCQ_BASE_LO n)) (rget s (rCQ_BASE_HI n))

/-- The permission group of ring pair `n` (R67). -/
def ringGroup (s : State) (n : Nat) : Nat := rfld s (rRGRP (n / 8)) (3 * (n % 8)) 3

/-- Does ring `n`'s group permit port `p` (R47)? -/
def portOk (s : State) (n p : Nat) : Bool := flag (rget s (rPG_PORTS (ringGroup s n))) p

/-- Does ring `n`'s group permit slots of owner group `g` (R46 step 8)? -/
def ownerOk (s : State) (n g : Nat) : Bool := flag (rget s (rPG_KEYGRP (ringGroup s n))) g

/-- Has the descriptor not ended yet: does it wait or run? -/
def Ent.isOpen (e : Ent) : Bool :=
  match e.st with
  | .done _ => false
  | _ => true

/-- Change the first element that `p` holds of. -/
def modFirst {α : Type} (p : α → Bool) (f : α → α) : List α → List α
  | [] => []
  | x :: r => if p x then f x :: r else x :: modFirst p f r

/-- The descriptor of ring `n` at SQ index `i` that waits or runs. After an overrun of the SQ (R35) two of them can have one index: the
older is meant until it has ended, and the later one is executed as found. -/
def entAt (s : State) (n i : Nat) : Option Ent := (ring s n).window.find? fun e => e.idx == i && e.isOpen

/-- Change that descriptor. -/
def modEnt (n i : Nat) (f : Ent → Ent) (s : State) : State :=
  modRing n (fun r => { r with window := modFirst (fun e => e.idx == i && e.isOpen) f r.window }) s

/-- Does what happens now fall in the alarm clock (R75)? The alarm clock begins with TAMPER_RESPONSE and ends with the model's clock; a
command that stands before TAMPER_RESPONSE in the queue falls in an earlier CK_DP clock (assumption log 54). -/
def alarmNow (s : State) : Bool := s.tmp.alarmAt == some s.clock

/-- A completion generated now (R50): in the alarm clock it carries ALARM (R75). -/
def compNow (s : State) (r : Res) : Comp :=
  { res := if alarmNow s then { st := .alarm } else r, time := stamp s, notime := !domOn s dTIME }

/-- HR_PERM, for a PERM or an owner failure (R77). -/
def raisePerm (n i : Nat) (r : Res) (s : State) : State :=
  if r.st = .perm || (r.st = .keyDenied && r.reason = 1) then
    raise 12 n (statusCode r.st + i * 2 ^ 10) s else s

/-- Generate the completion of the descriptor at index `i` of ring `n` (R48). -/
def finish (n i : Nat) (r : Res) (s : State) : State :=
  raisePerm n i (compNow s r).res (modEnt n i (fun e => { e with st := .done (compNow s r) }) s)

/-- The descriptor at index `i` of ring `n` has executed with answer `r`, `s'` being the state with its effect: in the alarm clock it has
no effect and its completion carries ALARM (R75). -/
def effect (n i : Nat) (r : Res) (s' s : State) : State := if alarmNow s then finish n i r s else finish n i r s'

/-- The CQ slots of ring `n` that the accepted head leaves free (R35). -/
def cqFree (s : State) (n : Nat) : Nat :=
  ((ring s n).cqHead + cqSize s n - (ring s n).cqTail % cqSize s n - 1) % cqSize s n

/-- The CQ slots reserved and not yet written (R36). -/
def cqReserved (r : Ring) : Nat := (r.window.filter fun e => e.slot).length

/-- Reserve CQ slots for the oldest entries without one, as far as slots are free (R61). -/
def reserveList : Nat → List Ent → List Ent
  | _, [] => []
  | 0, l => l
  | k + 1, e :: r => if e.slot then e :: reserveList (k + 1) r else { e with slot := true } :: reserveList k r

/-- Reserve CQ slots for the members of ring `n`'s ended group, in SQ order, as slots become free (R61). -/
def reserveMembers (n : Nat) (s : State) : State :=
  if (ring s n).grp = .opened then s
  else modRing n (fun r => { r with window := reserveList (cqFree s n - cqReserved r) r.window }) s

/-- The OPCODE of a fetched descriptor, 0 when it could not be read (R48). -/
def entOpcode (e : Ent) : Nat := if e.readable then fld (wAt e.words 0) 0 8 else 0

/-- Record a ring error and raise HR_RING_ERR (R72). -/
def ringErr (n code idx : Nat) (s : State) : State :=
  raise 9 n (code + idx * 2 ^ 10) (modRing n (fun r => { r with err := code, errIdx := idx }) s)

/-! ### Towers -/

def tower (s : State) (t : Nat) : Tower := tabGet {} s.arr.towers t
def setTower (t : Nat) (v : Tower) (s : State) : State :=
  { s with arr := { s.arr with towers := tabPut {} s.arr.towers t v } }

/-- The power domain of a tower. -/
def twDomain (t : Nat) : Nat := if t < 4 then dTWA else dTWB

/-- Is tower `t` powered and in service? -/
def inService (s : State) (t : Nat) : Bool :=
  let v := tower s t
  domOn s (twDomain t) && domOn s dHOST && v.started && !v.removed && !v.leaving

end Sys2Proof.Machine
end

