-- ==== Sys2Proof/Machine/Admission.lean ====
section
/-! DEFINITION. Sys2Proof/Machine/Admission.lean: the admission checks of a fetched descriptor (R46): the opcodes, their
reserved bits, CLASS, the ranges of their fields, permission groups (R67 to R69), owner groups and what they need (R20). -/

namespace Sys2Proof.Machine

/-- Every bit of a word. -/
def mAll : Nat := 0xFFFFFF

/-- The reserved bits of words W2, W3 … of an opcode; words past the list are reserved whole. None: an undefined opcode
(R108, R260, R140, R200, R310, R320, R365, R397, R444, R345, R471, R81). -/
def resvMasks (op : Nat) : Option (List Nat) :=
  let F := mAll
  match op with
  | 0x10 => some [0xFFFE00, F, 0xE00000, 0, 0, 0, 0, 0xFF0000]
  | 0x11 => some [0xFFFE00]
  | 0x12 => some [0xFFF000, F, 0xFFF000, 0, 0, 0xFF0000]
  | 0x13 => some [0xFFF000]
  | 0x14 => some [0xFFE000, F, 0xFFFFFC, 0, 0, 0]
  | 0x15 => some [0xFFE000, F, 0xFFFFF8, 0xFFC000, 0, 0, 0]
  | 0x16 => some [0, 0, 0xF00000, 0xFE0000, 0, 0, 0xFF0000, 0, 0, 0, 0, 0, 0x000F00]
  | 0x17 => some [0xFFE000, F, 0xFFFFFC, 0, 0, 0xFF0000, 0, 0xFFFF00]
  | 0x18 => some [0xFFE000, F, 0xFFFFFE]
  | 0x19 => some [0xFFE000, F, 0xFFFFC0, 0, 0, 0xFF0000, 0, 0, 0xFF0000]
  | 0x1A => some [0xFFFFFC, F, 0, 0, 0xFFE000, 0xFFC000, 0xFFFFFE]
  | 0x1B => some [0xFFFFFC, F, 0xFFFFFE]
  | 0x1C => some [0xFFFFFC, F, 0xFFFFFE, 0, 0, 0xFFE000, 0xFFC000, 0]
  | 0x1D => some [0xFFFFFC, F, 0]
  | 0x1E => some [0xFFFFFC, F, 0]
  | 0x1F => some [0xFFFFFC, F, 0xFFFFF0, 0, 0, 0, 0xFFFFE0, 0, 0, 0xFF0000]
  | 0x20 => some [0, F, 0, F, 0xFFF800, 0, 0, 0xFFFFC0]
  | 0x21 => some [0, F, 0, F, 0xFFF800, 0, 0, 0xFFFFC0]
  | 0x22 => some [0, F, 0, F, 0xFFFFFE, 0, 0, 0]
  | 0x23 => some [0]
  | 0x24 => some [0, F, 0xFFFF00]
  | 0x25 => some [0xFFF000, F, 0xFFE000, 0, 0, 0]
  | 0x26 => some [0, F, 0, 0, 0, 0, 0, 0, 0, 0xFFFF00]
  | 0x27 => some [0, 0, 0xFFFFFE, 0, 0, 0, 0, 0]
  | 0x28 => some [F, F, 0, 0, 0xFFE000, 0, 0, 0xFFF000, 0, 0, 0xFFC000, 0, 0, 0xFFC000]
  | 0x29 => some [F, F, 0, 0, 0xFFFFFE]
  | 0x2A => some [F, F, 0, 0, 0]
  | 0x2B => some [F, F, 0, 0, 0, 0, 0xFFC000, 0, 0, 0xFFC000, 0xFFFFFE]
  | 0x2C => some [F, F, 0xFFFFFC, 0, 0, 0xFFF000, 0, 0, 0xFFF000]
  | 0x2D => some [F, F, 0, 0, 0]
  | 0x2E => some [F, F, 0, 0, 0]
  | 0x2F => some [F, F, 0, 0]
  | 0x30 => some [0, 0, 0x80003C, 0, 0, 0, 0, 0, 0, 0xFE0000, 0, 0, 0, 0]
  | 0x31 => some [0, 0, 0, 0, 0xF80000, 0, 0, 0xFF0000, 0, 0, 0, 0]
  | 0x32 => some [0, 0, 0xFFFF00, 0, 0, 0, 0, 0]
  | 0x33 => some [0, F, 0xFFFFFE, 0, 0, 0xFFC000, 0, 0]
  | 0x34 => some [F, F, 0xFE0000, 0, 0]
  | 0x3C => some [0, 0, 0, 0, 0xFFF800]
  | 0x3D => some [F, F, 0xFF0000, 0, 0, 0]
  | 0x40 => some [0xFFFFFE, F, 0, 0, 0xFFFF00]
  | 0x41 => some [0xFFFFFE, F, 0xFFFFFE, 0, 0xFFFF00]
  | 0x42 => some [0xFFFFFE]
  | 0x43 => some [F, F, 0, 0, 0]
  | 0x44 => some [0xFFFFE0, F, 0, 0, 0xFFFE00, 0, 0, 0xFF0000, 0, 0xFFFFC0]
  | 0x45 => some [0xFFFFE0, F, 0xFFFFFC]
  | 0x46 => some [0xFFFFE0, F, 0xFFFFFE, 0, 0, 0]
  | 0x50 => some [0xFFF000, F, 0xFE0000, 0xFFFE00, 0, 0, 0]
  | 0x51 => some [0xFFF000, F, 0xFC0000, 0xFFFE00, 0, 0]
  | 0x52 => some [0xFFF000, F, 0xF00000, 0, 0, 0xF00000, 0, 0, 0xF00000, 0, 0, 0xF00000, 0, 0]
  | 0x53 => some [0xFFF000, F, 0, 0, 0xC00000, 0xFFFFFE]
  | 0x54 => some [F, F, 0xFC0000, 0, 0]
  | 0x60 => some [F, F, 0xFFFF00, 0, 0, 0, 0, 0]
  | 0x61 => some [F, F, 0xFFFFF0, 0, 0]
  | 0x62 => some [F, F, 0, 0, 0]
  | 0x63 => some [F, F, 0xE00000, 0, 0, 0]
  | 0x70 => some [F, F]
  | 0x71 => some [F, F, 0, 0, 0xFF0000]
  | 0x72 => some [F, F, 0xFFFFC0]
  | 0x73 => some [F, F, 0]
  | _ => none

/-- The first word with a reserved bit set (R7), W0 first. -/
def resvBad (masks : List Nat) (w : List Word) : Option Nat :=
  if (wAt w 0).toNat &&& 0xFCE000 ≠ 0 then some 0
  else (List.range 14).findSome? fun k => if (wAt w (k + 2)).toNat &&& masks.getD k mAll ≠ 0 then some (k + 2) else none

/-- Is the opcode a host job of R45? -/
def isJobOp (op : Nat) : Bool := 0x30 ≤ op && op ≤ 0x3F

/-- CLASS of the header (R45): for a host job 2 or 3, for any other opcode 0. -/
def classOk (w : List Word) : Bool :=
  if isJobOp (fld (wAt w 0) 0 8) then 2 ≤ fld (wAt w 0) 16 2 else fld (wAt w 0) 16 2 == 0

/-- Steps 1 to 3 of R46. -/
def admitEarly (w : List Word) : Option Res :=
  match resvMasks (fld (wAt w 0) 0 8) with
  | none => some (badRes 2 0)
  | some ms =>
    match resvBad ms w with
    | some k => some (badRes 1 k)
    | none => if classOk w then none else some (badRes 3 0)

/-- Which opcodes may stand in a commit group (R108, R140, R200, R260, R397). -/
def groupable (op : Nat) : Bool :=
  [0x10, 0x11, 0x12, 0x13, 0x16, 0x17, 0x18, 0x19, 0x1B, 0x1E, 0x45].contains op

/-- The host jobs, which have no state effect: a later descriptor of their ring may start while they run (R53). -/
def isHostJob (op : Nat) : Bool := 0x30 ≤ op && op ≤ 0x34

/-- Opcodes without a state effect: beside the host jobs, reads, snapshots and signatures over them (R53, R60). -/
def effectFree (op : Nat) : Bool :=
  isHostJob op || [0x14, 0x15, 0x1C, 0x25, 0x27, 0x3D, 0x43, 0x46, 0x50, 0x60, 0x62, 0x63].contains op

/-! ### Step 5: the ranges of the fields -/

/-- The link-table family (R110 to R121, R260 to R269, R141 to R143, R201). -/
def rangeLink (op : Nat) (w : List Word) : List Chk :=
  let f (k lo len : Nat) : Nat := fld (wAt w k) lo len
  let b (k i : Nat) : Bool := flag (wAt w k) i
  match op with
  | 0x10 => [(23 < f 4 0 5 || f 4 6 2 = 3 || f 4 11 2 = 3 || f 4 18 2 = 3 || (b 4 15 && (b 4 16 || b 4 17)), 4),
             (2 ^ 30 < join48 (wAt w 5) (wAt w 6), 5)]
  | 0x14 =>
    let t := f 4 0 2
    [(t = 3, 4), (t != 3 && [512, 4096, 8192].getD t 0 ≤ f 2 0 13, 2),
     (t != 3 && (wAt w 7).toNat < [36, 27, 48].getD t 0, 7)]
  | 0x15 =>
    let t := f 4 0 3
    [(6 ≤ t, 4), (f 5 0 14 = 0 || (t < 6 && [512, 512, 4096, 8192, 4, 4].getD t 0 < f 2 0 13 + f 5 0 14), 5),
     (t < 6 && (wAt w 8).toNat < 3 * [25, 9, 21, 13, 51, 55].getD t 0 * f 5 0 14, 8)]
  | 0x16 =>
    let rx := b 4 13
    chkKeyRef w 2 ++
      ([(!b 4 17 && b 4 18, 4), ((!rx && f 5 9 3 != 0) || (rx && f 5 12 5 != 0), 5),
        (!b 4 17 && f 14 12 12 != 0, 14)] : List Chk)
  | 0x17 => [((f 4 0 2 = 1) != (val64 w 5 != 0), 5), (f 4 0 2 != 2 && (wAt w 8 != 0 || wAt w 9 != 0), 8)]
  | 0x19 => [(!b 4 0 && val64 w 5 != 0, 5), (b 4 1 != (val64 w 8 != 0), 8), ((!b 4 2 && b 4 3) || (!b 4 4 && b 4 5), 4)]
  | 0x1A => [chkRun (f 6 0 13) (f 7 0 14) 8192 7, (b 8 0 && f 6 0 13 + f 7 0 14 < 6, 8)]
  | 0x1C => [chkRun (f 7 0 13) (f 8 0 14) 8192 8, ((wAt w 9).toNat < 12 * f 8 0 14, 9)]
  | 0x1F =>
    let rd := f 4 0 2 = 0
    ([(f 4 0 2 = 3 || (!rd && f 4 2 2 != 0), 4), (rd && (wAt w 7).toNat < 15, 7),
      (!rd && !(portsOf (f 2 0 2)).contains (f 8 0 5), 8)] : List Chk)
      ++ chkUnused w (!rd) [5, 6, 7] ++ chkUnused w rd [8, 9, 10, 11]
  | _ => []

/-- The keys and Dome family with the attestation opcodes (R244, R312 to R318, R324 to R349). -/
def rangeDome (op : Nat) (w : List Word) : List Chk :=
  let f (k lo len : Nat) : Nat := fld (wAt w k) lo len
  let n (k : Nat) : Nat := (wAt w k).toNat
  match op with
  | 0x20 => [chkSlotRef w 2, chkSlotRef w 4, (f 9 0 6 != (if flag (wAt w 6) 7 then 40 else 24), 9)]
  | 0x21 => chkSlotRef w 2 :: chkUnused w true [4, 7, 8, 9]
  | 0x22 => [chkSlotRef w 2, chkSlotRef w 4, (n 9 < 24, 9)]
  | 0x23 => [chkSlotRef w 2]
  | 0x24 => [chkSlotRef w 2]
  | 0x25 => [chkRun (f 2 0 12) (f 4 0 13) 4096 4, (n 7 < 6 * f 4 0 13, 7)]
  | 0x26 => [chkSlotRef w 2, chkSlotRef w 4, chkSlotRef w 5, (f 4 0 12 = f 5 0 12, 5)]
  | 0x27 => chkKeyRef w 2 ++ chkUnused w (flag (wAt w 4) 0) [5, 6] ++ ([(n 9 < 96, 9)] : List Chk)
  | 0x28 => [(f 9 0 12 < 96, 9), (f 15 0 14 < 12880, 15)]
  | 0x2A => [(n 6 < 1024, 6)]
  | 0x2C => [(f 4 0 2 = 3, 4), (0 < f 7 0 12 && f 7 0 12 < 144, 7), (0 < f 10 0 12 && f 10 0 12 < 96, 10)]
  | 0x2D => [(n 6 < 512, 6)]
  | 0x2E => [(n 6 < 48, 6)]
  | _ => []

/-- The host jobs and the storage configuration (R358, R360, R361, R367 to R372). -/
def rangeJob (op : Nat) (w : List Word) : List Chk :=
  let f (k lo len : Nat) : Nat := fld (wAt w k) lo len
  let n (k : Nat) : Nat := (wAt w k).toNat
  match op with
  | 0x30 => chkKeyRef w 2 ++ ([(65536 < f 4 6 17, 4), (65536 < f 11 0 17, 11)] : List Chk)
  | 0x31 => chkKeyRef w 2 ++ chkKeyRef w 4
      ++ ([(sameKey (n 2) (n 3) (n 4) (n 5), 4), (f 6 2 17 < 16 || 65536 < f 6 2 17, 6)] : List Chk)
  | 0x32 => chkKeyRef w 2 ++ ([(f 4 1 7 = 0 || 64 < f 4 1 7, 4), (n 9 < 18 * f 4 1 7, 9)] : List Chk)
  | 0x33 => [chkSlotRef w 2, (f 7 0 14 = 0 || 9216 < f 7 0 14, 7)]
  | 0x34 => [(f 4 0 17 = 0 || 65536 < f 4 0 17, 4)]
  | 0x3C =>
    if flag (wAt w 6) 8 then
      chkKeyRef w 2 ++ chkKeyRef w 4
        ++ ([(krefExp (n 2) = 0, 2), (krefExp (n 4) = 0 || sameKey (n 2) (n 3) (n 4) (n 5), 4)] : List Chk)
    else chkUnused w true [2, 3, 4, 5] ++ ([(f 6 9 2 != 0, 6)] : List Chk)
  | 0x3D => [chkRun (f 4 1 7) (f 4 8 8) 128 4, (n 7 < 15 * f 4 8 8, 7)]
  | _ => []

/-- The time family (R398). -/
def rangeTime (op : Nat) (w : List Word) : List Chk :=
  let f (k lo len : Nat) : Nat := fld (wAt w k) lo len
  let n (k : Nat) : Nat := (wAt w k).toNat
  match op with
  | 0x41 =>
    let rate := sgn 32 (n 5 + f 6 0 8 * 2 ^ 24)
    if flag (wAt w 4) 0 then [(2147484 < rate || rate < -2147484, 5)] else chkUnused w true [5, 6]
  | 0x43 => [(n 6 < 48, 6)]
  | 0x44 => [(23 < f 2 0 5, 2)]
  | 0x45 => [(23 < f 2 0 5, 2)]
  | 0x46 => [(23 < f 2 0 5, 2), (n 7 < 1554, 7)]
  | _ => []

/-- The operations of SPL_LOCKED (R444): word of each, up to the first with KIND NONE. -/
def lockOps (w : List Word) : List Nat :=
  ([4, 7, 10, 13] : List Nat).takeWhile fun k => fld (wAt w k) 17 2 != 0

/-- Does a far operation follow a near one, or an address leave its word? -/
def lockOpBad (w : List Word) : Bool → List Nat → List Chk
  | _, [] => []
  | near, k :: r =>
    (fld (wAt w k) 0 2 != 0 || (near && !flag (wAt w k) 19), k) :: lockOpBad w (near || flag (wAt w k) 19) r

/-- The Spire remote family (R444). -/
def rangeSpire (own op : Nat) (w : List Word) : List Chk :=
  let f (k lo len : Nat) : Nat := fld (wAt w k) lo len
  let n (k : Nat) : Nat := (wAt w k).toNat
  let node : Chk := (f 2 0 12 = own || f 2 0 12 = 0xFFF, 2)
  let addr : Chk := (f 4 0 2 != 0, 4)
  match op with
  | 0x50 => [node, addr, (f 5 0 9 = 0 || 256 < f 5 0 9, 5), (n 8 < 3 * f 5 0 9, 8)]
  | 0x51 => [node, addr, (f 5 0 9 = 0 || 336 < f 5 0 9, 5)]
  | 0x52 => node :: ((lockOps w).isEmpty, 4) :: lockOpBad w false (lockOps w)
  | 0x53 => [node, chkSlotRef w 4, chkSlotRef w 5]
  | 0x54 => [addr]
  | _ => []

/-- Attestation, measurements and the log dump (R345, R346, R471). -/
def rangeAtt (op : Nat) (w : List Word) : List Chk :=
  let f (k lo len : Nat) : Nat := fld (wAt w k) lo len
  let n (k : Nat) : Nat := (wAt w k).toNat
  match op with
  | 0x60 =>
    let pub := flag (wAt w 4) 0
    [(!pub && (f 4 2 6 < 16 || 48 < f 4 2 6), 4), (n 9 < (if pub then 2144 else if flag (wAt w 4) 1 then 4269 else 960), 9)]
  | 0x61 => [(f 4 0 4 ≤ 1, 4)]
  | 0x62 => [(n 6 < 768, 6)]
  | 0x63 => [(f 4 10 11 = 0 || 1024 < f 4 10 11, 4), (n 7 < 12 * f 4 10 11, 7)]
  | _ => []

/-- Step 5 of R46. -/
def rangeBad (s : State) (w : List Word) : Option Nat :=
  let op := fld (wAt w 0) 0 8
  firstChk (match op / 16 with
    | 1 => rangeLink op w
    | 2 => rangeDome op w
    | 3 => rangeJob op w
    | 4 => rangeTime op w
    | 5 => rangeSpire (rfld s rSPL_NODE 0 12) op w
    | 6 => rangeAtt op w
    | _ => [])

/-! ### Steps 6 to 9 -/

/-- Step 6: the family's bit of the group's FAMILY mask (R67), with R69. -/
def familyOk (s : State) (n : Nat) (w : List Word) : Bool :=
  let op := fld (wAt w 0) 0 8
  op = 0x70 || op = 0x71
    || (rflag s (rPG_OPS (ringGroup s n)) (op / 16 - 1) && (op != 0x72 || ringGroup s (fld (wAt w 4) 0 6) == ringGroup s n))

/-- The words that hold the KREFs of a descriptor. -/
def krefWords (w : List Word) : List Nat :=
  match fld (wAt w 0) 0 8 with
  | 0x16 => [2]
  | 0x20 => [2, 4]
  | 0x21 => [2]
  | 0x22 => [2, 4]
  | 0x23 => [2]
  | 0x24 => [2]
  | 0x26 => [2, 4, 5]
  | 0x27 => [2]
  | 0x30 => [2]
  | 0x31 => [2, 4]
  | 0x32 => [2]
  | 0x33 => [2]
  | 0x3C => if flag (wAt w 6) 8 then [2, 4] else []
  | 0x53 => [4, 5]
  | _ => []

/-- Step 8: every KREF names a slot of a permitted owner group. -/
def ownersOk (s : State) (n : Nat) (w : List Word) : Bool :=
  (krefWords w).all fun k => ownerOk s n (slotOwner ((wAt w k).toNat % 4096))

/-- Steps 5 to 8 of R46 for a descriptor of ring `n`. -/
def admitLate (s : State) (n : Nat) (w : List Word) : Option Res :=
  match rangeBad s w with
  | some k => some (rangeRes k)
  | none =>
    if !familyOk s n w then some (failRes .perm 1)
    else if isJobOp (fld (wAt w 0) 0 8) && fld (wAt w 0) 16 2 = 2 && !rflag s (rPG_OPS (ringGroup s n)) 8 then
      some (failRes .perm 3)
    else if !ownersOk s n w then some (failRes .keyDenied 1)
    else none

/-- Is a tower in service (R20, R30)? -/
def towerReady (s : State) : Bool := (List.range 8).any (inService s)

/-- Does the opcode need PD_PIPE? -/
def needsPipe (op : Nat) : Bool := op / 16 = 1

/-- The power domains that an opcode needs beside PD_AON and PD_HOST (R30, R260, R310, R397, R444, R471). -/
def opNeeds (op : Nat) : List Nat :=
  match op / 16 with
  | 1 => [dPIPE]
  | 2 => [dDOME]
  | 3 => [dDOME]
  | 4 => [dTIME]
  | 5 => if op = 0x53 then [dSPIRE, dDOME] else [dSPIRE]
  | 6 => if op = 0x63 then [] else [dDOME]
  | _ => []

/-- Is a healthy tower powered, be it one of a group that is about to leave (R20, R31)? -/
def towerThere (s : State) : Bool :=
  (List.range 8).any fun t => domOn s (twDomain t) && (tower s t).started && !(tower s t).removed

/-- Step 9 fails: a needed power domain is off, or a host job or storage command finds no healthy tower (R20, R30). That STC_CFG_SET and
STC_CFG_READ count as storage, which needs a tower, is a reading of R30 (DESIGN CHOICE, assumption log 16). -/
def needsUnmet (s : State) (op : Nat) : Bool :=
  (opNeeds op).any (fun d => !domOn s d) || (isJobOp op && !towerThere s)

end Sys2Proof.Machine
end

