-- ==== Sys2Proof/Machine/Rings.lean ====
section
/-! DEFINITION. Sys2Proof/Machine/Rings.lean: ring pairs, doorbells, descriptor fetch, completions, notification, ring
stop and ring errors (R32 to R76), and when a fetched descriptor may start (R53 to R56). -/

namespace Sys2Proof.Machine

/-! ### Stopping a ring (R70, R72) -/

/-- Is an opcode a host job that runs in a tower (R70)? -/
def isTowerJob (op : Nat) : Bool := 0x30 ≤ op && op ≤ 0x32

/-- An entry whose descriptor has ended gets its completion. -/
def entDone (c : Comp) (e : Ent) : Ent := { e with st := .done c }

/-- When every posted descriptor has its completion written, the ring is STOPPED (R70). -/
def checkStopped (n : Nat) (s : State) : State :=
  let r := ring s n
  if r.state = .stopping && r.posted.isEmpty && r.window.isEmpty then
    raise 8 n 0 (setRing n { r with state := .stopped, en := false, held := false, grp := .none } s)
  else s

/-- What a stop does to one fetched descriptor (the table of R70). -/
def stopEnt (s : State) (open_ : Bool) (e : Ent) : Ent :=
  match e.st with
  | .waiting =>
    if e.member then (if open_ then entDone (compNow s (failRes .aborted 4)) e else e)
    else entDone (compNow s (failRes .aborted 1)) e
  | .running => if isTowerJob (entOpcode e) then entDone (compNow s (failRes .aborted 1)) e else e
  | .done _ => e

/-- Stop a RUNNING ring (R70). -/
def stopRing (n : Nat) (s : State) : State :=
  let r := ring s n
  if r.state = .running then
    let o := r.grp == .opened
    let r := { r with state := .stopping, window := r.window.map (stopEnt s o), grp := if o then .none else r.grp }
    checkStopped n (reserveMembers n (setRing n r s))
  else s

/-! ### Enable and disable (R38) -/

/-- The first enable check that fails: the code of R72. -/
def enableErr (s : State) (n : Nat) : Option Nat :=
  let sq := rfld s (rRING_SIZE n) 0 4
  let cq := rfld s (rRING_SIZE n) 8 4
  if !rflag s rPG_LOCK 0 then some 3
  else if sq < 4 || 14 < sq || cq < 4 || 14 < cq then some 2
  else if sqBase s n % 2 ^ (sq + 6) ≠ 0 || cqBase s n % 2 ^ (cq + 5) ≠ 0 then some 1
  else none

/-- A write of ENABLE = 1 (R38). The count of completions without a notification and a running notification timer stay as they are: the
spec names neither among what an enable clears (DESIGN CHOICE, assumption log 55). -/
def ringEnable (n : Nat) (s : State) : State :=
  let r := ring s n
  if domOn s dHOST && (r.state = .disabled || r.state = .stopped) then
    match enableErr s n with
    | some c => raise 9 n c (setRing n { r with err := c } s)
    | none => setRing n { r with state := .running, en := true, err := 0, sqHead := 0, sqTail := 0, cqTail := 0, cqHead := 0,
                                 phase := true, ccnt := 0, posted := [], window := [], grp := .none, held := false } s
  else s

/-- A write of ENABLE = 0 (R70). -/
def ringDisable (n : Nat) (s : State) : State :=
  if domOn s dHOST then stopRing n (modRing n (fun r => { r with en := false }) s) else s

/-- A completion that waits behind a CQ write error is kept (R73). -/
def keepEnt (e : Ent) : Ent := { e with kept := !e.isOpen }

/-- A write of RESUME_CQ = 1 (R73): the completions kept until now stay counted until they are written. -/
def resumeCq (n : Nat) (s : State) : State :=
  if domOn s dHOST && (ring s n).state = .stopping && (ring s n).held then
    modRing n (fun r => { r with held := false, window := r.window.map keepEnt }) s
  else s

/-! ### Doorbells (R39 to R43) -/

/-- A doorbell write of a new SQ tail (R40). -/
def dblSqTail (n v : Nat) (s : State) : State :=
  let r := ring s n
  if !domOn s dHOST then s
  else if r.state = .running || r.state = .stopping then
    if sqSize s n ≤ v then
      if r.state = .running then stopRing n (ringErr n 4 (v % 2 ^ 14) s) else s
    else
      let cnt := (v + sqSize s n - r.sqTail) % sqSize s n
      if cnt = 0 then s
      else { setRing n { r with sqTail := v, posted := r.posted ++ [(cnt, s.dbSeq + 1)] } s with dbSeq := s.dbSeq + 1 }
  else s

/-- A doorbell write of a new CQ head (R41). -/
def dblCqHead (n v : Nat) (s : State) : State :=
  let r := ring s n
  let size := cqSize s n
  if !domOn s dHOST then s
  else if r.state = .running || r.state = .stopping then
    if size ≤ v then
      if r.state = .running then stopRing n (ringErr n 4 (v % 2 ^ 14) s) else s
    else if (r.cqTail + size - r.cqHead) % size < (v + size - r.cqHead) % size then
      if r.state = .running then stopRing n (ringErr n 7 v s) else s
    else reserveMembers n (setRing n { r with cqHead := v } s)
  else s

/-! ### Commit-group framing (R58, R59) -/

def wBEGIN (w : List Word) : Bool := flag (wAt w 0) 8
def wEND (w : List Word) : Bool := flag (wAt w 0) 9
def wBARRIER (w : List Word) : Bool := flag (wAt w 0) 10
def wEVENT (w : List Word) : Bool := flag (wAt w 0) 11
def wFENCE (w : List Word) : Bool := flag (wAt w 0) 12
def wOp (w : List Word) : Nat := fld (wAt w 0) 0 8

/-- Step 4 of R46 for a member of a group (R59): `first` is the descriptor with BEGIN, `count` the members before it. -/
def memberFraming (first : Bool) (count : Nat) (w : List Word) : Option Res :=
  if !groupable (wOp w) || (!first && (wBEGIN w || wBARRIER w || wFENCE w)) || (count = 63 && !wEND w) then
    some (badRes 4 0) else none

/-- Steps 1 to 4 for a member (R59). -/
def memberBad (first : Bool) (count : Nat) (w : List Word) : Option Res :=
  match admitEarly w with
  | some r => some r
  | none => memberFraming first count w

/-- The members of ring `n`'s group in its window. -/
def members (r : Ring) : List Ent := r.window.filter fun e => e.member

/-- The group's last member is fetched: a group with a member that failed steps 1 to 4 ends at once, its other members with
COMMIT_FAIL; any other waits for staging (R59, R60). -/
def endGroup (n : Nat) (s : State) : State :=
  let r := ring s n
  match (members r).find? fun e => e.bad.isSome with
  | some f =>
    let close (e : Ent) : Ent :=
      if e.member then
        match e.bad with
        | some b => entDone (compNow s b) e
        | none => entDone (compNow s (failRes .commitFail 0)) e
      else e
    raise 13 n (statusCode ((f.bad.map Res.st).getD .badDesc) + f.idx * 2 ^ 10)
      (reserveMembers n (setRing n { r with window := r.window.map close, grp := .none } s))
  | none => reserveMembers n { setRing n { r with grp := .ended (s.endSeq + 1) } s with endSeq := s.endSeq + 1 }

/-- Add a fetched member to ring `n`'s open group. -/
def fetchMember (n : Nat) (first : Bool) (e : Ent) (s : State) : State :=
  let r := ring s n
  let cnt := if first then 0 else (members r).length
  let e := { e with member := true, bad := memberBad first cnt e.words }
  let s := setRing n { r with window := r.window ++ [e], grp := .opened } s
  if wEND e.words || cnt = 63 then endGroup n s else s

/-! ### Descriptor fetch (R36, R42, R61, R72) -/

/-- Take one descriptor off the posted runs. -/
def takePosted : List (Nat × Nat) → List (Nat × Nat)
  | [] => []
  | (c, q) :: r => if c ≤ 1 then r else (c - 1, q) :: r

/-- Advance ring `n` past the descriptor at its SQ head. -/
def popSq (n : Nat) (s : State) : State :=
  modRing n (fun r => { r with sqHead := (r.sqHead + 1) % sqSize s n, posted := takePosted r.posted }) s

/-- May the HRE fetch one more descriptor outside a group (R36): its CQ slot can be reserved, every group member has its
slot, fewer than 32 are in flight. -/
def slotFree (s : State) (n : Nat) : Bool :=
  let r := ring s n
  r.window.all (fun e => e.slot) && cqReserved r < cqFree s n && (r.window.filter fun e => !e.member).length < 32

/-- Can the HRE fetch the descriptor at ring `n`'s SQ head now (R36, R61, R70)? -/
def fetchable (s : State) (n : Nat) : Bool :=
  let r := ring s n
  match r.posted, r.state with
  | _ :: _, .running =>
    r.grp = .opened ||
      match memReadWords s (sqBase s n + 48 * r.sqHead) 16 with
      | some w => if wBEGIN w then (members r).isEmpty && r.window.all (fun e => e.slot) else slotFree s n
      | none => slotFree s n
  | _ :: _, .stopping => slotFree s n
  | _, _ => false

/-- The ring that the HRE serves next: the first after the one it served last that has something to fetch (R36). -/
def nextServed (s : State) : Option Nat :=
  ((List.range 64).map fun k => (s.lastFetch + 1 + k) % 64).find? (fetchable s)

/-- The HRE serves ring `n`. -/
def served (n : Nat) (s : State) : State := { s with lastFetch := n }

/-- The entry of a descriptor fetched on a RUNNING ring: its admission checks are made when it may start (R46), a member's framing now. -/
def fetchRunning (n : Nat) (r : Ring) (q : Nat) (s : State) : State :=
  match memReadWords s (sqBase s n + 48 * r.sqHead) 16 with
  | none =>
    let e : Ent := { idx := r.sqHead, seq := q, words := [], readable := false, slot := r.grp != .opened,
                     st := .done (compNow s (badRes 6 0)) }
    stopRing n (ringErr n 5 r.sqHead (modRing n (fun r => { r with window := r.window ++ [e] }) (popSq n s)))
  | some w =>
    let e : Ent := { idx := r.sqHead, seq := q, words := w }
    if r.grp = .opened then fetchMember n false e (popSq n s)
    else if wBEGIN w then fetchMember n true e (popSq n s)
    else modRing n (fun r => { r with window := r.window ++ [{ e with slot := true }] }) (popSq n s)

/-- The entry of a descriptor that is read on a STOPPING ring only to echo its OPCODE and TAG (R70). -/
def fetchStopping (n : Nat) (r : Ring) (q : Nat) (s : State) : State :=
  let c : EntSt := .done (compNow s (failRes .aborted 1))
  let e : Ent := match memReadWords s (sqBase s n + 48 * r.sqHead) 16 with
    | none => { idx := r.sqHead, seq := q, words := [], readable := false, slot := true, st := c }
    | some w => { idx := r.sqHead, seq := q, words := w, slot := true, st := c }
  modRing n (fun r => { r with window := r.window ++ [e] }) (popSq n s)

/-- DESCRIPTOR_FETCH: the HRE fetches the descriptor at ring `n`'s SQ head, when it is that ring's turn (R36). -/
def descriptorFetch (n : Nat) (s : State) : State :=
  let r := ring s n
  if domOn s dHOST && nextServed s == some n then
    match r.posted, r.state with
    | (_, q) :: _, .running => fetchRunning n r q (served n s)
    | (_, q) :: _, .stopping => fetchStopping n r q (served n s)
    | _, _ => s
  else s

/-! ### Completions and notification (R48, R49, R73, R76) -/

/-- The eight words of a completion (R48). -/
def compWords (phase : Bool) (e : Ent) (c : Comp) : List Word :=
  let op := entOpcode e
  let tag := if e.readable then wAt e.words 1 else 0
  [mkW (op + b2n phase * 2 ^ 8 + b2n c.notime * 2 ^ 9 + b2n e.member * 2 ^ 10 + statusCode c.res.st * 2 ^ 16), tag,
   mkW e.idx, mkW (c.res.reason % 2 ^ 8 + c.res.word % 16 * 2 ^ 8 + c.res.detail % 2 ^ 12 * 2 ^ 12),
   wLo c.res.result, wHi c.res.result, mkW c.time, mkW (c.time / 2 ^ 24 % 2 ^ 8 + c.res.ext % 2 ^ 16 * 2 ^ 8)]

/-- Write an entry to host memory, the byte that holds PHASE last (R49, R80). -/
def writeEntry (addr : Nat) (ws : List Word) (s : State) : State × Bool :=
  let b := wordsBytes ws
  match memWrite addr (b.take 1) s with
  | (s, false) => (s, false)
  | (s, true) =>
    match memWrite (addr + 2) (b.drop 2) s with
    | (s, false) => (s, false)
    | (s, true) => memWrite (addr + 1) ((b.drop 1).take 1) s

/-- The lowest ring that notifies through HR_CQk and has an unnotified completion (R77). -/
def lowestUnnotified (s : State) (k : Nat) : Nat :=
  ((List.range 64).find? fun m => rfld s (rRING_NOTIFY m) 0 3 == k && 0 < (ring s m).unnot).getD 0

/-- Ring `n` notifies: HR_CQk is raised, its count and timer clear (R76). -/
def notify (n : Nat) (s : State) : State :=
  let k := rfld s (rRING_NOTIFY n) 0 3
  modRing n (fun r => { r with unnot := 0, timer := none }) (raise k 0 (lowestUnnotified s k) s)

/-- A completion of ring `n` has been written: notify at once, or when COUNT is reached, or start the timer (R76). -/
def notifyWritten (n : Nat) (now : Bool) (s : State) : State :=
  let s := modRing n (fun r => { r with unnot := r.unnot + 1 }) s
  let count := rfld s (rRING_NOTIFY n) 4 8
  let tim := rfld s (rRING_NOTIFY n) 12 8
  if now || (count ≠ 0 && count ≤ (ring s n).unnot) then notify n s
  else if tim ≠ 0 && (ring s n).timer.isNone then
    modRing n (fun r => { r with timer := some (s.clock + tim * usClocks) }) s
  else s

/-- The oldest completion of ring `n` is written into its reserved CQ slot (R48, R49). -/
def completionWrite (n : Nat) (s : State) : State :=
  let r := ring s n
  if !domOn s dHOST || r.held || !(r.state = .running || r.state = .stopping) then s
  else match r.window with
  | [] => s
  | e :: rest =>
    match e.st, e.slot with
    | .done c, true =>
      match writeEntry (cqBase s n + 24 * r.cqTail) (compWords r.phase e c) s with
      | (s, false) => modRing n (fun r => { r with held := true }) (stopRing n (ringErr n 6 e.idx s))
      | (s, true) =>
        let t := (r.cqTail + 1) % cqSize s n
        let s := setRing n { r with window := rest, cqTail := t, phase := if t = 0 then !r.phase else r.phase,
                                    ccnt := (r.ccnt + 1) % 2 ^ 48 } s
        checkStopped n (reserveMembers n (notifyWritten n (e.readable && wEVENT e.words) s))
    | _, _ => s

/-- The notification timer of ring `n` expires (R76). -/
def notifyTimer (n : Nat) (s : State) : State :=
  match (ring s n).timer with
  | some t => if domOn s dHOST && t ≤ s.clock then notify n s else s
  | none => s

/-! ### When a descriptor may start (R53 to R56) -/

/-- Does ring pair `m` count as enabled for BARRIER (R56)? A STOPPING ring still has posted descriptors to complete, so it counts, whatever
its ENABLE bit reads (DESIGN CHOICE, assumption log 55). -/
def ringEnabled (s : State) (m : Nat) : Bool := (ring s m).state == .running || (ring s m).state == .stopping

/-- Has every descriptor that ring `m` posted before acceptance number `q` completed (R56)? -/
def ringQuiet (s : State) (m q : Nat) : Bool :=
  !ringEnabled s m || ((ring s m).window.all (fun e => q ≤ e.seq) && (ring s m).posted.all fun p => q ≤ p.2)

/-- The rings that a BARRIER descriptor names; an all-zero mask means all (R81). -/
def barrierMask (w : List Word) : Nat :=
  let m := (wAt w 4).toNat + (wAt w 5).toNat * 2 ^ 24 + fld (wAt w 6) 0 16 * 2 ^ 48
  if m = 0 then 2 ^ 64 - 1 else m

/-- Is the wait of BARRIER over, for the rings of a mask (R56, R81)? -/
def barrierOver (s : State) (mask q : Nat) : Bool :=
  (List.range 64).all fun m => !mask.testBit m || ringQuiet s m q

/-- The descriptors fetched before the open one at index `i`. -/
def before (r : Ring) (i : Nat) : List Ent := r.window.takeWhile fun e => !(e.idx == i && e.isOpen)

/-- Does an earlier descriptor let a later one start: its effect is reached, or it is one that need not end first (R53)? -/
def letsPass (along : Ent → Bool) (e : Ent) : Bool := !e.isOpen || along e

/-- A host job that has started: later descriptors of its ring run beside it (R53). -/
def runningJob (e : Ent) : Bool := decide (e.st = .running) && isHostJob (entOpcode e)

/-- A descriptor without a state effect: a commit group does not wait for it (R60). -/
def withoutEffect (e : Ent) : Bool := !e.member && effectFree (entOpcode e)

/-- May the descriptor `e` of ring `n` start under ring order, FENCE and BARRIER (R46, R53, R54, R56)? `along` names the earlier ones that
may still be open. -/
def mayBegin (along : Ent → Bool) (s : State) (n : Nat) (e : Ent) : Bool :=
  let pre := before (ring s n) e.idx
  pre.all (letsPass along) && (!wFENCE e.words || pre.isEmpty)
    && (!wBARRIER e.words || barrierOver s (2 ^ 64 - 1) e.seq)
    && (wOp e.words != 0x71 || barrierOver s (barrierMask e.words) e.seq)

/-- May a descriptor outside a group start: only host jobs run beside a later one (R53)? A command of the pipelines also waits while a
context restore runs (R488). -/
def mayStart (s : State) (n : Nat) (e : Ent) : Bool :=
  mayBegin runningJob s n e && !(s.pwr.restoring && needsPipe (wOp e.words))

/-- The admission checks of R46 for a descriptor outside a group, in their order. -/
def admitNow (s : State) (n : Nat) (w : List Word) : Option Res :=
  match admitEarly w with
  | some b => some b
  | none =>
    if wEND w then some (badRes 4 0)
    else match admitLate s n w with
      | some b => some b
      | none => if needsUnmet s (wOp w) then some (failRes .capacity 1) else none

/-- A waiting descriptor outside a group is checked at the moment it may start; one that fails completes with that status (R46). -/
def admitEnt (n : Nat) (s : State) (e : Ent) : State :=
  if entAt s n e.idx = some e && e.st = .waiting && e.readable && !e.member && mayStart s n e then
    match admitNow s n e.words with
    | some r => finish n e.idx r s
    | none => s
  else s

/-- The admission checks of every descriptor that may start now (R46), ring by ring and in SQ order. -/
def admitAll (s : State) : State :=
  if domOn s dHOST then (tabKeys s.rings).foldl (fun s n => (ring s n).window.foldl (admitEnt n) s) s else s

/-- What executing a descriptor gives: the new state and its answer, or none when it goes on running. -/
abbrev Body := Nat → Nat → List Word → State → State × Option Res

/-- What an executed descriptor leaves: its completion with its effect (none of it in the alarm clock, R75), or the running entry. -/
def afterBody (n i : Nat) (x : State × Option Res) (s : State) : State :=
  match x with
  | (s', some r) => effect n i r s' s
  | (s', none) => modEnt n i (fun e => { e with st := .running }) s'

/-- A command that executes the waiting descriptor of opcode `op` at index `i` of ring `n`: nothing happens unless it is
there and may start; one that fails an admission check completes with that status (R20, R46). -/
def runDesc (op : Nat) (body : Body) (n i : Nat) (s : State) : State :=
  match entAt s n i with
  | some e =>
    if e.st = .waiting && e.readable && !e.member && wOp e.words = op && domOn s dHOST && mayStart s n e then
      match admitNow s n e.words with
      | some r => finish n i r s
      | none => afterBody n i (body n i e.words s) s
    else s
  | none => s

end Sys2Proof.Machine
end

