-- ==== Sys2Proof/Machine/Secy.lean ====
section
/-! DEFINITION. Sys2Proof/Machine/Secy.lean: SecYs, transmit and receive channels and associations as objects: reading and
writing them, their counters (R103 to R105), SECY_SET and SECY_DELETE (R110 to R113). -/

namespace Sys2Proof.Machine

/-! ### Reservations of a staged commit group (R60) -/

/-- Does a staged commit group hold the object? -/
def heldBy (s : State) (o : Obj) : Bool :=
  match s.groupStaged with
  | some g => g.holds.contains o
  | none => false

/-- Has a staged commit group reserved the object for creation? -/
def createdBy (s : State) (o : Obj) : Bool :=
  match s.groupStaged with
  | some g => g.creates.contains o
  | none => false

/-- RETRY STAGED (R52, R60). -/
def stagedRes : Res := failRes .retry 0x14

/-- PERM PORT (R47). -/
def portRes : Res := failRes .perm 0x02

/-- The checks that a command on an existing object begins with: the object is there, its port is permitted as soon as it is known (R47), no
staged commit group holds what the command would change (R60). -/
def objChk (s : State) (n : Nat) (there : Bool) (port : Nat) (held : Bool) (absent : Res) : Option Res :=
  if !there then some (if held then stagedRes else absent)
  else if !portOk s n port then some portRes
  else if held then some stagedRes
  else none

/-! ### Objects -/

def secy (s : State) (i : Nat) : Secy := tabGet {} s.secys i
def setSecy (i : Nat) (y : Secy) (s : State) : State := { s with secys := tabPut {} s.secys i y }
def rxsc (s : State) (i : Nat) : Rxsc := tabGet {} s.rxscs i
def setRxsc (i : Nat) (c : Rxsc) (s : State) : State := { s with rxscs := tabPut {} s.rxscs i c }
def assoc (s : State) (i : Nat) : Assoc := tabGet {} s.assocs i
def setAssoc (i : Nat) (a : Assoc) (s : State) : State := { s with assocs := tabPut {} s.assocs i a }
def modAssoc (i : Nat) (f : Assoc → Assoc) (s : State) : State := setAssoc i (f (assoc s i)) s

/-! Fields of a SecY's settings (R110). -/

def secyPort (y : Secy) : Nat := fld y.settings 0 5
def secyValidate (y : Secy) : Nat := fld y.settings 6 2
def secyProtect (y : Secy) : Bool := flag y.settings 8
def secyReplay (y : Secy) : Bool := flag y.settings 9
def secyConf (y : Secy) : Bool := flag y.settings 10
def secyOffset (y : Secy) : Nat := match fld y.settings 11 2 with | 0 => 0 | 1 => 30 | _ => 50
def secySuite (y : Secy) : Nat := fld y.settings 13 2
def secyInclSci (y : Secy) : Bool := flag y.settings 15
def secyEs (y : Secy) : Bool := flag y.settings 16
def secyScb (y : Secy) : Bool := flag y.settings 17
def secyClear (y : Secy) : Nat := fld y.settings 18 2
def secyDefault (y : Secy) : Bool := flag y.settings 20

/-- Is the suite one with extended packet numbering (R86)? -/
def suiteXpn (suite : Nat) : Bool := 2 ≤ suite

/-- The key length of a suite in bytes (R86). -/
def suiteKeyLen (suite : Nat) : Nat := if suite % 2 = 1 then 32 else 16

/-- The largest PN of a suite (R100). -/
def maxPn (suite : Nat) : Nat := if suiteXpn suite then 2 ^ 64 - 1 else 0xFFFFFFFF

/-- The SecY of an association's channel. -/
def assocSecy (s : State) (a : Assoc) : Nat := if a.rx then (rxsc s a.channel).secy else a.channel

/-- The port of an association. -/
def assocPort (s : State) (a : Assoc) : Nat := secyPort (secy s (assocSecy s a))

/-- The associations that are not FREE, with their indices. -/
def liveAssocs (s : State) : List (Nat × Assoc) := s.assocs.filter fun p => p.2.state != .free

/-- The association of a channel with an AN (R82). -/
def chanAssoc (s : State) (rx : Bool) (ch an : Nat) : Option Nat :=
  ((liveAssocs s).find? fun p => p.2.rx == rx && p.2.channel == ch && p.2.an == an).map Prod.fst

/-- The encoding association of a transmit channel: IN_USE or EXHAUSTED (R99). -/
def encoding (s : State) (y : Nat) : Option Nat :=
  ((liveAssocs s).find? fun p => !p.2.rx && p.2.channel == y && (p.2.state == .inUse || p.2.state == .exhausted)).map Prod.fst

/-- The receive channels of a SecY. -/
def secyRxscs (s : State) (y : Nat) : List Nat := tabKeys (s.rxscs.filter fun p => p.2.valid && p.2.secy == y)

/-- Does any association of the SecY exist? -/
def secyHasAssoc (s : State) (y : Nat) : Bool := (liveAssocs s).any fun p => assocSecy s p.2 == y

/-- The default SecY of a port (R85). -/
def defaultSecy (s : State) (port : Nat) : Option Nat :=
  (s.secys.find? fun p => p.2.valid && secyPort p.2 == port && secyDefault p.2).map Prod.fst

/-- The receiving port's CLEAR_TAGS (R94). -/
def portClear (s : State) (port : Nat) : Nat :=
  s.secys.foldl (fun m p => if p.2.valid && secyPort p.2 == port then max m (secyClear p.2) else m) 0

/-! ### Counters (R103, R104): modulo 2^48 -/

/-- Add to a counter of a table. -/
def cntAdd (i inc : Nat) (t : Tab Nat) : Tab Nat := tabPut 0 t i ((tabGet 0 t i + inc) % 2 ^ 48)

def cntSecy (y i inc : Nat) (s : State) : State :=
  if (secy s y).valid then setSecy y { secy s y with cnt := cntAdd i inc (secy s y).cnt } s else s
def cntTx (y i inc : Nat) (s : State) : State :=
  if (secy s y).valid then setSecy y { secy s y with txCnt := cntAdd i inc (secy s y).txCnt } s else s
def cntRx (c i inc : Nat) (s : State) : State :=
  if (rxsc s c).valid then setRxsc c { rxsc s c with cnt := cntAdd i inc (rxsc s c).cnt } s else s
def cntSa (a i inc : Nat) (s : State) : State :=
  if (assoc s a).state = .free then s else modAssoc a (fun x => { x with cnt := cntAdd i inc x.cnt }) s

/-! ### SECY_SET (R110 to R112) -/

/-- A 64-bit value of three words (R111). -/
def w64 (w : List Word) (i : Nat) : Nat := (wAt w i).toNat + (wAt w (i + 1)).toNat * 2 ^ 24 + fld (wAt w (i + 2)) 0 16 * 2 ^ 48

/-- A 64-bit value as three words (R111). -/
def words64 (v : Nat) : List Word := [mkW v, mkW (v / 2 ^ 24), mkW (v / 2 ^ 48 % 2 ^ 16)]

/-- The SecYs of a port, those a staged group reserves included (R60). -/
def portSecys (s : State) (port : Nat) : Nat :=
  (s.secys.filter fun p => p.2.valid && secyPort p.2 == port).length
    + match s.groupStaged with
      | some g => (g.creates.filter fun o => match o with | .secyOn p _ => p == port | _ => false).length
      | none => 0

/-- Would a SECY_SET take the default role of its port from a SecY that a staged commit group holds (R60, R112)? -/
def takesHeldRole (s : State) (i : Nat) (w : List Word) : Bool :=
  flag (wAt w 4) 20 && (defaultSecy s (fld (wAt w 4) 0 5)).any fun j => j != i && heldBy s (.secy j)

/-- The execution checks of SECY_SET, in order (R47, R112). An association that another ring's staged group is about to create counts as a
dependant that keeps SUITE and TX_SCI (DESIGN CHOICE, assumption log 14). -/
def chkSecySet (n : Nat) (w : List Word) (s : State) : Option Res :=
  let i := fld (wAt w 2) 0 9
  let w4 := wAt w 4
  let port := fld w4 0 5
  let y := secy s i
  if !portOk s n port then some portRes
  else if flag w4 5 then
    if y.valid || createdBy s (.secy i) then some { st := .noRoom, reason := 2, word := 2 }
    else if 64 ≤ portSecys s port then some { st := .noRoom, reason := 1, word := 4 }
    else if takesHeldRole s i w then some stagedRes
    else none
  else orElse (objChk s n y.valid (secyPort y) (heldBy s (.secy i) || takesHeldRole s i w) (badRes 7 2)) fun _ =>
    if secyPort y ≠ port then some (badRes 9 4)
    else if secySuite y ≠ fld w4 13 2 && (secyHasAssoc s i || createdBy s (.depSa i)) then some (badRes 8 4)
    else if y.sci ≠ w64 w 7 && (secyHasAssoc s i || createdBy s (.depSa i)) then some (badRes 8 7)
    else none

/-- The effect of SECY_SET: a created SecY's counters start at zero; PORT_DEFAULT = 1 takes the default role (R103, R112). -/
def appSecySet (w : List Word) (s : State) : State :=
  let i := fld (wAt w 2) 0 9
  let w4 := wAt w 4
  let port := fld w4 0 5
  let y := secy s i
  let st := mkW (setBitsN w4.toNat 5 1 0)
  let new := flag w4 5
  let serial := if new then s.installSeq + 1 else y.serial
  let s := if new then { s with installSeq := s.installSeq + 1 } else s
  let s := if flag w4 20 then
      { s with secys := tabMap {} (fun j z => if z.valid && secyPort z == port && j != i then
                          { z with settings := mkW (setBitsN z.settings.toNat 20 1 0) } else z) s.secys }
    else s
  setSecy i { y with valid := true, serial, settings := st, window := join48 (wAt w 5) (wAt w 6), sci := w64 w 7 } s

/-- The execution checks of SECY_DELETE (R113). A channel or association that another ring's staged group is about to create counts as a
dependant (DESIGN CHOICE, assumption log 14). -/
def chkSecyDelete (n : Nat) (w : List Word) (s : State) : Option Res :=
  let i := fld (wAt w 2) 0 9
  let y := secy s i
  orElse (objChk s n y.valid (secyPort y) (heldBy s (.secy i)) (badRes 7 2)) fun _ =>
    if !(secyRxscs s i).isEmpty || secyHasAssoc s i || createdBy s (.dep i) then some (badRes 8 2) else none

/-- The effect of SECY_DELETE. An armed switch cannot stand: its target is not FREE (R113, R265). -/
def appSecyDelete (w : List Word) (s : State) : State := setSecy (fld (wAt w 2) 0 9) {} s

end Sys2Proof.Machine
end

