-- ==== Sys2Proof/Machine/Time.lean ====
section
/-! DEFINITION. Sys2Proof/Machine/Time.lean: the Time Unit (R374 to R402): LC, the domains and their servo, the working
clock, calendars, cycle sync, and the time commands. -/

namespace Sys2Proof.Machine

/-! ### Clocks -/

/-- Times are modulo 2^96 (64 bits of ns, 32 of fraction). -/
def timeAdd (t : Nat) (d : Int) : Nat := ((t + d) % (2 ^ 96 : Int)).toNat

/-- 64 bits of ns of a time. -/
def nsOf (t : Nat) : Nat := t / 2 ^ 32
/-- The first 8 bits of its fraction. -/
def fracOf (t : Nat) : Nat := t / 2 ^ 24 % 256

/-- The signed difference of two times. -/
def timeSub (a b : Nat) : Int := sgn 96 (a + 2 ^ 96 - b)

/-- The increment of TMU_LC_INCR, in 2^-32 ns (R374). -/
def lcIncr (s : State) : Nat :=
  rfld s rLC_INCR_HI 8 4 * 2 ^ 32 + rfld s rLC_INCR_HI 0 8 * 2 ^ 24 + (rget s rLC_INCR_LO).toNat

def dom (t : Tmu) (k : Nat) : Domain := if k = 0 then t.d0 else t.d1
def modDom (k : Nat) (f : Domain → Domain) (s : State) : State :=
  if k = 0 then { s with tmu := { s.tmu with d0 := f s.tmu.d0 } } else { s with tmu := { s.tmu with d1 := f s.tmu.d1 } }

/-- The advance of a domain in one clock (R379). -/
def domAdv (incr : Nat) (d : Domain) : Int := if d.st = .invalid then 0 else incr + (incr * d.rate) / 2 ^ 32

/-- The advance and the value of the working clock's source. -/
def srcAdv (incr : Nat) (t : Tmu) : Int :=
  match t.src with
  | .lc => incr
  | .d0 => domAdv incr t.d0
  | .d1 => domAdv incr t.d1
def srcTime (t : Tmu) : WcSrc → Nat
  | .lc => t.lc
  | .d0 => t.d0.time
  | .d1 => t.d1.time

/-- One clock of a slew: the source's rate, 100 ppm of INCR faster or slower until the two are equal (R384). -/
def slewTo (incr : Nat) (adv : Int) (wc target : Nat) : Nat :=
  let step : Int := incr / 10000
  let d := timeSub target (timeAdd wc adv)
  if -step ≤ d && d ≤ step then target else timeAdd wc (if 0 < d then adv + step else adv - step)

/-- One CK_TS clock of the Time Unit (R374, R379, R383, R384). -/
def tmuTick (s : State) : State :=
  if domOn s dTIME then
    let t := s.tmu
    let incr := lcIncr s
    let adv := srcAdv incr t
    let lc := timeAdd t.lc incr
    let t' := { t with lc, d0 := { t.d0 with time := timeAdd t.d0.time (domAdv incr t.d0) },
                       d1 := { t.d1 with time := timeAdd t.d1.time (domAdv incr t.d1) },
                       halfDue := t.halfDue || lc.testBit 63 != t.lc.testBit 63 }
    let wc := if t.slewing then slewTo incr adv t.wc (srcTime t' t.src) else timeAdd t.wc adv
    { s with tmu := { t' with wc, wcWas := nsOf t.wc } }
  else s

/-- The working clock steps to a time: the instants inside the step are past at once, and a step backward passes none (R387, R393). -/
def wcStep (wc : Nat) (t : Tmu) : Tmu := { t with wc, wcWas := (nsOf wc : Int) - 1 }

/-- A step in ns, held to a signed 24-bit DETAIL (R401). -/
def stepNs (d : Int) : Nat := unsgn 24 (clampI (-8388607) 8388607 (Int.tdiv d (2 ^ 32)))

def wcCode : WcSrc → Nat
  | .lc => 0
  | .d0 => 1
  | .d1 => 2

/-- The source that SEL gives (R383). -/
def wcWanted (t : Tmu) : WcSrc :=
  if (dom t t.sel).st = .invalid then .lc else if t.sel = 0 then .d0 else .d1

/-- The working clock goes to the source that SEL gives (R384); answers whether it stepped. -/
def wcFollow (auto : Bool) (s : State) : State × Bool :=
  let new := wcWanted s.tmu
  if new = s.tmu.src then (s, false)
  else
    let d := timeSub (srcTime s.tmu new) s.tmu.wc
    let code := wcCode new + b2n auto * 4
    if d.natAbs ≤ 1000 * 2 ^ 32 then
      (raise 124 0 code { s with tmu := { s.tmu with src := new, slewing := true } }, false)
    else
      (raise 124 0 (code + 8) (raise 123 2 (stepNs d)
        { s with tmu := wcStep (srcTime s.tmu new) { s.tmu with src := new, slewing := false } }), true)

/-- A port's timestamp lane on ts_bus_o, ns bits [31:0] above 8 bits of fraction: LC + TX_DELAY, or LC - RX_DELAY; 0 while PD_TIME is off
(R30, R375, R510). The lanes follow from LC and the delay registers in every clock. -/
def tsLane (s : State) (n : Nat) (rx : Bool) : Nat :=
  if domOn s dTIME then
    let lc : Int := s.tmu.lc / 2 ^ 24
    let v := if rx then lc - sgn 24 (rget s (rP_RX_DELAY n)).toNat else lc + sgn 24 (rget s (rP_TX_DELAY n)).toNat
    unsgn 40 v
  else 0

/-- ts_bus_o: 80 bits per port, the transmit lane below the receive lane (R510). -/
def tsBus (s : State) : Nat := (List.range 24).foldr (fun n acc => tsLane s n false + tsLane s n true * 2 ^ 40 + acc * 2 ^ 80) 0

/-- The automatic rule: the selected domain has left LOCKED and the other one is LOCKED (R386). -/
def autoSwitch (s : State) : State × Bool :=
  if rflag s rTMU_WC 3 && (dom s.tmu (1 - s.tmu.sel)).st = .locked then
    wcFollow true { s with tmu := { s.tmu with sel := 1 - s.tmu.sel } }
  else wcFollow false s

/-- LOSS_N × 2^LOG_INTERVAL s in clocks of 2 ns (R382). -/
def lossClocks (s : State) (k : Nat) : Nat :=
  let n := rfld s (rD_CTRL k) 6 4
  match sgn 4 (rfld s (rD_CTRL k) 2 4) with
  | .ofNat e => n * 2 ^ e * 500000000
  | .negSucc e => n * 500000000 / 2 ^ (e + 1)

/-- The signed offset held to 24 bits of ns (TMU_Dk_OFS). -/
def ofsNs (e : Int) : Int := clampI (-8388608) 8388607 (Int.tdiv e 256)

/-- The servo of R381; `e` in 1/256 ns. -/
def servo (s : State) (k : Nat) (e : Int) (d : Domain) : Domain :=
  let i := clampI (-2147484) 2147484 (d.integ + ((rget s (rD_KI k)).toNat * e) / 2 ^ 16)
  { d with integ := i, rate := clampI (-2147484) 2147484 (i + ((rget s (rD_KP k)).toNat * e) / 2 ^ 16) }

/-- Does a sample step the domain (R381)? -/
def sampleSteps (s : State) (k : Nat) (e : Int) : Bool :=
  (dom s.tmu k).st = .invalid || (rget s (rD_STEP k)).toNat * 256 < e.natAbs

/-- Apply a sample to domain `k` (R381 to R385). -/
def applySample (k : Nat) (e : Int) (s : State) : State :=
  let step := sampleSteps s k e
  let src := if k = 0 then WcSrc.d0 else WcSrc.d1
  let lossAt := s.clock + lossClocks s k
  let ofs := ofsNs e
  if step then
    let wasSrc := s.tmu.src == src
    let s := raise 123 k (stepNs (e * 2 ^ 24))
      (modDom k (fun d => { d with time := timeAdd d.time (e * 2 ^ 24), st := .locked, lossAt, ofs }) s)
    let s := if wasSrc then
        raise 123 2 (stepNs (e * 2 ^ 24)) { s with tmu := wcStep (timeAdd s.tmu.wc (e * 2 ^ 24)) s.tmu }
      else s
    (wcFollow false s).1
  else (wcFollow false (modDom k (fun d => { servo s k e d with st := .locked, lossAt, ofs }) s)).1

/-- The domain's loss limit has expired in LOCKED; a sample in the clock of the expiry still counts (R382, R386). -/
def sampleLoss (k : Nat) (s : State) : State :=
  let d := dom s.tmu k
  if domOn s dTIME && d.st = .locked && d.lossAt < s.clock then
    let s := raise 125 k 0 (modDom k (fun d => { d with st := .holdover }) s)
    if s.tmu.sel = k then (autoSwitch s).1 else s
  else s

/-- The slew has reached its source (R384). -/
def slewDone (s : State) : State :=
  if domOn s dTIME && s.tmu.slewing && s.tmu.wc = srcTime s.tmu s.tmu.src then
    raise 126 0 0 { s with tmu := { s.tmu with slewing := false } }
  else s

/-- LC bit 31 has changed (R377). -/
def lcHalfwrap (s : State) : State :=
  if domOn s dTIME && s.tmu.halfDue then
    raise 122 0 (bitsN (lcNs s) 31 24) { s with tmu := { s.tmu with halfDue := false } }
  else s

/-! ### Calendars (R389, R390, R396) -/

def cal (s : State) (p : Nat) : Cal := tabGet {} s.tmu.cals p
def setCal (p : Nat) (c : Cal) (s : State) : State := { s with tmu := { s.tmu with cals := tabPut {} s.tmu.cals p c } }
def calBank (c : Cal) (b : Nat) : CalBank := if b = 0 then c.bank0 else c.bank1
def setBank (b : Nat) (k : CalBank) (c : Cal) : Cal := if b = 0 then { c with bank0 := k } else { c with bank1 := k }
def activeBank (c : Cal) : CalBank := calBank c c.active

/-- The reference port of the sync group (R394). -/
def refPort (s : State) : Option Nat :=
  (List.range 24).find? fun p => flag (rget s rSYNC_PORTS) p && (cal s p).running

/-- Is a group port's CYCLE another than the reference port's (R394)? -/
def cycleDiffers (s : State) (p : Nat) : Bool :=
  match refPort s with
  | some r => (cal s p).running && (activeBank (cal s p)).cycle != (activeBank (cal s r)).cycle
  | none => false

/-- The PULL of a port (R389, R394). -/
def portPull (s : State) (p : Nat) : Int :=
  if flag (rget s rSYNC_PORTS) p && !cycleDiffers s p then s.tmu.pull else 0

/-- Boundary `k` of a bank under a pull (R389). -/
def boundary (b : CalBank) (pull k : Int) : Int := b.base + k * b.cycle + pull

/-- The launch time of instance `m` of a bank: entry `m mod COUNT` in cycle `m div COUNT` (R389). -/
def instTime (b : CalBank) (pull m : Int) : Int :=
  let n : Int := b.entries.length
  boundary b pull (m / n) + (b.entries.getD (m % n).toNat (0, 0)).1

/-- The first cycle whose boundary is not before `t`. -/
def cycleFrom (b : CalBank) (pull t : Int) : Int := -((b.base + pull - t) / b.cycle)

/-- The earliest unclaimed instance that names SecY `y` with a launch time not before `t` (R390). An instance that has passed, claimed or not,
is not offered again where a pull or a step of the clock puts it into the future (the model's choice, assumption log 63). -/
def findInst (b : CalBank) (pull : Int) (claimed : List Int) (seen : Int) (y : Nat) (t : Int) : Option Int :=
  let n := b.entries.length
  let m0 : Int := max ((cycleFrom b pull t - 1) * n) seen
  ((List.range (n * (claimed.length + 3))).map fun (i : Nat) => m0 + (i : Int)).find? fun m =>
    t ≤ instTime b pull m && (b.entries.getD (m % (n : Int)).toNat (0, 512)).2 == y && !claimed.contains m

/-- The instance that a frame of SecY `y` would claim now on port `p` (R390, R396). -/
def calOffer (s : State) (p y : Nat) : Option Int :=
  let c := cal s p
  if domOn s dTIME && c.running then
    findInst (activeBank c) (portPull s p) c.claimed c.seen y (wcNs s + rfld s rTMU_LAUNCH 0 16)
  else none

/-- Claim an instance. -/
def calClaim (p : Nat) (m : Int) (s : State) : State := setCal p { cal s p with claimed := (cal s p).claimed ++ [m] } s

/-- The next launch time of a scheduled association's SecY (R396). -/
def nextLaunch (s : State) (p y : Nat) : Option Int :=
  (calOffer s p y).map fun m => instTime (activeBank (cal s p)) (portPull s p) m

/-- The launch time of an instance of port `p` as it stands. -/
def launchOf (s : State) (p : Nat) (m : Int) : Int := instTime (activeBank (cal s p)) (portPull s p) m

/-- The earliest instance of port `p` not yet passed passes when its launch time is reached; unclaimed, it is counted (R390). -/
def calInstancePass (p : Nat) (s : State) : State :=
  let c := cal s p
  if domOn s dTIME && c.running && !(activeBank c).entries.isEmpty && launchOf s p c.seen ≤ wcNs s then
    let s' := setCal p { c with seen := c.seen + 1, claimed := c.claimed.filter fun m => m != c.seen } s
    if c.claimed.contains c.seen then s' else rsat (rP_CAL_UNUSED p) 0 24 1 s'
  else s

/-- The first instance of a bank at or after time `t`. -/
def firstInst (b : CalBank) (pull t : Int) : Int :=
  let n := b.entries.length
  let m0 : Int := (cycleFrom b pull t - 1) * n
  (((List.range (3 * n + 1)).map fun (i : Nat) => m0 + (i : Int)).find? fun m => t ≤ instTime b pull m).getD m0

/-- Frames of port `p` keep the launch times they have claimed when their bank goes (R399). -/
def freezeLaunches (p : Nat) (s : State) : State :=
  { s with egFrames := tabMap none (fun _ f => match f with
      | some f => some (if f.port = p then
          match f.launch with
          | some (.inst m) => { f with launch := some (.instant (launchOf s p m)) }
          | _ => f
        else f)
      | none => none) s.egFrames }

/-- The instant at which cycle sync last had an edge or a start, for the count of cycles without one (R395): the number of the
reference port's interval now. -/
def refCycle (s : State) : Option Int :=
  (refPort s).map fun r => cycleFrom (activeBank (cal s r)) (portPull s r) (wcNs s + 1) - 1

/-- The changeover of port `p` (R399): the named bank becomes active, or none. -/
def changeover (p : Nat) (q : CalPend) (s : State) : State :=
  let c := cal s p
  let s := freezeLaunches p s
  let ref := refPort s
  let s :=
    if q.stop then setCal p { c with running := false, pend := none, claimed := [] } s
    else
      let b := calBank c q.bank
      let s := setCal p { c with running := true, active := q.bank, pend := none, claimed := [] } s
      setCal p { cal s p with seen := firstInst b (portPull s p) (wcNs s) } s
  let s := if refPort s = some p || ref = some p then { s with tmu := { s.tmu with edgeAt := refCycle s, lastEdge := none } } else s
  raise 129 p ((cal s p).active + b2n q.stop * 2) s

/-- The pending changeover of port `p` falls due at its boundary (R399). -/
def calChangeover (p : Nat) (s : State) : State :=
  let c := cal s p
  match c.pend with
  | some q =>
    if domOn s dTIME && boundary (activeBank c) (portPull s p) q.cycle ≤ wcNs s then changeover p q s else s
  | none => s

/-! ### Cycle sync (R394, R395) -/

/-- The limit of PULL: floor(CYCLE / 8) of the reference port (R395). -/
def pullLimit (s : State) : Int :=
  match refPort s with
  | some r => (activeBank (cal s r)).cycle / 8
  | none => 0

/-- The PULL that stands once the waiting pulls have applied. -/
def pullAfter (t : Tmu) : Int :=
  t.pulls.foldl (fun acc p => match p.1 with | some d => acc + d | none => 0) t.pull

/-- TMU_SYNC_STATUS RANGE: PULL stands at a limit, or will once the waiting pulls have applied (R395). -/
def pullRange (s : State) : Bool :=
  let at' (v : Int) : Bool := (refPort s).isSome && (pullLimit s).natAbs ≤ v.natAbs
  at' s.tmu.pull || at' (pullAfter s.tmu)

/-- The number of the interval between two boundaries of the reference port's bank that holds time `t` (R394). -/
def intervalAt (s : State) (r : Nat) (t : Int) : Int := cycleFrom (activeBank (cal s r)) (portPull s r) (t + 1) - 1

/-- A CYC_SYNC edge; only the first one of an interval counts (R394, R395). -/
def cycSyncEdge (falling : Bool) (s : State) : State :=
  if domOn s dTIME && rflag s rSYNC_CTRL 0 && rflag s rSYNC_CTRL 1 == falling then
    match refPort s with
    | none => s
    | some r =>
      let b := activeBank (cal s r)
      let t : Int := wcNs s
      let k := intervalAt s r t
      if s.tmu.lastEdge.map (intervalAt s r) = some k then s
      else
        let before := boundary b (portPull s r) k
        let e0 := t - before
        let e : Int := if 2 * e0 < b.cycle then e0 else e0 - b.cycle
        let p := clampI (-2000) 2000 e
        let base := pullAfter s.tmu
        let lim := pullLimit s
        let p' := clampI (-2000) 2000 (clampI (-lim) lim (base + p) - base)
        let s := { s with tmu := { s.tmu with lastEdge := some t, edgeAt := some k, lost := false,
                                              syncErr := clampI (-8388608) 8388607 e, pulls := s.tmu.pulls ++ [(some p', wcNs s + 4000)] } }
        if p' ≠ p then raise 127 0 (unsgn 24 (base + p')) s else s
  else s

/-- The next waiting pull applies at the first boundary at least 4 µs after its edge or CLEAR (R395). -/
def cycPullApply (s : State) : State :=
  match s.tmu.pulls, refPort s with
  | (p, t) :: rest, some r =>
    let b := activeBank (cal s r)
    let k := cycleFrom b (portPull s r) t
    if domOn s dTIME && boundary b (portPull s r) k ≤ wcNs s then
      let pull := match p with | some d => s.tmu.pull + d | none => 0
      { s with tmu := { s.tmu with pull, pulls := rest } }
    else s
  | (p, _) :: rest, none =>
    if domOn s dTIME then
      let pull := match p with | some d => s.tmu.pull + d | none => 0
      { s with tmu := { s.tmu with pull, pulls := rest } }
    else s
  | [], _ => s

/-- Eight consecutive cycles without a counting edge (R395). -/
def cycSyncLost (s : State) : State :=
  match refCycle s, s.tmu.edgeAt with
  | some k, some e =>
    if domOn s dTIME && rflag s rSYNC_CTRL 0 && !s.tmu.lost && e + 9 ≤ k then
      raise 128 0 0 { s with tmu := { s.tmu with lost := true } }
    else s
  | _, _ => s

/-- A write of CLEAR = 1 (R395). -/
def tmuSyncClear (s : State) : State :=
  if domOn s dTIME then { s with tmu := { s.tmu with pulls := s.tmu.pulls ++ [(none, wcNs s + 4000)] } } else s

/-- A write of TMU_SYNC_CTRL or TMU_SYNC_PORTS that turns cycle sync on, or changes the reference port, starts the count of cycles without an
edge (R395). -/
def syncRestart (was : State) (s : State) : State :=
  if (!rflag was rSYNC_CTRL 0 && rflag s rSYNC_CTRL 0) || refPort was ≠ refPort s then { s with tmu := { s.tmu with edgeAt := refCycle s } } else s

/-! ### Time commands (R397 to R399) -/

def bodyTimeSample : Body := fun _ _ w s =>
  let k := fld (wAt w 2) 0 1
  if rfld s (rD_CTRL k) 0 2 ≠ 0 then (s, some (badRes 0x0B 2))
  else
    let e := sgn 48 (join48 (wAt w 4) (wAt w 5)) * 256 + fld (wAt w 6) 0 8
    let stepped := sampleSteps s k e
    (applySample k e s, some (okRes (1 + b2n stepped * 4)))

def bodyTimeDomain : Body := fun _ _ w s =>
  let k := fld (wAt w 2) 0 1
  if flag (wAt w 4) 0 then
    let r := sgn 32 ((wAt w 5).toNat + fld (wAt w 6) 0 8 * 2 ^ 24)
    (modDom k (fun d => { d with integ := r, rate := r }) s, some (okRes 0))
  else
    let s := modDom k (fun d => { d with st := .invalid, time := 0, integ := 0, rate := 0 }) s
    (if s.tmu.src = (if k = 0 then .d0 else .d1) then (autoSwitch s).1 else s, some (okRes 0))

def bodyTimeSelect : Body := fun _ _ w s =>
  let k := fld (wAt w 2) 0 1
  if (dom s.tmu k).st = .invalid then (s, some (badRes 0x0B 2))
  else if s.tmu.sel = k then (s, some (okRes 0))
  else
    let (s, stepped) := wcFollow false { s with tmu := { s.tmu with sel := k } }
    (s, some (okRes (b2n stepped)))

def dstCode : DState → Nat
  | .invalid => 0
  | .locked => 1
  | .holdover => 2

/-- The record of TIME_READ (R399). -/
def timeRecord (s : State) : List Word :=
  let t := s.tmu
  let v (d : Domain) : Nat := if d.st = .invalid then 0 else d.time
  [mkW (dstCode t.d0.st + dstCode t.d1.st * 4 + wcCode t.src * 16 + b2n t.slewing * 64 + b2n (rflag s rTMU_WC 3) * 128)]
    ++ words64 (nsOf t.lc) ++ words64 (nsOf (v t.d0)) ++ words64 (nsOf (v t.d1)) ++ words64 (nsOf t.wc)
    ++ [mkW (fracOf t.lc + fracOf (v t.d0) * 2 ^ 8 + fracOf (v t.d1) * 2 ^ 16), mkW (fracOf t.wc), mkW (unsgn 24 t.pull)]

/-- Write a snapshot's words to a descriptor's buffer: the bytes written, or ABORTED HOST_MEM (R52, R66). -/
def writeSnap (addr : Nat) (l : List Word) (s : State) : State × Option Res :=
  match memWriteWords addr l s with
  | (s, true) => (s, some (okRes (3 * l.length)))
  | (s, false) => (s, some (failRes .aborted 3))

def bodyTimeRead : Body := fun _ _ w s => writeSnap (join48 (wAt w 4) (wAt w 5)) (timeRecord s) s

/-- Entries of CAL_LOAD from their words: OFFSET and SecY, none where a reserved bit is set (R398). -/
def calEntries : List Word → Option (List (Nat × Nat))
  | a :: b :: r =>
    if fld b 15 9 ≠ 0 then none
    else (calEntries r).map fun l => (a.toNat + fld b 0 6 * 2 ^ 24, fld b 6 9) :: l
  | _ => some []

/-- Strictly ascending offsets below CYCLE (R389). -/
def offsetsOk (cycle : Nat) : List (Nat × Nat) → Bool
  | [] => true
  | [a] => a.1 < cycle
  | a :: b :: r => a.1 < b.1 && offsetsOk cycle (b :: r)

/-- Is a CAL_SWITCH of port `p` staged or pending (TMU_Pn_CAL HELD)? -/
def calHeld (s : State) (p : Nat) : Bool := heldBy s (.cal p) || (cal s p).pend.isSome

/-- CAL_LOAD. A failed load leaves the bank without entries. Only a staged CAL_SWITCH holds it off: a switch that is committed and waits for its
boundary activates the bank as it then stands (R399). -/
def bodyCalLoad : Body := fun n _ w s =>
  let p := fld (wAt w 2) 0 5
  let count := fld (wAt w 6) 0 9
  let cycle := (wAt w 10).toNat + fld (wAt w 11) 0 6 * 2 ^ 24
  if !portOk s n p then (s, some portRes)
  else if heldBy s (.cal p) then (s, some stagedRes)
  else
    let bad := 1 - (cal s p).active
    let c := setBank bad { calBank (cal s p) bad with valid := false, entries := [] } (cal s p)
    let s := setCal p c s
    if count = 0 || 256 < count then (s, some (rangeRes 6))
    else if cycle < 1000 || 1000000000 < cycle then (s, some (rangeRes 10))
    else match memReadWords s (join48 (wAt w 4) (wAt w 5)) (2 * count) with
      | none => (s, some (failRes .aborted 3))
      | some l =>
        match calEntries l with
        | none => (s, some (rangeRes 4))
        | some es =>
          if offsetsOk cycle es then
            (setCal p (setBank bad { valid := true, base := w64 w 7, cycle, entries := es } c) s, some (okRes count))
          else (s, some (rangeRes 4))

/-- The execution checks of CAL_SWITCH (R399). -/
def chkCalSwitch (n : Nat) (w : List Word) (s : State) : Option Res :=
  let p := fld (wAt w 2) 0 5
  let c := cal s p
  let b := fld (wAt w 4) 1 1
  if !portOk s n p then some portRes
  else if heldBy s (.cal p) then some stagedRes
  else if c.pend.isSome then some (failRes .retry 0x15)
  else if !flag (wAt w 4) 0 && (b = c.active && c.running || !(calBank c b).valid) then some (rangeRes 4)
  else none

/-- The changeover instant of a CAL_SWITCH applied now: its boundary cycle, and the working-clock ns (R399). -/
def switchBoundary (s : State) (p : Nat) : Option Int :=
  let c := cal s p
  if c.running then some (cycleFrom (activeBank c) (portPull s p) (wcNs s)) else none

def calSwitchRes (w : List Word) (s : State) : Res :=
  let p := fld (wAt w 2) 0 5
  match switchBoundary s p with
  | some k => okRes (unsgn 48 (boundary (activeBank (cal s p)) (portPull s p) k))
  | none => okRes (wcNs s % 2 ^ 48)

/-- The effect of CAL_SWITCH (R399). -/
def appCalSwitch (w : List Word) (s : State) : State :=
  let p := fld (wAt w 2) 0 5
  let q : CalPend := { stop := flag (wAt w 4) 0, bank := fld (wAt w 4) 1 1, cycle := 0 }
  match switchBoundary s p with
  | none => changeover p q s
  | some k => setCal p { cal s p with pend := some { q with cycle := k } } s

/-- The record of CAL_READ (R399). -/
def calRecord (c : Cal) (b : Nat) : List Word :=
  let k := calBank c b
  [mkW (b2n k.valid + b2n (c.running && c.active = b) * 2 + k.entries.length * 4)] ++ words64 k.base
    ++ [mkW k.cycle, mkW (k.cycle / 2 ^ 24)]
    ++ k.entries.flatMap fun e => [mkW e.1, mkW (e.1 / 2 ^ 24 % 64 + e.2 * 2 ^ 6)]

def bodyCalRead : Body := fun n _ w s =>
  let p := fld (wAt w 2) 0 5
  if !portOk s n p then (s, some portRes)
  else writeSnap (join48 (wAt w 5) (wAt w 6)) (calRecord (cal s p) (fld (wAt w 4) 0 1)) s

end Sys2Proof.Machine
end

