-- ==== Sys2Proof/Machine/DomeKeys.lean ====
section
/-! DEFINITION. Sys2Proof/Machine/DomeKeys.lean: key slots, their attributes and generations, resolution of key references,
derivation and the random bit generator (R283 to R295, R306, R307). -/

namespace Sys2Proof.Machine

/-! ### Slots -/

def slot (s : State) (i : Nat) : Slot := tabGet {} s.dome.slots i
def setSlot (i : Nat) (v : Slot) (s : State) : State :=
  { s with dome := { s.dome with slots := tabPut {} s.dome.slots i v } }

/-- A generation drawn at cold start: its low 10 bits are never zero (R288; assumption log 5). -/
def coldGen (base i : Nat) : Nat :=
  let g := Config.freeNat (base + i) % 2 ^ 24
  if g % 1024 = 0 then g + 1 else g

/-- The generation of a slot. -/
def slotGen (s : State) (i : Nat) : Nat := (slot s i).gen.getD (coldGen s.dome.genBase i)

/-- The generation after a write (R288). -/
def nextGen (g : Nat) : Nat :=
  let g := (g + 1) % 2 ^ 24
  if g % 1024 = 0 then g + 1 else g


def slotStCode : SlotSt → Nat
  | .empty => 0
  | .loaded => 1
  | .revoked => 2

/-- The attribute word of a slot (R285, R287). -/
def attrWord (s : State) (i : Nat) : Nat :=
  let v := slot s i
  v.attr % 2 ^ 10 + slotOwner i * 2 ^ 10 + b2n v.testRoot * 2 ^ 13 + b2n v.claim * 2 ^ 14 + b2n v.ick * 2 ^ 15
    + slotStCode v.st * 2 ^ 16

/-! Attribute bits. -/

def aLINK : Nat := 0
def aSTOR : Nat := 1
def aJOB : Nat := 2
def aWRAP : Nat := 3
def aDERIVE : Nat := 4
def aSIGN : Nat := 5
def aMKA : Nat := 6

def slotDest (v : Slot) : Nat := v.attr % 128
def slotLen (v : Slot) : Nat := if v.attr.testBit 7 then 32 else 16
def slotPersist (v : Slot) : Bool := v.attr.testBit 8
def slotLock (v : Slot) : Bool := v.attr.testBit 9

/-- Forms of a LOADED slot (R286). -/
inductive Form where
  | direct | wrapParent | deriveParent
deriving DecidableEq, Repr

/-- A target or child set: not empty, within D_LINK, D_STOR, D_JOB and D_SIGN, no D_JOB beside D_LINK or D_STOR (R286). -/
def setOk (t : Nat) : Bool :=
  t ≠ 0 && t &&& 0x58 = 0 && !(t.testBit aJOB && (t.testBit aLINK || t.testBit aSTOR))

/-- The form of destination bits and LEN, none where they are no form (R286). -/
def formOf (dest : Nat) (len256 : Bool) : Option Form :=
  if dest.testBit aWRAP then
    if !dest.testBit aDERIVE && setOk (dest - 2 ^ aWRAP) then some .wrapParent else none
  else if dest.testBit aDERIVE then
    if len256 && setOk (dest - 2 ^ aDERIVE) then some .deriveParent else none
  else if dest = 1 || dest = 2 || dest = 4 || dest = 0x40 || (dest = 0x20 && len256) then some .direct
  else none

/-- The target or child set of a parent's destination bits. -/
def setOf (dest : Nat) : Nat := dest &&& 0x27

/-- The test root is in force outside SEALED (R321), and while FIELD_DEBUG is latched. -/
def testRootOn (s : State) : Bool := s.fuses.life != .sealed || s.dome.debug



/-! ### Key references (R290, R291, R294) -/

/-- A slot KREF with the low bits of the slot's generation as its expected generation (R312). -/
def slotKref (i gen : Nat) : Nat := i + gen % 1024 * 2 ^ 12

/-- The use codes of R294. -/
def useCode : Use → Nat
  | .link => 0
  | .stor => 1
  | .job => 2
  | .sign => 5
  | .wrap => 3
  | .mkaCak => 6
  | .mkaIck => 6

/-- Block `i` of the KDF in counter mode (R294). -/
def kdfBlock (parent : List Byte) (label code bits i : Nat) : List Byte :=
  cmac parent ([mkB i, 0x56, 0x43, 0x48, 0x44, 0x00] ++ toBytesBE 3 label ++ [mkB code] ++ toBytesBE 2 bits)

/-- A derived value of `len` bytes (R294). -/
def kdf (parent : List Byte) (label code len : Nat) : List Byte :=
  fitBytes len ((List.range (ceilDiv len 16)).flatMap fun i => kdfBlock parent label code (8 * len) (i + 1))

/-- Is the destination of a directly used slot right for the use (R291)? -/
def destOk (v : Slot) : Use → Bool
  | .wrap => v.attr.testBit aWRAP
  | .mkaCak => slotDest v == 2 ^ aMKA && !v.ick
  | .mkaIck => slotDest v == 2 ^ aMKA && v.ick
  | u => slotDest v == 2 ^ useCode u

/-- Does the use fix the length (R291)? -/
def lenFixed : Use → Bool
  | .wrap => false
  | .mkaCak => false
  | .mkaIck => false
  | _ => true

/-- The resolution of a key reference against a slot's contents (R291): the failure, or the key. -/
def resolveIn (v : Slot) (gen kref label : Nat) (u : Use) (len : Nat) : Except Res (List Byte) :=
  if v.st = .empty then .error (failRes .keyEmpty 1)
  else if v.st = .revoked then .error (failRes .keyRevoked 1)
  else if krefExp kref ≠ 0 && krefExp kref ≠ gen % 1024 then .error (failRes .keyStale 1)
  else if krefType kref = 0 then
    if !destOk v u then .error (failRes .keyDenied 2)
    else if lenFixed u && slotLen v ≠ len then .error (failRes .keyDenied 3)
    else .ok v.key
  else if !(v.attr.testBit aDERIVE && v.attr.testBit (useCode u)) then .error (failRes .keyDenied 2)
  else .ok (kdf v.key label (useCode u) len)

/-- Resolution against the slot as it stands. -/
def resolve (s : State) (kref label : Nat) (u : Use) (len : Nat) : Except Res (List Byte) :=
  let i := kref % 4096
  resolveIn (slot s i) (slotGen s i) kref label u len

/-- The key of slot `i` under generation `gen`: a preceding key that the Dome holds, or the slot's own (R271). -/
def keyUnder (s : State) (i gen : Nat) : List Byte :=
  match s.dome.held.find? fun h => h.slot == i && h.gen == gen with
  | some h => h.body.key
  | none => (slot s i).key

/-- Resolution for an item: its slot's state, generation and attributes at its dispatch decide (R271, R291, R315). -/
def resolveAt (s : State) (body : Slot) (gen kref label : Nat) (u : Use) (len : Nat) : Except Res (List Byte) :=
  resolveIn { body with key := keyUnder s (kref % 4096) gen } gen kref label u len

/-- Use of the derived-key cache (R295): a hit moves the entry to the front; a miss, that of an entry whose parity fails too, computes and
counts. -/
def touchDcache (gen kref label : Nat) (u : Use) (len : Nat) (s : State) : State :=
  if krefType kref = 1 then
    let tag : DTag := { slot := kref % 4096, gen, label, use := u, len }
    let rest := s.dome.dcache.filter fun t => { t with bad := false } != tag
    let s' := { s with dome := { s.dome with dcache := (tag :: rest).take 256 } }
    if s.dome.dcache.contains tag then s' else rsat rDOM_DCACHE_MISS 0 24 1 s'
  else s

/-- The Dome's check of a link key at an install (R100, R262 row 5). -/
def linkKeyCheck (s : State) (kref label len : Nat) : Option Res :=
  match resolve s kref label .link len with
  | .error r => some r
  | .ok _ => none

/-! ### The random bit generator (R306, R307) -/

/-- `k` generate calls count towards the reseed after every 1,024 (R306). -/
def drbgCount (k : Nat) (s : State) : State :=
  let c := s.dome.drbgCalls + k
  let s := { s with dome := { s.dome with drbgCalls := c % 1024 } }
  if c < 1024 then s else rsat rDOM_DRBG 0 16 (c / 1024) s

/-- A free number of generate calls: how many calls serve the cold-start generations and the masks is open (R306; assumption log 5). -/
def drbgCountFree (s : State) : State := drbgCount (Config.freeNat s.draws) { s with draws := s.draws + 1 }

/-- One generate call of the DRBG, `n` bytes; `reseed` reseeds first (SLOT_GENERATE), any other call counts (R306). -/
def drbgGen (reseed : Bool) (n : Nat) (s : State) : State × List Byte :=
  drawBytes n (if reseed then rsat rDOM_DRBG 0 16 1 s else drbgCount 1 s)

/-- RETRY ENTROPY (R307). -/
def entropyRes : Res := failRes .retry 0x11

end Sys2Proof.Machine
end

