-- ==== Sys2Proof/Machine/Frames.lean ====
section
/-! DEFINITION. Sys2Proof/Machine/Frames.lean: frames in flight as objects, and how they end: drops, aborts, releases and their
counters and events (R154 to R166, R203 to R216). -/

namespace Sys2Proof.Machine

/-! ### Pipelines, their counters, items by number -/

def ppl (s : State) (k : Nat) : Ppl := tabGet {} s.ppls k
def setPpl (k : Nat) (v : Ppl) (s : State) : State := { s with ppls := tabPut {} s.ppls k v }
def modPpl (k : Nat) (f : Ppl → Ppl) (s : State) : State := setPpl k (f (ppl s k)) s

/-- Key of egress counter `c` of R166, and of ingress counter `c` of R216, of pipeline `k`. -/
def egKey (k c : Nat) : Nat := 32 * k + c
def igKey (k c : Nat) : Nat := 128 + 32 * k + c

def cntEg (port c : Nat) (s : State) : State := { s with plCnt := cntAdd (egKey (pplOf port) c) 1 s.plCnt }
def cntIg (port c : Nat) (s : State) : State := { s with plCnt := cntAdd (igKey (pplOf port) c) 1 s.plCnt }

def item (s : State) (id : Nat) : Option Item := tabGet none s.items id
def setItem (id : Nat) (x : Option Item) (s : State) : State := { s with items := tabPut none s.items id x }

def egFrame (s : State) (id : Nat) : Option EgFrame := tabGet none s.egFrames id
def setEg (id : Nat) (f : Option EgFrame) (s : State) : State := { s with egFrames := tabPut none s.egFrames id f }
def igFrame (s : State) (id : Nat) : Option IgFrame := tabGet none s.igFrames id
def setIg (id : Nat) (f : Option IgFrame) (s : State) : State := { s with igFrames := tabPut none s.igFrames id f }

/-- The frames in flight, oldest first. -/
def egList (s : State) : List (Nat × EgFrame) := s.egFrames.filterMap fun p => p.2.map fun f => (p.1, f)
def igList (s : State) : List (Nat × IgFrame) := s.igFrames.filterMap fun p => p.2.map fun f => (p.1, f)

/-- A counter of a SecY, of its transmit channel, or of a receive channel, where the object is still the one that the frame began under
(R103, R139, R183): a deleted object's counters are lost. -/
def cntSecyOf (y serial i inc : Nat) (s : State) : State := if (secy s y).serial = serial then cntSecy y i inc s else s
def cntTxOf (y serial i inc : Nat) (s : State) : State := if (secy s y).serial = serial then cntTx y i inc s else s
def cntRxOf (c serial i inc : Nat) (s : State) : State := if (rxsc s c).serial = serial then cntRx c i inc s else s

/-- A counter of an association, where it is still the one the frame was bound to (R204, R268). -/
def cntSaOf (sa serial i inc : Nat) (s : State) : State :=
  if (assoc s sa).serial = serial then cntSa sa i inc s else s

/-! ### Egress ends -/

/-- Is the frame the first of its lane (R158)? -/
def egHead (s : State) (id : Nat) (f : EgFrame) : Bool :=
  (egList s).all fun p => p.2.port != f.port || p.2.express != f.express || id ≤ p.1

/-- A frame that has not started at the MAC is dropped under counter `c` (R165). -/
def egDrop (id c : Nat) (f : EgFrame) (s : State) : State := cntEg f.port c (setItem id none (setEg id none s))

/-- A frame is dropped, or aborted once started, under counter `c` (R154, R156, R157, R163). -/
def egEnd (id c : Nat) (f : EgFrame) (s : State) : State :=
  if f.started then setItem id none (setEg id (some { f with abort := some c, st := .whole }) s) else egDrop id c f s

/-- A failed key of an egress frame (R154). -/
def egKeyFail (id st : Nat) (f : EgFrame) (s : State) : State :=
  raise 30 f.port (f.sa + st * 2 ^ 16) (cntSaOf f.sa f.serial 4 1 (egEnd id 15 f s))

/-- A poisoned egress frame (R156). -/
def egPoison (id tower : Nat) (f : EgFrame) (s : State) : State :=
  raise 32 f.port (f.sa + tower * 2 ^ 13) (egEnd id 16 f s)

/-- The 12-byte IV of a frame: SCI ‖ PN, or (SSCI ‖ PN) XOR salt (R86, R96). -/
def ivOf (suite sci ssci salt pn : Nat) : List Byte :=
  if suiteXpn suite then xorBytes (toBytesBE 4 ssci ++ toBytesBE 8 pn) (toBytesBE 12 salt)
  else toBytesBE 8 sci ++ toBytesBE 4 pn

/-! ### Ingress ends -/

def byteAt (l : List Byte) (i : Nat) : Nat := (l.getD i 0).toNat
def u16At (l : List Byte) (i : Nat) : Nat := byteAt l i * 256 + byteAt l (i + 1)


def igHead (s : State) (id : Nat) (f : IgFrame) : Bool :=
  (igList s).all fun p => p.2.port != f.port || p.2.express != f.express || id ≤ p.1

/-- A counter of the frame's SecY, of its channel, of its association. -/
def igSecy (f : IgFrame) (i inc : Nat) (s : State) : State := match f.secy with | some y => cntSecyOf y f.ySerial i inc s | none => s
def igRxsc (f : IgFrame) (i inc : Nat) (s : State) : State := match f.rxsc with | some c => cntRxOf c f.cSerial i inc s | none => s
def igSa (f : IgFrame) (i inc : Nat) (s : State) : State := cntSaOf f.sa f.serial i inc s

/-- The C bit of the frame's SecTAG; E equals C in every frame that reaches check 6 (R93). -/
def igEnc (f : IgFrame) : Bool := bitN (f.bytes.getD (12 + 4 * f.tags + 2) 0).toNat 2

/-- Bytes of the encrypted part, and of the rest, of the secure data (R95, R104). -/
def encOctets (enc : Bool) (off n : Nat) : Nat := if enc then n - off else 0

def offsetOf (w : Word) : Nat := match fld w 11 2 with | 0 => 0 | 1 => 30 | _ => 50
def confOf (w : Word) : Bool := flag w 10

/-- The octet counters of a delivered frame (R104, R215). -/
def igOctets (f : IgFrame) (s : State) : State :=
  let e := encOctets (igEnc f) (offsetOf f.settings) f.n
  igSecy f 10 (f.n - e) (igSecy f 11 e (igRxsc f 8 (f.n - e) (igRxsc f 9 e s)))

/-- The counters that outcome `k` of R216 charges (R215). -/
def igCharge (k : Nat) (f : IgFrame) (s : State) : State :=
  let s := cntIg f.port k s
  match k with
  | 2 => igOctets f (if f.delayed then igRxsc f 6 1 (igSa f 4 1 s) else igRxsc f 0 1 (igSa f 0 1 s))
  | 3 => igOctets f (igRxsc f 5 1 s)
  | 4 => igSecy f 4 1 s
  | 5 => if f.rxsc.isSome then igRxsc f 4 1 s else igSecy f 7 1 s
  | 11 => igSecy f 5 1 s
  | 12 => igSecy f 6 1 s
  | 13 => igSecy f 8 1 s
  | 16 => igRxsc f 3 1 s
  | 17 => igRxsc f 7 1 (igSa f 3 1 s)
  | 18 =>
    if fld f.settings 6 2 = 1 && !igEnc f then igRxsc f 1 1 (igSa f 1 1 s) else igRxsc f 2 1 (igSa f 2 1 s)
  | 19 => igSa f 5 1 s
  | 21 => igSecy f 9 1 s
  | 22 => igSecy f 9 1 s
  | _ => s

/-- Decryption of a frame: the plaintext secure data, and whether the ICV verifies (R89, R95, R96). -/
def igDecrypt (f : IgFrame) (key : List Byte) : List Byte × Bool :=
  let h := 12 + 4 * f.tags + f.tagLen
  let o := if igEnc f then min (offsetOf f.settings) f.n else f.n
  let suite := fld f.settings 13 2
  let iv := ivOf suite f.sci f.ssci f.salt f.pn
  let aad := f.bytes.take (h + o)
  let ct := slice f.bytes (h + o) (f.n - o)
  (slice f.bytes h o ++ gcmCrypt key iv ct, gcmTag key iv aad ct == slice f.bytes (h + f.n) 16)

/-- The information word of the delivered frame (R214, R507). -/
def igInfo (f : IgFrame) (k : Nat) : Nat :=
  let known (o : Option Nat) : Nat := o.getD 0
  let controlled := k != 6 && k != 7
  let secured := f.tagLen != 0 && f.rxsc.isSome && f.serial != 0
  b2n controlled + b2n secured * 2 + b2n (k == 2 || f.cut) * 4 + b2n f.cut * 8 + known f.secy * 2 ^ 4
    + known f.rxsc * 2 ^ 13 + known f.an * 2 ^ 25

/-- The switch-core interface of a port's lane. -/
def laneKey (port : Nat) (express : Bool) : Nat := 2 * port + b2n express

def setCore (f : IgFrame) (o : CoreFrame) (s : State) : State :=
  { s with coreOut := tabPut none s.coreOut (laneKey f.port f.express) (some o) }

/-- Take the frame out of the hold buffer. -/
def igGone (id : Nat) (f : IgFrame) (s : State) : State :=
  modPpl (pplOf f.port) (fun p => { p with learnQ := p.learnQ.filter fun j => j != id }) (setItem id none (setIg id none s))

/-- The event of an outcome (R218); `cause` is the cause of a bad tag. -/
def igEvent (k cause : Nat) (f : IgFrame) (s : State) : State :=
  match k with
  | 9 => raise 65 f.port 0 s
  | 11 => raise 54 f.port 0 s
  | 12 => raise 55 f.port cause s
  | 13 => raise 56 f.port (f.sci / 2 ^ 16 % 2 ^ 24) s
  | 16 => raise 57 f.port (f.rxsc.getD 0 + f.an.getD 0 * 2 ^ 12) s
  | 17 => raise 58 f.port f.sa s
  | 18 => raise 59 f.port f.sa s
  | 21 => raise 62 f.port 0 s
  | 22 => raise 63 f.port f.sa s
  | _ => s

/-- The delivered form of a frame that a tower decrypted, and whether its ICV verifies (R213). -/
def igPlaintext (f : IgFrame) (key : List Byte) : List Byte × Bool :=
  let (plain, ok) := igDecrypt f key
  (f.bytes.take (12 + 4 * f.tags) ++ plain, ok)

/-- Beats of 16 bytes of the delivered frame before its final one (R207). -/
def beatsBefore (f : IgFrame) : Nat := (12 + 4 * f.tags + f.n - 1) / 16

/-- The bytes of an aborted CUT frame: all of them where a tower's result or a poisoned block decided, else those of a free number of beats,
at least one, that the tower had put out (R207, R209; assumption log 22). -/
def cutBytes (k : Nat) (f : IgFrame) (s : State) : State × List Byte :=
  if k = 17 || k = 18 then (s, f.out)
  else ({ s with draws := s.draws + 1 }, f.out.take (16 * (1 + Config.freeNat s.draws % beatsBefore f)))

/-- A CUT frame of which bytes have left ends with pa_abort_o (R209). -/
def igAbort (id k : Nat) (f : IgFrame) (s : State) : State :=
  let (s, l) := cutBytes k f s
  raise 64 f.port (f.rxsc.getD 0 + k * 2 ^ 16) (cntIg f.port 26 (igCharge k f
    (setCore f { bytes := l, ts := f.ts, info := igInfo f k, abort := true } (igGone id f s))))

/-- The first beat of a CUT frame leaves: CutReleased and the latency (R207, R215, R217). -/
def cutStarts (f : IgFrame) (s : State) : State :=
  rmax (rPA_IG_LATENCY f.port) 0 12 (2 * (s.clock - f.since)) (cntIg f.port 25 s)

/-- The frame is dropped, or aborted once some of it has left, under outcome `k` (R173, R209). -/
def igEnd (id k : Nat) (f : IgFrame) (s : State) : State :=
  if f.started then igAbort id k f s else igCharge k f (igGone id f s)

/-- Outcome `k` of a frame that failed in a tower: dropped, or, of a started CUT frame, to be told with its final beat (R208). -/
def igFail (id k : Nat) (f : IgFrame) (s : State) : State :=
  if f.started then setItem id none (setIg id (some { f with st := .decided, outcome := k }) s) else igEnd id k f s

/-- A failed key and a poisoned block of an ingress frame (R203). -/
def igKeyFail (id st : Nat) (f : IgFrame) (s : State) : State := raise 60 f.port (f.sa + st * 2 ^ 16) (igFail id 19 f s)
def igPoison (id tower : Nat) (f : IgFrame) (s : State) : State := raise 61 f.port (f.sa + tower * 2 ^ 13) (igFail id 20 f s)

/-! ### Storage and jobs -/

def stc (s : State) (c : Nat) : Stc := tabGet {} s.stcs c
def setStc (c : Nat) (v : Stc) (s : State) : State := { s with stcs := tabPut {} s.stcs c v }
def modXfers (f : StcXfer → StcXfer) (c : Nat) (s : State) : State :=
  setStc c { stc s c with xfers := (stc s c).xfers.map f } s

/-- Number of the data unit with item number `id` in a transfer. -/
def unitNo (x : StcXfer) (id : Nat) : Option Nat := (findIdxFrom (fun u : StcUnit => u.id == id) 0 x.units).map Prod.fst

/-- The channel and transfer that hold data unit `id`. -/
def unitHome (s : State) (id : Nat) : Option (Nat × StcXfer × Nat) :=
  [0, 1].findSome? fun c => (stc s c).xfers.findSome? fun x => (unitNo x id).map fun k => (c, x, k)

/-- A transfer fails at data unit `k` (R355). The earliest failing unit stands. -/
def xferFail (x : StcXfer) (r : Res) (k : Nat) : StcXfer :=
  match x.fail with
  | some (r0, k0) => if k < k0 then { x with fail := some (r, k) } else { x with fail := some (r0, k0) }
  | none => { x with fail := some (r, k) }

/-- Discard the items of a transfer's units from unit `k` on; earlier units still return their data (R355, R359). -/
def dropUnits (x : StcXfer) (k : Nat) (s : State) : State := (x.units.drop k).foldl (fun s u => setItem u.id none s) s

def unitFail (id : Nat) (r : Res) (s : State) : State :=
  match unitHome s id with
  | some (c, x, k) => dropUnits x k (modXfers (fun y => if (unitNo y id).isSome then xferFail y r k else y) c s)
  | none => setItem id none s

/-- `n` bytes whose values the spec leaves open (assumption log 5). -/
def freeBytes (n : Nat) (s : State) : State × List Byte :=
  ({ s with draws := s.draws + n }, (List.range n).map fun i => mkB (Config.freeNat (s.draws + i)))

/-- Host memory at `addr` is left with undefined contents (R366). -/
def havoc (addr n : Nat) (s : State) : State :=
  let (s, l) := freeBytes n s
  (memWrite addr l s).1

/-- The output buffer of a tower job: address and length (R367 to R369). -/
def jobOut (w : List Word) : Nat × Nat :=
  match fld (wAt w 0) 0 8 with
  | 0x30 => (join48 (wAt w 14) (wAt w 15), fld (wAt w 4) 6 17 + (if flag (wAt w 4) 0 then 0 else 16))
  | 0x31 => (join48 (wAt w 12) (wAt w 13), fld (wAt w 6) 2 17)
  | _ => (join48 (wAt w 7) (wAt w 8), 18 * fld (wAt w 4) 1 7)

/-- A tower job ends: with any status but OK its output is undefined (R366). -/
def jobEnd (id n i : Nat) (r : Res) (s : State) : State :=
  let s := setItem id none s
  match entAt s n i with
  | some e =>
    if e.st = .running then
      let s := if r.st = .ok then s else havoc (jobOut e.words).1 (jobOut e.words).2 s
      finish n i r s
    else s
  | none => s

/-! ### Belfry slots -/

def bslot (s : State) (i : Nat) : BSlot := tabGet {} s.arr.belfry i
def setBslot (i : Nat) (b : BSlot) (s : State) : State := { s with arr := { s.arr with belfry := tabPut {} s.arr.belfry i b } }

/-- Empty a slot: a staging under way is abandoned (R254, R255). -/
def bslotEmpty (i : Nat) (s : State) : State :=
  let b := bslot s i
  let s := match b.st with | .staging id => setItem id none s | _ => s
  setBslot i { sa := b.sa } s

/-- A slot is emptied without a frame, which is counted where it held anything (R255). -/
def bslotDrop (i : Nat) (s : State) : State :=
  if (bslot s i).st = .empty then s else rsat rBELFRY_DISC_DROP 0 24 1 (bslotEmpty i s)

/-! ### The end of an item (R154, R203, R239, R273, R355, R366) -/

/-- An item ends without its result, for a key's failure, an erase, or the alarm. -/
def itemFail (id : Nat) (r : Res) (s : State) : State :=
  match item s id with
  | none => s
  | some x =>
    match x.kind with
    | .eg => match egFrame s id with
        | some f => egKeyFail id (statusCode r.st) f s
        | none => setItem id none s
    | .ig => match igFrame s id with
        | some f => igKeyFail id (statusCode r.st) f s
        | none => setItem id none s
    | .staging b => setItem id none (setBslot b { sa := (bslot s b).sa, barred := true } s)
    | .unit => unitFail id r s
    | .job n i => jobEnd id n i r s

/-- An item's block is poisoned in a tower (R239). -/
def itemPoison (id tower : Nat) (s : State) : State :=
  match item s id with
  | none => s
  | some x =>
    match x.kind with
    | .eg => match egFrame s id with
        | some f => egPoison id tower f s
        | none => setItem id none s
    | .ig => match igFrame s id with
        | some f => igPoison id tower f s
        | none => setItem id none s
    | .staging b => setItem id none (setBslot b { sa := (bslot s b).sa, barred := true } s)
    | .unit => unitFail id (failRes .retry 0x10) s
    | .job n i => jobEnd id n i { st := .retry, reason := 0x10, detail := tower } s

end Sys2Proof.Machine
end

