-- ==== Sys2Proof/Machine/Items.lean ====
section
/-! DEFINITION. Sys2Proof/Machine/Items.lean: towers and their items (R221 to R243): health and capacity, dispatch, contexts and
suspension, the expanded-key cache, key fetches, retirement and the rolling test. -/

namespace Sys2Proof.Machine

/-! ### Health and capacity (R227, R228, R238, R248) -/

/-- The healthy units of a kind: 9 cores or 3 GHASH units, in ascending number. -/
def healthy (v : Tower) (gh : Bool) : List Nat :=
  if gh then (List.range 3).filter fun u => !v.ghBad.testBit u else (List.range 9).filter fun u => !v.coreBad.testBit u

/-- In-service cores and GHASH units of a tower (R238). -/
def coresOf (v : Tower) : Nat := min 8 ((healthy v false).length - 1)
def ghashOf (v : Tower) : Nat := min 2 ((healthy v true).length - 1)

/-- The in-service cores that count for the table (R227). -/
def capOf (s : State) (t : Nat) : Nat := if inService s t then coresOf (tower s t) else 0

def capList (s : State) : List Nat := (List.range 8).map (capOf s)
def serviceList (s : State) : List Nat := (List.range 8).filter (inService s)

/-- 0 no cipher service, 1 ROUND, 2 HASH (R23, R228). -/
def dispMode (s : State) : Nat :=
  let n := (serviceList s).length
  if n = 0 then 0 else if n < 5 then 1 else 2

/-- In-service cores of the array. -/
def allCores (s : State) : Nat := (capList s).foldl (· + ·) 0

def serviceMask (s : State) : Nat := (serviceList s).foldl (fun m t => m + 2 ^ t) 0

/-- The tower with the largest credit, the lowest number on a tie. -/
def bestCredit : Nat → List Int → Nat → Int → Nat
  | _, [], b, _ => b
  | t, c :: r, b, m => if m < c then bestCredit (t + 1) r t c else bestCredit (t + 1) r b m

/-- `n` entries of the fill of R227. -/
def fillTable (caps : List Nat) (total : Int) : Nat → List Int → List Nat
  | 0, _ => []
  | n + 1, credit =>
    let credit := List.zipWith (fun (c : Int) (k : Nat) => c + k) credit caps
    let t := bestCredit 1 (credit.drop 1) 0 (credit.headD 0)
    t :: fillTable caps total n (modAt (fun c => c - total) t credit)

/-- A TWR_ITBL word of eight entries. -/
def itblWord (l : List Nat) : Word := mkW (l.foldr (fun t acc => t + acc * 8) 0)

/-- The summary of R248: towers in service, cores, mode, towers that have lost no unit. -/
def healthWord (s : State) : Nat :=
  let spare := (List.range 8).foldl (fun m t => if (tower s t).coreBad = 0 && (tower s t).ghBad = 0 then m + 2 ^ t else m) 0
  serviceMask s + allCores s * 2 ^ 8 + b2n (dispMode s == 1) * 2 ^ 15 + spare * 2 ^ 16

/-- TWR_HEALTH, TWR_CAP128 and TWR_CAP256 take their values, in the clock of a refill (R248). -/
def noteHealth (s : State) : State :=
  rset rTWR_HEALTH (mkW (healthWord s)) (rset rTWR_CAP128 (mkW (allCores s * 120)) (rset rTWR_CAP256 (mkW (allCores s * 1200 / 14)) s))

/-- Refill the indirection table: TWR_ITBL_GEN counts, the health registers change, TW_CAPACITY is raised, and TW_MODE when the mode differs
(R227, R228, R248). -/
def refill (oldMode : Nat) (s : State) : State :=
  let caps := capList s
  let tbl := fillTable caps (allCores s) 128 (List.replicate 8 0)
  let s := (List.range 16).foldl (fun s w => rset (rTWR_ITBL w) (itblWord ((tbl.drop (8 * w)).take 8)) s) s
  let s := noteHealth (rset rTWR_ITBL_GEN (rget s rTWR_ITBL_GEN + 1) s)
  let mode := dispMode s
  let s := raise 75 0 (allCores s + serviceMask s * 2 ^ 7 + b2n (mode == 1) * 2 ^ 15) s
  if mode = oldMode then s else raise 76 0 (b2n (mode == 1) + b2n (mode == 0) * 2) s

/-- Run a change of the array; the table is refilled when a tower's in-service cores or service changes (R227). -/
def arrayChange (f : State → State) (s : State) : State :=
  let s' := f s
  if capList s' = capList s && serviceList s' = serviceList s then s' else refill (dispMode s) s'

/-! ### Retirement and the rolling test (R238 to R243) -/

/-- The next healthy unit after `u` in ascending number, wrapping (R240). -/
def nextUnit (v : Tower) (gh : Bool) (u : Nat) : Nat :=
  let l := healthy v gh
  ((l.find? fun x => u < x).getD (l.headD 0))

/-- A tower with too few healthy units leaves service and is removed (R238). -/
def checkRemoved (t : Nat) (s : State) : State :=
  let v := tower s t
  let few := (healthy v false).length < 5
  let fewG := (healthy v true).length < 2
  if (few || fewG) && !v.removed then raise 74 t (b2n few + b2n fewG * 2) (setTower t { v with removed := true } s) else s

/-- Retire a unit with its cause; when it was the one out of service, the next healthy one takes that role. -/
def retireUnit (t : Nat) (gh : Bool) (u cause : Nat) (s : State) : State :=
  let v := tower s t
  if gh then
    if v.ghBad.testBit u then s
    else
      let v := { v with ghBad := v.ghBad + 2 ^ u }
      let v := if v.outGh = u then { v with outGh := nextUnit v true u } else v
      checkRemoved t (raise 73 t (u + cause * 2 ^ 4) (setTower t v s))
  else if v.coreBad.testBit u then s
  else
    let v := { v with coreBad := v.coreBad + 2 ^ u }
    let v := if v.outCore = u then { v with outCore := nextUnit v false u } else v
    checkRemoved t (raise 72 t (u + cause * 2 ^ 4) (setTower t v s))

/-- Is a step of the rolling test due: PERIOD ms since the latest one (R240)? -/
def testDue (s : State) : Bool := s.arr.testAt + rfld s rTWR_TEST 0 8 * 1000 * usClocks ≤ s.clock

/-- One step of the rolling test in every tower in service, every PERIOD ms (R240). -/
def rollingTestStep (s : State) : State :=
  if domOn s dHOST && testDue s then
    (serviceList s).foldl (fun s t =>
      let v := tower s t
      setTower t { v with outCore := nextUnit v false v.outCore, outGh := nextUnit v true v.outGh,
                          testCore := true, testGh := true } s) { s with arr := { s.arr with testAt := s.clock } }
  else s

/-- The place of a unit in a 12-bit mark: cores in [8:0], GHASH units in [11:9] (R244). -/
def unitBit (gh : Bool) (u : Nat) : Nat := if gh then 9 + u else u

/-- A tower whose start-up tests have all ended enters service, with its first healthy units out for the rolling test (R238, R243). -/
def enterService (t : Nat) (s : State) : State :=
  let v := tower s t
  if v.kat = 0 then
    setTower t { v with started := true, leaving := false, outCore := (healthy v false).headD 0, outGh := (healthy v true).headD 0,
                        testCore := false, testGh := false } s
  else s

/-- The known-answer test of a unit ends: at the tower's start (R243), or of the unit out of service (R240, R241). -/
def katDone (t : Nat) (gh : Bool) (u : Nat) (pass : Bool) (s : State) : State :=
  let v := tower s t
  if domOn s (twDomain t) && v.kat.testBit (unitBit gh u) then
    arrayChange (fun s =>
      let s := setTower t { v with kat := v.kat - 2 ^ unitBit gh u } s
      enterService t (if pass then s else retireUnit t gh u 1 s)) s
  else if domOn s (twDomain t) && v.started && (if gh then v.testGh && v.outGh == u else v.testCore && v.outCore == u) then
    if pass then setTower t (if gh then { v with testGh := false } else { v with testCore := false }) s
    else arrayChange (retireUnit t gh u 1) s
  else s

/-- The production defect map of tower `t`: cores in [8:0], GHASH units in [11:9] (R243, R244). -/
def defectOf (s : State) (t : Nat) : Nat := bitsN s.fuses.defect (12 * t) 12

/-- Retire every unit of tower `t` that a 12-bit mark names. -/
def retireMarked (t mark cause : Nat) (s : State) : State :=
  let s := (List.range 9).foldl (fun s u => if mark.testBit u then retireUnit t false u cause s else s) s
  (List.range 3).foldl (fun s u => if mark.testBit (9 + u) then retireUnit t true u cause s else s) s

/-- The healthy units of a tower as a 12-bit mark. -/
def healthyMask (v : Tower) : Nat :=
  (healthy v false).foldl (fun m u => m + 2 ^ u) 0 + (healthy v true).foldl (fun m u => m + 2 ^ (9 + u)) 0

/-- A powered group's towers start: the defect map is marked, and every other unit runs its known-answer test at once; a tower enters service
when the last of its tests has ended (R243, R247; assumption log 12). -/
def startTowers (ts : List Nat) (s : State) : State :=
  arrayChange (fun s => ts.foldl (fun s t =>
    let s := retireMarked t (defectOf s t) 2 s
    let v := tower s t
    enterService t (setTower t { v with kat := healthyMask v, started := false, leaving := false, cache := [] } s)) s) s

/-! ### Dispatch (R224 to R226) -/

/-- The index of a dispatch key in the table (R225). -/
def hashIndex (key : Nat) : Nat :=
  let h := ((key ^^^ 0x5A5A5A) * 0x9E3779) % 2 ^ 24
  (h ^^^ (h >>> 13)) % 128

def tableAt (s : State) (i : Nat) : Nat := rfld s (rTWR_ITBL (i / 8)) (3 * (i % 8)) 3

/-- The items of a tower in a given state, with their numbers. -/
def towerItems (s : State) (t : Nat) (st : ItemSt) : List (Nat × Item) :=
  s.items.filterMap fun p => match p.2 with
    | some x => if x.st = st && x.tower = t && x.st != .crossbar then some (p.1, x) else none
    | none => none

/-- Has tower `t` a free input slot for class `c` (R225)? -/
def slotFor (s : State) (t c : Nat) : Bool :=
  inService s t && ((towerItems s t .queued).filter fun p => p.2.cls == c).length < 8

/-- The tower that would take an item now (R225, R226). -/
def target (s : State) (x : Item) : Option Nat :=
  if dispMode s = 2 then
    ((List.range 128).map fun i => tableAt s ((hashIndex x.dkey + i) % 128)).find? fun t => slotFor s t x.cls
  else ((List.range 8).map fun i => (s.arr.lastRound + 1 + i) % 8).find? fun t => slotFor s t x.cls

/-- An order number. -/
def takeOrder (s : State) : State × Nat := ({ s with arr := { s.arr with nextOrder := s.arr.nextOrder + 1 } }, s.arr.nextOrder)

/-- A new item number. -/
def takeId (s : State) : State × Nat := ({ s with arr := { s.arr with nextId := s.arr.nextId + 1 } }, s.arr.nextId)

/-! ### The expanded-key cache (R234 to R237) -/

def reqSlot (q : KeyReq) : Nat := q.kref % 4096

/-- Is the entry the one that a key of an item asks for (R234)? Its destinations are those of the item's dispatch: an entry from before a
SLOT_ATTR serves only work dispatched before it (R315; assumption log 61). -/
def entFor (k : Take) (e : CacheEnt) : Bool :=
  !e.tagBad && e.slot == reqSlot k.req && e.gen == k.gen && e.derived == (krefType k.req.kref == 1) && e.len == k.req.len
    && (!e.derived || (e.label == k.req.label && e.use == k.req.use)) && slotDest e.attr == slotDest k.body

/-- A key as an item takes it at its dispatch (R271, R315); its slot's own key stays in the Dome (R14). -/
def takeOf (s : State) (q : KeyReq) : Take :=
  { req := q, gen := slotGen s (reqSlot q), body := { slot s (reqSlot q) with key := [], share := [] } }

/-- Does an active or suspended item of the tower reference the entry (R235)? -/
def referenced (s : State) (t : Nat) (e : CacheEnt) : Bool :=
  (towerItems s t .active ++ towerItems s t .suspended).any fun p => p.2.takes.any fun k => entFor k e

/-- Drop the least recently used entry that no item references. -/
def evict (s : State) (t : Nat) (l : List CacheEnt) : List CacheEnt :=
  match l.reverse.find? fun e => !referenced s t e with
  | some e => l.filter fun f => f != e
  | none => l

/-- Put an entry in front of the tower's cache (R235). -/
def cachePut (t : Nat) (e : CacheEnt) (s : State) : State :=
  let v := tower s t
  let l := v.cache.filter fun f => f != e
  let l := if l.length < 32 then l else evict s t l
  setTower t { v with cache := e :: l } s

/-- What a lookup of an item's keys in its tower's cache gives: keys of the hits, or the failure of a hit (R234). -/
def lookupKeys (v : Tower) : List Take → Option (Except Res (List (List Byte)))
  | [] => some (.ok [])
  | k :: r =>
    match v.cache.find? (entFor k) with
    | none => none
    | some e =>
      match resolveIn e.attr e.gen k.req.kref k.req.label k.req.use k.req.len with
      | .error x => some (.error x)
      | .ok _ =>
        match lookupKeys v r with
        | some (.ok l) => some (.ok (e.key :: l))
        | o => o

/-- The keys of an item that its tower's cache does not hold. -/
def missing (v : Tower) (x : Item) : List Take := x.takes.filter fun k => (v.cache.find? (entFor k)).isNone

/-- Move the entries that an item uses to the front of its tower's cache. -/
def touchCache (t : Nat) (x : Item) (s : State) : State :=
  x.takes.foldl (fun s k => match (tower s t).cache.find? (entFor k) with
    | some e => cachePut t e s
    | none => s) s

/-- A lookup that meets an entry with bad tag parity misses, and the entry goes (R237). -/
def dropBadTags (t : Nat) (s : State) : State :=
  let v := tower s t
  setTower t { v with cache := v.cache.filter fun e => !e.tagBad } s

/-- A CUT frame whose plaintext can stream, and whose lane holds no earlier frame, starts to leave (R207). -/
def igStream (id : Nat) (key : List Byte) (s : State) : State :=
  match igFrame s id with
  | some f =>
    if f.cut && !f.started && igHead s id f && 0 < beatsBefore f then
      cutStarts f (setIg id (some { f with started := true, out := (igPlaintext f key).1 }) s)
    else s
  | none => s

/-- An item has its keys. -/
def gotKeys (id : Nat) (x : Item) (keys : List (List Byte)) (s : State) : State :=
  let s := setItem id (some { x with keys, hasKeys := true }) s
  if x.kind = .ig then igStream id (keys.headD []) s else s

/-! ### Contexts and suspension (R229 to R233) -/

/-- Admit an item to an active context: its keys come from the cache, or a fetch from the Dome begins (R230, R234). -/
def admitItem (t id : Nat) (x : Item) (s : State) : State :=
  let (s, o) := takeOrder s
  let x := { x with st := .active, order := o }
  let s := setItem id (some x) (dropBadTags t s)
  if x.hasKeys then s
  else match lookupKeys (tower s t) x.takes with
    | some (.ok keys) => gotKeys id x keys (touchCache t x s)
    | some (.error r) => itemFail id r s
    | none => rsat (rTWR_TOW_MISS t) 0 24 (missing (tower s t) x).length (touchCache t x s)

/-- The best of a list: the highest class (lowest number), then the oldest. -/
def firstItem (l : List (Nat × Item)) : Option (Nat × Item) :=
  l.foldl (fun b p => match b with
    | none => some p
    | some q => if p.2.cls < q.2.cls || (p.2.cls = q.2.cls && p.2.order < q.2.order) then some p else b) none

/-- The suspension candidate: the lowest class present, the most recently admitted (R230). -/
def victim (l : List (Nat × Item)) : Option (Nat × Item) :=
  l.foldl (fun b p => match b with
    | none => some p
    | some q => if q.2.cls < p.2.cls || (p.2.cls = q.2.cls && q.2.order < p.2.order) then some p else b) none

/-- The next item for a free context (R232). -/
def nextItem (s : State) (t : Nat) : Option (Nat × Item) :=
  match firstItem (towerItems s t .queued), firstItem (towerItems s t .suspended) with
  | some q, some x => if q.2.cls < x.2.cls then some q else some x
  | some q, none => some q
  | none, o => o

/-- Record the context store's use (TWR_TOWt_CTX PEAK). -/
def notePeak (t : Nat) (s : State) : State := rmax (rTWR_TOW_CTX t) 8 5 (towerItems s t .suspended).length s

/-- Fill the tower's free contexts, and suspend lower classes for waiting higher ones (R230 to R233). -/
def pump : Nat → Nat → State → State
  | 0, _, s => s
  | fuel + 1, t, s =>
    if (towerItems s t .active).length < 8 then
      match nextItem s t with
      | some (id, x) => pump fuel t (admitItem t id x s)
      | none => s
    else
      match firstItem (towerItems s t .queued), victim (towerItems s t .active) with
      | some (id, x), some (vid, y) =>
        if x.cls < y.cls && y.cls ≠ 0 then
          if (towerItems s t .suspended).length < 16 then
            let (s, o) := takeOrder s
            pump fuel t (admitItem t id x (notePeak t (setItem vid (some { y with st := .suspended, order := o }) s)))
          else raise 78 t 0 s
        else s
      | _, _ => s

/-- Fill every tower. -/
def pumpAll (s : State) : State := (List.range 8).foldl (fun s t => pump 64 t s) s

/-- A job whose descriptor no longer runs (its ring was stopped) leaves its tower with its output undefined (R70, R366). -/
def reapJobs (s : State) : State :=
  s.items.foldl (fun s p => match p.2 with
    | some { kind := .job n i, .. } =>
      match entAt s n i with
      | some e => if e.st = .running then s else havoc (jobOut e.words).1 (jobOut e.words).2 (setItem p.1 none s)
      | none => setItem p.1 none s
    | _ => s) s

/-- Every CUT frame that can stream does (R207). -/
def streamAll (s : State) : State :=
  (igList s).foldl (fun s p => match item s p.1 with
    | some x => if x.hasKeys then igStream p.1 (x.keys.headD []) s else s
    | none => s) s

/-- The crossbar sends item `id` to a tower (R225, R226, R271); a higher class that can go goes first (R28). -/
def itemDispatch (id : Nat) (s : State) : State :=
  match item s id with
  | none => s
  | some x =>
    let ahead := s.items.any fun p => match p.2 with
      | some y => y.st == .crossbar && y.cls < x.cls && (target s y).isSome
      | none => false
    if domOn s dHOST && x.st = .crossbar && !ahead then
      match target s x with
      | none => s
      | some t =>
        let (s, o) := takeOrder s
        let s := { s with arr := { s.arr with lastRound := if dispMode s = 1 then t else s.arr.lastRound } }
        setItem id (some { x with st := .queued, tower := t, order := o, takes := x.reqs.map (takeOf s) }) s
    else s

/-! ### Key fetches (R234, R289 to R293) -/

/-- Record a failed fetch (R292, R320). -/
def fetchFail (inst slotNo : Nat) (r : Res) (s : State) : State :=
  let c := rfld s rDOM_FETCH_FAIL 20 4
  raise 101 inst (slotNo + statusCode r.st * 2 ^ 16)
    (rset rDOM_FETCH_FAIL (mkW (slotNo + statusCode r.st * 2 ^ 12 + satAdd 4 c 1 * 2 ^ 20)) s)

/-- One key of an item: from its tower's cache under the checks of a hit, else resolved by the Dome as of its dispatch. A failed fetch is told
with its slot (R234, R291). -/
def fetchOne (v : Tower) (s : State) (k : Take) : Except (Option Nat × Res) (List Byte) :=
  match v.cache.find? (entFor k) with
  | some e => match resolveIn e.attr e.gen k.req.kref k.req.label k.req.use k.req.len with
    | .error r => .error (none, r)
    | .ok _ => .ok e.key
  | none => match resolveAt s k.body k.gen k.req.kref k.req.label k.req.use k.req.len with
    | .error r => .error (some (reqSlot k.req), r)
    | .ok key => .ok key

/-- Every key of an item. -/
def fetchKeys (v : Tower) (s : State) : List Take → Except (Option Nat × Res) (List (List Byte))
  | [] => .ok []
  | k :: r =>
    match fetchOne v s k with
    | .error e => .error e
    | .ok k => match fetchKeys v s r with
      | .ok l => .ok (k :: l)
      | .error e => .error e

/-- Fill the tower's cache with the fetched keys, each with the destination attributes it was fetched under (R234). -/
def fillCache (t : Nat) : List (Take × List Byte) → State → State
  | [], s => s
  | (k, key) :: r, s =>
    let q := k.req
    let s := touchDcache k.gen q.kref q.label q.use q.len s
    fillCache t r (cachePut t { slot := reqSlot q, gen := k.gen, derived := krefType q.kref == 1,
                                label := if krefType q.kref = 1 then q.label else 0, use := q.use, len := q.len,
                                attr := k.body, key } s)

/-- The Dome answers the fetch of item `id` (R289 to R293). -/
def keyFetchDone (id : Nat) (s : State) : State :=
  match item s id with
  | none => s
  | some x =>
    if domOn s dDOME && !s.pwr.remasking && !x.hasKeys && (x.st = .active || x.st = .suspended) then
      let v := tower s x.tower
      match fetchKeys v s x.takes with
      | .error (some i, r) => itemFail id r (fetchFail x.tower i r s)
      | .error (none, r) => itemFail id r s
      | .ok keys =>
        let new := (x.takes.zip keys).filter fun p => (missing v x).contains p.1
        gotKeys id x keys (fillCache x.tower new s)
    else s

/-! ### Slots in use (R236, R271, R273, R296) -/

/-- Does an item name the slot? -/
def itemNames (x : Item) (i : Nat) : Bool := x.reqs.any fun q => reqSlot q == i

/-- Is a key of slot `i` under generation `g` still to be taken by a dispatched item (R271)? -/
def holdNeeded (s : State) (i g : Nat) : Bool :=
  s.items.any fun p => match p.2 with
    | some x => x.st != .crossbar && !x.hasKeys && x.takes.any fun k => reqSlot k.req == i && k.gen == g
    | none => false

/-- Invalidate cache entries in every tower. -/
def cacheDrop (p : CacheEnt → Bool) (s : State) : State :=
  { s with arr := { s.arr with towers := tabMap {} (fun _ v => { v with cache := v.cache.filter fun e => !p e }) s.arr.towers } }

/-- Number of the first data unit that a tower has not returned. -/
def firstOpen (x : StcXfer) : Nat := ((findIdxFrom (fun u : StcUnit => u.out.isNone) 0 x.units).map Prod.fst).getD x.units.length

/-- Does an erase of slot `i` still reach the transfer (R355)? -/
def xferUses (x : StcXfer) (i : Nat) : Bool :=
  x.ce && x.fail.isNone && (x.entry.dataKref % 4096 == i || x.entry.tweakKref % 4096 == i)
    && !(x.last && firstOpen x == x.units.length)

/-- The effects of an erase of slot `i` on work in progress (R236, R255, R273, R355). -/
def eraseHook (i : Nat) (s : State) : State :=
  let s := cacheDrop (fun e => e.slot == i) s
  let s := s.arr.belfry.foldl (fun s p => match p.2.sa with
    | some a => if (assoc s a).kref % 4096 = i then bslotDrop p.1 s else s
    | none => s) s
  let s := [0, 1].foldl (fun s c => (stc s c).xfers.foldl (fun s x =>
      if xferUses x i then
        dropUnits x (firstOpen x) (modXfers (fun y => if y = x then xferFail y (failRes .keyRevoked 1) (firstOpen y) else y) c s)
      else s) s) s
  s.items.foldl (fun s p => match p.2 with
    | some x => if itemNames x i then itemFail p.1 (failRes .keyRevoked 1) s else s
    | none => s) s

/-- The Dome lets go of a preceding key that every earlier item has taken; its derived keys go too (R271, R295, R296). -/
def precedingKeyRelease (s : State) : State :=
  match s.dome.held.find? fun h => !holdNeeded s h.slot h.gen with
  | some h =>
    if domOn s dDOME then
      { s with dome := { s.dome with held := s.dome.held.filter fun g => g != h,
                                     dcache := s.dome.dcache.filter fun t => !(t.slot == h.slot && t.gen == h.gen) } }
    else s
  | none => s

end Sys2Proof.Machine
end

