-- ==== Sys2Proof/Machine/Belfry.lean ====
section
/-! DEFINITION. Sys2Proof/Machine/Belfry.lean: the Belfry's slots (R249 to R255). -/

namespace Sys2Proof.Machine

/-! ### Slots -/

/-- Slots held by associations (R249). -/
def belfryHeld (s : State) : Nat := (s.arr.belfry.filter fun p => p.2.sa.isSome).length

/-- The lowest free slot. -/
def belfryFree (s : State) : Option Nat := (List.range 512).find? fun i => (bslot s i).sa.isNone

/-- Give a scheduled association the lowest free slot (R249). -/
def belfryAssign (sa : Nat) (s : State) : State :=
  match belfryFree s with
  | some i => modAssoc sa (fun a => { a with belfry := some i }) (setBslot i { sa := some sa } s)
  | none => s

/-- Empty the slot of an association (R255). -/
def belfryEmptyOf (sa : Nat) (s : State) : State :=
  match (assoc s sa).belfry with
  | some i => bslotDrop i s
  | none => s

/-- An association becomes IN_USE: staging may start, whatever became of an earlier staging (R251). -/
def belfryFresh (sa : Nat) (s : State) : State :=
  match (assoc s sa).belfry with
  | some i => setBslot i { bslot s i with barred := false } s
  | none => s

/-- The slot of an association that is retired (R255, R268). -/
def belfryRelease (sa : Nat) (s : State) : State :=
  match (assoc s sa).belfry with
  | some i => setBslot i {} (bslotDrop i s)
  | none => s

/-! ### Consumption by a frame (R155, R254) -/

/-- Why the slot of a PN is discarded, as the register that counts it; none for a hit. -/
def discardReg (b : BSlot) (gen pn enc : Nat) : Option Nat :=
  if b.st ≠ .ready || b.pn ≠ pn then some rBELFRY_DISC_NR
  else if b.gen ≠ gen then some rBELFRY_DISC_GEN
  else if 2016 < enc then some rBELFRY_DISC_LEN
  else none

/-- A frame of association `sa` on `port` takes `pn`: it hits the association's slot or discards it; the slot is consumed either
way (R155, R254). The keystream's key and nonce on a hit. -/
def belfryTake (port sa pn enc : Nat) (s : State) : State × Option (List Byte × List Byte) :=
  let a := assoc s sa
  match a.belfry with
  | none => (s, none)
  | some i =>
    let b := bslot s i
    let s' := bslotEmpty i s
    match discardReg b (slotGen s (a.kref % 4096)) pn enc with
    | some r => (cntEg port 25 (rsat r 0 24 1 s'), none)
    | none => (cntEg port 24 s', some (b.key, b.nonce))

/-! ### Staging (R251 to R253) -/

/-- The most tokens the budget holds, in 1/500 block (R253). -/
def tokenCap (s : State) : Nat := max (rfld s rBELFRY_BUDGET 0 10) 127 * usClocks

/-- The tokens now: BUDGET per µs since they were counted. -/
def tokensNow (s : State) : Nat :=
  min (tokenCap s) (s.arr.tokens + (s.clock - s.arr.tokenAt) * rfld s rBELFRY_BUDGET 0 10)

/-- Count the tokens up to now, and take some. -/
def takeTokens (n : Nat) (s : State) : State :=
  { s with arr := { s.arr with tokens := tokensNow s - n, tokenAt := s.clock } }

/-- The cost of a staging in blocks (R253). -/
def stageCost (y : Secy) : Nat := if secyConf y then 127 else 1

/-- The dispatch key of a frame's or staging's item (R224). -/
def frameKey (sa : Nat) (ig : Bool) : Nat := sa + b2n ig * 2 ^ 13

/-- The key request of a link association (R289). -/
def linkReq (kref label suite : Nat) : KeyReq := { kref, label, use := .link, len := suiteKeyLen suite }

/-- STAGING_START of slot `i` (R251 to R253). -/
def stagingStart (i : Nat) (s : State) : State :=
  let b := bslot s i
  match b.sa with
  | none => s
  | some sa =>
    let a := assoc s sa
    let y := secy s a.channel
    let port := secyPort y
    let due := match nextLaunch s port a.channel with
      | some t => t ≤ wcNs s + rfld s rBELFRY_CTRL 0 16
      | none => true
    if domOn s dPIPE && domOn s dHOST && a.state = .inUse && b.st = .empty && !b.barred && due then
      let cost := stageCost y * usClocks
      if tokensNow s < cost then raise 79 (pplOf port) i s
      else
        let (s, id) := takeId (takeTokens cost s)
        let x : Item := { kind := .staging i, cls := 1, dkey := frameKey sa false,
                          reqs := [linkReq a.kref a.label (secySuite y)] }
        let nonce := ivOf (secySuite y) y.sci a.ssci a.salt a.nextPn
        setItem id (some x) (setBslot i { b with st := .staging id, pn := a.nextPn, nonce } s)
    else s

/-- STAGING_RAISE of slot `i`: less than 1 µs remains before its known launch time (R252). -/
def stagingRaise (i : Nat) (s : State) : State :=
  let b := bslot s i
  match b.sa, b.st with
  | some sa, .staging id =>
    let y := (assoc s sa).channel
    match nextLaunch s (secyPort (secy s y)) y, item s id with
    | some t, some x => if t < wcNs s + 1000 then setItem id (some { x with cls := 0 }) s else s
    | _, _ => s
  | _, _ => s

/-- A staging's tower has its keystream: the slot is READY under the generation it used (R250, R252). -/
def stagingDone (i : Nat) (x : Item) (s : State) : State :=
  rsat rBELFRY_STAGED 0 24 1
    (setBslot i { bslot s i with st := .ready, gen := (x.takes.head?.map Take.gen).getD 0, key := x.keys.headD [] } s)

end Sys2Proof.Machine
end

