-- ==== Sys2Proof/Machine/SpireLink.lean ====
section
/-! DEFINITION. Sys2Proof/Machine/SpireLink.lean: Spire Link's node ID and routing, packets as words with their CRC, ports' queues,
tags, the posted-error log (R412 to R414, R417 to R425, R427, R431, R432). -/

namespace Sys2Proof.Machine

/-! ### Ports and the node -/

def sport (s : State) (p : Nat) : SPort := tabGet {} s.spl.ports p
def setSport (p : Nat) (v : SPort) (s : State) : State := { s with spl := { s.spl with ports := tabPut {} s.spl.ports p v } }
def modSport (p : Nat) (f : SPort → SPort) (s : State) : State := setSport p (f (sport s p)) s

/-- The node's own ID (R420, R423). -/
def ownNode (s : State) : Nat := rfld s rSPL_NODE 0 12
def isTree (s : State) : Bool := rflag s rSPL_NODE 12

/-- Has the node its ID (R423)? -/
def nodeHasId (s : State) : Bool := !isTree s || rflag s rSPL_NODE 13 || s.spl.hasId

/-- Is the port ACTIVE or RETRAIN: does a packet queued on it wait for it (R432)? -/
def portUp (s : State) (p : Nat) : Bool := (sport s p).st == .active || (sport s p).st == .retrain

/-! ### Routing (R421, R423) -/

inductive Route where
  | here
  | port (p : Nat)
  | none
deriving DecidableEq, Repr

/-- The port toward `x` from tree node `me`: DA or DB where `x` lies in its subtree, U otherwise. -/
def treeHop (me : Nat) : Nat → Nat → Nat
  | 0, _ => 0
  | k + 1, x => if x = 0 then 0 else if (x - 1) / 2 = me then (if x % 2 = 1 then 1 else 2) else treeHop me k ((x - 1) / 2)

/-- The entry of the route table that a destination matches (R421). -/
def tableRoute (s : State) (d : Nat) : Route :=
  match (List.range 16).find? fun r => rflag s (rSPL_ROUTE_PORT r) 2 && rfld s (rSPL_ROUTE_PORT r) 0 2 != 3
      && rfld s (rSPL_ROUTE_RANGE r) 0 12 ≤ d && d ≤ rfld s (rSPL_ROUTE_RANGE r) 12 12 with
  | some r => .port (rfld s (rSPL_ROUTE_PORT r) 0 2)
  | none => .none

/-- Where a packet for `d` goes. -/
def route (s : State) (d : Nat) : Route :=
  if d = ownNode s && nodeHasId s || d = 0xFFE then .here
  else if isTree s then (if nodeHasId s then .port (treeHop (ownNode s) 12 d) else .port 0)
  else tableRoute s d

/-- The first hop of a packet of the node's own: 0xFFE names no hop here, and nothing is sent to the node itself. -/
def firstHop (s : State) (d : Nat) : Option Nat :=
  match route s d with
  | .port p => some p
  | _ => none

/-! ### Words of a packet (R412) -/

/-- One byte of the CRC-24. -/
def crcByte (c : Nat) (b : Byte) : Nat :=
  (List.range 8).foldl (fun c _ => if c.testBit 23 then (c * 2) ^^^ 0x1864CFB else c * 2) (c ^^^ (b.toNat * 2 ^ 16))

def crc24 (l : List Word) : Nat := (wordsBytes l).foldl crcByte 0xB704CE

/-- Words of an ACK packet, and of any other, but for the CRC. -/
def pktWords (seq ack xoff : Nat) (p : Pkt) : List Word :=
  [mkW (seq + ack * 2 ^ 12), mkW (p.vc + p.ty * 2 ^ 3 + p.payload.length * 2 ^ 7 + xoff * 2 ^ 16)]
    ++ (if p.ty = 0 then [] else [mkW (p.dest + p.src * 2 ^ 12), mkW (p.tag + p.epoch * 2 ^ 12 + p.hops * 2 ^ 16 + p.sub * 2 ^ 20)]
          ++ p.payload)

def withCrc (l : List Word) : List Word := l ++ [mkW (crc24 l)]

/-! ### The byte stream on the lanes (R404) -/

/-- A symbol in a byte slot of the stream: a data byte, or in Gen1 a K symbol. -/
structure Sym where
  k : Bool
  byte : Byte
deriving DecidableEq, Repr

/-- Packet start: K27.7, or byte 0xFB at Gen2. -/
def startSym (gen2 : Bool) : Sym := { k := !gen2, byte := 0xFB }
/-- The filling of an unused byte slot: K28.3, or byte 0x00 at Gen2. -/
def idleSym (gen2 : Bool) : Sym := if gen2 then { k := false, byte := 0 } else { k := true, byte := 0x7C }
/-- Gen1's skip, sent on every lane once every 1,024 symbols: K28.5 and three K28.0. -/
def skipSyms : List Sym := [{ k := true, byte := 0xBC }, { k := true, byte := 0x1C }, { k := true, byte := 0x1C }, { k := true, byte := 0x1C }]
/-- The sync header of a Gen2 block: 10b for data, 01b for an ordered set. -/
def syncHeader (ordered : Bool) : BitVec 2 := if ordered then 0b01 else 0b10

/-- A packet in the stream: its start, then its words, bits [7:0] of each first. -/
def packetSyms (gen2 : Bool) (l : List Word) : List Sym := startSym gen2 :: (wordsBytes l).map fun b => { k := false, byte := b }

/-- What logical lane `i` of `w` carries of symbols whose first stands in byte slot `at_`: byte k of the stream goes on lane k mod w. -/
def laneSyms (w at_ i : Nat) (l : List Sym) : List Sym :=
  match l with
  | [] => []
  | x :: r => if at_ % w = i then x :: laneSyms w (at_ + 1) i r else laneSyms w (at_ + 1) i r

/-- Length of a packet in words. -/
def pktLen (p : Pkt) : Nat := if p.ty = 0 then 3 else p.payload.length + 5
def pktBytes (p : Pkt) : Nat := 3 * pktLen p

/-- A received packet: its fields of one hop, its end-to-end fields, whether its CRC is good. The length is that of its header
(R404); a word that is missing reads as zero. -/
structure Rx where
  seq : Nat
  ack : Nat
  xoff : Nat
  crcOk : Bool
  pkt : Pkt
deriving DecidableEq, Repr

def parsePkt (l : List Word) : Rx :=
  let h0 := wAt l 0
  let h1 := wAt l 1
  let ty := fld h1 3 4
  let len := if ty = 0 then 2 else fld h1 7 9 + 4
  let body := (List.range len).map (wAt l)
  { seq := fld h0 0 12, ack := fld h0 12 12, xoff := fld h1 16 8, crcOk := mkW (crc24 body) == wAt l len
    pkt := { vc := fld h1 0 3, ty, dest := fld (wAt l 2) 0 12, src := fld (wAt l 2) 12 12, tag := fld (wAt l 3) 0 12,
             epoch := fld (wAt l 3) 12 4, hops := fld (wAt l 3) 16 4, sub := fld (wAt l 3) 20 4, payload := body.drop 4 } }

/-- Does the VC match the TYPE (R413)? -/
def typeOk (p : Pkt) : Bool :=
  match p.ty with
  | 1 => p.vc == 0
  | 2 => p.vc == 0
  | 3 => p.vc == 1 || p.vc == 7
  | 4 => p.vc == 1
  | 5 => p.vc == 2
  | 6 => p.vc == 6
  | 7 => p.vc == 6
  | 8 => p.vc == 3
  | 9 => p.vc == 4
  | 10 => p.vc == 5
  | 11 => p.vc == 7
  | _ => false

/-- The last SEQ that the port has accepted, as its packets' ACK (R411, R414). -/
def lastAccepted (v : SPort) : Nat := (v.rxSeq + 4095) % 4096

/-! ### Receive buffers and flow control (R417) -/

/-- Bytes of port `p`'s receive buffer of a VC: packets that wait on some port for their way on (R422), and accesses that wait for the
near bus (R429). -/
def rxUsed (s : State) (p vc : Nat) : Nat :=
  s.spl.busWait.foldl (fun n q => if q.1 = p && q.2.vc = vc then n + pktBytes q.2 else n)
    (([0, 1, 2].flatMap fun q => (sport s q).queue).foldl
      (fun n q => if q.from_ = some p && q.pkt.vc = vc then n + pktBytes q.pkt else n) 0)

/-- Has the receive buffer room for the packet? -/
def rxRoom (s : State) (p : Nat) (k : Pkt) : Bool := rxUsed s p k.vc + pktBytes k ≤ 24576

/-- A packet goes out in some byte slot of the stream: a packet may start in any (R404; free). -/
def onStream (p : Nat) (v : SPort) (s : State) : State :=
  setSport p { v with lineAt := Config.freeNat s.draws % 4 } { s with draws := s.draws + 1 }

/-- Send an ACK packet (R416). -/
def sendAck (p : Nat) (s : State) : State :=
  let v := sport s p
  if v.st = .active then
    onStream p { v with ackDue := false, sentAt := s.clock,
                        line := withCrc (pktWords 0 (lastAccepted v) v.xoffTx { vc := 0, ty := 0, dest := 0, src := 0 }) } s
  else s

/-- The XOFF bits that the port's buffers ask for now. -/
def xoffNow (s : State) (p : Nat) : Nat :=
  let room := rfld s (rSP_FC p) 0 5 * 1024
  (List.range 8).foldl (fun m vc =>
    let free := 24576 - rxUsed s p vc
    if free < room || ((sport s p).xoffTx.testBit vc && free < room + 2048) then m + 2 ^ vc else m) 0

/-- Follow the buffers with the XOFF bits; a change sends an ACK packet at once (R416, R417). -/
def xoffUpdate (p : Nat) (s : State) : State :=
  let x := xoffNow s p
  if x = (sport s p).xoffTx then s else sendAck p (modSport p (fun v => { v with xoffTx := x }) s)

def xoffAll (s : State) : State := xoffUpdate 2 (xoffUpdate 1 (xoffUpdate 0 s))

/-! ### Tags (R424, R425) -/

def splTag (s : State) (t : Nat) : Tag := tabGet .free s.spl.tags t
def setTag (t : Nat) (v : Tag) (s : State) : State := { s with spl := { s.spl with tags := tabPut .free s.spl.tags t v } }

/-- May the tag be taken now? -/
def tagFree (s : State) (t : Nat) : Bool :=
  match splTag s t with
  | .free => true
  | .parked u => u ≤ s.clock
  | _ => false

/-- The next tag in ascending order. -/
def nextTag (s : State) : Option Nat :=
  ((List.range 4096).map fun i => (s.spl.nextTag + i) % 4096).find? (tagFree s)

/-- The link epoch increments; tags freed by TIMEOUT may be taken again (R408, R425). -/
def epochStep (s : State) : State :=
  { s with spl := { s.spl with epoch := (s.spl.epoch + 1) % 16
                               tags := s.spl.tags.filter fun t => match t.2 with | .parked _ => false | _ => true } }

/-- A tag freed by TIMEOUT is kept until the epoch changes, or for 4 × SPL_TIMEOUT TIMEOUT (R425). -/
def parkTag (t : Nat) (s : State) : State := setTag t (.parked (s.clock + 4 * rfld s rSPL_TIMEOUT 0 16 * usClocks)) s

/-- Take tag `t` for a use. -/
def takeTag (t : Nat) (v : Tag) (s : State) : State :=
  let s := setTag t v s
  { s with spl := { s.spl with nextTag := (t + 1) % 4096 } }

/-- Tags in use (SPL_TAGS OUTSTANDING). -/
def tagsOut (s : State) : Nat :=
  (s.spl.tags.filter fun p => match p.2 with | .used _ _ _ _ _ _ => true | .posted => true | _ => false).length

/-- SPL_TIMEOUT TIMEOUT in clocks. -/
def reqTimeout (s : State) : Nat := rfld s rSPL_TIMEOUT 0 16 * usClocks

/-! ### The posted-error log (R427, R431) -/

/-- Write an entry and raise SP_POSTED_ERR. -/
def postedErr (p node tag addr code : Nat) (s : State) : State :=
  let i := s.spl.perrNext
  let t := stamp s
  let s := rset (rSPL_PERR i 0) (mkW (node + tag * 2 ^ 12)) s
  let s := rset (rSPL_PERR i 1) (mkW (addr + code * 2 ^ 17)) s
  let s := rset (rSPL_PERR i 2) (mkW t) s
  let s := rset (rSPL_PERR i 3) (mkW (t / 2 ^ 24 + 2 ^ 8)) s
  let s := if s.spl.perrValid = 16 then rsat rSPL_PERR_STATUS 12 12 1 s else s
  raise 134 p (node + code * 2 ^ 12 + i * 2 ^ 19)
    { s with spl := { s.spl with perrNext := (i + 1) % 16, perrValid := min 16 (s.spl.perrValid + 1) } }

/-! ### Queueing packets -/

/-- Put a packet on a port's queue. -/
def enqueue (p : Nat) (q : QPkt) (s : State) : State := modSport p (fun v => { v with queue := v.queue ++ [q] }) s

/-- A packet of the node's own. -/
def ownPkt (s : State) (vc ty dest tag sub : Nat) (payload : List Word) : Pkt :=
  { vc, ty, dest, src := ownNode s, tag, epoch := s.spl.epoch, sub, payload }

/-- Send a packet of the node's own by its route; it is lost where there is no port that is up. -/
def sendOwn (k : Pkt) (s : State) : State :=
  match firstHop s k.dest with
  | some p => if domOn s dSPIRE && portUp s p then enqueue p { pkt := k } s else s
  | none => s

/-- The answer to a packet, with its TAG and EPOCH. -/
def replyPkt (s : State) (k : Pkt) (vc ty sub : Nat) (payload : List Word) : Pkt :=
  { vc, ty, dest := k.src, src := ownNode s, tag := k.tag, epoch := k.epoch, sub, payload }

/-- A CPL with STATUS, REASON and operation index (R413). -/
def cplPkt (s : State) (k : Pkt) (st : Status) (reason idx : Nat) (data : List Word) : Pkt :=
  replyPkt s k 2 5 0 (mkW (statusCode st + reason * 2 ^ 8 + idx * 2 ^ 16) :: data)

/-- An ERR_NOTICE (R413). -/
def noticePkt (s : State) (k : Pkt) (code : Nat) : Pkt :=
  replyPkt s k 6 6 0 [mkW (fld (wAt k.payload 0) 0 17 + code * 2 ^ 17)]

/-- Is the packet a request that a CPL can answer (R421, R431)? -/
def isRequest (k : Pkt) : Bool := k.ty == 1 || k.ty == 2 || (k.ty == 9 && (k.sub == 1 || k.sub == 3))

/-- A packet of another node that goes no further: a request is answered with a CPL, a posted write with an ERR_NOTICE, any
other packet is discarded (R421, R431). -/
def refuseForward (k : Pkt) (st : Status) (reason code : Nat) (s : State) : State :=
  if isRequest k then sendOwn (cplPkt s k st reason 0 []) s
  else if k.ty = 3 then sendOwn (noticePkt s k code) s
  else s

/-! ### Lease mirror packets (R276, R433) -/

/-- Is the first hop toward the partner ACTIVE or RETRAIN (R148, R262)? -/
def mirrorLinkUp (s : State) (node : Nat) : Bool :=
  domOn s dSPIRE && (match firstHop s node with | some p => portUp s p | none => false)

/-- Send a lease record. -/
def sendLeaseRecord (node : Nat) (words : List Word) (s : State) : State := sendOwn (ownPkt s 3 8 node 0 0 words) s

end Sys2Proof.Machine
end

