-- ==== Sys2Proof/Machine/EventUnit.lean ====
section
/-! DEFINITION. Sys2Proof/Machine/EventUnit.lean: what raised events do: pending bits, event rings, the log, forwarding over Spire Link
(R440, R529 to R531). -/

namespace Sys2Proof.Machine

/-- Send an event of severity MIN_SEV or higher as an EVENT packet: the entry of R79 with PHASE and SEQ zero (R440). -/
def forwardEvent (e : Event) (s : State) : State :=
  if domOn s dSPIRE && rflag s rSPL_EVT_CTRL 14 && rfld s rSPL_EVT_CTRL 12 2 ≤ e.sev then
    let t := stamp s
    let w0 := mkW (e.src + e.sev * 2 ^ 9 + b2n (!domOn s dTIME) * 2 ^ 11 + e.inst * 2 ^ 16)
    sendOwn (ownPkt s 6 7 (rfld s rSPL_EVT_CTRL 0 12) 0 0 [w0, mkW e.detail, mkW t, mkW (t / 2 ^ 24)]) s
  else s

/-- Take one raised event (R529, R530): the log, the pending bit, the event ring, Spire Link. -/
def deliver (e : Event) (s : State) : State :=
  let s := { s with log := { s.log with queue := s.log.queue ++ [logEntryOf e s] } }
  let s := if domOn s dHOST then
      let s := setPend e.src s
      let rt := routeOf s e.src
      if rt.testBit 3 && e.skip != some (rt % 8) then evQueue (rt % 8) e s else s
    else s
  forwardEvent e s

/-- Take the events that a command raised, in R531 order. -/
def settle (s : State) : State := (evSort s.raised).foldl (fun s e => deliver e s) { s with raised := [] }

end Sys2Proof.Machine
end

