-- ==== Sys2Proof/Machine/Detect.lean ====
section
/-! DEFINITION. Sys2Proof/Machine/Detect.lean: wake requests (R477, R478, R484) and tamper detections (R453 to R461) as far as they
act before a response. -/

namespace Sys2Proof.Machine

def modPwr (f : Pwr → Pwr) (s : State) : State := { s with pwr := f s.pwr }

/-! ### Wake requests (R477, R478, R482, R484, R489) -/

/-- An exit trigger in IDLE starts the exit to RUN (R482). -/
def idleWake (s : State) : State :=
  if s.pwr.state = .idle && s.pwr.trans = .none then modPwr (fun p => { p with trans := .idleExit }) s else s

/-- Is an entry to RETAIN or OFF in progress (R483)? -/
def entering (s : State) : Bool := match s.pwr.trans with | .entry _ => true | _ => false

/-- Is PD_PIPE about to open after a PWR_DOMAIN write, so that the Port Adapters are stopped (R21, R479)? -/
def pipeLeaving (s : State) : Bool := s.pwr.trans == .domains && s.pwr.todo.contains (dPIPE, false)

/-- The switches that a wake closes, in order (R476, R489). -/
def wakeList (s : State) : List (Nat × Bool) :=
  [(dDOME, true), (dHOST, true)]
    ++ (([dTWA, dTWB, dPIPE, dTIME, dSPIRE].filter fun d => rflag s rPWR_DOMAIN d).map fun d => (d, true))

/-- A wake request (R477): held during an entry (R484), the exit from IDLE, or the start of a wake or cold start. -/
def wakeRequest (s : State) : State :=
  if entering s then modPwr (fun p => { p with wakeHeld := true, wakeO := true }) s
  else match s.pwr.state with
    | .run => s
    | .idle => modPwr (fun p => { p with wakeO := true }) (idleWake s)
    | st =>
      if s.pwr.trans = .none then
        modPwr (fun p => { p with trans := .wake (st == .off), prev := st, stage := 6, todo := wakeList s, nextAt := none,
                                  wakeO := true, retO := true, wakeAt := s.clock }) s
      else s

/-! ### The Dome's state and island -/

def domeStCode : DomeSt → Nat
  | .cold => 0
  | .loading => 1
  | .ready => 2
  | .alarmed => 3

/-- The Dome enters a state: DM_STATE (R319); at READY the loop pattern is to be reseeded (R449). -/
def setDomeSt (st : DomeSt) (s : State) : State :=
  if s.dome.st = st then s
  else raise 96 0 (domeStCode st + domeStCode s.dome.st * 4)
    { s with dome := { s.dome with st }, tmp := { s.tmp with reseed := s.tmp.reseed || st == .ready } }

def pstCode : PState → Nat
  | .run => 0
  | .idle => 1
  | .retain => 2
  | .off => 3

/-- The ALARMED latch and RESET_REQUIRED (R335, R474). -/
def alarmLatch (s : State) : Bool := rflag s rTMP_LATCH 0
def resetRequired (s : State) : Bool := rflag s rTMP_LATCH 1

/-- A cleared retention island (R461): what is left is the life-cycle latch (R338) and the DRBG's permanent failure (R307). -/
def clearIsland (s : State) : State :=
  rset rDOM_RPMB_ADDR 0
    { s with dome := { debug := s.dome.debug, drbgDown := s.dome.drbgDown, drbgFails := s.dome.drbgFails }
             pwr := { s.pwr with island := false, ctxKey := none, islandCnt := 0 } }

/-- The retention counter counts, modulo 2^24 (R457, R483). -/
def bumpRetcnt (s : State) : State := rset rPWR_RETCNT (rget s rPWR_RETCNT + 1) s

/-! ### Detections (R454, R456, R459 to R461) -/

/-- The level of a source. -/
def tmpLevel (s : State) (src : Nat) : Nat := rfld s rTMP_LEVEL (2 * src) 2

/-- Record a response in TMP_COUNT and TMP_LAST. -/
def noteResponse (mask level : Nat) (s : State) : State :=
  rset rTMP_LAST (mkW (mask + level * 2 ^ 8)) (if level = 2 then rsat rTMP_COUNT 8 8 1 s else rsat rTMP_COUNT 0 8 1 s)

/-- The AON's response while PD_DOME is off: in RETAIN the island is cleared; the latch, the counter, a wake (R460, R461). During an
erasure a higher level only raises the response (R459). -/
def aonResponse (mask level : Nat) (s : State) : State :=
  if s.tmp.erasing then
    wakeRequest (if s.tmp.eraseLevel < level then
      rsetFld rTMP_LATCH 0 1 1 (noteResponse mask level { s with tmp := { s.tmp with eraseLevel := level } }) else s)
  else
    let s := bumpRetcnt (noteResponse mask level s)
    let s := if level = 2 then rsetFld rTMP_LATCH 0 1 1 s else s
    let s := if s.pwr.island then
        rsetFld rTMP_LATCH 1 1 1 (clearIsland { s with tmp := { s.tmp with erasing := true, eraseLevel := level } })
      else s
    wakeRequest s

/-- Sources of one moment detect (R454): REPORT ones are counted; the others raise TP_ALARM and wait for the alarm clock, or, while
PD_DOME is off, have the AON's response at once. -/
def detect (srcs : List Nat) (s : State) : State :=
  let s := rsat rTMP_COUNT 16 8 (srcs.filter fun c => tmpLevel s c == 0).length s
  let live := srcs.filter fun c => tmpLevel s c != 0
  if live.isEmpty then s
  else
    let mask := live.foldl (fun m c => m ||| 2 ^ c) 0
    let level := live.foldl (fun m c => max m (tmpLevel s c)) 0
    let s := raise 109 0 (mask + level * 2 ^ 8 + pstCode s.pwr.state * 2 ^ 10 + domeStCode s.dome.st * 2 ^ 12) s
    if domOn s dDOME then
      idleWake { s with tmp := { s.tmp with pendMask := s.tmp.pendMask ||| mask, pendLevel := max s.tmp.pendLevel level } }
    else aonResponse mask level s

/-- An internal sensor detects: TP_SENSOR, and its detection (R453). -/
def sensorDetect (src detail : Nat) (s : State) : State := detect [src] (raise 112 src detail s)

end Sys2Proof.Machine
end

