-- ==== Sys2Proof/Machine/Dome.lean ====
section
/-! DEFINITION. Sys2Proof/Machine/Dome.lean: changes of key slots and the slot commands (R296 to R318). -/

namespace Sys2Proof.Machine

/-! ### Changing slots (R271, R288, R296, R297, R311) -/

/-- Must an UPDATE of the slot wait for a preceding key (R271, R296)? -/
def updateMustWait (s : State) (i : Nat) : Bool :=
  16 ≤ s.dome.held.length || s.dome.held.any fun h => h.slot == i

/-- The opcodes of the writes that may wait (R296). -/
def updateOps : List Nat := [0x20, 0x21, 0x28, 0x29]

/-- Does an UPDATE wait (DOM_HELD WAIT)? A slot write that has started completes at once, unless it waits. -/
def domeWaiting (s : State) : Bool :=
  s.rings.any fun r => r.2.window.any fun e => e.st == .running && updateOps.contains (entOpcode e)

/-- Drop the derived keys of a parent, all of them or those under one generation (R295). -/
def dropDerivedGen (i g : Nat) (s : State) : State :=
  { s with dome := { s.dome with dcache := s.dome.dcache.filter fun t => !(t.slot == i && t.gen == g) } }
def dropDerived (i : Nat) (s : State) : State :=
  { s with dome := { s.dome with dcache := s.dome.dcache.filter fun t => t.slot != i } }

/-- Write a key: the slot is LOADED under the next generation, in shares with a fresh r (R341); the preceding key is held while items
dispatched before still await it (R271, R288, R296). -/
def writeSlot (i attr : Nat) (ick : Bool) (key : List Byte) (s : State) : State :=
  let (s, share) := drbgGen false key.length s
  let v := slot s i
  let g := slotGen s i
  let s :=
    if v.st = .loaded then
      if holdNeeded s i g then { s with dome := { s.dome with held := s.dome.held ++ [{ slot := i, gen := g, body := v }] } }
      else dropDerivedGen i g s
    else s
  setSlot i { st := .loaded, attr, testRoot := testRootOn s, claim := false, ick, gen := some (nextGen g), key, share } s

/-- Erase a LOADED slot: REVOKED, derived keys and cached keys go, work in progress loses it (R273, R297). -/
def revokeSlot (i : Nat) (s : State) : State :=
  let v := slot s i
  eraseHook i (dropDerived i
    (setSlot i { v with st := .revoked, key := [], share := [] }
      { s with dome := { s.dome with held := s.dome.held.filter fun h => h.slot != i } }))

/-- Rows 1 to 3 of R311. -/
def chkSlotRows (s : State) (kref : Nat) (persist : Bool) : Option Res :=
  let i := kref % 4096
  let v := slot s i
  if krefExp kref ≠ 0 && krefExp kref ≠ slotGen s i % 1024 then some (failRes .keyStale 1)
  else if persist && slotPersist v then some (failRes .keyDenied 4)
  else if slotLock v then some (failRes .keyDenied 5)
  else none

/-- LIFECYCLE DOME_STATE unless READY (R309). -/
def domeReady (s : State) : Option Res :=
  if s.dome.st = .ready then none else some (failRes .lifecycle 1)

/-- ABORTED HOST_MEM (R52). -/
def hostMemRes : Res := failRes .aborted 3

/-! ### SLOT_UNWRAP and SLOT_GENERATE (R300, R301, R312) -/

/-- Rows 1 to 6 of R311 for a slot write. -/
def chkSlotWrite (s : State) (w : List Word) : Option Res :=
  let kref := (wAt w 2).toNat
  let v := slot s (kref % 4096)
  let dest := fld (wAt w 6) 0 7
  let len256 := flag (wAt w 6) 7
  let update := flag (wAt w 6) 9
  orElse (domeReady s) fun _ => orElse (chkSlotRows s kref true) fun _ =>
    if update ≠ (v.st == .loaded) then some (badRes 0x0B 6)
    else if update && fld (wAt w 6) 0 8 ≠ v.attr % 256 then some (badRes 9 6)
    else match formOf dest len256 with
      | some .direct => if dest = 0x40 then some (rangeRes 6) else none
      | some .deriveParent => none
      | _ => some (rangeRes 6)

/-- The bits of a written slot's attribute word that the descriptor sets: DEST, LEN and LOCK. -/
def newAttr (w : List Word) : Nat := fld (wAt w 6) 0 8 + b2n (flag (wAt w 6) 8) * 2 ^ 9

/-- RESULT of a slot write (R312): W4 the generation, W5 a slot KREF. -/
def slotRes (s : State) (i : Nat) : Res := okRes (slotGen s i + slotKref i (slotGen s i) * 2 ^ 24)

/-- Must the command wait for a preceding key (R296)? -/
def slotWriteWaits (s : State) (w : List Word) : Bool :=
  let i := (wAt w 2).toNat % 4096
  (chkSlotWrite s w).isNone && (slot s i).st == .loaded && updateMustWait s i

/-- A disturbed dual computation: the operation ends with ALARM and the mismatch source detects (R341, R453). -/
def dualMismatch (s : State) : State × Option Res :=
  (sensorDetect 7 0 { s with dome := { s.dome with upset := false } }, some (failRes .alarm 0))

def bodySlotUnwrap : Body := fun n _ w s =>
  match chkSlotWrite s w with
  | some r => (s, some r)
  | none =>
    let i := (wAt w 2).toNat % 4096
    let dest := fld (wAt w 6) 0 7
    match resolve s (wAt w 4).toNat 0 .wrap 0 with
    | .error r => (s, some r)
    | .ok wk =>
      let t := setOf (slotDest (slot s ((wAt w 4).toNat % 4096)))
      if setOf dest &&& t ≠ setOf dest then (s, some (failRes .keyDenied 2))
      else if !s.dome.drbgOk then (s, some entropyRes)
      else match memRead s (join48 (wAt w 7) (wAt w 8)) (fld (wAt w 9) 0 6) with
        | none => (s, some hostMemRes)
        | some blob =>
          if s.dome.upset then dualMismatch s
          else
            let len := if flag (wAt w 6) 7 then 32 else 16
            match kwUnwrap (flag (wAt w 6) 10) wk blob with
            | some key =>
              if key.length = len then
                let s := writeSlot i (newAttr w) false key s
                (s, some (slotRes s i))
              else (raise 99 n i s, some (failRes .authFail 4))
            | none => (raise 99 n i s, some (failRes .authFail 4))

def bodySlotGenerate : Body := fun _ _ w s =>
  match chkSlotWrite s w with
  | some r => (s, some r)
  | none =>
    if !s.dome.drbgOk then (s, some entropyRes)
    else
      let i := (wAt w 2).toNat % 4096
      let (s, key) := drbgGen true (if flag (wAt w 6) 7 then 32 else 16) s
      let s := writeSlot i (newAttr w) false key s
      (s, some (slotRes s i))

/-! ### SLOT_WRAP (R302, R313) -/

def bodySlotWrap : Body := fun _ _ w s =>
  let kref := (wAt w 2).toNat
  let v := slot s (kref % 4096)
  let blobLen := slotLen v + 8
  match orElse (domeReady s) fun _ => chkSlotRows s kref true with
  | some r => (s, some r)
  | none =>
    if v.st = .empty then (s, some (failRes .keyEmpty 1))
    else if v.st = .revoked then (s, some (failRes .keyRevoked 1))
    else if formOf (slotDest v) (v.attr.testBit 7) ≠ some .direct || slotDest v = 0x40 then
      (s, some (failRes .keyDenied 2))
    else match resolve s (wAt w 4).toNat 0 .wrap 0 with
      | .error r => (s, some r)
      | .ok wk =>
        let t := setOf (slotDest (slot s ((wAt w 4).toNat % 4096)))
        if slotDest v &&& t = 0 then (s, some (failRes .keyDenied 2))
        else if (wAt w 9).toNat < blobLen then (s, some (rangeRes 9))
        else match memWrite (join48 (wAt w 7) (wAt w 8)) (fitBytes blobLen (kwWrap (flag (wAt w 6) 0) wk v.key)) s with
          | (s, true) => (s, some (okRes blobLen))
          | (s, false) => (s, some hostMemRes)

/-! ### SLOT_ERASE, SLOT_ATTR, SLOT_READ (R314 to R316) -/

def bodySlotErase : Body := fun n _ w s =>
  let kref := (wAt w 2).toNat
  let i := kref % 4096
  match orElse (domeReady s) fun _ => chkSlotRows s kref true with
  | some r => (s, some r)
  | none =>
    if (slot s i).st = .loaded then
      let der := (slot s i).attr.testBit aDERIVE
      (raise 100 n (i + b2n der * 2 ^ 12) (revokeSlot i s), some (okRes 1))
    else (s, some (okRes 0))

def bodySlotAttr : Body := fun _ _ w s =>
  let kref := (wAt w 2).toNat
  let i := kref % 4096
  let v := slot s i
  let clear := fld (wAt w 4) 0 7
  match orElse (domeReady s) fun _ => chkSlotRows s kref false with
  | some r => (s, some r)
  | none =>
    if v.st ≠ .loaded then (s, some (badRes 0x0B 2))
    else
      let dest := slotDest v - (slotDest v &&& clear)
      if clear &&& 0x58 ≠ 0 || formOf dest (v.attr.testBit 7) = none
          || formOf dest (v.attr.testBit 7) ≠ formOf (slotDest v) (v.attr.testBit 7) then (s, some (rangeRes 4))
      else
        let a := v.attr - slotDest v + dest
        let a := if flag (wAt w 4) 7 && !slotLock v then a + 2 ^ 9 else a
        let s := setSlot i { v with attr := a } s
        (s, some (okRes (attrWord s i)))

def bodySlotRead : Body := fun n _ w s =>
  let first := fld (wAt w 2) 0 12
  let cnt := fld (wAt w 4) 0 13
  let rec2 (k : Nat) : List Word :=
    if ownerOk s n (slotOwner (first + k)) then [mkW (attrWord s (first + k)), mkW (slotGen s (first + k))] else [0, 0]
  match memWriteWords (join48 (wAt w 5) (wAt w 6)) ((List.range cnt).flatMap rec2) s with
  | (s, true) => (s, some (okRes (6 * cnt)))
  | (s, false) => (s, some hostMemRes)

/-! ### MKA_DERIVE (R303, R317) -/

/-- Rows of R311 for a target with MODE FILL. -/
def chkFill (s : State) (kref word : Nat) : Option Res :=
  orElse (chkSlotRows s kref true) fun _ =>
    if (slot s (kref % 4096)).st = .loaded then some (badRes 0x0B word) else none

/-- The 16-byte Keyid of words W6 to W11 (R317). -/
def keyidOf (w : List Word) : List Byte := (wordsBytes ((List.range 6).map fun k => wAt w (6 + k))).take 16

def bodyMkaDerive : Body := fun _ _ w s =>
  let cak := (wAt w 2).toNat
  let kek := (wAt w 4).toNat
  let ick := (wAt w 5).toNat
  match orElse (domeReady s) fun _ => orElse (chkFill s kek 4) fun _ => chkFill s ick 5 with
  | some r => (s, some r)
  | none =>
    if kek % 4096 = ick % 4096 then (s, some (rangeRes 5))
    else match resolve s cak 0 .mkaCak 0 with
      | .error r => (s, some r)
      | .ok key => if !s.dome.drbgOk then (s, some entropyRes) else
        let len := slotLen (slot s (cak % 4096))
        let l7 := if len = 32 then 2 ^ 7 else 0
        let s := writeSlot (kek % 4096) (2 ^ aWRAP + 2 ^ aLINK + l7) false (fitBytes len (mkaKdf false key (keyidOf w) len)) s
        let s := writeSlot (ick % 4096) (2 ^ aMKA + l7) true (fitBytes len (mkaKdf true key (keyidOf w) len)) s
        (s, some (okRes (slotKref (kek % 4096) (slotGen s (kek % 4096)) + slotKref (ick % 4096) (slotGen s (ick % 4096)) * 2 ^ 24)))

/-! ### SIGN_DIGEST (R305, R318) -/

/-- The secret scalar of a SIGN key (R305). -/
def signScalar (key : List Byte) : Nat := ofBytesBE (kdf key 0 0x85 56) % (p384Order - 1) + 1

def bodySignDigest : Body := fun _ _ w s =>
  let out := join48 (wAt w 7) (wAt w 8)
  match domeReady s with
  | some r => (s, some r)
  | none =>
    match resolve s (wAt w 2).toNat (wAt w 3).toNat .sign 32 with
    | .error r => (s, some r)
    | .ok key =>
      let s := touchDcache (slotGen s ((wAt w 2).toNat % 4096)) (wAt w 2).toNat (wAt w 3).toNat .sign 32 s
      let d := signScalar key
      if flag (wAt w 4) 0 then
        match memWrite out (fitBytes 96 (ecdsaPub d)) s with
        | (s, true) => (s, some (okRes 96))
        | (s, false) => (s, some hostMemRes)
      else if !s.dome.drbgOk then (s, some entropyRes)
      else match memRead s (join48 (wAt w 5) (wAt w 6)) 48 with
        | none => (s, some hostMemRes)
        | some dig =>
          if s.dome.upset then dualMismatch s
          else
            let k := s.draws
            let (s, _) := drbgGen false 48 s
            match memWrite out (fitBytes 96 (ecdsaSign d dig (ecdsaNonce k))) s with
            | (s, true) => (s, some (okRes 96))
            | (s, false) => (s, some hostMemRes)

end Sys2Proof.Machine
end

