-- ==== Sys2Proof/Machine/Assoc.lean ====
section
/-! DEFINITION. Sys2Proof/Machine/Assoc.lean: associations and key change (R258 to R282): packet-number leases and lease
marks, SA_INSTALL, SA_SWITCH, SA_RETIRE, SA_ADJUST, the firing of switches, mirrored records. -/

namespace Sys2Proof.Machine

/-! ### Lease marks and lease records (R274 to R277) -/

def markKey (y an : Nat) : Nat := 4 * y + an
def mark (s : State) (y an : Nat) : Mark := tabGet {} s.marks (markKey y an)

/-- The AON writes a lease record to its mark (R276). -/
def writeMark (y an sa endPn : Nat) (s : State) : State :=
  let m := mark s y an
  let v := if m.valid && m.sa = sa then max m.mark endPn else endPn
  { s with marks := tabPut {} s.marks (markKey y an) { valid := true, sa, mark := v } }

/-- NEXT_PN after the check of the mark (R274). -/
def liftPn (s : State) (y an sa pn : Nat) : Nat :=
  let m := mark s y an
  if m.valid && m.sa = sa then max pn (m.mark + 1) else pn

/-- The end of a lease that starts at `pn` (R262, R270). -/
def leaseFrom (a : Assoc) (top pn : Nat) : Nat := min (pn + 2 ^ a.leaseLog2 - 1) top

/-- The largest PN of an association's suite. -/
def assocTop (s : State) (a : Assoc) : Nat := maxPn (secySuite (secy s (assocSecy s a)))

/-- The payload of a lease record (R276). -/
def leaseWords (sa y an endPn : Nat) (active : Bool) : List Word :=
  let m := words64 endPn
  [mkW (sa + y * 2 ^ 13 + an * 2 ^ 22), wAt m 0, wAt m 1, mkW ((wAt m 2).toNat + b2n active * 2 ^ 16)]

def isActive (a : Assoc) : Bool := a.state == .inUse || a.state == .exhausted

/-- Send an association's record to its partner on VC3 (R276). -/
def sendRecord (sa : Nat) (a : Assoc) (endPn : Nat) (s : State) : State :=
  sendLeaseRecord a.partner (leaseWords sa a.channel a.an endPn (isActive a)) s

/-- Does an IN_USE association need a record of its next lease (R275)? -/
def needsLease (s : State) (a : Assoc) : Bool :=
  a.state == .inUse && !a.spent && a.leaseEnd < assocTop s a && a.leaseEnd < a.nextPn + 2 ^ (a.leaseLog2 - 1)
    && match a.req with
       | none => true
       | some q => a.best && q.aon

/-- Mirroring is lost under MIRROR_BEST: EG_MIRROR_LOST once (R277). -/
def mirrorLostNow (sa cause : Nat) (s : State) : State :=
  let a := assoc s sa
  if a.mirrorLost then s
  else raise 40 (assocPort s a) (sa + cause * 2 ^ 14) (setAssoc sa { a with mirrorLost := true } s)

/-- Frames that wait for a record of the association (R148). -/
def leaseWaiters (s : State) (sa : Nat) : Bool := (egList s).any fun p => p.2.st == .leaseWait && p.2.sa == sa

/-- The partner's confirmation of an association's record is not to be had for now: it is resent every 20 µs, mirroring is lost under
MIRROR_BEST, frames are stalled under MIRROR_REQUIRED (R148, R277). Causes 0 timeout, 1 link lost, 2 refused. -/
def recordLate (sa cause : Nat) (s : State) : State :=
  let a := assoc s sa
  match a.req with
  | some q =>
    let s := setAssoc sa { a with req := some { q with late := true, cause, resendAt := if q.late then q.resendAt else s.clock + 20 * usClocks } } s
    if a.best then mirrorLostNow sa cause s
    else if cause != 1 || leaseWaiters s sa then modAssoc sa (fun a => { a with stalled := true }) s
    else s
  | none => s

/-- Start the record of a lease of association `sa` to `e`: the AON's, which `aon` says is made, and a mirrored one's partner's (R275, R276). -/
def openRecord (aon : Bool) (sa e : Nat) (s : State) : State :=
  let a := assoc s sa
  let up := a.mirrored && mirrorLinkUp s a.partner
  let s := setAssoc sa { a with req := some { endPn := e, aon, partner := !a.mirrored, since := s.clock, sent := up } } s
  if !a.mirrored then s else if up then sendRecord sa a e s else recordLate sa 1 s

/-- Request a record of the next lease (R275). A NEXT_PN lifted above LEASE_END takes a lease from itself on (R267). -/
def requestLease (sa : Nat) (s : State) : State :=
  let a := assoc s sa
  if needsLease s a then
    let top := assocTop s a
    openRecord false sa (if a.leaseEnd < a.nextPn then leaseFrom a top a.nextPn else min (a.leaseEnd + 2 ^ a.leaseLog2) top) s
  else s

/-- What the confirmations reached so far let happen (R275, R277): LEASE_END advances, the request ends. -/
def leaseProgress (sa : Nat) (s : State) : State :=
  let a := assoc s sa
  match a.req with
  | some q =>
    if q.aon && q.partner then
      requestLease sa (setAssoc sa { a with leaseEnd := max a.leaseEnd q.endPn, req := none, stalled := false } s)
    else if q.aon && a.best then
      requestLease sa (setAssoc sa { a with leaseEnd := max a.leaseEnd q.endPn, stalled := false } s)
    else s
  | none => s

/-- The AON writes the record of an association's next lease and confirms it (R276). -/
def aonLeaseConfirm (sa : Nat) (s : State) : State :=
  let a := assoc s sa
  match a.state, a.req with
  | .free, _ => s
  | _, some q =>
    if q.aon then s
    else leaseProgress sa (setAssoc sa { a with req := some { q with aon := true } } (writeMark a.channel a.an sa q.endPn s))
  | _, none => s

/-! ### Firing a switch (R266, R267) -/

def armedOf (s : State) (y : Nat) : Option Armed := tabGet none s.armed y
def setArmed (y : Nat) (x : Option Armed) (s : State) : State := { s with armed := tabPut none s.armed y x }

/-- EG_SWITCH_CANCELLED (R281). -/
def cancelSwitch (y sa cause : Nat) (s : State) : State :=
  raise 37 (secyPort (secy s y)) (sa + cause * 2 ^ 16) s

/-- Disarm the switch of a transmit channel, with its cause (R265). -/
def disarm (y cause : Nat) (s : State) : State :=
  match armedOf s y with
  | some x => cancelSwitch y x.target cause (setArmed y none s)
  | none => s

/-- A switch to association `sa` of transmit channel `y` fires (R267). -/
def fireSwitch (y sa trig : Nat) (s : State) : State :=
  let a := assoc s sa
  let np := liftPn s y a.an sa a.nextPn
  let s := setArmed y none s
  if assocTop s a < np then cancelSwitch y sa 3 (modAssoc sa (fun a => { a with spent := true, nextPn := 0 }) s)
  else
    let s := match encoding s y with
      | some o => belfryEmptyOf o (modAssoc o (fun a => { a with state := .installed }) s)
      | none => s
    let s := belfryFresh sa (setAssoc sa { a with state := .inUse, nextPn := np } s)
    let port := secyPort (secy s y)
    let s := if a.nextPn < np then raise 39 port sa s else s
    requestLease sa (raise 36 port (sa + trig * 2 ^ 14) s)

/-- An armed AT_TIME switch fires when the working clock reaches its time, or a step of the clock passes it; a step backward delays it
(R266, R387). -/
def switchFire (y : Nat) (s : State) : State :=
  match armedOf s y with
  | some { target, trigger := .atTime t } =>
    if domOn s dPIPE && domOn s dTIME && t ≤ wcNs s then fireSwitch y target 2 s else s
  | _ => s

/-! ### SA_INSTALL (R261 to R263) -/

/-- A LEASE_LOG2 field; 0 selects 16 (R261). -/
def leaseLog (f : Nat) : Nat := if f = 0 then 16 else f

/-- A 96-bit salt of four words (R261). -/
def salt96 (w : List Word) : Nat :=
  (wAt w 9).toNat + (wAt w 10).toNat * 2 ^ 24 + (wAt w 11).toNat * 2 ^ 48 + (wAt w 12).toNat * 2 ^ 72

/-- The association that an SA_INSTALL names, before its lease (R261). -/
def installOf (w : List Word) : Assoc :=
  let w4 := wAt w 4
  let rx := flag w4 13
  let pn := w64 w 6
  { state := .installed, rx, channel := fld (wAt w 5) 0 12, an := fld w4 14 2, kref := (wAt w 2).toNat,
    label := (wAt w 3).toNat, nextPn := pn, lowestPn := if rx then pn else 0, ssci := (wAt w 13).toNat + fld (wAt w 14) 0 8 * 2 ^ 24,
    salt := salt96 w, scheduled := flag w4 16, mirrored := flag w4 17, best := flag w4 18, cut := flag w4 19,
    leaseLog2 := leaseLog (fld (wAt w 5) 12 5), partner := fld (wAt w 14) 12 12 }

/-- Belfry slots that a staged commit group reserves (R60). -/
def belfryReserved (s : State) : Nat :=
  match s.groupStaged with
  | some g => (g.creates.filter fun o => match o with | .belfry _ => true | _ => false).length
  | none => 0

/-- Is the transmit key of a slot claimed (R263)? -/
def txClaimed (s : State) (k sa : Nat) : Bool :=
  (slot s k).claim || createdBy s (.claim k)
    || (liveAssocs s).any fun p => !p.2.rx && p.1 != sa && p.2.kref % 4096 == k

/-- Claim the current generation of a slot (R263). -/
def claimSlot (k : Nat) (s : State) : State := setSlot k { slot s k with claim := true } s

/-- Row 4 of R262, with R101. -/
def installRange (s : State) (w : List Word) : Option Res :=
  let a := installOf w
  let suite := secySuite (secy s (assocSecy s a))
  let ll := fld (wAt w 5) 12 5
  if !a.rx && krefType a.kref = 1 then some (rangeRes 2)
  else if a.rx && (a.scheduled || a.mirrored) || (!a.rx && a.cut)
      || (a.rx && a.cut && !(rxsc s a.channel).fwdOnly) then some (rangeRes 4)
  else if (1 ≤ ll && ll ≤ 11) || 25 ≤ ll then some (rangeRes 5)
  else if a.nextPn = 0 || maxPn suite < a.nextPn then some (rangeRes 6)
  else if !suiteXpn suite && a.salt ≠ 0 then some (rangeRes 9)
  else if !suiteXpn suite && a.ssci ≠ 0 then some (rangeRes 13)
  else none

/-- Rows 1 to 8 of R262 with the port check of R47; `own`: the install holds its index itself, as it waits for its partner. -/
def chkInstallRows (own : Bool) (n : Nat) (w : List Word) (s : State) : Option Res :=
  let sa := fld (wAt w 4) 0 13
  let a := installOf w
  let y := assocSecy s a
  let sy := secy s y
  let k := a.kref % 4096
  if (assoc s sa).state ≠ .free || createdBy s (.sa sa) || (!own && (tabGet none s.mirrorOps sa).isSome) then
    some { st := .noRoom, reason := 2, word := 4 }
  else orElse (objChk s n (if a.rx then (rxsc s a.channel).valid else sy.valid) (secyPort sy)
      (heldBy s (.secy y) || (a.rx && heldBy s (.rxsc a.channel))) (badRes 7 5)) fun _ =>
  if (chanAssoc s a.rx a.channel a.an).isSome || createdBy s (.an a.rx a.channel a.an) then
    some { st := .noRoom, reason := 6, word := 4 }
  else match installRange s w with
  | some r => some r
  | none =>
    match linkKeyCheck s a.kref a.label (suiteKeyLen (secySuite sy)) with
    | some r => some r
    | none =>
      if !a.rx && slotPersist (slot s k) then some (failRes .keyDenied 0x11)
      else if !a.rx && txClaimed s k sa then some (failRes .keyDenied 0x10)
      else if a.scheduled && 512 ≤ belfryHeld s + belfryReserved s then some { st := .noRoom, reason := 5, word := 4 }
      else none

/-- Rows 1 to 9 of R262. -/
def chkInstall (n : Nat) (w : List Word) (s : State) : Option Res :=
  let a := installOf w
  orElse (chkInstallRows false n w s) fun _ =>
    if !a.rx && maxPn (secySuite (secy s a.channel)) < liftPn s a.channel a.an (fld (wAt w 4) 0 13) a.nextPn then
      some (failRes .pnExhausted 1)
    else none

/-- The association that a passing install leaves (R262). -/
def installPlan (w : List Word) (s : State) : Assoc :=
  let sa := fld (wAt w 4) 0 13
  let a := installOf w
  let sy := secy s (assocSecy s a)
  let top := maxPn (secySuite sy)
  if a.rx then a
  else
    let np := liftPn s a.channel a.an sa a.nextPn
    { a with nextPn := np, leaseEnd := leaseFrom a top np,
             threshPn := if suiteXpn (secySuite sy) then 2 ^ 62 else 0xC0000000 }

/-- The first lease record of a planned install: the AON's at once, the partner's on its way (R262, R276). -/
def recordLease (sa : Nat) (a : Assoc) (endPn : Nat) (s : State) : State :=
  let s := writeMark a.channel a.an sa endPn s
  if a.mirrored then sendRecord sa a endPn s else s

/-- Put a planned association in place: EG_LEASE_SKIP when its NEXT_PN was raised, the slot is claimed, the Belfry slot
assigned, the counters zero (R262, R263, R249). -/
def appInstall (w : List Word) (plan : Assoc) (s : State) : State :=
  let sa := fld (wAt w 4) 0 13
  let s := setAssoc sa { plan with serial := s.installSeq + 1 } { s with installSeq := s.installSeq + 1 }
  let s := match plan.req with
    | some q => if plan.mirrorLost then raise 40 (assocPort s plan) (sa + q.cause * 2 ^ 14) s else s
    | none => s
  let s := if !plan.rx && w64 w 6 < plan.nextPn then raise 39 (assocPort s plan) sa s else s
  let s := if plan.rx then s else claimSlot (plan.kref % 4096) s
  if plan.scheduled then belfryAssign sa s else s

/-- RESULT of an install or SET_PN: the resulting NEXT_PN (R262, R270). -/
def pnRes (pn : Nat) : Res := okRes (pn % 2 ^ 48) (pn / 2 ^ 48)

def installRes (plan : Assoc) : Res := if plan.rx then okRes 0 else pnRes plan.nextPn

/-! ### SA_SWITCH (R264 to R266) -/

/-- The working-clock time of an AT_TIME field (R6, R264). -/
def atTimeOf (w : List Word) : Nat := (wAt w 8).toNat + fld (wAt w 9) 0 8 * 2 ^ 24

/-- How far an AT_TIME lies ahead of the working clock, modulo 2^32 ns (R266). -/
def atTimeAhead (w : List Word) (s : State) : Nat := (atTimeOf w + 2 ^ 32 - wcNs s % 2 ^ 32) % 2 ^ 32

/-- Is an AT_TIME past (R266)? -/
def atTimePast (w : List Word) (s : State) : Bool := atTimeAhead w s = 0 || 2 ^ 31 ≤ atTimeAhead w s

/-- Does SA_SWITCH fire at its effect instant, where it changes the encoding association of channel `y` (R265, R266)? -/
def switchFires (y : Nat) (w : List Word) (s : State) : Bool :=
  match fld (wAt w 4) 0 2 with
  | 0 => true
  | 1 => (encoding s y).isNone
  | 2 => atTimePast w s
  | _ => false

/-- The checks of SA_SWITCH (R264). -/
def chkSwitch (n : Nat) (w : List Word) (s : State) : Option Res :=
  let sa := fld (wAt w 2) 0 13
  let trig := fld (wAt w 4) 0 2
  let a := assoc s sa
  let y := a.channel
  let held := heldBy s (.sa sa) || heldBy s (.secy y) || heldBy s (.arm y)
    || (switchFires y w s && (encoding s y).any fun o => heldBy s (.sa o))
  orElse (objChk s n (a.state != .free && !a.rx) (assocPort s a) held (badRes 7 2)) fun _ =>
    if isActive a then some (badRes 0x0B 2)
    else if a.spent then some (failRes .pnExhausted 1)
    else if trig = 2 && !domOn s dTIME then some (failRes .capacity 1)
    else if trig = 3 && (armedOf s y).map Armed.target ≠ some sa then some (badRes 7 2)
    else none

/-- The effect of SA_SWITCH at its effect instant (R265, R266). -/
def appSwitch (w : List Word) (s : State) : State :=
  let sa := fld (wAt w 2) 0 13
  let trig := fld (wAt w 4) 0 2
  let y := (assoc s sa).channel
  if trig = 3 then disarm y 1 s
  else
    let s := disarm y 0 s
    if switchFires y w s then
      let s := fireSwitch y sa trig s
      if trig = 2 then raise 38 (secyPort (secy s y)) sa s else s
    else setArmed y (some { target := sa, trigger := if trig = 1 then .atPn (w64 w 5) else .atTime (wcNs s + atTimeAhead w s) }) s

/-! ### SA_RETIRE (R268) -/

def chkRetire (n : Nat) (w : List Word) (s : State) : Option Res :=
  let sa := fld (wAt w 2) 0 13
  let a := assoc s sa
  let held := heldBy s (.sa sa) || (!a.rx && (armedOf s a.channel).map Armed.target = some sa && heldBy s (.arm a.channel))
  orElse (objChk s n (a.state != .free) (assocPort s a) held (badRes 7 2)) fun _ =>
    if isActive a && !flag (wAt w 4) 0 then some (badRes 8 2) else none

/-- The association becomes FREE; a switch armed to it is disarmed; its mark and its slot's claim stay (R268). -/
def appRetire (w : List Word) (s : State) : State :=
  let sa := fld (wAt w 2) 0 13
  let a := assoc s sa
  let s := if !a.rx && (armedOf s a.channel).map Armed.target = some sa then disarm a.channel 2 s else s
  setAssoc sa {} (belfryRelease sa s)

/-! ### SA_ADJUST (R269, R270) -/

/-- Row by row: the operations used in the wrong direction, R101, and the order of R270. -/
def chkAdjust (n : Nat) (w : List Word) (s : State) : Option Res :=
  let sa := fld (wAt w 2) 0 13
  let w4 := wAt w 4
  let a := assoc s sa
  let top := assocTop s a
  let pn := w64 w 5
  let thr := w64 w 8
  let cut := flag w4 4 && flag w4 5
  let held := heldBy s (.sa sa) || (a.rx && cut && heldBy s (.rxsc a.channel))
  orElse (objChk s n (a.state != .free) (assocPort s a) held (badRes 7 2)) fun _ =>
  if a.rx && (flag w4 1 || flag w4 2) || (!a.rx && flag w4 4) || (flag w4 2 && !a.mirrored)
      || (cut && !(rxsc s a.channel).fwdOnly) then some (rangeRes 4)
  else if flag w4 0 && top < pn then some (rangeRes 5)
  else if flag w4 1 && (thr = 0 || top < thr) then some (rangeRes 8)
  else if flag w4 0 && a.spent then some (failRes .pnExhausted 1)
  else if flag w4 0 && (if a.rx then pn < a.lowestPn else pn < a.nextPn) then some (badRes 0x0A 5)
  else none

/-- A SET_PN has recorded a lease to `e`: a record on its way that ends within it is no longer needed (R270). -/
def setPnLease (e : Nat) (a : Assoc) : Assoc :=
  let a := { a with leaseEnd := max a.leaseEnd e, stalled := false }
  match a.req with
  | some q => if q.endPn ≤ a.leaseEnd then { a with req := none } else a
  | none => a

/-- The association that SA_ADJUST leaves (R269, R270). -/
def adjustOf (w : List Word) (top : Nat) (a : Assoc) : Assoc :=
  let w4 := wAt w 4
  let pn := w64 w 5
  let a := if flag w4 0 then
      if a.rx then { a with lowestPn := pn, nextPn := max a.nextPn pn }
      else if a.leaseEnd < pn then setPnLease (leaseFrom a top pn) { a with nextPn := max a.nextPn pn }
      else { a with nextPn := max a.nextPn pn }
    else a
  let a := if flag w4 1 then { a with threshPn := w64 w 8, threshSent := false } else a
  let a := if flag w4 2 then { a with best := flag w4 3 } else a
  if flag w4 4 then { a with cut := flag w4 5 } else a

/-- The lease end that a SET_PN must record before it completes, if any (R270). -/
def adjustRecord (w : List Word) (top : Nat) (a : Assoc) : Option Nat :=
  if flag (wAt w 4) 0 && !a.rx && a.leaseEnd < w64 w 5 then some (leaseFrom a top (w64 w 5)) else none

/-- An association that has become MIRROR_BEST while its record is late has lost its mirroring (R277; DEDUCED, assumption log 56). -/
def bestNow (sa : Nat) (s : State) : State :=
  let a := assoc s sa
  match a.req with
  | some q => if a.best && q.late then mirrorLostNow sa q.cause s else s
  | none => s

/-- The effect of SA_ADJUST (R269, R270). -/
def appAdjust (w : List Word) (s : State) : State :=
  let sa := fld (wAt w 2) 0 13
  requestLease sa (leaseProgress sa (bestNow sa (modAssoc sa (fun a => adjustOf w (assocTop s a) a) s)))

end Sys2Proof.Machine
end

