-- ==== Sys2Proof/Machine/SltTable.lean ====
section
/-! DEFINITION. Sys2Proof/Machine/SltTable.lean: one SCI lookup table (R184 to R190): hashing, lookup, insertion, removal, the ways that
staging keeps (R193). -/

namespace Sys2Proof.Machine

/-- One word of the hash (R186). -/
def hashWord (h w : Nat) : Nat :=
  let x := ((h ^^^ w) * 0x9E3779) % 2 ^ 24
  x ^^^ (x >>> 11)

/-- The two candidate buckets of a key (R186). -/
def sltBuckets (seed port sci : Nat) : Nat × Nat :=
  let h := [sci / 2 ^ 40, sci / 2 ^ 16 % 2 ^ 24, port * 2 ^ 16 + sci % 2 ^ 16].foldl hashWord seed
  let b1 := h % 512
  let b2 := h / 512 % 512
  (b1, if b2 = b1 then b1 ^^^ 1 else b2)

def sltAt (t : Slt) (loc : Nat) : Option SltEnt := tabGet none t.ents loc
def sltPut (loc : Nat) (e : Option SltEnt) (t : Slt) : Slt := { t with ents := tabPut none t.ents loc e }

/-- The entries in LOC order, ways that staging keeps included. -/
def sltAll (t : Slt) : List (Nat × SltEnt) := t.ents.filterMap fun p => p.2.map fun e => (p.1, e)

/-- The valid entries in LOC order. -/
def sltList (t : Slt) : List (Nat × SltEnt) := (sltAll t).filter fun p => p.2.st != .reserved

/-- The valid entry of a pair (R187). -/
def sltFind (t : Slt) (port sci : Nat) : Option (Nat × SltEnt) :=
  (sltList t).find? fun p => p.2.port == port && p.2.sci == sci

/-- The way that staging keeps for a pair (R193). -/
def sltKept (t : Slt) (port sci : Nat) : Option (Nat × SltEnt) :=
  (sltAll t).find? fun p => p.2.st == .reserved && p.2.port == port && p.2.sci == sci

/-- First free way of a bucket. -/
def freeWay (t : Slt) (b : Nat) : Option Nat := ([0, 1, 2, 3].map fun w => 4 * b + w).find? fun l => (sltAt t l).isNone

/-- Residents of the overflow store. -/
def ovfCount (t : Slt) : Nat := (t.ents.filter fun p => 4096 ≤ p.1 && p.2.isSome).length

/-- Where the entry at `loc` could move: the first free way of its other candidate bucket (R188). -/
def moveTo (t : Slt) (loc : Nat) : Option (SltEnt × Nat) :=
  match sltAt t loc with
  | some e =>
    let (b1, b2) := sltBuckets t.seed e.port e.sci
    (freeWay t (if loc / 4 = b1 then b2 else b1)).map fun l => (e, l)
  | none => none

/-- Place a new entry (R188); none when there is no room. -/
def sltInsert (t : Slt) (e : SltEnt) : Option Slt :=
  let (b1, b2) := sltBuckets t.seed e.port e.sci
  match (freeWay t b1).orElse fun _ => freeWay t b2 with
  | some l => some (sltPut l (some e) t)
  | none =>
    match ([0, 1, 2, 3].map (4 * b1 + ·) ++ [0, 1, 2, 3].map (4 * b2 + ·)).findSome? fun l => (moveTo t l).map fun m => (l, m) with
    | some (l, (x, l2)) => some (sltPut l (some e) (sltPut l2 (some x) t))
    | none =>
      if ovfCount t < 63 then
        ((List.range 64).find? fun i => (sltAt t (4096 + i)).isNone).map fun i => sltPut (4096 + i) (some e) t
      else none

/-- Remove the entry at `loc`; an overflow resident whose bucket has the freed way moves into it (R190). -/
def sltRemove (loc : Nat) (t : Slt) : Slt :=
  let t := sltPut loc none t
  if loc < 2048 then
    let fits (e : SltEnt) : Bool :=
      let b := sltBuckets t.seed e.port e.sci
      b.1 == loc / 4 || b.2 == loc / 4
    match (sltAll t).find? fun p => 4096 ≤ p.1 && fits p.2 with
    | some (o, e) => sltPut loc (some e) (sltPut o none t)
    | none => t
  else t

/-- Remove the entry of a pair, where there is one. -/
def sltDrop (port sci : Nat) (t : Slt) : Slt :=
  match sltFind t port sci with
  | some (l, _) => sltRemove l t
  | none => t

/-- Change the entry of a pair in its place. -/
def sltMod (port sci : Nat) (f : SltEnt → SltEnt) (t : Slt) : Slt :=
  match sltFind t port sci with
  | some (l, e) => sltPut l (some (f e)) t
  | none => t

/-- Give up the ways that staging keeps: a free way of a bucket takes in an overflow resident whose bucket it is (R190). The overflow store's
own kept ways go first. -/
def unreserve (t : Slt) : Slt :=
  ((sltAll t).filter fun p => p.2.st == .reserved).reverse.foldl (fun t p => sltRemove p.1 t) t

/-- Drop the SLT ways that staging keeps (R60, R193). -/
def dropReserved (s : State) : State :=
  [0, 1, 2, 3].foldl (fun s k => modPpl k (fun p => { p with active := unreserve p.active, shadow := unreserve p.shadow }) s) s

end Sys2Proof.Machine
end

