-- ==== Sys2Proof/Machine/KeyChange.lean ====
section
/-! DEFINITION. Sys2Proof/Machine/KeyChange.lean: the association commands with the partner's answer they wait for, the failing of a
staged group, lease records and their confirmation (R258 to R278). -/

namespace Sys2Proof.Machine

/-! ### A staged group fails (R63) -/

/-- End the staging of ring `n`'s group: no reservations, no installs that wait. -/
def dropStaging (s : State) : State :=
  let ops := s.mirrorOps.filter fun o => match o.2 with | some x => !x.staged | none => false
  dropReserved { s with groupStaged := none, mirrorOps := ops }

/-- Complete the members of a group in a ring's window, each by its place in the group. -/
def closeMembers (c : Nat → Comp) : Nat → List Ent → List Ent
  | _, [] => []
  | k, e :: r => if e.member then entDone (c k) e :: closeMembers c (k + 1) r else e :: closeMembers c k r

/-- The SQ index of member `k` of ring `n`'s group. -/
def memberIdx (s : State) (n k : Nat) : Nat := ((members (ring s n)).map Ent.idx).getD k 0

/-- Ring `n`'s group ends without applying: its staging is dropped, member `k` completes with `c k` (R63, R65). -/
def closeGroup (n : Nat) (c : Nat → Comp) (s : State) : State :=
  reserveMembers n (modRing n (fun q => { q with window := closeMembers c 0 q.window, grp := .none }) (dropStaging s))

/-- Member `k` of ring `n`'s group fails staging with `r`; every other completes with COMMIT_FAIL (R63). -/
def groupFail (n k : Nat) (r : Res) (s : State) : State :=
  let i := memberIdx s n k
  raise 13 n (statusCode r.st + i * 2 ^ 10) (raisePerm n i r
    (closeGroup n (fun j => compNow s (if j = k then r else failRes .commitFail 0)) s))

/-! ### The partner's answer to an install or SET_PN (R262, R270, R277) -/

/-- The completion of a MIRROR_REQUIRED command that the partner has not confirmed. -/
def mirrorFailRes : Nat → Res
  | 0 => failRes .timeout 0
  | 1 => failRes .linkLost 0
  | _ => failRes .remoteErr 0

/-- The association under MIRROR_BEST whose record `endPn` the partner has not confirmed: it is resent until it does (R277). -/
def lostPlan (clock cause endPn : Nat) (a : Assoc) : Assoc :=
  { a with mirrorLost := true,
           req := some { endPn, aon := true, since := clock, sent := true, late := true, resendAt := clock + 20 * usClocks, cause } }

/-- A SET_PN under MIRROR_BEST that the partner has not confirmed takes effect, with EG_MIRROR_LOST every time (R270). -/
def adjustLost (cause endPn : Nat) (w : List Word) (s : State) : State :=
  let sa := fld (wAt w 2) 0 13
  let s := appAdjust w s
  raise 40 (assocPort s (assoc s sa)) (sa + cause * 2 ^ 14) (modAssoc sa (lostPlan s.clock cause endPn) s)

/-- A waiting command outside a group gets its answer: none confirmed, or the cause of R281. The checks hold at its effect instant. -/
def mirrorEffect (sa : Nat) (o : MirrorOp) (w : List Word) (ans : Option Nat) (s : State) : State × Res :=
  match if o.adjust then chkAdjust o.ring w s else chkInstallRows true o.ring w s with
  | some r => (s, r)
  | none =>
    match ans with
    | none =>
      if o.adjust then
        let s := appAdjust w s
        (s, pnRes (assoc s sa).nextPn)
      else (appInstall w o.plan s, installRes o.plan)
    | some c =>
      if !o.plan.best then (s, mirrorFailRes c)
      else if o.adjust then
        let s := adjustLost c o.endPn w s
        (s, pnRes (assoc s sa).nextPn)
      else (appInstall w (lostPlan s.clock c o.endPn o.plan) s, installRes o.plan)

def setMirrorOp (sa : Nat) (o : Option MirrorOp) (s : State) : State := { s with mirrorOps := tabPut none s.mirrorOps sa o }

/-- A staged record has its partner's answer; where that is not a confirmation, the association is planned without it. -/
def stagedAnswer (sa : Nat) (lost : Option Assoc) (s : State) : State :=
  match s.groupStaged with
  | some g =>
    let plans := match lost with
      | some a => g.plans.filter (fun p => p.1 != sa) ++ [(sa, a)]
      | none => g.plans
    { s with groupStaged := some { g with waits := g.waits.filter (fun x => x != sa), plans } }
  | none => s

/-- The partner's answer to the command that waits for association `sa`. -/
def mirrorAnswer (sa : Nat) (ans : Option Nat) (s : State) : State :=
  match tabGet none s.mirrorOps sa with
  | none => s
  | some o =>
    let s := setMirrorOp sa none s
    if o.staged then
      match ans with
      | none => stagedAnswer sa none s
      | some c => if o.plan.best then stagedAnswer sa (some (lostPlan s.clock c o.endPn o.plan)) s else groupFail o.ring o.idx (mirrorFailRes c) s
    else match entAt s o.ring o.idx with
      | some e =>
        if e.st = .running then
          let (s', r) := mirrorEffect sa o e.words ans s
          effect o.ring o.idx r s' s
        else s
      | none => s

/-- Record a lease for a mirrored command and wait for the partner; a first hop that is down answers at once (R262). -/
def mirrorWait (n i sa endPn : Nat) (adjust : Bool) (plan : Assoc) (w : List Word) (s : State) : State × Option Res :=
  let o : MirrorOp := { ring := n, idx := i, staged := false, adjust, plan, endPn, since := s.clock }
  if mirrorLinkUp s plan.partner then (setMirrorOp sa (some o) s, none)
  else
    let (s, r) := mirrorEffect sa o w (some 1) s
    (s, some r)

def bodySaInstall : Body := fun n i w s =>
  match chkInstall n w s with
  | some r => (s, some r)
  | none =>
    let sa := fld (wAt w 4) 0 13
    let plan := installPlan w s
    if plan.rx then (appInstall w plan s, some (installRes plan))
    else
      let s := recordLease sa plan plan.leaseEnd s
      if plan.mirrored then mirrorWait n i sa plan.leaseEnd false plan w s
      else (appInstall w plan s, some (installRes plan))

def bodySaSwitch : Body := fun n _ w s =>
  match chkSwitch n w s with
  | some r => (s, some r)
  | none => (appSwitch w s, some (okRes 0))

def bodySaRetire : Body := fun n _ w s =>
  match chkRetire n w s with
  | some r => (s, some r)
  | none => (appRetire w s, some (okRes 0))

def bodySaAdjust : Body := fun n i w s =>
  match chkAdjust n w s with
  | some r => (s, some r)
  | none =>
    let sa := fld (wAt w 2) 0 13
    let a := assoc s sa
    match adjustRecord w (assocTop s a) a with
    | some endPn =>
      if (tabGet none s.mirrorOps sa).isSome then (s, some (failRes .retry 0x15))
      else
        let s := recordLease sa a endPn s
        if a.mirrored then mirrorWait n i sa endPn true (adjustOf w (assocTop s a) a) w s
        else
          let s := appAdjust w s
          (s, some (pnRes (assoc s sa).nextPn))
    | none =>
      let s := appAdjust w s
      (s, some (pnRes (assoc s sa).nextPn))

/-! ### Lease records in flight (R148, R276, R277) -/

/-- 100 µs have passed since the record of a command was first sent (R262). -/
def mirrorOpTimeout (sa : Nat) (s : State) : State :=
  match tabGet none s.mirrorOps sa with
  | some o => if o.since + 100 * usClocks ≤ s.clock then mirrorAnswer sa (some 0) s else s
  | none => s

/-- 100 µs have passed since the record of a next lease was first sent (R148); a record that is late already has this second end too, where
its first one (its link went down with no frame waiting, or MIRROR_BEST at the time) stalled nothing. -/
def leaseReqTimeout (sa : Nat) (s : State) : State :=
  let a := assoc s sa
  match a.req with
  | some q =>
    if a.mirrored && !q.partner && q.sent && q.since + 100 * usClocks ≤ s.clock && !(if a.best then a.mirrorLost else a.stalled) then
      recordLate sa 0 s
    else s
  | none => s

/-- MIRROR_CONFIRM_TIMEOUT. -/
def mirrorConfirmTimeout (sa : Nat) (s : State) : State := leaseReqTimeout sa (mirrorOpTimeout sa s)

/-- A record that the partner has not confirmed is sent again, every 20 µs (R277). -/
def leaseRecordResend (sa : Nat) (s : State) : State :=
  let a := assoc s sa
  match a.req with
  | some q =>
    if domOn s dPIPE && a.state != .free && a.mirrored && !q.partner && q.late && q.resendAt ≤ s.clock then
      let up := mirrorLinkUp s a.partner
      let q' := { q with resendAt := s.clock + 20 * usClocks, since := if q.sent then q.since else s.clock, sent := q.sent || up }
      sendRecord sa a q.endPn (setAssoc sa { a with req := some q' } s)
    else s
  | none => s

/-- The fields of a LEASE payload (R276). -/
def leaseSa (l : List Word) : Nat := fld (wAt l 0) 0 13
def leaseSecy (l : List Word) : Nat := fld (wAt l 0) 13 9
def leaseAn (l : List Word) : Nat := fld (wAt l 0) 22 2
def leaseMark (l : List Word) : Nat := w64 l 1

/-- Is a confirmation's payload, from `node`, about the record that ends at `endPn` of association `sa` as `a` (R276)? -/
def confirmsLease (node : Nat) (l : List Word) (a : Assoc) (endPn : Nat) : Bool :=
  a.partner == node && a.channel == leaseSecy l && a.an == leaseAn l && endPn == leaseMark l

/-- EG_MIRROR_RESTORED at the first confirmation after a loss (R277). -/
def mirrorRestored (sa : Nat) (s : State) : State :=
  let a := assoc s sa
  if a.mirrorLost then raise 41 (assocPort s a) sa (setAssoc sa { a with mirrorLost := false } s) else s

/-- The answer to the record of a next lease. -/
def confirmReq (node sa result : Nat) (l : List Word) (s : State) : State :=
  let a := assoc s sa
  match a.req with
  | some q =>
    if a.mirrored && confirmsLease node l a q.endPn && !q.partner then
      if result = 0 then
        leaseProgress sa (modAssoc sa (fun a => { a with req := some { q with partner := true } }) (mirrorRestored sa s))
      else recordLate sa 2 s
    else s
  | none => s

/-- A confirmation or refusal from the partner `node`: of a command's record, else of a next lease's (R277). -/
def partnerConfirm (node : Nat) (l : List Word) (s : State) : State :=
  let sa := leaseSa l
  let result := fld (wAt l 3) 17 2
  match tabGet none s.mirrorOps sa with
  | some o =>
    if confirmsLease node l o.plan o.endPn then
      mirrorAnswer sa (if result = 0 then none else some 2) (if result = 0 then mirrorRestored sa s else s)
    else confirmReq node sa result l s
  | none => confirmReq node sa result l s

/-- The RESULT of a received record: 0 accepted, 1 REFUSED_OTHER, 2 REFUSED_ACTIVE (R277). -/
def recordResult (l : List Word) (s : State) : Nat :=
  match encoding s (leaseSecy l) with
  | some e =>
    if (assoc s e).an ≠ leaseAn l then 0
    else if e ≠ leaseSa l then 1
    else if flag (wAt l 3) 16 then 2 else 0
  | none => 0

/-- A lease record from node `node` (R277): its answer's words, and the state. -/
def recordReceive (node : Nat) (l : List Word) (s : State) : State × List Word :=
  let r := recordResult l s
  let s :=
    if r = 0 then writeMark (leaseSecy l) (leaseAn l) (leaseSa l) (leaseMark l) s
    else raise 42 (secyPort (secy s (leaseSecy l))) (node + leaseSecy l * 2 ^ 12 + leaseAn l * 2 ^ 21 + b2n (r == 2) * 2 ^ 23) s
  (s, [wAt l 0, wAt l 1, wAt l 2, mkW (fld (wAt l 3) 0 16 + r * 2 ^ 17)])

/-- Port `p` enters DOWN: what waits for an answer over it (R148, R262, R277). -/
def mirrorPortDown (p : Nat) (s : State) : State :=
  let s := (tabKeys s.mirrorOps).foldl (fun s sa => match tabGet none s.mirrorOps sa with
    | some o => if firstHop s o.plan.partner = some p then mirrorAnswer sa (some 1) s else s
    | none => s) s
  (liveAssocs s).foldl (fun s x => match x.2.req with
    | some q => if x.2.mirrored && !q.partner && firstHop s x.2.partner = some p then recordLate x.1 1 s else s
    | none => s) s

end Sys2Proof.Machine
end

