-- ==== Sys2Proof/Machine/Slt.lean ====
section
/-! DEFINITION. Sys2Proof/Machine/Slt.lean: the SCI lookup tables of the pipelines (R191 to R201): the active table and its shadow, aging, scrubs,
rehash; receive channels (R114 to R116). -/

namespace Sys2Proof.Machine

/-! ### A pipeline's two tables (R199) -/

/-- Is a shadow there, from BUILDING until it becomes active or is emptied: changes of the active table are made in it too (R199)? -/
def mirrors (p : Ppl) : Bool := p.shSt != .empty

/-- Change the active table, and the shadow likewise (R199). -/
def bothSlt (k : Nat) (f : Slt → Slt) (s : State) : State :=
  modPpl k (fun p => { p with active := f p.active, shadow := if mirrors p then f p.shadow else p.shadow }) s

/-- IG_SLT_NO_ROOM (R188, R199). -/
def sltNoRoom (k port : Nat) (learn shadow : Bool) (s : State) : State :=
  raise 50 k (port + b2n learn * 2 ^ 5 + b2n shadow * 2 ^ 6) s

/-- Insert an entry in a table unless the pair is there; a way that staging keeps is a second one. -/
def sltAdd (t : Slt) (e : SltEnt) : Option Slt :=
  if e.st != .reserved && (sltFind t e.port e.sci).isSome then some t else sltInsert t e

/-- Insert an entry in pipeline `k`'s tables. The answer is 0 done, 2 no room, 3 refused for a held shadow (R188, R191, R199). A READY
shadow without room becomes FAILED; one that is being built is judged at the end of its build. -/
def sltPlace (k : Nat) (learn : Bool) (e : SltEnt) (s : State) : State × Nat :=
  let p := ppl s k
  let e := { e with epoch := p.epoch }
  match sltInsert p.active e with
  | none => (sltNoRoom k e.port learn false s, 2)
  | some a =>
    if mirrors p then
      match sltAdd p.shadow e with
      | some b => (setPpl k { p with active := a, shadow := b } s, 0)
      | none =>
        if heldBy s (.shadow k) then (sltNoRoom k e.port learn true s, 3)
        else if p.shSt = .ready then (sltNoRoom k e.port learn true (setPpl k { p with active := a, shSt := .failed } s), 0)
        else (setPpl k { p with active := a } s, 0)
    else (setPpl k { p with active := a } s, 0)

/-- Put in a READY shadow the entry for which staging kept a way in the active table. A shadow that became READY after the staging has
no kept way: the entry is inserted, and a shadow without room becomes FAILED (R199). -/
def placeShadow (k : Nat) (fill : Slt → Slt) (e : SltEnt) (s : State) : State :=
  let p := ppl s k
  if mirrors p then
    match sltKept p.shadow e.port e.sci with
    | some _ => setPpl k { p with shadow := fill p.shadow } s
    | none =>
      match sltAdd p.shadow e with
      | some b => setPpl k { p with shadow := b } s
      | none => if p.shSt = .ready then sltNoRoom k e.port false true (setPpl k { p with shSt := .failed } s) else s
  else s

/-- Insert an entry in the shadow alone: a member that a staged SLT_REBUILD of its own group precedes (R200). -/
def shadowPlace (k : Nat) (e : SltEnt) (s : State) : State × Nat :=
  let p := ppl s k
  match sltInsert p.shadow { e with epoch := p.epoch } with
  | some b => (setPpl k { p with shadow := b } s, 0)
  | none => (sltNoRoom k e.port false true s, 3)

/-- Is the pair one that a staged RXSC_SET will bind or insert (R193)? -/
def pairStaged (s : State) (port sci : Nat) : Bool := createdBy s (.pair port sci)

/-! ### RXSC_SET and RXSC_DELETE (R114 to R116) -/

def rsIdx (w : List Word) : Nat := fld (wAt w 2) 0 12
def rsSecy (w : List Word) : Nat := fld (wAt w 4) 0 9
def rsCreate (w : List Word) : Bool := flag (wAt w 4) 9
def rsFwd (w : List Word) : Bool := flag (wAt w 4) 10
def rsEnable (w : List Word) : Bool := flag (wAt w 4) 11

/-- Does another channel of the port hold the SCI? -/
def sciBound (s : State) (port sci : Nat) : Bool :=
  s.rxscs.any fun p => p.2.valid && p.2.sci == sci && secyPort (secy s p.2.secy) == port

/-- Has the channel its SLT entry (R197), or a scrub that is to restore it (R198)? -/
def hasEntry (s : State) (c : Nat) : Bool :=
  let x := rxsc s c
  let port := secyPort (secy s x.secy)
  let p := ppl s (pplOf port)
  p.scrubs.any (fun b => !b.shadow && b.rxsc == some c)
    || (sltFind p.active port x.sci).any fun f => f.2.st == .bound

/-- Does the command insert or bind an SLT entry: a creation, or a modify with ENABLE = 1 of a channel without one (R115)? -/
def rsInserts (s : State) (w : List Word) : Bool := rsCreate w || (rsEnable w && !hasEntry s (rsIdx w))

/-- The execution checks of RXSC_SET but for the room in the SLT (R47, R101, R115). A CUT that another ring's staged group is about to set
on the channel keeps FWD_ONLY as one in force does (DESIGN CHOICE, assumption log 14). -/
def chkRxscSet (n : Nat) (w : List Word) (s : State) : Option Res :=
  let i := rsIdx w
  let y := rsSecy w
  let c := rxsc s i
  let port := secyPort (secy s y)
  if rsCreate w then orElse (objChk s n (secy s y).valid port (heldBy s (.secy y)) (badRes 7 4)) fun _ =>
    if c.valid || createdBy s (.rxsc i) then some { st := .noRoom, reason := 2, word := 2 }
    else if sciBound s port (w64 w 5) || pairStaged s port (w64 w 5) then some { st := .noRoom, reason := 3, word := 5 }
    else none
  else orElse (objChk s n c.valid (secyPort (secy s c.secy)) (heldBy s (.rxsc i)) (badRes 7 2)) fun _ =>
    if c.secy ≠ y then some (badRes 9 4)
    else if c.sci ≠ w64 w 5 then some (badRes 9 5)
    else if !rsFwd w && (createdBy s (.cutOn i) || (liveAssocs s).any fun p => p.2.rx && p.2.channel == i && p.2.cut) then some (rangeRes 4)
    else none

/-- NO_ROOM SLT (R109). -/
def sltRes : Res := { st := .noRoom, reason := 4, word := 5 }

/-- Give channel `i` its entry: bind a PENDING or BLOCKED one, use the way that staging keeps, or insert (R115, R193). The answer:
0 inserted, 1 bound, 2 or 3 no room. -/
def bindEntry (i : Nat) (s : State) : State × Nat :=
  let c := rxsc s i
  let port := secyPort (secy s c.secy)
  let k := pplOf port
  let e : SltEnt := { port, sci := c.sci, st := .bound, rxsc := i, epoch := (ppl s k).epoch }
  let bindE (x : SltEnt) : SltEnt := { x with st := .bound, rxsc := i, age := true, idle := false }
  let unkeep (t : Slt) : Slt := match sltKept t port c.sci with | some (l, _) => sltRemove l t | none => t
  let fill (t : Slt) : Slt := match sltKept t port c.sci with | some (l, _) => sltPut l (some e) t | none => t
  match sltFind (ppl s k).active port c.sci with
  | some _ => (bothSlt k (fun t => unkeep (sltMod port c.sci bindE t)) s, 1)
  | none =>
    match sltKept (ppl s k).active port c.sci with
    | some _ => (placeShadow k fill e (modPpl k (fun p => { p with active := fill p.active }) s), 0)
    | none => sltPlace k false e s

/-- The channel that RXSC_SET leaves. -/
def rxscOf (w : List Word) (c : Rxsc) : Rxsc :=
  if rsCreate w then
    { valid := true, serial := c.serial, secy := rsSecy w, fwdOnly := rsFwd w, enable := rsEnable w, sci := w64 w 5 }
  else { c with fwdOnly := rsFwd w, enable := rsEnable w }

/-- The effect of RXSC_SET (R115). -/
def appRxscSet (w : List Word) (s : State) : State × Res :=
  let i := rsIdx w
  if rsInserts s w then
    let new : State := if rsCreate w then { s with installSeq := s.installSeq + 1 } else s
    let c := rxscOf w (rxsc s i)
    let (s', r) := bindEntry i (setRxsc i { c with idle := false, serial := if rsCreate w then new.installSeq else c.serial } new)
    if r < 2 then (s', okRes r) else ({ s with raised := s'.raised, limits := s'.limits }, sltRes)
  else (setRxsc i (rxscOf w (rxsc s i)) s, okRes 0)

def bodyRxscSet : Body := fun n _ w s =>
  match chkRxscSet n w s with
  | some r => (s, some r)
  | none =>
    let (s, r) := appRxscSet w s
    (s, some r)

/-- The execution checks of RXSC_DELETE (R116). An association that another ring's staged group is about to create counts as a dependant
(DESIGN CHOICE, assumption log 14). -/
def chkRxscDelete (n : Nat) (w : List Word) (s : State) : Option Res :=
  let i := rsIdx w
  let c := rxsc s i
  orElse (objChk s n c.valid (secyPort (secy s c.secy)) (heldBy s (.rxsc i)) (badRes 7 2)) fun _ =>
    if createdBy s (.depCh i) || (liveAssocs s).any fun p => p.2.rx && p.2.channel == i then some (badRes 8 2) else none

/-- An entry without a channel that is BOUND to `i`: a scrub in progress has nothing left to insert again. -/
def unscrub (i : Nat) (b : Scrub) : Scrub := if b.rxsc = some i then { b with rxsc := none } else b

/-- Drop a channel's BOUND entry. -/
def dropEntry (i : Nat) (s : State) : State :=
  let c := rxsc s i
  let port := secyPort (secy s c.secy)
  let boundTo (t : Slt) : Bool := (sltFind t port c.sci).any fun f => f.2.st == .bound
  modPpl (pplOf port) (fun p => { p with scrubs := p.scrubs.map (unscrub i) })
    (bothSlt (pplOf port) (fun t => if boundTo t then sltDrop port c.sci t else t) s)

def appRxscDelete (w : List Word) (s : State) : State := setRxsc (rsIdx w) {} (dropEntry (rsIdx w) s)

def bodyRxscDelete : Body := fun n _ w s =>
  match chkRxscDelete n w s with
  | some r => (s, some r)
  | none => (appRxscDelete w s, some (okRes 0))

/-! ### Aging and parity (R195 to R198) -/

/-- A hit: AGE set, IDLE cleared, in the entry and in a bound channel (R195). -/
def sltHit (k : Nat) (e : SltEnt) (s : State) : State :=
  let hit (x : SltEnt) : SltEnt := { x with age := true, idle := false, hitAt := s.clock + 1 }
  let s := modPpl k (fun p => { p with active := sltMod e.port e.sci hit p.active }) s
  if e.st = .bound && (rxsc s e.rxsc).valid then setRxsc e.rxsc { rxsc s e.rxsc with idle := false } s else s

/-- The sweep's visit to the entry of a pair (R195); an entry hit in the clock of the sweep keeps AGE 1 and IDLE 0 (R196). -/
def sweepVisit (k : Nat) (s : State) (x : SltEnt) : State :=
  match sltFind (ppl s k).active x.port x.sci with
  | none => s
  | some (_, e) =>
    let upd (f : SltEnt → SltEnt) (s : State) : State :=
      modPpl k (fun p => { p with active := sltMod e.port e.sci (fun x => f { x with epoch := p.epoch }) p.active }) s
    if e.epoch = (ppl s k).epoch then s
    else if e.hitAt = s.clock + 1 then upd id s
    else if e.age then upd (fun x => { x with age := false }) s
    else if e.st = .bound then
      let c := rxsc s e.rxsc
      if rflag s (rPA_IG_CTRL e.port) 4 then
        raise 53 e.port e.rxsc (setRxsc e.rxsc { c with enable := false, idle := true }
          (bothSlt k (sltDrop e.port e.sci) s))
      else setRxsc e.rxsc { c with idle := true } (upd (fun x => { x with idle := true }) s)
    else if pairStaged s e.port e.sci then upd id s
    else bothSlt k (sltDrop e.port e.sci) s

/-- Is a sweep of pipeline `k` due: PERIOD ms since the latest one (R195)? The first one has no earlier one to wait for (DESIGN CHOICE,
assumption log 57). -/
def sweepDue (k : Nat) (s : State) : Bool :=
  let period := rfld s (rPPL_IG_AGE k) 0 16
  let p := ppl s k
  period ≠ 0 && (p.sweptAt = 0 || p.sweptAt + period * 1000 * usClocks ≤ s.clock + 1)

/-- One sweep of pipeline `k` (R195). -/
def sltAgingSweep (k : Nat) (s : State) : State :=
  if dpRuns s && sweepDue k s then
    let l := (sltList (ppl s k).active).map Prod.snd
    l.foldl (sweepVisit k) (modPpl k (fun p => { p with epoch := !p.epoch, sweptAt := s.clock + 1 }) s)
  else s

/-- A read finds that the entry at LOC fails its parity (R198): it is counted and invalidated, and from then on absent. An entry of the active
table leaves the shadow too (R199), as far as its channel's pair is not to come back. -/
def sltParity (k : Nat) (shadow : Bool) (loc : Nat) (s : State) : State :=
  let p := ppl s k
  match sltAt (if shadow then p.shadow else p.active) loc with
  | none => s
  | some e =>
    if !dpRuns s || e.st = .reserved then s
    else
      let c := if e.st = .bound && (rxsc s e.rxsc).valid then some e.rxsc else none
      let p := { p with scrubs := p.scrubs ++ [(⟨shadow, loc, c⟩ : Scrub)] }
      let s := { s with plCnt := cntAdd (igKey k 27) 1 s.plCnt }
      if shadow then setPpl k { p with shadow := sltRemove loc p.shadow } s
      else setPpl k { p with active := sltRemove loc p.active, shadow := if mirrors p then sltDrop e.port e.sci p.shadow else p.shadow } s

/-- The second step of a scrub (R198): the channel's pair is inserted again, in the table that lost it (and in the shadow with the active one,
R199); a PENDING or BLOCKED entry made meanwhile is bound. Is the entry back? -/
def sltRestore (k : Nat) (shadow : Bool) (i : Nat) (s : State) : State × Bool :=
  let c := rxsc s i
  let port := secyPort (secy s c.secy)
  let p := ppl s k
  let e : SltEnt := { port, sci := c.sci, st := .bound, rxsc := i, epoch := p.epoch }
  if shadow then
    if !((sltFind p.active port c.sci).any fun f => f.2.st == .bound) then (s, false)
    else match sltAdd p.shadow e with
    | some t => (setPpl k { p with shadow := t } s, true)
    | none => (sltNoRoom k port false true (setPpl k { p with shSt := if p.shSt = .ready then .failed else p.shSt } s), false)
  else
    let (s', r) := bindEntry i s
    if r < 2 then (s', true)
    else (setRxsc i { c with enable := false, idle := true } { s with raised := s'.raised, limits := s'.limits }, false)

/-- The scrub of the entry at LOC ends (R198): its channel's pair is inserted again; without room the channel is handled as in R197. -/
def sltScrubEnd (k : Nat) (shadow : Bool) (loc : Nat) (s : State) : State :=
  let p := ppl s k
  match p.scrubs.find? fun b => b.shadow == shadow && b.loc == loc with
  | none => s
  | some b =>
    if !dpRuns s then s
    else
      let s := setPpl k { p with scrubs := p.scrubs.erase b } s
      let (s, restored) := match b.rxsc with
        | some i => sltRestore k shadow i s
        | none => (s, false)
      let n := satAdd 8 (rfld s (rPPL_IG_PARITY k) 16 8) 1
      raise 51 k (loc + b2n restored * 2 ^ 13)
        (rset (rPPL_IG_PARITY k) (mkW (loc + b2n shadow * 2 ^ 13 + b2n restored * 2 ^ 14 + n * 2 ^ 16)) s)

/-- SLT_SCRUB: a read finds the failed parity (`done` = 0), or the scrub ends, within 1 µs (`done` = 1); lookups in between miss. A scrub that
ends in the clock of the read is both. -/
def sltScrub (k : Nat) (shadow : Bool) (loc : Nat) (done : Bool) (s : State) : State :=
  if done then
    if (ppl s k).scrubs.any fun b => b.shadow == shadow && b.loc == loc then sltScrubEnd k shadow loc s
    else sltScrubEnd k shadow loc (sltParity k shadow loc s)
  else sltParity k shadow loc s

/-! ### SLT_SEED, SLT_REBUILD, SLT_ENTRY (R200, R201) -/

/-- R47 for all six ports of a pipeline. -/
def pplPortsOk (s : State) (n k : Nat) : Bool := (portsOf k).all (portOk s n)

/-- RETRY BUSY (R52). -/
def busyRes : Res := failRes .retry 0x15

def bodySltSeed : Body := fun n i w s =>
  let k := fld (wAt w 2) 0 2
  if !pplPortsOk s n k then (s, some portRes)
  else if heldBy s (.shadow k) then (s, some stagedRes)
  else if (ppl s k).shSt = .building then (s, some busyRes)
  else
    (modPpl k (fun p => { p with shadow := { seed := (wAt w 4).toNat }, shSt := .building, seedCmd := some (n, i),
                                 scrubs := p.scrubs.filter fun b => !b.shadow }) s, none)

/-- Copy entries into a table, as far as their pairs are not there yet (R200): the table, and how many have their place. -/
def sltCopy : List SltEnt → Slt → Nat → Slt × Nat
  | [], t, n => (t, n)
  | e :: r, t, n =>
    match sltAdd t e with
    | some t' => sltCopy r t' (n + 1)
    | none => sltCopy r t n

/-- The first entry of the list that finds no room. -/
def sltCopyFail : List SltEnt → Slt → Option SltEnt
  | [], _ => none
  | e :: r, t =>
    match sltAdd t e with
    | some t' => sltCopyFail r t'
    | none => some e

/-- Complete a descriptor that runs. -/
def finishRun (n i : Nat) (r : Res) (s : State) : State :=
  match entAt s n i with
  | some e => if e.st = .running then finish n i r s else s
  | none => s

/-- The build of pipeline `k`'s shadow ends (R200). WORD of a NO_ROOM SLT is 0 here: no word of SLT_SEED is at fault (DESIGN CHOICE,
assumption log 16). In the alarm clock it has no effect but that the shadow is EMPTY (R75; assumption log 54). -/
def shadowBuildDone (k : Nat) (s : State) : State :=
  let p := ppl s k
  match p.shSt, p.seedCmd with
  | .building, some (n, i) =>
    if alarmNow s then finishRun n i (failRes .alarm 0) (setPpl k { p with shadow := {}, shSt := .empty, seedCmd := none } s)
    else if dpRuns s then
      let l := (sltList p.active).map Prod.snd
      let (t, cnt) := sltCopy l p.shadow 0
      let ok := cnt == l.length
      let s := match sltCopyFail l p.shadow with
        | some e => raise 50 k (e.port + 2 ^ 6) s
        | none => s
      finishRun n i (if ok then okRes cnt else { st := .noRoom, reason := 4, result := cnt })
        (setPpl k { p with shadow := t, shSt := if ok then .ready else .failed, seedCmd := none } s)
    else s
  | _, _ => s

/-- The checks of SLT_REBUILD, in the order of R200. WORD of a NO_ROOM SLT is 0, as for SLT_SEED (DESIGN CHOICE, assumption log 16). -/
def chkSltRebuild (n : Nat) (w : List Word) (s : State) : Option Res :=
  let k := fld (wAt w 2) 0 2
  let p := ppl s k
  if !pplPortsOk s n k then some portRes
  else if p.shSt = .empty || p.shadow.seed ≠ (wAt w 4).toNat then some (rangeRes 4)
  else if p.shSt = .building then some busyRes
  else if heldBy s (.shadow k) then some stagedRes
  else if p.shSt = .failed then some { st := .noRoom, reason := 4 }
  else none

/-- A table becomes active: its entries count as visited by the latest sweep (DESIGN CHOICE, assumption log 57). -/
def sltActivate (epoch : Bool) (t : Slt) : Slt :=
  { t with ents := t.ents.map fun p => (p.1, p.2.map fun e => { e with epoch }) }

/-- The effect of SLT_REBUILD: the tables exchange roles, and the former active one is an EMPTY shadow that keeps its seed (R200). Scrubs in
progress go on for the new active table. -/
def appSltRebuild (w : List Word) (s : State) : State :=
  let k := fld (wAt w 2) 0 2
  raise 52 k (ppl s k).shadow.seed
    (modPpl k (fun p => { p with active := sltActivate p.epoch p.shadow, shadow := { seed := p.active.seed }, shSt := .empty,
                                 scrubs := p.scrubs.map fun b => { b with shadow := false } }) s)

def bodySltRebuild : Body := fun n _ w s =>
  match chkSltRebuild n w s with
  | some r => (s, some r)
  | none => (appSltRebuild w s, some (okRes 0))

def sltStCode : SltSt → Nat
  | .bound => 0
  | .pending => 1
  | .blocked => 2
  | .reserved => 3

/-- An entry record (R201). -/
def sltRecord (p : Nat × SltEnt) : List Word :=
  let e := p.2
  [mkW (p.1 + sltStCode e.st * 2 ^ 14 + b2n e.age * 2 ^ 16 + b2n e.idle * 2 ^ 17 + e.port * 2 ^ 18),
   mkW (if e.st = .bound then e.rxsc else 0)] ++ words64 e.sci

def bodySltEntry : Body := fun n _ w s =>
  let k := fld (wAt w 2) 0 2
  let op := fld (wAt w 4) 0 2
  if !pplPortsOk s n k then (s, some portRes)
  else if op = 0 then
    let l := (sltList (if flag (wAt w 4) 3 then (ppl s k).shadow else (ppl s k).active)).filter fun p =>
      !flag (wAt w 4) 2 || p.2.st != .bound
    let out := (l.take ((wAt w 7).toNat / 15)).flatMap sltRecord
    match memWriteWords (join48 (wAt w 5) (wAt w 6)) out s with
    | (s, true) => (s, some (okRes (3 * out.length) l.length))
    | (s, false) => (s, some (failRes .aborted 3))
  else
    let port := fld (wAt w 8) 0 5
    let sci := w64 w 9
    if pairStaged s port sci then (s, some stagedRes)
    else match sltFind (ppl s k).active port sci with
      | none => (s, some (badRes 7 9))
      | some (_, e) =>
        if e.st = .bound then (s, some (badRes 8 9))
        else if op = 1 then (bothSlt k (sltDrop port sci) s, some (okRes 0))
        else (bothSlt k (sltMod port sci fun x => { x with st := .blocked }) s, some (okRes 0))

end Sys2Proof.Machine
end

