-- ==== Sys2Proof/Machine/Ingress.lean ====
section
/-! DEFINITION. Sys2Proof/Machine/Ingress.lean: the ingress path (R172 to R218): arrival, the SecTAG, lookup and learning, replay,
decryption and the ICV, release. A received frame is one command: its bytes have all arrived. -/

namespace Sys2Proof.Machine

/-! ### Bytes of a frame -/

/-- Is there a VLAN tag with TPID 0x8100 or 0x88A8 at an offset? -/
def vlanAt (l : List Byte) (i : Nat) : Bool := i + 4 ≤ l.length && (u16At l i == 0x8100 || u16At l i == 0x88A8)

/-- The consecutive VLAN tags after the source address, at most `k` (R94). -/
def clearTags (l : List Byte) : Nat → Nat
  | 0 => 0
  | k + 1 => let t := clearTags l k; if t = k && vlanAt l (12 + 4 * t) then t + 1 else t

/-- The EtherType after `t` tags, none where the frame is too short. -/
def etypeAt (l : List Byte) (t : Nat) : Option Nat := if 14 + 4 * t ≤ l.length then some (u16At l (12 + 4 * t)) else none

/-! ### The hold buffer (R180, R211) -/

/-- Cells in use by a port. -/
def portCells (s : State) (port : Nat) : Nat := (igList s).foldl (fun n p => if p.2.port = port then n + p.2.cells else n) 0

/-- Cells that a frame of the port may still take. -/
def cellsFor (s : State) (port : Nat) : Nat :=
  let shared := (portsOf (pplOf port)).foldl (fun n p => n + (portCells s p - 160)) 0
  (160 - portCells s port) + (1088 - shared)

/-! ### Outcomes and their events (R215, R218) -/

/-- A frame that has not entered the hold buffer's books ends under outcome `k` at once. -/
def igNever (k cause : Nat) (f : IgFrame) (s : State) : State := igCharge k f (igEvent k cause f s)

/-- A frame in flight ends under outcome `k`: dropped, or aborted at its final beat (R173, R209). -/
def igOut (id k cause : Nat) (f : IgFrame) (s : State) : State := igFail id k f (igEvent k cause f s)

/-- A frame is to be delivered under outcome `k` with its bytes: it waits for its lane (R181, R206). -/
def igDeliver (id k : Nat) (f : IgFrame) (out : List Byte) (s : State) : State :=
  setItem id none (setIg id (some { f with st := .decided, outcome := k, out }) s)

/-! ### End-of-frame conditions (R173 to R175, R182) -/

/-- The length check of R93: does it fail, and the length of the secure data. `m` bytes follow the SecTAG, `len` is the frame's. -/
def lengthCheck (sl m len : Nat) : Bool × Nat :=
  if sl = 0 then (m < 48 + 16, m - 16)
  else (m < 16 + sl || (sl + 16 < m && 64 < len), sl)

/-- The condition, if any, that ends a frame before its last byte is good: overflow of the hold buffer at its first cell
without room, the first byte beyond MAXLEN, the receive status with the last byte. Within one beat of 16 bytes the status goes first
(R174). The answer is the counter of R216. -/
def endOutcome (avail maxlen len status : Nat) : Option Nat :=
  let ovf := if avail * 64 < len then some (avail * 64) else none
  let long := if maxlen < len then some maxlen else none
  let rx := if status = 0 then none else some (len - 1)
  let mid := match ovf, long with
    | some a, some b => if a / 16 ≤ b / 16 then some (21, a) else some (10, b)
    | some a, none => some (21, a)
    | none, some b => some (10, b)
    | none, none => none
  match mid, rx with
  | some (k, a), some b => if k = 10 && a / 16 = b / 16 then some 9 else some k
  | some (k, _), none => some k
  | none, some _ => some 9
  | none, none => none

/-! ### Replay (R97, R202) -/

/-- The recovered PN, 64 bits for XPN suites: the upper half one more than that of LOWEST_PN where the low half has wrapped (R97). -/
def recoverPn (suite lowest pn32 : Nat) : Nat :=
  if suiteXpn suite then
    (lowest / 2 ^ 32 + (if lowest % 2 ^ 32 ≤ pn32 then 0 else 1)) % 2 ^ 32 * 2 ^ 32 + pn32
  else pn32

/-- The bound of R202 for an association of SecY `y`. -/
def replayBound (s : State) (y : Nat) (a : Assoc) : Nat := max a.lowestPn (a.nextPn - (secy s y).window)

/-- VALIDATE and REPLAY of the settings that a frame keeps from its first byte (R183). -/
def validateOf (w : Word) : Nat := fld w 6 2
def replayOf (w : Word) : Bool := flag w 9

/-! ### After the lookup (R172 checks 6 to 8) -/

/-- Number the frame and put it into the hold buffer in state `f.st`; a secured frame gets its tower item. -/
def igEnter (f : IgFrame) (s : State) : State × Nat :=
  let (s, id) := takeId s
  (setIg id (some f) s, id)

/-- A frame that needs no tower work is delivered at its last byte, unless a condition ends it (R206). -/
def igPlain (id k : Nat) (f : IgFrame) (out : List Byte) (s : State) : State :=
  match f.late with
  | some (j, c) => igOut id j c f s
  | none => igDeliver id k f out s

/-- The bytes without the FCS. -/
def noFcs (l : List Byte) : List Byte := l.take (l.length - 4)

/-- The delivered form of a frame with a SecTAG: addresses, clear tags and secure data (R213). -/
def strip (f : IgFrame) : List Byte :=
  let h := 12 + 4 * f.tags
  f.bytes.take h ++ slice f.bytes (h + f.tagLen) f.n

/-- No enabled channel (row 3 of R106): charged to the port's default SecY. -/
def igNoChannel (id : Nat) (f : IgFrame) (s : State) : State :=
  let c := igEnc f
  match f.secy with
  | some _ => if validateOf f.settings = 2 || c then igOut id 13 0 f s else igPlain id 5 f (strip f) s
  | none => igOut id 13 0 f s

/-- Attribute a frame to a SecY with its settings. -/
def withSecy (s : State) (y : Option Nat) (f : IgFrame) : IgFrame :=
  match y with
  | some i => { f with secy := y, ySerial := (secy s i).serial, settings := (secy s i).settings }
  | none => { f with secy := none, settings := 0 }

/-- A CUT frame that ends under outcome `k` before or with its last byte (R173, R182). How much of it had streamed by then is timing: a free
number says whether some had (assumption log 22), and none had where its lane, its tower or its key was not to be had. -/
def igCutLate (id k cause : Nat) (f : IgFrame) (x : Item) (s : State) : State :=
  let s := igEvent k cause f s
  match fetchKeys {} s (x.reqs.map (takeOf s)) with
  | .ok [key] =>
    if igHead s id f && 0 < beatsBefore f && (target s x).isSome && domOn s dDOME && !s.pwr.remasking then
      let go := Config.freeNat s.draws % 2 = 1
      let s := { s with draws := s.draws + 1 }
      if go then igEnd id k { f with started := true, out := (igPlaintext f key).1 } (cntIg f.port 25 s) else igEnd id k f s
    else igEnd id k f s
  | _ => igEnd id k f s

/-- Checks 7 and 8 of R172 for a frame whose lookup found an enabled channel (R183). -/
def igChannel (id c : Nat) (f : IgFrame) (s : State) : State :=
  let y := (rxsc s c).secy
  let f := withSecy s (some y) { f with rxsc := some c, cSerial := (rxsc s c).serial }
  let suite := secySuite (secy s y)
  let pn32 := ofBytesBE (slice f.bytes (12 + 4 * f.tags + 4) 4)
  if !suiteXpn suite && pn32 = 0 then igOut id 12 4 f s
  else match chanAssoc s true c (f.an.getD 0) with
  | none => if validateOf f.settings = 2 || igEnc f then igOut id 16 0 f s else igPlain id 5 f (strip f) s
  | some sa =>
    let a := assoc s sa
    let pn := recoverPn suite a.lowestPn pn32
    let f := { f with sa, serial := a.serial, kref := a.kref, label := a.label, ssci := a.ssci, salt := a.salt, pn }
    if validateOf f.settings = 0 && !igEnc f then igPlain id 3 f (strip f) s
    else if validateOf f.settings ≠ 0 && replayOf f.settings && pn < replayBound s y a then igOut id 17 0 f s
    else
      let f := { f with cut := a.cut, st := .cipher }
      let x : Item := { kind := .ig, cls := if f.express then 0 else 1, dkey := frameKey sa true,
                        reqs := [linkReq a.kref a.label suite] }
      match f.late with
      | some (j, cause) => if f.cut then igCutLate id j cause f x s else igOut id j cause f s
      | none => setItem id (some x) (setIg id (some f) s)

/-- What the lookup's entry says (check 6). -/
def igLookup (id : Nat) (f : IgFrame) (s : State) : State :=
  let k := pplOf f.port
  let dflt := withSecy s (defaultSecy s f.port) f
  match sltFind (ppl s k).active f.port f.sci with
  | some (_, e) =>
    let s := sltHit k e s
    if e.st = .bound then
      if (rxsc s e.rxsc).valid && (rxsc s e.rxsc).enable then igChannel id e.rxsc f s else igNoChannel id dflt s
    else igOut id 14 0 f s
  | none =>
    if rflag s (rPA_IG_CTRL f.port) 3 then
      modPpl k (fun p => { p with learnQ := p.learnQ ++ [id] }) (setIg id (some { dflt with st := .learn }) s)
    else igNoChannel id dflt s

/-! ### Arrival (R172 to R179) -/

/-- A frame whose EtherType is 0x88E5 after its clear tags: the header checks (check 5), the length check at the last byte. -/
def igTagged (id : Nat) (f : IgFrame) (s : State) : State :=
  let l := noFcs f.bytes
  let h := 12 + 4 * f.tags
  let dflt := withSecy s (defaultSecy s f.port) f
  let tci := byteAt l (h + 2)
  let tagLen := if bitN tci 5 then 16 else 8
  if l.length < h + 3 || l.length < h + tagLen then
    match f.late with
    | some (j, c) => igOut id j c dflt s
    | none => igOut id 12 5 dflt s
  else
    let sl := byteAt l (h + 3)
    if bitN tci 7 || sl / 64 ≠ 0 then igOut id 12 1 dflt s
    else if bitN tci 5 && (bitN tci 6 || bitN tci 4) then igOut id 12 2 dflt s
    else if bitN tci 3 ≠ bitN tci 2 then igOut id 12 3 dflt s
    else
      let m := l.length - (h + tagLen)
      let (bad, n) := lengthCheck (sl % 64) m f.bytes.length
      let sci :=
        if bitN tci 5 then ofBytesBE (slice l (h + 8) 8)
        else ofBytesBE (slice l 6 6) * 2 ^ 16 + (if !bitN tci 6 && bitN tci 4 then 0 else 1)
      let late := match f.late with
        | some x => some x
        | none => if bad then some (12, 5) else none
      igLookup id { f with tagLen, n, sci, an := some (tci % 4), late } s

/-- IG_FRAME_RECEIVE: the checks of R172 up to dispatch. -/
def igFrameReceive (port : Nat) (express : Bool) (bytes : List Byte) (status ts : Nat) (s : State) : State :=
  if !dpRuns s || s.pwr.restoring || pipeLeaving s || bytes = [] then s
  else
    let ctrl := rget s (rPA_IG_CTRL port)
    let s := cntIg port 1 s
    let maxlen := rfld s (rPA_IG_MAXLEN port) 0 14
    let len := bytes.length
    let avail := cellsFor s port
    let f0 : IgFrame := { port, express := express && flag ctrl 2, bytes, ts, cells := min (ceilDiv (min len maxlen) 64) avail, st := .decided,
                          since := s.clock }
    if !flag ctrl 0 || entering s then igNever 8 0 f0 s
    else if avail = 0 then igNever 21 0 f0 s
    else
      let f := { f0 with late := (endOutcome avail maxlen len status).map fun k => (k, 0) }
      let l := noFcs bytes
      let (s, id) := igEnter f s
      if flag ctrl 1 then igPlain id 7 f l s
      else if etypeAt l (clearTags l 2) = some 0x888E then igPlain id 6 f l s
      else
        let t := clearTags l (portClear s port)
        if etypeAt l t = some 0x88E5 then igTagged id { f with tags := t } s
        else
          let et := etypeAt l (clearTags l 2)
          let listed := (List.range 4).any fun i =>
            rflag s (rPA_IG_BYPASS port i) 16 && et == some (rfld s (rPA_IG_BYPASS port i) 0 16)
          if listed then igPlain id 7 f l s
          else
            let f := withSecy s (defaultSecy s port) f
            match f.secy with
            | some _ => if validateOf f.settings = 2 then igOut id 11 0 f s else igPlain id 4 f l s
            | none => igOut id 11 0 f s

/-! ### Learning (R191 to R194) -/

/-- PENDING and BLOCKED entries of a port, and of a pipeline. -/
def portPending (s : State) (port : Nat) : Nat :=
  ((sltList (ppl s (pplOf port)).active).filter fun p => p.2.st != .bound && p.2.port == port).length
def pplPending (s : State) (k : Nat) : Nat := ((sltList (ppl s k).active).filter fun p => p.2.st != .bound).length

/-- A refused learn step (R191). -/
def learnRefused (id cause : Nat) (f : IgFrame) (s : State) : State := igOut id 15 0 f (raise 49 f.port cause s)

/-- The insertion engine takes the oldest frame that waits for it. -/
def sltLearnStep (k : Nat) (s : State) : State :=
  match (ppl s k).learnQ with
  | [] => s
  | id :: rest =>
    if !dpRuns s then s
    else
      let s := modPpl k (fun p => { p with learnQ := rest }) s
      match igFrame s id with
      | none => s
      | some f =>
        match sltFind (ppl s k).active f.port f.sci with
        | some (_, e) =>
          let s := sltHit k e s
          if e.st = .bound then
            if (rxsc s e.rxsc).valid && (rxsc s e.rxsc).enable then igChannel id e.rxsc f s else igNoChannel id f s
          else igOut id 14 0 f s
        | none =>
          if pairStaged s f.port f.sci then igOut id 14 0 f s
          else if rfld s (rPA_IG_LEARN f.port) 0 7 ≤ portPending s f.port then learnRefused id 0 f s
          else if rfld s (rPPL_IG_LEARN k) 0 12 ≤ pplPending s k then learnRefused id 1 f s
          else
            let (s, r) := sltPlace k true { port := f.port, sci := f.sci, st := .pending } s
            if r = 0 then igOut id 14 0 f (cntIg f.port 24 (raise 48 f.port (f.sci / 2 ^ 16 % 2 ^ 24) s))
            else learnRefused id r f s

/-! ### The tower's result (R202 to R209) -/

/-- The final replay check and update of a verified frame (R202, R204): late, delayed, and the state. NEXT_PN after PN 2^64 - 1 is one more,
which its 64 bits do not hold: every later PN is then below the bound, and a read shows 0 (the model's choice, assumption log 60). -/
def finalReplay (f : IgFrame) (s : State) : Bool × Bool × State :=
  let a := assoc s f.sa
  let y := f.secy.getD 0
  if a.serial ≠ f.serial || a.state = .free then (false, false, s)
  else
    let below := f.pn < replayBound s y a
    if below && replayOf f.settings then (true, false, s)
    else if a.nextPn ≤ f.pn then
      let np := f.pn + 1
      (false, below, setAssoc f.sa { a with nextPn := np, lowestPn := max (max a.lowestPn (np - (secy s y).window)) 1 } s)
    else (false, below, s)

/-- IG_SA_FIRST at the first frame that verifies since the install (R282). -/
def noteFirst (f : IgFrame) (s : State) : State :=
  let a := assoc s f.sa
  if a.serial = f.serial && a.state ≠ .free && !a.seen then raise 66 f.port f.sa (setAssoc f.sa { a with seen := true } s) else s

/-- Is an earlier frame of the lane still in a tower's hands or at the insertion engine? Frames of one lane complete in arrival order (R202). -/
def igBehind (s : State) (id : Nat) (f : IgFrame) : Bool :=
  (igList s).any fun p => p.1 < id && p.2.port == f.port && p.2.express == f.express && p.2.st != .decided

/-- A tower returns an ingress frame. -/
def igTowerDone (id : Nat) (f : IgFrame) (key : List Byte) (s : State) : State :=
  let (out, ok) := igPlaintext f key
  if validateOf f.settings = 0 then igDeliver id 3 f out s
  else if !ok then igOut id 18 0 f s
  else
    let (late, delayed, s) := finalReplay f (noteFirst f s)
    if late then igOut id 17 0 f s else igDeliver id 2 { f with delayed } out s

/-! ### Release (R206 to R214) -/

/-- Record the time from the last byte to the released one (PA_IG_LATENCY TAIL_MAX). -/
def noteTail (f : IgFrame) (s : State) : State := rmax (rPA_IG_LATENCY f.port) 12 12 (2 * (s.clock - f.since)) s

/-- A decided frame at the head of its lane leaves toward the switch core. -/
def igFrameRelease (id : Nat) (s : State) : State :=
  match igFrame s id with
  | some f =>
    if dpRuns s && f.st = .decided && igHead s id f then
      let good := f.outcome ≤ 7
      if good then
        let o : CoreFrame := { bytes := f.out, ts := f.ts, info := igInfo f f.outcome, abort := false }
        let s := if f.cut && !f.started then cutStarts f s else s
        noteTail f (igCharge f.outcome f (setCore f o (igGone id f s)))
      else noteTail f (igAbort id f.outcome f s)
    else s
  | none => s

/-- The hold limit of a frame whose verification has not arrived (R211); a result in the clock of the expiry is still used (R174). -/
def holdLimitExpire (id : Nat) (s : State) : State :=
  match igFrame s id with
  | some f =>
    if dpRuns s && f.st = .cipher && f.since + rfld s (rPPL_IG_HOLD (pplOf f.port)) 0 8 * usClocks < s.clock then
      igEnd id 22 f (igEvent 22 0 f s)
    else s
  | none => s

end Sys2Proof.Machine
end

