-- ==== Sys2Proof/Machine/Classify.lean ====
section
/-! DEFINITION. Sys2Proof/Machine/Classify.lean: the egress parser, the key vector, the classifier tree and its commands (R126 to R143). -/

namespace Sys2Proof.Machine

/-! ### The parser (R126 to R130) -/

/-- What the parser has extracted. -/
structure Parse where
  heads : Nat := 0
  addrs : Bool := false
  vlans : List Nat := []
  etype : Nat := 0
  dscp : Nat := 0
  ipv4 : Bool := false
  ipv6 : Bool := false
  proto : Nat := 0
  l4 : Bool := false
  sport : Nat := 0
  dport : Nat := 0
  is1722 : Bool := false
  stream : Nat := 0
  exhausted : Bool := false
deriving DecidableEq, Repr

/-- May the parser go on to a byte position and count one more header? none: yes; else the end of the parse (R127, R128). -/
def parseStop (len upto : Nat) (head : Bool) (v : Parse) : Option Parse :=
  if upto ≤ len && upto ≤ 96 then (if head && v.heads = 8 then some { v with exhausted := true } else none)
  else if len < 96 then some v
  else some { v with exhausted := true }

/-- A TCP or UDP header at `q`: its ports. -/
def parseL4 (l : List Byte) (q : Nat) (v : Parse) : Parse :=
  match parseStop l.length (q + 4) true v with
  | some r => r
  | none => { v with heads := v.heads + 1, l4 := true, sport := u16At l q, dport := u16At l (q + 2) }

/-- The header with next-header value `nh` at `q`, after an IPv6 header. -/
def parseExt : Nat → List Byte → Nat → Nat → Parse → Parse
  | 0, _, _, _, v => v
  | k + 1, l, q, nh, v =>
    if nh = 6 || nh = 17 then parseL4 l q v
    else if nh = 44 then
      match parseStop l.length (q + 8) true v with
      | some r => r
      | none =>
        let v := { v with heads := v.heads + 1, proto := byteAt l q }
        if u16At l (q + 2) / 8 ≠ 0 then v else parseExt k l (q + 8) (byteAt l q) v
    else if nh = 0 || nh = 43 || nh = 60 then
      match parseStop l.length (q + 2) false v with
      | some r => r
      | none =>
        let len := (byteAt l (q + 1) + 1) * 8
        match parseStop l.length (q + len) true v with
        | some r => r
        | none => parseExt k l (q + len) (byteAt l q) { v with heads := v.heads + 1, proto := byteAt l q }
    else v

/-- The header that the innermost EtherType names, at `p`. An IPv4 header whose IHL makes it shorter than its fields ends after IHL × 4 bytes
all the same, and its fields are read where they stand (DESIGN CHOICE, assumption log 59). -/
def parseNet (l : List Byte) (p : Nat) (v : Parse) : Parse :=
  if v.etype = 0x0800 then
    match parseStop l.length (p + 1) false v with
    | some r => r
    | none =>
      let hl := byteAt l p % 16 * 4
      match parseStop l.length (p + max hl 10) true v with
      | some r => r
      | none =>
        let v := { v with heads := v.heads + 1, ipv4 := true, dscp := byteAt l (p + 1) / 4, proto := byteAt l (p + 9) }
        if u16At l (p + 6) % 2 ^ 13 = 0 && (v.proto = 6 || v.proto = 17) then parseL4 l (p + hl) v else v
  else if v.etype = 0x86DD then
    match parseStop l.length (p + 40) true v with
    | some r => r
    | none =>
      let v := { v with heads := v.heads + 1, ipv6 := true, dscp := u16At l p / 2 ^ 6 % 64, proto := byteAt l (p + 6) }
      parseExt 9 l (p + 40) v.proto v
  else if v.etype = 0x22F0 then
    match parseStop l.length (p + 12) true v with
    | some r => r
    | none =>
      let v := { v with heads := v.heads + 1, is1722 := bitN (byteAt l (p + 1)) 7 }
      if v.is1722 then { v with stream := ofBytesBE (slice l (p + 4) 8) } else v
  else v

/-- VLAN tags and the innermost EtherType, from offset `q`. -/
def parseTags : Nat → List Byte → Nat → Parse → Parse
  | 0, _, _, v => v
  | k + 1, l, q, v =>
    match parseStop l.length (q + 2) false v with
    | some r => r
    | none =>
      let et := u16At l q
      if et = 0x8100 || et = 0x88A8 then
        match parseStop l.length (q + 4) true v with
        | some r => r
        | none => parseTags k l (q + 4) { v with heads := v.heads + 1, vlans := v.vlans ++ [u16At l (q + 2)] }
      else parseNet l (q + 2) { v with etype := et }

/-- Parse a frame (R126 to R129). -/
def parseFrame (l : List Byte) : Parse :=
  match parseStop l.length 12 true {} with
  | some r => r
  | none => parseTags 9 l 12 { heads := 1, addrs := true }

/-- A VLAN tag as K1 and K2 hold it: VID, PCP, DEI (R130). -/
def vlanWord (tci : Nat) : Nat := tci % 2 ^ 12 + tci / 2 ^ 13 * 2 ^ 12 + tci / 2 ^ 12 % 2 * 2 ^ 15

/-- The key vector (R130). -/
def keyVector (port : Nat) (express launch : Bool) (l : List Byte) (v : Parse) : List Word :=
  let a (i : Nat) : Nat := if v.addrs then ofBytesBE (slice l i 3) else 0
  [mkW (port + b2n v.exhausted * 2 ^ 5 + b2n (1 ≤ v.vlans.length) * 2 ^ 6 + b2n (2 ≤ v.vlans.length) * 2 ^ 7 + b2n v.ipv4 * 2 ^ 8
      + b2n v.ipv6 * 2 ^ 9 + b2n v.l4 * 2 ^ 10 + b2n v.is1722 * 2 ^ 11 + b2n express * 2 ^ 12 + b2n launch * 2 ^ 13
      + (if v.addrs then byteAt l 0 % 2 else 0) * 2 ^ 14),
   mkW (vlanWord (v.vlans.getD 0 0)), mkW (vlanWord (v.vlans.getD 1 0)), mkW (a 0), mkW (a 3), mkW (a 6), mkW (a 9),
   mkW (v.etype + v.dscp * 2 ^ 16), mkW v.proto, mkW v.sport, mkW v.dport,
   mkW (v.stream / 2 ^ 40), mkW (v.stream / 2 ^ 16), mkW (v.stream % 2 ^ 16)]

/-! ### The tree (R132 to R137) -/

def bankOf (p : Ppl) (b : Bool) : Bank := if b then p.bank1 else p.bank0
def setBankOf (b : Bool) (v : Bank) (p : Ppl) : Ppl := if b then { p with bank1 := v } else { p with bank0 := v }

/-- What a walk ends in. -/
inductive Leaf where
  | protect (secy : Nat)
  | bypass
  | drop
  | toHost (trap rule : Nat)
  | residual
  | fault (node cause : Nat)
deriving DecidableEq, Repr

/-- Is the node malformed (R135 cause 2)? -/
def nodeBad (n : TNode) : Bool :=
  let ty := fld n.w0 0 2
  if ty = 3 then true
  else if ty = 2 then
    4 < fld n.w1 0 3 || fld n.w0 2 22 ≠ 0 || fld n.w1 20 4 ≠ 0 || fld n.w2 11 13 ≠ 0 || n.w3 ≠ 0
  else 13 < fld n.w0 2 4 || fld n.w0 6 5 ≠ 0 || fld n.w3 13 11 ≠ 0

/-- The action of a LEAF. -/
def leafOf (n : TNode) : Leaf :=
  match fld n.w1 0 3 with
  | 0 => .protect (fld n.w1 3 9)
  | 1 => .bypass
  | 2 => .drop
  | 3 => .toHost (fld n.w1 12 8) (fld n.w2 0 11)
  | _ => .residual

/-- Does the node's test pass (R134)? -/
def nodePass (n : TNode) (k : List Word) : Bool :=
  let v := wAt k (fld n.w0 2 4)
  if fld n.w0 0 2 = 0 then (v &&& n.w1) == n.w2 else n.w1.toNat ≤ v.toNat && v.toNat ≤ n.w2.toNat

/-- The walk from a node, with the number of nodes still to visit (R134, R135). The node reported for causes 2 and 3 is the malformed node, and
the index that is not below NODES (DESIGN CHOICE, assumption log 59: the spec names the node of cause 1 only). -/
def walk (b : Bank) (k : List Word) : Nat → Nat → Leaf
  | 0, i => .fault i 1
  | fuel + 1, i =>
    if b.nodes ≤ i then .fault i 3
    else
      let n := tabGet {} b.image i
      if nodeBad n then .fault i 2
      else if fld n.w0 0 2 = 2 then leafOf n
      else if fuel = 0 then .fault i 1
      else walk b k fuel (if nodePass n k then fld n.w3 0 13 else fld n.w0 11 13)

/-- The root of a port in its pipeline's banks (R132). -/
def rootOf (port : Nat) : Nat := ((findIdxFrom (· == port) 0 (portsOf (pplOf port))).map Prod.fst).getD 0

/-- The classifier's answer for a key vector (R136). -/
def classify (s : State) (port : Nat) (exhausted : Bool) (k : List Word) : Leaf :=
  let p := ppl s (pplOf port)
  let b := bankOf p p.actBank
  if !b.valid || (exhausted && rflag s (rPPL_EG_CTRL (pplOf port)) 0) then .residual else walk b k 12 (rootOf port)

/-- Record a tree fault (R135). -/
def treeFault (port node cause : Nat) (s : State) : State :=
  let k := pplOf port
  let c := satAdd 8 (rfld s (rPPL_EG_FAULT k) 16 8) 1
  raise 33 k (node + cause * 2 ^ 13) (cntEg port 21 (rset (rPPL_EG_FAULT k) (mkW (node + cause * 2 ^ 13 + c * 2 ^ 16)) s))

/-! ### Tree commands (R140 to R143) -/

/-- Nodes of an image, four words each. -/
def putNodes : Nat → List Word → Tab TNode → Tab TNode
  | i, a :: b :: c :: d :: r, t => putNodes (i + 1) r (tabPut {} t i { w0 := a, w1 := b, w2 := c, w3 := d })
  | _, _, t => t

def bodyTreeLoad : Body := fun n _ w s =>
  let k := fld (wAt w 2) 0 2
  let first := fld (wAt w 6) 0 13
  let count := fld (wAt w 7) 0 14
  if !pplPortsOk s n k then (s, some portRes)
  else if heldBy s (.tree k) then (s, some stagedRes)
  else
    let p := ppl s k
    let b := { bankOf p (!p.actBank) with valid := false }
    let s := setPpl k (setBankOf (!p.actBank) b p) s
    match memReadWords s (join48 (wAt w 4) (wAt w 5)) (4 * count) with
    | none => (s, some (failRes .aborted 3))
    | some l =>
      let b := { b with image := putNodes first l b.image }
      let b := if flag (wAt w 8) 0 then { b with valid := true, nodes := first + count } else b
      (setPpl k (setBankOf (!p.actBank) b p) s, some (okRes (if flag (wAt w 8) 0 then first + count else 0)))

def chkTreeSwitch (n : Nat) (w : List Word) (s : State) : Option Res :=
  let k := fld (wAt w 2) 0 2
  let p := ppl s k
  let b := flag (wAt w 4) 0
  if !pplPortsOk s n k then some portRes
  else if heldBy s (.tree k) then some stagedRes
  else if b = p.actBank || !(bankOf p b).valid then some (rangeRes 4)
  else none

def appTreeSwitch (w : List Word) (s : State) : State :=
  let k := fld (wAt w 2) 0 2
  let b := flag (wAt w 4) 0
  raise 34 k (b2n b) (modPpl k (fun p => { p with actBank := b }) s)

def bodyTreeSwitch : Body := fun n _ w s =>
  match chkTreeSwitch n w s with
  | some r => (s, some r)
  | none => (appTreeSwitch w s, some (okRes 0))

def bodyTreeRead : Body := fun n _ w s =>
  let k := fld (wAt w 2) 0 2
  let first := fld (wAt w 7) 0 13
  let b := bankOf (ppl s k) (flag (wAt w 4) 0)
  if !pplPortsOk s n k then (s, some portRes)
  else
    let l := (List.range (fld (wAt w 8) 0 14)).flatMap fun i =>
      let x := tabGet {} b.image (first + i)
      [x.w0, x.w1, x.w2, x.w3]
    writeSnap (join48 (wAt w 5) (wAt w 6)) l s

end Sys2Proof.Machine
end

