-- ==== Sys2Proof/Machine/Egress.lean ====
section
/-! DEFINITION. Sys2Proof/Machine/Egress.lean: the egress path (R123 to R165, R387 to R393): admission, SecY checks, numbering,
protection, reorder, launch and hand-off. -/

namespace Sys2Proof.Machine

/-! ### Reorder space and the return queue (R138, R158) -/

/-- Units of 64 bytes in use by a port's frames. -/
def portUnits (s : State) (port : Nat) : Nat :=
  (egList s).foldl (fun n p => if p.2.port = port && p.2.st ≠ .leaseWait && p.2.st ≠ .spaceWait && p.2.st ≠ .returnWait
    then n + p.2.units else n) 0

/-- Units that a frame of the port may still take: 32 are its port's, 320 shared (R158). -/
def unitsFor (s : State) (port : Nat) : Nat :=
  (32 - portUnits s port) + (320 - (portsOf (pplOf port)).foldl (fun n p => n + (portUnits s p - 32)) 0)

/-- Units of a pipeline's return queue in use. -/
def retUnits (p : Ppl) : Nat := p.retQ.foldl (fun n f => n + ceilDiv f.bytes.length 64) 0

/-- Does the return queue take a frame? A frame larger than the queue goes when it is empty. -/
def retFits (p : Ppl) (bytes : List Byte) : Bool := p.retQ.isEmpty || retUnits p + ceilDiv bytes.length 64 ≤ 64

def isWaiting (f : EgFrame) : Bool := f.st == .leaseWait || f.st == .spaceWait || f.st == .returnWait

/-- A frame of the port waits, so the Port Adapter withholds ready. -/
def portBlocked (s : State) (port : Nat) : Bool := (egList s).any fun p => p.2.port == port && isWaiting p.2

/-! ### Protection (R89 to R96) -/

/-- The SecTAG length of a SecY's frames. -/
def tagLenOf (settings : Word) : Nat := if flag settings 15 then 16 else 8

/-- Clear tags kept (R94). -/
def keptTags (f : EgFrame) : Nat := clearTags f.bytes (fld f.settings 18 2)

/-- Secure data length. -/
def egSecure (f : EgFrame) : Nat := f.len - 4 - (12 + 4 * keptTags f)

/-- The SecTAG (R90, R91). -/
def egTag (f : EgFrame) : List Byte :=
  let w := f.settings
  let sc := flag w 15
  let c := confOf w
  let n := egSecure f
  [0x88, 0xE5, mkB (b2n (flag w 16) * 64 + b2n sc * 32 + b2n (flag w 17) * 16 + b2n c * 12 + f.an), mkB (if n < 48 then n else 0)]
    ++ toBytesBE 4 (f.pn % 2 ^ 32) ++ (if sc then toBytesBE 8 f.txSci else [])

/-- The protected frame under a key (R89, R95, R96); a Belfry hit's keystream is that of its slot's nonce. -/
def egProtect (f : EgFrame) (key : List Byte) : List Byte :=
  let p := fitBytes (f.len - 4) f.bytes
  let h := 12 + 4 * keptTags f
  let n := egSecure f
  let o := if confOf f.settings then min (offsetOf f.settings) n else n
  let iv := match f.belfry with
    | some (_, nonce) => nonce
    | none => ivOf (fld f.settings 13 2) f.txSci f.ssci f.salt f.pn
  let aad := p.take h ++ egTag f ++ slice p h o
  let ct := gcmCrypt key iv (p.drop (h + o))
  aad ++ ct ++ fitBytes 16 (gcmTag key iv aad ct)

/-- Length of the encrypted part. -/
def egEncrypted (f : EgFrame) : Nat := if confOf f.settings then egSecure f - offsetOf f.settings else 0

/-! ### Numbering (R146 to R155) -/

/-- A switch that this frame makes fire at its admission: AT_TIME reached, AT_PN reached, or the encoding association exhausted (R266). -/
def fireForFrame (y : Nat) (s : State) : State :=
  let s := switchFire y s
  match encoding s y, armedOf s y with
  | some sa, some x =>
    let a := assoc s sa
    if a.state = .exhausted then fireSwitch y x.target 3 s
    else match x.trigger with
      | .atPn p => if p ≤ a.nextPn then fireSwitch y x.target 1 s else s
      | .atTime _ => s
  | _, _ => s

/-- Assign the next PN of association `sa`: threshold, exhaustion, the next lease (R146, R149, R150, R275). One that a switch has put out of
use since the frame's admission is spent without becoming EXHAUSTED. -/
def assignPn (port sa : Nat) (s : State) : State :=
  let a := assoc s sa
  let pn := a.nextPn
  let s := if a.threshPn ≤ pn && !a.threshSent then raise 24 port sa (setAssoc sa { a with threshSent := true } s) else s
  if pn = assocTop s a then
    raise 25 port sa (modAssoc sa (fun a => { a with state := if a.state = .inUse then .exhausted else a.state, spent := true, nextPn := 0 }) s)
  else requestLease sa (modAssoc sa (fun a => { a with nextPn := pn + 1 }) s)

/-- Put frame `id` to wait (R138, R148, R158). -/
def egWait (id : Nat) (st : EgSt) (f : EgFrame) (s : State) : State := setEg id (some { f with st }) s

/-- A frame takes its PN and goes to the crossbar (R146, R151, R155). -/
def egNumber (id sa : Nat) (f : EgFrame) (s : State) : State :=
  let a := assoc s sa
  let f := { f with an := a.an, ssci := a.ssci, salt := a.salt, pn := a.nextPn, st := .cipher }
  let (s, hit) := belfryTake f.port sa a.nextPn (egEncrypted f) (assignPn f.port sa s)
  let x : Item := { kind := .eg, cls := if f.express || a.scheduled || f.launch.isSome then 0 else 1, dkey := frameKey sa false,
                    reqs := [linkReq a.kref a.label (fld f.settings 13 2)] }
  match hit with
  | some (key, nonce) =>
    setItem id (some { x with keys := [key], hasKeys := true }) (setEg id (some { f with belfry := some (key, nonce) }) s)
  | none => setItem id (some x) (setEg id (some f) s)

/-- The lease that a frame waiting for association `sa` needs is requested, where no record of it is on its way (R148, R275); also when a
switch has put the association out of use since the frame's admission (R139). -/
def leaseFor (sa : Nat) (s : State) : State :=
  let a := assoc s sa
  if a.req.isSome && !(a.best && (a.req.any fun q => q.aon)) then s
  else openRecord false sa (leaseFrom a (assocTop s a) a.nextPn) s

/-- Numbering under the association that was the encoding one at the frame's admission (R139, R146), or the wait for its lease (R148). A frame
that waits is dropped when that association is deleted or spent meanwhile (DESIGN CHOICE, assumption log 59). -/
def egAssoc (id : Nat) (f : EgFrame) (s : State) : State :=
  let sa := f.sa
  let a := assoc s sa
  if a.state = .free || a.serial ≠ f.serial then egDrop id 11 f (raise 26 f.port f.secy s)
  else if a.spent then egDrop id 13 f (cntSa sa 2 1 s)
  else if a.nextPn ≤ a.leaseEnd then egNumber id sa f s
  else
    let s := leaseFor sa s
    let s := if a.mirrored && !a.best && f.st != .leaseWait && !mirrorLinkUp s a.partner then
        modAssoc sa (fun a => { a with stalled := true }) s else s
    if (assoc s sa).stalled then egDrop id 14 f (raise 31 f.port sa (cntSa sa 3 1 s))
    else egWait id .leaseWait f s

/-- A frame that needs reorder space: it waits for it, or goes on (R158). -/
def egSpace (id : Nat) (f : EgFrame) (s : State) : State :=
  if unitsFor s f.port < f.units then egWait id .spaceWait f s
  else match f.act with
    | .protect => egAssoc id f s
    | _ => setEg id (some { f with st := .whole, out := fitBytes (f.len - 4) f.bytes }) s

/-- A frame for the return queue (R137, R138). A frame with an error mark must not reach the host (R210), and has no MAC to be aborted at: it
is discarded as by DROP (DESIGN CHOICE, assumption log 59). -/
def egReturn (id trap rule : Nat) (f : EgFrame) (s : State) : State :=
  let k := pplOf f.port
  if f.marked then cntEg f.port 7 s
  else if retFits (ppl s k) f.bytes then
    modPpl k (fun p => { p with retQ := p.retQ ++ [{ id, port := f.port, trap, rule, bytes := f.bytes }] }) (setEg id none s)
  else egWait id .returnWait f s

/-- A waiting frame tries again. -/
def egRetryOne (s : State) (p : Nat × EgFrame) : State :=
  match p.2.st, p.2.act with
  | .leaseWait, _ => egSpace p.1 p.2 s
  | .spaceWait, _ => egSpace p.1 p.2 s
  | .returnWait, .toHost trap rule => egReturn p.1 trap rule p.2 s
  | _, _ => s

/-- Every waiting frame tries again, in ascending port. -/
def egRetry (s : State) : State :=
  if dpRuns s && !s.pwr.restoring then
    (List.range 24).foldl (fun s port =>
      ((egList s).filter fun p => p.2.port == port && isWaiting p.2).foldl egRetryOne s) s
  else s

/-! ### Launch times (R388, R390) -/

/-- The launch of an explicit time (R388). Without the TMU no launch time can be kept: the frame is late (log 30). -/
def explicitLaunch (s : State) (t : Nat) : Launch :=
  let d := (t + 2 ^ 32 - wcNs s % 2 ^ 32) % 2 ^ 32
  if domOn s dTIME && d < 2 ^ 31 && d ≤ rfld s rTMU_LAUNCH_AHEAD 0 24 * 1000 then .instant (wcNs s + d) else .late

/-- Offer a frame of SecY `y` to the calendar (R390). -/
def offer (y : Nat) (f : EgFrame) (s : State) : State × EgFrame :=
  if f.launch.isSome then (s, f)
  else match calOffer s f.port y with
    | some m => (calClaim f.port m s, { f with launch := some (.inst m) })
    | none => (s, f)

/-! ### Admission (R123 to R145) -/

/-- A frame sent unprotected under send counter `k`, unless it is too long (R145). -/
def egPlain (id k : Nat) (f : EgFrame) (s : State) : State :=
  if rfld s (rPA_EG_MAXLEN f.port) 0 14 < f.len then cntEg f.port 12 s
  else egSpace id { f with act := .plain k, units := ceilDiv (f.len - 4) 64 } s

/-- SecY checks 1 to 5 of R144, with the association that the frame is handled under (R139). DETAIL of EG_TOO_LONG has the low 14 bits of a
protected length that needs more (DESIGN CHOICE, assumption log 59). -/
def egSecyChecks (id y : Nat) (f : EgFrame) (s : State) : State :=
  let v := secy s y
  if !v.valid || secyPort v ≠ f.port then raise 28 f.port y (cntEg f.port 10 s)
  else
    let f := { f with secy := y, ySerial := v.serial, settings := v.settings, txSci := v.sci }
    if !secyProtect v then egPlain id 3 f s
    else
      let plen := f.len + tagLenOf v.settings + 16
      if rfld s (rPA_EG_MAXLEN f.port) 0 14 < plen then raise 29 f.port (plen % 2 ^ 14) (cntSecy y 1 1 (cntEg f.port 12 s))
      else
        let s := fireForFrame y s
        match encoding s y with
        | none => raise 26 f.port y (cntEg f.port 11 s)
        | some sa =>
          if (assoc s sa).state = .exhausted then cntEg f.port 13 (cntSa sa 2 1 s)
          else
            let (s, f) := offer y f s
            egSpace id { f with act := .protect, sa, serial := (assoc s sa).serial, units := ceilDiv (plen - 4) 64 } s

/-- The residual rule (R137). -/
def egResidual (id : Nat) (f : EgFrame) (s : State) : State :=
  let s := cntEg f.port 19 s
  match defaultSecy s f.port with
  | some y => egSecyChecks id y f s
  | none => raise 27 f.port 0 (cntEg f.port 9 s)

/-- What the classifier's answer does (R137). -/
def egLeaf (id : Nat) (f : EgFrame) (l : Leaf) (s : State) : State :=
  match l with
  | .protect y => egSecyChecks id y f s
  | .bypass => egPlain id 4 f s
  | .drop => cntEg f.port 7 s
  | .toHost trap rule => egReturn id trap rule { f with act := .toHost trap rule } s
  | .residual => egResidual id f s
  | .fault node cause => egResidual id f (treeFault f.port node cause s)

/-- EG_FRAME_ADMIT: nothing is accepted while PD_PIPE is off, the port disabled or a frame of it waiting (R21, R124). -/
def egFrameAdmit (port : Nat) (express : Bool) (len : Nat) (bytes : List Byte) (launch : Option (BitVec 32)) (err : Bool)
    (s : State) : State :=
  let ctrl := rget s (rPA_EG_CTRL port)
  if !dpRuns s || s.pwr.restoring || entering s || pipeLeaving s || !flag ctrl 0 || portBlocked s port || bytes = [] then s
  else
    let (s, id) := takeId (cntEg port 1 s)
    let ex := express && flag ctrl 2
    let f : EgFrame := { port, express := ex, len, bytes, marked := err || bytes.length + 4 != len, act := .plain 4,
                         launch := launch.map fun t => explicitLaunch s t.toNat, since := s.clock }
    let v := parseFrame bytes
    let s := if v.exhausted then cntEg port 20 s else s
    if v.etype = 0x888E && v.vlans.length ≤ 2 && !v.exhausted then
      if flag ctrl 1 then cntEg port 8 s else egPlain id 5 f s
    else egLeaf id f (classify s port v.exhausted (keyVector port ex launch.isSome bytes v)) s

/-! ### The tower's result -/

/-- A tower returns an egress frame. -/
def egTowerDone (id : Nat) (f : EgFrame) (key : List Byte) (s : State) : State :=
  setItem id none (setEg id (some { f with st := .whole, out := egProtect f key }) s)

/-! ### Hand-off (R159 to R163, R391, R392) -/

/-- Length of a protected frame toward the MAC. -/
def egLength (f : EgFrame) : Nat := f.len - 4 + tagLenOf f.settings + 16

/-- Is the frame ready for the MAC: whole, or its ciphertext 128 bytes ahead, which a shorter frame's never is (R159; log 28)? -/
def egReady (s : State) (id : Nat) (f : EgFrame) : Bool :=
  f.st == .whole || (f.st == .cipher && 128 ≤ egLength f && (match item s id with
    | some x => x.hasKeys && x.st == .active
    | none => false))

/-- Start the frame at its MAC: its cipher work runs in class C0 from now on (R152). -/
def egStart (id : Nat) (f : EgFrame) (s : State) : State :=
  let s := if f.launch.isNone then rmax (rPA_EG_LATENCY f.port) 0 12 (2 * (s.clock - f.since)) s else s
  match f.st, item s id with
  | .cipher, some x =>
    setItem id (some { x with cls := 0 }) (setEg id (some { f with started := true, out := egProtect f (x.keys.headD []) }) s)
  | _, _ => setEg id (some { f with started := true }) s

/-- LATE_POLICY of a port (R392). -/
def latePolicy (s : State) (port : Nat) : Nat := rfld s (rP_LAUNCH port) 0 2

/-- The release instant of a frame; none when it was late at admission (R391). -/
def releaseAt (s : State) (f : EgFrame) : Option Int :=
  let adj : Int := rfld s (rP_LAUNCH f.port) 2 8
  match f.launch with
  | some (.instant t) => some (t - adj)
  | some (.inst m) => some (launchOf s f.port m - adj)
  | _ => none

/-- Where a frame's release instant stands to the present clock: ahead, in it, or past (R391, R393). -/
inductive Due where
  | ahead | now | past
deriving DecidableEq, Repr

def dueOf (s : State) (f : EgFrame) : Due :=
  match releaseAt s f with
  | none => .past
  | some r => if (wcNs s : Int) < r then .ahead else if s.tmu.wcWas < r then .now else .past

/-- A late frame is counted, with EG_LATE (R162, R392). -/
def noteLate (f : EgFrame) (s : State) : State := raise 35 f.port (b2n (latePolicy s f.port = 1)) (cntEg f.port 22 s)

/-- A late frame under its policy: dropped, or free to go (R392). -/
def egLate (id : Nat) (f : EgFrame) (s : State) : State :=
  if latePolicy s f.port = 1 then egDrop id 18 f (noteLate f s) else setEg id (some { f with released := true }) (noteLate f s)

/-- EG_FRAME_START: a frame that no launch time holds goes to its MAC. Under COUNT_ONLY none is held, and a late one is counted as it starts
(R392). -/
def egFrameStart (id : Nat) (s : State) : State :=
  match egFrame s id with
  | some f =>
    if dpRuns s && !f.started && egHead s id f && egReady s id f
        && (f.launch.isNone || f.released || latePolicy s f.port = 2) then
      egStart id f (if f.launch.isSome && !f.released && dueOf s f = .past then noteLate f s else s)
    else s
  | none => s

/-- LAUNCH_RELEASE: in the clock that contains its release instant a frame that is ready is handed off; later it is late (R391). -/
def launchRelease (id : Nat) (s : State) : State :=
  match egFrame s id with
  | some f =>
    if dpRuns s && f.launch.isSome && !f.started && !f.released then
      match dueOf s f with
      | .ahead => s
      | .now => if egHead s id f && egReady s id f then egStart id f s else s
      | .past => egLate id f s
    else s
  | none => s

/-- Counters of a sent frame (R105, R165). -/
def egSent (f : EgFrame) (s : State) : State :=
  match f.act with
  | .plain k =>
    let s := cntEg f.port k s
    if k = 3 then cntSecyOf f.secy f.ySerial 0 1 s else s
  | .protect =>
    let c := confOf f.settings
    let e := egEncrypted f
    let o := egSecure f - e
    let i := b2n c
    cntEg f.port 2 (cntSecyOf f.secy f.ySerial 2 o (cntSecyOf f.secy f.ySerial 3 e (cntTxOf f.secy f.ySerial 2 o (cntTxOf f.secy f.ySerial 3 e
      (cntTxOf f.secy f.ySerial i 1 (cntSaOf f.sa f.serial i 1 s))))))
  | .toHost _ _ => s

/-- Put a frame on its MAC interface. -/
def setMac (f : EgFrame) (o : MacFrame) (s : State) : State :=
  { s with macOut := tabPut none s.macOut (laneKey f.port f.express) (some o) }

/-- The bytes of a frame that the switch core marked or presented at another length than announced (R503): those that were available, and zeros
for the others and for a protected frame's ICV (R163). -/
def markedBytes (f : EgFrame) : List Byte :=
  match f.act with
  | .protect =>
    let h := 12 + 4 * keptTags f
    let n := if f.bytes.length < h then f.bytes.length else min (f.bytes.length + tagLenOf f.settings) (f.out.length - 16)
    f.out.take n ++ zeroBytes (f.out.length - n)
  | _ => f.out

/-- The full length of an aborted frame: a free number of bytes that were available, never the ICV, then zeros (R163; log 5). -/
def abortBytes (f : EgFrame) (s : State) : State × List Byte :=
  let n := Config.freeNat s.draws % (f.out.length - 15)
  ({ s with draws := s.draws + 1 }, f.out.take n ++ zeroBytes (f.out.length - n))

/-- EG_FRAME_END: the final byte goes to the MAC, with pa_tx_err_o where the frame is aborted (R163, R165, R503). -/
def egFrameEnd (id : Nat) (s : State) : State :=
  match egFrame s id with
  | some f =>
    if dpRuns s && f.started && f.st = .whole then
      let s := setItem id none (setEg id none s)
      match f.abort with
      | some c =>
        let (s, l) := abortBytes f s
        cntEg f.port 23 (cntEg f.port c (setMac f { bytes := l, err := true } s))
      | none =>
        let s := egSent f (setMac f { bytes := if f.marked then markedBytes f else f.out, err := f.marked } s)
        if f.marked then cntEg f.port 23 s else s
    else s
  | none => s

/-- RETURN_QUEUE_SEND: the oldest TO_HOST frame leaves the queue (R504). -/
def returnQueueSend (k : Nat) (s : State) : State :=
  match (ppl s k).retQ with
  | [] => s
  | f :: rest =>
    if dpRuns s then
      cntEg f.port 6 { modPpl k (fun p => { p with retQ := rest }) s with retOut := tabPut none s.retOut k (some f) }
    else s

end Sys2Proof.Machine
end

