-- ==== Sys2Proof/Machine/Jobs.lean ====
section
/-! DEFINITION. Sys2Proof/Machine/Jobs.lean: host jobs (R365 to R372): what a tower computes for JOB_GCM, JOB_XTS and JOB_SECOC,
and the jobs that run in the Dome. -/

namespace Sys2Proof.Machine

/-! ### Tower jobs as items (R222, R224, R366) -/

/-- The key requests of a tower job (R289). -/
def jobReqs (w : List Word) : List KeyReq :=
  let len (b : Bool) : Nat := if b then 32 else 16
  match wOp w with
  | 0x30 => [{ kref := (wAt w 2).toNat, label := (wAt w 3).toNat, use := .job, len := len (flag (wAt w 4) 1) }]
  | 0x31 =>
    [{ kref := (wAt w 2).toNat, label := (wAt w 3).toNat, use := .job, len := len (flag (wAt w 6) 1) },
     { kref := (wAt w 4).toNat, label := (wAt w 5).toNat, use := .job, len := len (flag (wAt w 6) 1) }]
  | _ => [{ kref := (wAt w 2).toNat, label := (wAt w 3).toNat, use := .job, len := 16 }]

/-- A tower job becomes one item of its ring's dispatch key, in class C3 or C2 (R45, R224, R366). -/
def bodyTowerJob : Body := fun n i w s =>
  let (s, id) := takeId s
  let x : Item := { kind := .job n i, cls := fld (wAt w 0) 16 2, dkey := n + 2 * 2 ^ 14, reqs := jobReqs w }
  (setItem id (some x) s, none)

/-- Do two runs of bytes share one? -/
def overlaps (a n b m : Nat) : Bool := 0 < n && 0 < m && a < b + m && b < a + n

/-- Does an input overlap an output other than by starting where it starts (R366)? -/
def badOverlap (a n b m : Nat) : Bool := a != b && overlaps a n b m

/-- Write a job's output; where its input overlaps it, its contents are undefined (R366). -/
def jobWrite (undef : Bool) (addr : Nat) (l : List Byte) (r : Res) (s : State) : State × Res :=
  let (s, l) := if undef then freeBytes l.length s else (s, l)
  match memWrite addr l s with
  | (s, true) => (s, r)
  | (s, false) => (s, hostMemRes)

/-! ### JOB_GCM and JOB_XTS (R367, R368) -/

def jobGcm (key : List Byte) (w : List Word) (s : State) : State × Res :=
  let n := fld (wAt w 4) 6 17
  let iv := (wordsBytes [wAt w 5, wAt w 6, wAt w 7, wAt w 8]).take 12
  let aadA := join48 (wAt w 9) (wAt w 10)
  let aadN := fld (wAt w 11) 0 17
  let inA := join48 (wAt w 12) (wAt w 13)
  let out := join48 (wAt w 14) (wAt w 15)
  let dec := flag (wAt w 4) 0
  let inN := if dec then n + 16 else n
  let outN := if dec then n else n + 16
  let undef := badOverlap inA inN out outN || overlaps aadA aadN out outN
  match memRead s aadA aadN, memRead s inA inN with
  | some aad, some data =>
    if dec then
      let ct := data.take n
      if data.drop n = fitBytes 16 (gcmTag key iv aad ct) then jobWrite undef out (gcmCrypt key iv ct) (okRes n) s
      else (s, failRes .authFail 0x0E)
    else
      let ct := gcmCrypt key iv data
      jobWrite undef out (ct ++ fitBytes 16 (gcmTag key iv aad ct)) (okRes (n + 16)) s
  | _, _ => (s, hostMemRes)

def jobXts (dk tk : List Byte) (w : List Word) (s : State) : State × Res :=
  let n := fld (wAt w 6) 2 17
  let inA := join48 (wAt w 10) (wAt w 11)
  let out := join48 (wAt w 12) (wAt w 13)
  match memRead s inA n with
  | some data =>
    jobWrite (badOverlap inA n out n) out (fitBytes n (xts (!flag (wAt w 6) 0) dk tk (w64 w 7) data)) (okRes n) s
  | none => (s, hostMemRes)

/-! ### JOB_SECOC (R369) -/

/-- The leftmost `bits` bits of a 16-byte MAC, the others zero. -/
def macCut (bits : Nat) (l : List Byte) : List Byte :=
  let v := ofBytesBE (fitBytes 16 l)
  toBytesBE 16 (v - v % 2 ^ (128 - bits))

/-- Does an entry break the rules of its fields? -/
def secocBad (e : List Word) : Bool :=
  fld (wAt e 0) 21 3 != 0 || fld (wAt e 1) 20 4 != 0 || fld (wAt e 6) 16 8 != 0 || fld (wAt e 1) 12 8 < 24
    || 128 < fld (wAt e 1) 12 8 || 8 < fld (wAt e 0) 17 4

def secocPdu (e : List Word) : Nat × Nat := (join48 (wAt e 2) (wAt e 3), fld (wAt e 1) 0 12)

/-- The message of an entry. -/
def secocMsg (e : List Word) (pdu : List Byte) : List Byte :=
  (if flag (wAt e 0) 16 then toBytesBE 2 (fld (wAt e 0) 0 16) else []) ++ pdu
    ++ toBytesBE (fld (wAt e 0) 17 4) (w64 e 4)

/-- A result record with its entry's status. -/
def secocRec (mac : List Byte) (st : Status) : List Byte × Status := (mac ++ [mkB (statusCode st), 0], st)

/-- The record of one entry; none where its PDU cannot be read. -/
def secocOne (key : List Byte) (verify : Bool) (s : State) (e : List Word) : Option (List Byte × Status) :=
  if secocBad e then some (secocRec (zeroBytes 16) .badDesc)
  else match memRead s (secocPdu e).1 (secocPdu e).2 with
    | none => none
    | some pdu =>
      let bits := fld (wAt e 1) 12 8
      let mac := macCut bits (cmac key (secocMsg e pdu))
      if verify then
        let got := macCut bits ((wordsBytes ((List.range 6).map fun k => wAt e (7 + k))).take 16)
        some (secocRec (zeroBytes 16) (if got = mac then .ok else .authFail))
      else some (secocRec mac .ok)

/-- Every record in order, or none on a host memory error. -/
def secocAll (key : List Byte) (verify : Bool) (s : State) : List (List Word) → Option (List (List Byte × Status))
  | [] => some []
  | e :: r =>
    match secocOne key verify s e, secocAll key verify s r with
    | some x, some l => some (x :: l)
    | _, _ => none

/-- The entries of a table of 39 bytes each. -/
def secocEntries : Nat → List Byte → List (List Word)
  | 0, _ => []
  | n + 1, l => bytesWords 13 l :: secocEntries n (l.drop 39)

def jobSecoc (key : List Byte) (w : List Word) (s : State) : State × Res :=
  let cnt := fld (wAt w 4) 1 7
  let table := join48 (wAt w 5) (wAt w 6)
  let out := join48 (wAt w 7) (wAt w 8)
  match memRead s table (39 * cnt) with
  | none => (s, hostMemRes)
  | some t =>
    let es := secocEntries cnt t
    match secocAll key (flag (wAt w 4) 0) s es with
    | none => (s, hostMemRes)
    | some recs =>
      let undef := overlaps table (39 * cnt) out (18 * cnt)
        || es.any fun e => !secocBad e && overlaps (secocPdu e).1 (secocPdu e).2 out (18 * cnt)
      let nOf (st : Status) : Nat := (recs.filter fun r => r.2 == st).length
      jobWrite undef out (recs.flatMap Prod.fst) (okRes (nOf .authFail + nOf .badDesc * 2 ^ 7)) s

/-- A tower ends the job of a running descriptor. -/
def jobDone (id n i : Nat) (keys : List (List Byte)) (s : State) : State :=
  match entAt s n i with
  | none => setItem id none s
  | some e => if e.st ≠ .running || alarmNow s then jobEnd id n i (failRes .alarm 0) s else
    let key := keys.headD []
    let (s, r) := match wOp e.words with
      | 0x30 => jobGcm key e.words s
      | 0x31 => jobXts key (keys.getD 1 []) e.words s
      | _ => jobSecoc key e.words s
    jobEnd id n i r s

/-! ### JOB_MKPDU_ICV and JOB_RANDOM (R371, R372) -/

def bodyMkpduIcv : Body := fun _ _ w s =>
  let icvA := join48 (wAt w 8) (wAt w 9)
  match domeReady s with
  | some r => (s, some r)
  | none =>
    match resolve s (wAt w 2).toNat 0 .mkaIck 0, memRead s (join48 (wAt w 5) (wAt w 6)) (fld (wAt w 7) 0 14) with
    | .error r, _ => (s, some r)
    | .ok _, none => (s, some hostMemRes)
    | .ok ick, some msg =>
      let icv := fitBytes 16 (cmac ick msg)
      if flag (wAt w 4) 0 then
        match memRead s icvA 16 with
        | none => (s, some hostMemRes)
        | some got => (s, some (if got = icv then okRes 0 else failRes .authFail 0x0F))
      else match memWrite icvA icv s with
        | (s, true) => (s, some (okRes 16))
        | (s, false) => (s, some hostMemRes)

/-- Generate calls of at most 4 KiB each (R306, R372). -/
def randomBytes : Nat → Nat → State → State × List Byte
  | 0, _, s => (s, [])
  | fuel + 1, n, s =>
    if n = 0 then (s, [])
    else
      let (s, a) := drbgGen false (min n 4096) s
      let (s, b) := randomBytes fuel (n - 4096) s
      (s, a ++ b)

def bodyRandom : Body := fun _ _ w s =>
  let n := fld (wAt w 4) 0 17
  if !s.dome.drbgOk then (s, some entropyRes)
  else
    let (s, l) := randomBytes 16 n s
    match memWrite (join48 (wAt w 5) (wAt w 6)) l s with
    | (s, true) => (s, some (okRes n))
    | (s, false) => (s, some hostMemRes)

end Sys2Proof.Machine
end

