-- ==== Sys2Proof/Machine/Storage.lean ====
section
/-! DEFINITION. Sys2Proof/Machine/Storage.lean: the storage channels (R350 to R364): requests, data units, the transfers' end,
the configuration table. -/

namespace Sys2Proof.Machine

/-! ### The channels' ready indication (R363) -/

/-- Do the storage channels run: powered and clocked (R481)? -/
def stcRuns (s : State) : Bool := domOn s dHOST && s.pwr.state == .run

/-- The ready indication of channel `c` (R351, R363, R364), a request that waits for its TAG apart. -/
def stcReady (s : State) (c : Nat) : Bool :=
  stcRuns s && !entering s && rflag s (rSTC_CTRL c) 0 && (stc s c).xfers.length < 32

/-! ### Acceptance (R353 to R355) -/

def dusOf (e : StcCfg) : Nat := if e.dus then 4096 else 512
def stcKeyLen (e : StcCfg) : Nat := if e.alg then 32 else 16
def stcCfg (s : State) (c i : Nat) : StcCfg := tabGet {} (stc s c).cfgs i
def setStcCfg (c i : Nat) (e : StcCfg) (s : State) : State :=
  setStc c { stc s c with cfgs := tabPut {} (stc s c).cfgs i e } s

/-- Resolve one KREF of an entry through the storage port. -/
def stcResolve (s : State) (e : StcCfg) (tweak : Bool) : Except Res (List Byte) :=
  if tweak then resolve s e.tweakKref e.tweakLabel .stor (stcKeyLen e) else resolve s e.dataKref e.dataLabel .stor (stcKeyLen e)

/-- The derived-key cache's use by a resolution that succeeds (R295). -/
def stcTouch (e : StcCfg) (s : State) : State :=
  let t (k l : Nat) (s : State) : State := touchDcache (slotGen s (k % 4096)) k l .stor (stcKeyLen e) s
  t e.tweakKref e.tweakLabel (t e.dataKref e.dataLabel s)

/-- The first failed resolution of an entry: the slot and the status. -/
def stcKeys (s : State) (e : StcCfg) : Option (Nat × Res) :=
  match stcResolve s e false, stcResolve s e true with
  | .error r, _ => some (e.dataKref % 4096, r)
  | .ok _, .error r => some (e.tweakKref % 4096, r)
  | .ok _, .ok _ => none

/-- The causes of R355 at acceptance, in their order, before the keys. -/
def stcCheck (s : State) (c : Nat) (q : StcReq) (e : StcCfg) : Option Res :=
  if q.ce && !e.valid then some (badRes 7 0)
  else if q.len = 0 || 8388608 < q.len || (q.ce && q.len % dusOf e ≠ 0) then some (badRes 5 0)
  else if !q.ce && !rflag s (rSTC_CTRL c) 1 then some (failRes .perm 4)
  else if !domOn s dDOME || !towerReady s then some (failRes .capacity 1)
  else none

/-- A failed resolution: recorded, LAST_STATUS, ST_CFG_KEY_LOST at the first failure after a success (R292, R357, R373). -/
def stcKeyLost (c cfg slotNo : Nat) (r : Res) (s : State) : State :=
  let e := stcCfg s c cfg
  let s := fetchFail 8 slotNo r (setStcCfg c cfg { e with lastStatus := statusCode r.st, lost := true } s)
  if e.lost then s else raise 121 c (cfg + statusCode r.st * 2 ^ 8) s

/-- Accept a request: the transfer takes its entry and resolves both KREFs; a failure marks it from its first data unit on. -/
def stcAccept (c : Nat) (q : StcReq) (s : State) : State :=
  let e := if q.ce then stcCfg s c q.cfg else {}
  let x : StcXfer := { tag := q.tag, fromDev := q.fromDev, ce := q.ce, cfg := q.cfg, dun := q.dun, len := q.len, entry := e }
  let add (x : StcXfer) (s : State) : State := setStc c { stc s c with xfers := (stc s c).xfers ++ [x] } s
  match stcCheck s c q e with
  | some r => add { x with fail := some (r, 0) } s
  | none =>
    if !q.ce then add x s
    else match stcKeys s e with
      | some (i, r) => add { x with fail := some (r, 0) } (stcKeyLost c q.cfg i r s)
      | none => add x (setStcCfg c q.cfg { stcCfg s c q.cfg with lost := false } (stcTouch e s))

/-- Is the TAG that of an outstanding transfer (R350)? -/
def tagBusy (s : State) (c tag : Nat) : Bool := (stc s c).xfers.any fun x => x.tag == tag

/-- STC_REQUEST: accepted, or held while its TAG is outstanding (R350, R354). In IDLE it starts the exit (R482). -/
def stcRequest (c : Nat) (q : StcReq) (s : State) : State :=
  if (stc s c).tagWait.isSome then s
  else if !stcReady s c then (if domOn s dHOST then idleWake s else s)
  else if tagBusy s c q.tag then setStc c { stc s c with tagWait := some q } s
  else stcAccept c q s

/-- A request that waited for its TAG is accepted once the earlier transfer has been returned (R350). -/
def stcRetry (c : Nat) (s : State) : State :=
  match (stc s c).tagWait with
  | some q =>
    if stcReady s c && !tagBusy s c q.tag then stcAccept c q (setStc c { stc s c with tagWait := none } s) else s
  | none => s

/-! ### Data units (R352, R355, R513) -/

/-- The transfer that a direction's next beats belong to: its oldest whose data is not all in. -/
def stcOpen (s : State) (c : Nat) (fromDev : Bool) : Option Nat :=
  (findIdxFrom (fun x : StcXfer => x.fromDev == fromDev && !x.last) 0 (stc s c).xfers).map Prod.fst

/-- Change transfer `k` of channel `c`. -/
def modXfer (c k : Nat) (f : StcXfer → StcXfer) (s : State) : State :=
  setStc c { stc s c with xfers := modAt f k (stc s c).xfers } s

def xferAt (s : State) (c k : Nat) : Option StcXfer := (stc s c).xfers[k]?

/-- The item of a data unit (R222, R224). -/
def unitItem (c : Nat) (x : StcXfer) : Item :=
  { kind := .unit, cls := 2, dkey := x.cfg + c * 2 ^ 7 + 2 ^ 14,
    reqs := [{ kref := x.entry.dataKref, label := x.entry.dataLabel, use := .stor, len := stcKeyLen x.entry },
             { kref := x.entry.tweakKref, label := x.entry.tweakLabel, use := .stor, len := stcKeyLen x.entry }] }

/-- Cut whole data units off the bytes that have arrived; each becomes an item. -/
def cutUnits : Nat → Nat → Nat → State → State
  | 0, _, _, s => s
  | fuel + 1, c, k, s =>
    match xferAt s c k with
    | some x =>
      let n := dusOf x.entry
      if x.ce && x.fail.isNone && n ≤ x.buf.length then
        let (s, id) := takeId s
        let u : StcUnit := { id, data := x.buf.take n, since := x.since }
        cutUnits fuel c k (setItem id (some (unitItem c x))
          (modXfer c k (fun x => { x with units := x.units ++ [u], buf := x.buf.drop n, since := s.clock }) s))
      else s
    | none => s

/-- Fail transfer `k` at its data unit `u`; its units still in towers are discarded (R355). -/
def stcFailAt (c k u : Nat) (r : Res) (s : State) : State :=
  match xferAt s c k with
  | some x => dropUnits x u (modXfer c k (fun x => xferFail x r u) s)
  | none => s

/-- The last beat of a transfer's data: a byte count that disagrees with LEN is RANGE (R355). Bytes before it stand. -/
def stcLast (c k : Nat) (s : State) : State :=
  match xferAt s c k with
  | some x =>
    let s := modXfer c k (fun x => { x with last := true }) s
    if x.got ≠ x.len && x.fail.isNone then
      modXfer c k (fun y => xferFail y (badRes 5 0) (if x.ce then x.units.length else 1)) s
    else s
  | none => s

/-- STC_DATA_IN: beats of a direction's next transfer; beats beyond LEN are discarded. -/
def stcDataIn (c : Nat) (fromDev : Bool) (bytes : List Byte) (last : Bool) (s : State) : State :=
  if !stcRuns s then s
  else match stcOpen s c fromDev with
    | none => s
    | some k =>
      let take (x : StcXfer) : StcXfer :=
        { x with buf := x.buf ++ bytes.take (x.len - x.got), got := x.got + bytes.length,
                 since := if x.buf.length < 16 then s.clock else x.since }
      let s := cutUnits (bytes.length / 512 + 8) c k (modXfer c k take s)
      if last then stcLast c k s else s

/-- A tower returns a data unit (R352). STC_LATENCY takes its time (R362). -/
def unitDone (id : Nat) (keys : List (List Byte)) (s : State) : State :=
  match unitHome s id with
  | some (c, x, k) =>
    match x.units[k]? with
    | some u =>
      let out := fitBytes u.data.length
        (xts (!x.fromDev) (keys.headD []) (keys.getD 1 []) ((x.dun + k) % 2 ^ 64) u.data)
      let f (y : StcXfer) : StcXfer :=
        if (unitNo y id).isSome then { y with units := modAt (fun v => { v with out := some out }) k y.units } else y
      rmax (rSTC_LATENCY c) 0 12 (2 * (s.clock - u.since)) (setItem id none (modXfers f c s))
    | none => s
  | none => setItem id none s

/-! ### The end of a transfer (R351, R355, R364) -/

/-- The bytes that a transfer returns: from its failing data unit on, zeros. -/
def stcOutBytes (x : StcXfer) : List Byte :=
  if x.ce then
    let us := match x.fail with | some (_, k) => x.units.take k | none => x.units
    fitBytes x.len (us.flatMap fun u => u.out.getD (zeroBytes u.data.length))
  else match x.fail with
    | some (_, 0) => zeroBytes x.len
    | _ => fitBytes x.len x.buf

/-- Are the units that a transfer returns back from the towers? -/
def xferWhole (x : StcXfer) : Bool :=
  (match x.fail with | some (_, k) => x.units.take k | none => x.units).all fun u => u.out.isSome

/-- The counters and the event of a transfer that ends. -/
def stcCount (c : Nat) (x : StcXfer) (s : State) : State :=
  match x.fail with
  | none =>
    let s := rsat (rSTC_XFER_OK c) 0 24 1 s
    if !x.ce then radd48 (rSTC_PLAIN_LO c) (rSTC_PLAIN_HI c) x.len s
    else if x.fromDev then radd48 (rSTC_DEC_LO c) (rSTC_DEC_HI c) x.len s
    else radd48 (rSTC_ENC_LO c) (rSTC_ENC_HI c) x.len s
  | some (r, _) =>
    let v := x.cfg + b2n x.fromDev * 2 ^ 7 + statusCode r.st * 2 ^ 8 + r.reason * 2 ^ 16
    raise 120 c v (rset (rSTC_FAIL_LAST c) (mkW v) (rsat (rSTC_XFER_FAIL c) 0 24 1 s))

/-- STC_TRANSFER_COMPLETE: the oldest transfer of a direction returns its last beat with its TAG and status. -/
def stcTransferComplete (c : Nat) (fromDev : Bool) (s : State) : State :=
  match findIdxFrom (fun x : StcXfer => x.fromDev == fromDev) 0 (stc s c).xfers with
  | some (k, x) =>
    if stcRuns s && x.last && xferWhole x then
      let o : StcOut := { tag := x.tag, status := statusCode ((x.fail.map fun f => f.1.st).getD .ok), bytes := stcOutBytes x }
      let s := dropUnits x 0 s
      let v := stc s c
      let v := { v with xfers := v.xfers.eraseIdx k }
      stcRetry c (stcCount c x (setStc c (if fromDev then { v with out1 := some o } else { v with out0 := some o }) s))
    else s
  | none => s

/-- Does a tamper response still reach a transfer: units that it is to return are in towers, or, where it has not failed, data is still to
come (R246, R355)? -/
def alarmReaches (x : StcXfer) : Bool :=
  x.ce && match x.fail with
  | some (_, k) => firstOpen x < min k x.units.length
  | none => !x.last || firstOpen x < x.units.length

/-- A tamper response fails every transfer whose data is not all returned from the towers (R246, R355). -/
def stcAlarm (s : State) : State :=
  [0, 1].foldl (fun s c => (stc s c).xfers.foldl (fun s x =>
    if alarmReaches x then
      dropUnits x (firstOpen x) (modXfers (fun y => if y = x then xferFail y (failRes .alarm 0) (firstOpen y) else y) c s)
    else s) s) s

/-! ### STC_CFG_SET and STC_CFG_READ (R360, R361) -/

def bodyStcCfgSet : Body := fun _ _ w s =>
  let c := b2n (flag (wAt w 6) 0)
  let i := fld (wAt w 6) 1 7
  match domeReady s with
  | some r => (s, some r)
  | none =>
    if flag (wAt w 6) 8 then
      let e : StcCfg := { valid := true, alg := flag (wAt w 6) 9, dus := flag (wAt w 6) 10,
                          dataKref := (wAt w 2).toNat, dataLabel := (wAt w 3).toNat,
                          tweakKref := (wAt w 4).toNat, tweakLabel := (wAt w 5).toNat }
      match stcKeys s e with
      | some (slotNo, r) => (fetchFail 8 slotNo r s, some r)
      | none => (setStcCfg c i e (stcTouch e s), some (okRes 0))
    else (setStcCfg c i {} s, some (okRes 0))

def stcRecord (i : Nat) (e : StcCfg) : List Word :=
  [mkW (i + b2n e.valid * 2 ^ 7 + b2n e.alg * 2 ^ 8 + b2n e.dus * 2 ^ 9 + e.lastStatus * 2 ^ 16), mkW e.dataKref, mkW e.dataLabel,
   mkW e.tweakKref, mkW e.tweakLabel]

def bodyStcCfgRead : Body := fun _ _ w s =>
  let c := b2n (flag (wAt w 4) 0)
  let first := fld (wAt w 4) 1 7
  writeSnap (join48 (wAt w 5) (wAt w 6)) ((List.range (fld (wAt w 4) 8 8)).flatMap fun k => stcRecord (first + k) (stcCfg s c (first + k))) s

end Sys2Proof.Machine
end

