-- ==== Sys2Proof/Machine/Work.lean ====
section
/-! DEFINITION. Sys2Proof/Machine/Work.lean: the end of an item in a tower, parity mismatches, the repair record (R222, R237, R239,
R244, R245). -/

namespace Sys2Proof.Machine

/-! ### The end of an item (R222, R237) -/

/-- A referenced cache entry of tower `t` whose round keys fail parity, with its place (R237). -/
def badKey (s : State) (t : Nat) (x : Item) : Option (Nat × CacheEnt) :=
  findIdxFrom (fun e : CacheEnt => e.keyBad && x.takes.any fun k => entFor k e) 0 (tower s t).cache

/-- A tower completes item `id` and returns its result. -/
def towerItemDone (id : Nat) (s : State) : State :=
  match item s id with
  | none => s
  | some x =>
    if x.st = .active && x.hasKeys && s.pwr.state = .run then
      match badKey s x.tower x with
      | some (j, e) =>
        let v := tower s x.tower
        raise 77 x.tower j (itemPoison id x.tower (setTower x.tower { v with cache := v.cache.filter fun f => f != e } s))
      | none =>
        match x.kind with
        | .eg => match egFrame s id with
            | some f => egTowerDone id f (x.keys.headD []) s
            | none => setItem id none s
        | .ig => match igFrame s id with
            | some f => if igBehind s id f then s else igTowerDone id f (x.keys.headD []) (setItem id none s)
            | none => setItem id none s
        | .staging b => stagingDone b x (setItem id none s)
        | .unit => unitDone id x.keys s
        | .job n i => jobDone id n i x.keys s
    else s

/-- A round core or GHASH unit of tower `t` finds a parity mismatch in the block of item `id` (R239). -/
def parityMismatch (t : Nat) (gh : Bool) (u id : Nat) (s : State) : State :=
  match item s id with
  | none => s
  | some x =>
    if x.st = .active && x.tower = t && x.hasKeys && (healthy (tower s t) gh).contains u && s.pwr.state = .run then
      arrayChange (retireUnit t gh u 0) (itemPoison id t s)
    else s

/-! ### The repair record (R244, R245) -/

/-- The retired units of tower `t` as a field of R244. -/
def retiredOf (s : State) (t : Nat) : Nat := (tower s t).coreBad + (tower s t).ghBad * 2 ^ 9

/-- The four words of a defect map. -/
def mapWords (f : Nat → Nat) : List Word := (List.range 4).map fun k => mkW (f (2 * k) + f (2 * k + 1) * 2 ^ 12)

def lifeCode : LifeCycle → Nat
  | .manufacture => 0
  | .sealed => 1
  | .fieldDebug => 2
  | .returned => 3

/-- The life-cycle state in force: the fuses', or the latched FIELD_DEBUG (R338). -/
def lifeNow (s : State) : LifeCycle := if s.dome.debug then .fieldDebug else s.fuses.life

/-- vch_dbg_open_o: debug access is open in every life cycle but SEALED (R337, R525). -/
def dbgOpen (s : State) : Bool := lifeNow s != .sealed

/-- The device root: the test root replaces the production root while it is in force (R321). -/
def deviceRoot (s : State) : List Byte := fitBytes 32 (if testRootOn s then Config.testRoot else Config.prodRoot)

/-- The first 12 bytes of the record's MAC. -/
def repairMac (s : State) (l : List Byte) : List Byte :=
  (cmac (kdf (deviceRoot s) 0xA00012 0x92 32) (l.take 36)).take 12

/-- The first twelve words of a record. -/
def repairWords (s : State) (gen : Nat) : List Word :=
  [mkW 1] ++ toWords 4 s.fuses.uid ++ [mkW gen] ++ mapWords (retiredOf s) ++ [mkW (lifeCode (lifeNow s)), 0]

def bodyRepairExport : Body := fun _ _ w s =>
  match domeReady s with
  | some r => (s, some r)
  | none =>
    let gen := (max s.arr.loadGen s.arr.expGen + 1) % 2 ^ 24
    let l := wordsBytes (repairWords s gen)
    match memWrite (join48 (wAt w 4) (wAt w 5)) (l ++ fitBytes 12 (repairMac s l)) s with
    | (s, true) => ({ s with arr := { s.arr with expGen := gen } }, some (okRes 48 (gen % 2 ^ 16)))
    | (s, false) => (s, some (failRes .aborted 3))

/-- The REASON of a record that fails its checks (R245). -/
def repairBad (s : State) (l : List Byte) : Option Nat :=
  let r := bytesWords 16 l
  if fld (wAt r 0) 0 8 ≠ 1 || fld (wAt r 0) 8 16 ≠ 0 || fld (wAt r 10) 2 22 ≠ 0 || wAt r 11 ≠ 0 then some 1
  else if (r.drop 1).take 4 ≠ toWords 4 s.fuses.uid then some 2
  else if l.drop 36 ≠ fitBytes 12 (repairMac s l) then some 3
  else none

/-- All retired units of the array. -/
def retiredCount (s : State) : Nat :=
  (List.range 8).foldl (fun n t => n + (9 - (healthy (tower s t) false).length) + (3 - (healthy (tower s t) true).length)) 0

def bodyRepairLoad : Body := fun _ _ w s =>
  match orElse (domeReady s) fun _ => none, memRead s (join48 (wAt w 4) (wAt w 5)) 48 with
  | some r, _ => (s, some r)
  | none, none => (s, some (failRes .aborted 3))
  | none, some l =>
    match repairBad s l with
    | some r => (raise 81 0 r s, some (failRes .authFail r))
    | none =>
      let r := bytesWords 16 l
      let gen := (wAt r 5).toNat
      let before := retiredCount s
      let s := arrayChange (fun s => (List.range 8).foldl (fun s t =>
        retireMarked t (fld (wAt r (6 + t / 2)) (12 * (t % 2)) 12) 3 s) s) s
      (raise 80 0 (gen % 2 ^ 16) { s with arr := { s.arr with loadGen := max s.arr.loadGen gen } },
        some (okRes (retiredCount s - before)))

end Sys2Proof.Machine
end

