-- ==== Sys2Proof/Machine/Trust.lean ====
section
/-! DEFINITION. Sys2Proof/Machine/Trust.lean: roots, key update messages, the persistent image, RPMB frames, life cycle, measurements
and attestation (R321 to R347). -/

namespace Sys2Proof.Machine

/-- SHA-384 as 48 bytes. -/
def hash48 (l : List Byte) : List Byte := fitBytes 48 (sha384 l)

/-! ### Keys of the root (R321) -/

def imageKey (s : State) : List Byte := kdf (deviceRoot s) 0xA00010 0x90 32
def rpmbKey (s : State) : List Byte := kdf (deviceRoot s) 0xA00011 0x91 32
/-- The identity and import scalars, formed as in R305. -/
def idScalar (s : State) : Nat := ofBytesBE (kdf (deviceRoot s) 0xA00001 0x85 56) % (p384Order - 1) + 1
def importScalar (s : State) : Nat := ofBytesBE (kdf (deviceRoot s) 0xA00002 0x85 56) % (p384Order - 1) + 1
def pqSeed (s : State) : List Byte := kdf (deviceRoot s) 0xA00003 0x86 32

/-- The UID as it stands in messages (R324). -/
def uidBytes (s : State) : List Byte := toBytesBE 12 s.fuses.uid

/-- Are the bytes `[i, i+n)` zero? -/
def zeroAt (l : List Byte) (i n : Nat) : Bool := (slice l i n).all fun b => b == 0

/-- A number of `n` bytes at `i`, most significant byte first. -/
def numAt (l : List Byte) (i n : Nat) : Nat := ofBytesBE (slice l i n)

/-- Record a refused KUM, token or load in DOM_LAST_REJECT (R349). -/
def noteReject (r : Res) (op : Nat) (s : State) : State :=
  rset rDOM_LAST_REJECT (mkW (statusCode r.st + r.reason * 2 ^ 8 + op * 2 ^ 16
    + satAdd 4 (rfld s rDOM_LAST_REJECT 20 4) 1 * 2 ^ 20)) s

def lcRes (reason : Nat) : Res := failRes .lifecycle reason
def authRes (reason : Nat) : Res := failRes .authFail reason

/-! ### Authority and signatures (R322, R324, R328, R339) -/

def authRevoked (s : State) (i : Nat) : Bool := s.dome.record.policy.testBit i
/-- The 48-byte hash fuses of an authority index; one of zeros is not programmed (R322). -/
def eccHashOf (s : State) (i : Nat) : List Byte := tabGet (zeroBytes 48) s.fuses.eccHash i
def pqHashOf (s : State) (i : Nat) : List Byte := tabGet (zeroBytes 48) s.fuses.pqHash i
def eccProg (s : State) (i : Nat) : Bool := i < 4 && (eccHashOf s i).any fun b => b != 0
def pqProg (s : State) (i : Nat) : Bool := i < 4 && (pqHashOf s i).any fun b => b != 0

/-- Rows 5 and 6 of R328: the authority's keys, the hybrid policy. -/
def authPolicy (s : State) (idx : Nat) (hybrid : Bool) (key : List Byte) : Option Res :=
  if !eccProg s idx || authRevoked s idx || hash48 (key.take 96) ≠ eccHashOf s idx
      || (hybrid && (!pqProg s idx || hash48 (key.drop 96) ≠ pqHashOf s idx)) then some (authRes 5)
  else if !hybrid && (s.fuses.hybrid || s.dome.record.policy.testBit 4) then some (authRes 6)
  else none

/-- Rows 7 and 8: both signatures over `msg`, the first dual computations of a message (R341). -/
def authSigs (hybrid : Bool) (key msg sigs : List Byte) : Option Res :=
  if !ecdsaVerify (key.take 96) (hash48 msg) (sigs.take 96) then some (authRes 7)
  else if hybrid && !mldsaVerify (key.drop 96) msg (sigs.drop 96) then some (authRes 8)
  else none

def keyBlockLen (hybrid : Bool) : Nat := if hybrid then 2048 else 96
def sigLen (hybrid : Bool) : Nat := if hybrid then 3405 else 96

/-! ### Key update messages (R324 to R327) -/

def kumCount (m : List Byte) : Nat := byteAt m 6
def kumB (m : List Byte) : Nat := 124 + 64 * kumCount m
def kumHybrid (m : List Byte) : Bool := bitN (byteAt m 5) 0
def kumCounter (m : List Byte) : Nat := numAt m 20 6
def kumOp (m : List Byte) (k : Nat) : List Byte := slice m (124 + 64 * k) 64
def kumOps (m : List Byte) : List (List Byte) := (List.range (kumCount m)).map (kumOp m)

/-- Fields of an operation record (R325). -/
def opCode (o : List Byte) : Nat := byteAt o 0
def opSlot (o : List Byte) : Nat := numAt o 2 2
def opAttr (o : List Byte) : Nat := numAt o 4 3
def opWrapLen (o : List Byte) : Nat := byteAt o 7
def opValue (o : List Byte) : Nat := numAt o 48 6

/-- Do the zero fields and field values of an operation record hold (R325)? -/
def opFormat (o : List Byte) : Bool :=
  zeroAt o 1 1 && zeroAt o 54 10 &&
  match opCode o with
  | 1 | 2 => opSlot o < 4096 && opAttr o < 512 && (opWrapLen o == 24 || opWrapLen o == 40)
      && zeroAt o (8 + opWrapLen o) (40 - opWrapLen o) && zeroAt o 48 6
  | 3 => opSlot o < 4096 && zeroAt o 4 50
  | 4 => zeroAt o 2 49
  | 5 => zeroAt o 2 52
  | 6 => zeroAt o 2 46
  | _ => false

/-- Row 3 of R328. -/
def kumFormat (m : List Byte) (authLen : Nat) : Bool :=
  numAt m 0 4 == 0x564B554D && byteAt m 4 == 1 && byteAt m 5 < 2 && 1 ≤ kumCount m && kumCount m ≤ 16
    && zeroAt m 26 2 && m.length == kumB m + sigLen (kumHybrid m) && authLen == keyBlockLen (kumHybrid m)
    && (kumOps m).all opFormat

/-- The transport key (R327). -/
def transportKey (s : State) (m : List Byte) : List Byte :=
  let z := fitBytes 48 (ecdh (importScalar s) (slice m 28 96))
  fitBytes 32 (hkdfSha384 (uidBytes s ++ slice m 20 6) z ([0x56, 0x4B, 0x55, 0x4D, 0x2D, 0x54, 0x4B]) 32)

/-- Row 12: the key of an INSTALL or REPLACE, or the number of the record that does not unwrap. -/
def kumUnwrap (tk : List Byte) : Nat → List (List Byte) → Except Nat (List (List Byte))
  | _, [] => .ok []
  | k, o :: r =>
    if opCode o = 1 || opCode o = 2 then
      match kwUnwrap true tk (slice o 8 (opWrapLen o)) with
      | some key =>
        if key.length = (if bitN (opAttr o) 7 then 32 else 16) then
          match kumUnwrap tk (k + 1) r with
          | .ok l => .ok (key :: l)
          | e => e
        else .error k
      | none => .error k
    else match kumUnwrap tk (k + 1) r with
      | .ok l => .ok ([] :: l)
      | e => e

/-- The working copy that a message's records change (R326): the persistent keys, the slots written or destroyed in order, policy,
counter, RE_ARM. -/
structure Work where
  keys : List PKey
  ops : List (Nat × Option PKey)
  revoked : List Nat
  policy : Nat
  counter : Nat
  rearm : Bool
deriving DecidableEq, Repr

/-- Put a key among others, in ascending slot order (R329). -/
def putKey (k : PKey) : List PKey → List PKey
  | [] => [k]
  | x :: r => if k.slot < x.slot then k :: x :: r else if k.slot = x.slot then k :: r else x :: putKey k r

/-- Does the working copy hold a persistent key in the slot? -/
def workHas (w : Work) (i : Nat) : Bool := w.keys.any fun k => k.slot == i

/-- Is the slot LOADED with a VOLATILE key? -/
def volatileLoaded (s : State) (i : Nat) : Bool := (slot s i).st == .loaded && !slotPersist (slot s i)

/-- LOCK in the working copy: a slot that an earlier record changed is not LOCKed (R298). -/
def workLock (s : State) (w : Work) (i : Nat) : Bool := slotLock (slot s i) && !(w.ops.any fun o => o.1 == i)

/-- Row 13 for one record: its failure, or the changed copy (R326). -/
def kumOpApply (s : State) (counter : Nat) (w : Work) (o key : List Byte) : Except Nat Work :=
  let i := opSlot o
  match opCode o with
  | 1 =>
    if workHas w i || volatileLoaded s i then .error 6
    else if workLock s w i then .error 5
    else if !bitN (opAttr o) 8 || formOf (opAttr o % 128) (bitN (opAttr o) 7) = none then .error 7
    else
      let k : PKey := { slot := i, attr := opAttr o, key }
      .ok { w with keys := putKey k w.keys, ops := w.ops ++ [(i, some k)], revoked := w.revoked.filter fun x => x != i }
  | 2 =>
    if !workHas w i then .error 6
    else if workLock s w i then .error 5
    else if !bitN (opAttr o) 8 || formOf (opAttr o % 128) (bitN (opAttr o) 7) = none then .error 7
    else
      let k : PKey := { slot := i, attr := opAttr o, key }
      .ok { w with keys := putKey k w.keys, ops := w.ops ++ [(i, some k)] }
  | 3 =>
    if !workHas w i then .error 6
    else if workLock s w i then .error 5
    else .ok { w with keys := w.keys.filter fun k => k.slot != i, ops := w.ops ++ [(i, none)], revoked := w.revoked ++ [i] }
  | 4 =>
    let p := opValue o % 2 ^ 24 ||| w.policy
    if 2 ^ 7 ≤ opValue o % 2 ^ 24 then .error 7
    else if (List.range 4).all fun k => !eccProg s k || p.testBit k then .error 8
    else .ok { w with policy := p }
  | 5 => .ok { w with rearm := true }
  | _ => if opValue o < counter then .error 7 else .ok { w with counter := max w.counter (opValue o) }

/-- Row 13 for every record in order: the failing record and its REASON, or the changed copy. -/
def kumApplyAll (s : State) (counter : Nat) : Nat → List (List Byte × List Byte) → Work → Except (Nat × Nat) Work
  | _, [], w => .ok w
  | k, (o, key) :: r, w =>
    match kumOpApply s counter w o key with
    | .error e => .error (e, k)
    | .ok w => kumApplyAll s counter (k + 1) r w

/-! ### The persistent image and the record (R329, R330) -/

def keyEntry (k : PKey) : List Byte := toBytesBE 2 k.slot ++ toBytesBE 3 k.attr ++ zeroBytes 11 ++ fitBytes 32 k.key

def imageHeader (s : State) (r : Record) (count : Nat) (iv : List Byte) : List Byte :=
  toBytesBE 4 0x564B494D ++ [1, mkB r.bank] ++ toBytesBE 2 count ++ toBytesBE 6 r.imageGen ++ toBytesBE 6 r.counter
    ++ toBytesBE 3 r.policy ++ [0] ++ uidBytes s ++ iv ++ zeroBytes 16

/-- A bank: header, sealed entries, tag. -/
def imageBytes (s : State) (r : Record) (keys : List PKey) (iv : List Byte) : List Byte :=
  let h := imageHeader s r keys.length iv
  let ct := gcmCrypt (imageKey s) iv (keys.flatMap keyEntry)
  h ++ ct ++ fitBytes 16 (gcmTag (imageKey s) iv h ct)

/-- The 256 bytes of a record; a blank one is all zero. -/
def recordBytes (s : State) (blank : Bool) (r : Record) : List Byte :=
  if blank then zeroBytes 256
  else fitBytes 256 (toBytesBE 4 0x56435231 ++ [1, mkB r.bank, 0, 0] ++ toBytesBE 6 r.imageGen ++ toBytesBE 6 r.counter
    ++ toBytesBE 3 r.policy ++ [0] ++ fitBytes 48 r.imageHash ++ uidBytes s)

/-- The entries of decrypted image contents. -/
def parseKeys : Nat → List Byte → List PKey
  | 0, _ => []
  | n + 1, l =>
    let attr := numAt l 2 3
    { slot := numAt l 0 2 % 4096, attr := attr % 512, key := (slice l 16 32).take (if bitN attr 7 then 32 else 16) }
      :: parseKeys n (l.drop 48)

/-- A bank whose own fields, length, UID and tag hold: the fields of its record and its keys (R329, R332). -/
def openBank (s : State) (bank : Nat) (l : List Byte) : Option (Record × List PKey) :=
  let count := numAt l 6 2
  let iv := slice l 36 12
  let ct := slice l 64 (48 * count)
  if numAt l 0 4 == 0x564B494D && byteAt l 4 == 1 && byteAt l 5 == bank && count ≤ 256 && l.length == 80 + 48 * count
      && zeroAt l 23 1 && slice l 24 12 == uidBytes s && zeroAt l 48 16
      && l.drop (64 + 48 * count) == fitBytes 16 (gcmTag (imageKey s) iv (l.take 64) ct) then
    some ({ bank, imageGen := numAt l 8 6, counter := numAt l 14 6, policy := numAt l 20 3, imageHash := hash48 l },
      parseKeys count (gcmCrypt (imageKey s) iv ct))
  else none

/-- The bank that a record names: it hashes to IMAGE_HASH and repeats the record's fields (R332). -/
def recordBank (s : State) (r : Record) (l : List Byte) : Option (List PKey) :=
  match openBank s r.bank l with
  | some (q, keys) => if q = r then some keys else none
  | none => none

/-- The current image that KUM_APPLY works on (R332). -/
def currentKeys (s : State) (cur : List Byte) : Option (List PKey) :=
  if s.fuses.life = .sealed && !s.dome.recordValid then none
  else if s.dome.recordBlank || s.dome.imageLost then (if cur.isEmpty then some [] else none)
  else recordBank s s.dome.record cur

/-! ### RPMB frames (R331) -/

/-- Bytes 228 to 511 of a frame: data, nonce, write counter, address, block count, result, type. -/
def rpmbTail (data nonce : List Byte) (wcnt addr blocks result ty : Nat) : List Byte :=
  fitBytes 256 data ++ fitBytes 16 nonce ++ toBytesBE 4 wcnt ++ toBytesBE 2 addr ++ toBytesBE 2 blocks ++ toBytesBE 2 result
    ++ toBytesBE 2 ty

/-- A frame with a MAC or key field. -/
def rpmbFrame (mac tail : List Byte) : List Byte := zeroBytes 196 ++ fitBytes 32 mac ++ tail

def rpmbAddr (s : State) : Nat := rfld s rDOM_RPMB_ADDR 0 16
def rpmbLocked (s : State) : Bool := rflag s rDOM_RPMB_ADDR 16

/-- The authenticated write of a record. -/
def writeRequest (s : State) (r : Record) : List Byte :=
  let t := rpmbTail (recordBytes s false r) [] s.dome.writeCnt (rpmbAddr s) 1 0 3
  rpmbFrame (hmacSha256 (rpmbKey s) t) t

/-- Fields of a response frame. -/
def respMacOk (s : State) (f : List Byte) : Bool := slice f 196 32 == fitBytes 32 (hmacSha256 (rpmbKey s) (f.drop 228))
def respData (f : List Byte) : List Byte := slice f 228 256
def respNonce (f : List Byte) : List Byte := slice f 484 16
def respWcnt (f : List Byte) : Nat := numAt f 500 4
def respAddr (f : List Byte) : Nat := numAt f 504 2
def respBlocks (f : List Byte) : Nat := numAt f 506 2
def respResult (f : List Byte) : Nat := numAt f 508 2
def respType (f : List Byte) : Nat := numAt f 510 2

/-! ### Measurements (R342) -/

def measOf (s : State) (i : Nat) : List Byte := tabGet (zeroBytes 48) s.dome.meas i
def extend (i : Nat) (d : List Byte) (s : State) : State :=
  { s with dome := { s.dome with meas := tabPut (zeroBytes 48) s.dome.meas i (hash48 (measOf s i ++ d)) } }

/-! ### Applying a commit (R333, R335, R337) -/

/-- Must an UPDATE of a commit wait: one of its slots finds its preceding key or 16 of them held, or the commit would hold more than 16
(R296)? -/
def opsWait (s : State) (ops : List (Nat × Option PKey)) : Bool :=
  let ups := ops.filter fun o => o.2.isSome && (slot s o.1).st == .loaded
  let held := ups.filter fun o => holdNeeded s o.1 (slotGen s o.1)
  ups.any (fun o => updateMustWait s o.1) || (!held.isEmpty && 16 < s.dome.held.length + held.length)

/-- Load an image's keys into their slots. -/
def loadKeys (keys : List PKey) (s : State) : State := keys.foldl (fun s k => writeSlot k.slot k.attr false k.key s) s

/-- Apply the changed slots of a committed message in record order. A slot that was LOCKed since the message was applied is not changed until
the reset (R298; the model's choice, assumption log 62). -/
def applyOps (ops : List (Nat × Option PKey)) (s : State) : State :=
  ops.foldl (fun s o =>
    if slotLock (slot s o.1) then s
    else match o.2 with
      | some k => writeSlot o.1 k.attr false k.key s
      | none => revokeSlot o.1 s) s

/-- Does a commit write a key, which needs random output (R307, R341)? -/
def commitDraws (s : State) (c : PendingCommit) : Bool :=
  if s.dome.st = .alarmed && c.rearm then !c.keys.isEmpty else c.ops.any fun o => o.2.isSome && !slotLock (slot s o.1)

def setMark (s : State) : State :=
  if s.fuses.life = .sealed && !s.dome.debug then { s with tmp := { s.tmp with loadedMark := true } } else s

/-- The effect instant of a commit (R333). -/
def applyCommit (n : Nat) (c : PendingCommit) (s : State) : State :=
  let rearmed := s.dome.st == .alarmed && c.rearm
  let s := { s with dome := { s.dome with record := c.record, recordBlank := false, imageLost := false, commit := none } }
  let s := extend 1 c.kumHash (extend 0 (hash48 (recordBytes s false c.record)) s)
  let s := raise 102 n (c.record.counter % 2 ^ 24) (setMark s)
  if rearmed then
    raise 108 n (c.record.counter % 2 ^ 24) (setDomeSt .ready (loadKeys c.keys (rsetFld rTMP_LATCH 0 1 0 s)))
  else
    let s := applyOps c.ops s
    if c.rearm then rsetFld rTMP_LATCH 0 1 0 s else s

/-! ### KUM_APPLY (R328, R332) -/

/-- Does a message carry RE_ARM? -/
def hasRearm (m : List Byte) : Bool := (kumOps m).any fun o => opCode o == 5

/-- Row 1 of R328 (R345, R349). -/
def kumState (s : State) (m : List Byte) : Option Res :=
  if s.dome.st = .alarmed then (if hasRearm m then none else some (lcRes 2))
  else if s.dome.st ≠ .ready then some (lcRes 1)
  else none

def kumLife (s : State) : Option Res :=
  if !(lifeNow s == .manufacture || lifeNow s == .sealed) then some (lcRes 3)
  else if !rpmbLocked s then some (lcRes 1)
  else none

/-- Rows 1 to 6, which need no dual computation. -/
def kumEarly (s : State) (m key : List Byte) : Option Res :=
  orElse (kumState s m) fun _ => orElse (kumLife s) fun _ =>
    if s.dome.commit.isSome then some (failRes .retry 0x12)
    else if !kumFormat m key.length then some (authRes 1)
    else if slice m 8 12 ≠ uidBytes s then some (authRes 2)
    else authPolicy s (byteAt m 7) (kumHybrid m) key

/-- Rows 1 to 14: the failure with its record number, or the commit that the message asks for. -/
def kumCheck (s : State) (m key cur : List Byte) : Except (Res × Nat) Work :=
  let pre := orElse (kumEarly s m key) fun _ => orElse (authSigs (kumHybrid m) key (m.take (kumB m)) (m.drop (kumB m))) fun _ =>
    if kumCounter m ≠ s.dome.record.counter + 1 then some (authRes 9) else none
  match pre with
  | some r => .error (r, 0)
  | none =>
    match currentKeys s cur with
    | none => .error (authRes 0x0A, 0)
    | some keys =>
      if !onCurve (slice m 28 96) then .error (authRes 0x0B, 0)
      else match kumUnwrap (transportKey s m) 0 (kumOps m) with
        | .error k => .error ({ authRes 4 with detail := k }, k)
        | .ok ks =>
          let w : Work := { keys, ops := [], revoked := [], policy := s.dome.record.policy, counter := kumCounter m, rearm := false }
          match kumApplyAll s (kumCounter m) 0 ((kumOps m).zip ks) w with
          | .error (e, k) => .error ({ failRes .keyDenied e with detail := k }, k)
          | .ok w => if 256 < w.keys.length then .error ({ st := .noRoom, reason := 7 }, 0) else .ok w

/-- The bank of a new image: 0 after a blank record, and where no record has been known (R332). -/
def newBank (s : State) : Nat := if s.dome.recordBlank || s.dome.record = {} then 0 else 1 - s.dome.record.bank

/-- The inputs of KUM_APPLY: message, key block, current bank. -/
def kumInputs (s : State) (w : List Word) : Option (List Byte × List Byte × List Byte) :=
  match memRead s (join48 (wAt w 4) (wAt w 5)) (fld (wAt w 6) 0 13), memRead s (join48 (wAt w 7) (wAt w 8)) (fld (wAt w 9) 0 12),
      memRead s (join48 (wAt w 10) (wAt w 11)) (fld (wAt w 12) 0 14) with
  | some m, some k, some c => some (m, k, c)
  | _, _, _ => none

/-- Must KUM_APPLY wait before it commits in MANUFACTURE (R296, R337)? -/
def kumApplyWaits (w : List Word) (s : State) : Bool :=
  s.fuses.life = .manufacture && match kumInputs s w with
  | some (m, k, c) => (match kumCheck s m k c with | .ok x => opsWait s x.ops | .error _ => false)
  | none => false

def bodyKumApply : Body := fun n _ w s =>
  match kumInputs s w with
  | none => (s, some hostMemRes)
  | some (m, k, c) =>
    if (kumEarly s m k).isNone && s.dome.upset then dualMismatch s
    else match kumCheck s m k c with
    | .error (r, op) =>
      (raise 103 n (statusCode r.st + r.reason * 2 ^ 8 + op * 2 ^ 16) (noteReject r op s), some r)
    | .ok x =>
      if !s.dome.drbgOk then (s, some entropyRes)
      else
        let (s, iv) := drbgGen false 12 s
        let r : Record := { counter := x.counter, imageGen := (s.dome.record.imageGen + 1) % 2 ^ 48, policy := x.policy, bank := newBank s }
        let img := imageBytes s r x.keys iv
        let r := { r with imageHash := hash48 img }
        let com : PendingCommit := { record := r, keys := x.keys, ops := x.ops, kumHash := hash48 (m.take (kumB m)), rearm := x.rearm }
        let mfg := s.fuses.life == .manufacture
        let req := if mfg then zeroBytes 512 else writeRequest s r
        match memWrite (join48 (wAt w 13) (wAt w 14)) (req ++ img) s with
        | (s, false) => (s, some hostMemRes)
        | (s, true) =>
          let res := okRes r.imageGen img.length
          if mfg then (applyCommit n com s, some res)
          else (raise 104 n (r.imageGen % 2 ^ 24) { s with dome := { s.dome with commit := some com } }, some res)

/-! ### KUM_COMMIT (R333) -/

/-- What a response says of the pending commit. -/
def commitAnswer (s : State) (c : PendingCommit) (kind : Bool) (f : List Byte) : Option Res :=
  let bad := some (authRes 0x0C)
  if !respMacOk s f || respAddr f ≠ rpmbAddr s || respBlocks f ≠ 1 then bad
  else if !kind then
    if respType f ≠ 0x0300 then bad
    else if respResult f ≠ 0 then some (failRes .remoteErr 1)
    else if respWcnt f ≠ (s.dome.writeCnt + 1) % 2 ^ 32 then bad
    else none
  else if respType f ≠ 0x0400 || s.dome.nonce ≠ some (respNonce f) || respResult f ≠ 0 then bad
  else if respData f = recordBytes s false c.record then none
  else if respData f = recordBytes s s.dome.recordBlank s.dome.record then some (failRes .remoteErr 2)
  else bad

/-- Rows of R345 for KUM_COMMIT. -/
def chkKumCommit (s : State) : Option Res :=
  if !(s.dome.st == .ready || s.dome.st == .alarmed) then some (lcRes 1)
  else if lifeNow s ≠ .sealed then some (lcRes 3)
  else if s.dome.commit.isNone then some (badRes 0x0B 0)
  else none

/-- Must the commit wait for a preceding key (R296)? Only a response that decides it for the new record writes slots. -/
def kumCommitWaits (w : List Word) (s : State) : Bool :=
  s.dome.st == .ready && (chkKumCommit s).isNone && match s.dome.commit, memRead s (join48 (wAt w 4) (wAt w 5)) 512 with
    | some c, some f => (commitAnswer s c (flag (wAt w 6) 0) f).isNone && opsWait s c.ops
    | _, _ => false

def bodyKumCommit : Body := fun n _ w s =>
  match chkKumCommit s, s.dome.commit with
  | some r, _ => (s, some r)
  | none, none => (s, some (badRes 0x0B 0))
  | none, some c =>
    match memRead s (join48 (wAt w 4) (wAt w 5)) 512 with
    | none => (s, some hostMemRes)
    | some f =>
      match commitAnswer s c (flag (wAt w 6) 0) f with
      | some r => (s, some r)
      | none => if commitDraws s c && !s.dome.drbgOk then (s, some entropyRes) else
        let s := { s with dome := { s.dome with writeCnt := (s.dome.writeCnt + 1) % 2 ^ 32, recordValid := true } }
        (applyCommit n c s, some (okRes c.record.counter))

/-! ### IMAGE_NONCE and IMAGE_LOAD (R335, R337) -/

/-- IMAGE_NONCE and IMAGE_LOAD after a TL1 response. -/
def resetNeeded (s : State) : Bool := resetRequired s && s.dome.st == .cold

def bodyImageNonce : Body := fun _ _ w s =>
  if resetNeeded s then (s, some (lcRes 5))
  else if lifeNow s ≠ .sealed then (s, some (lcRes 3))
  else if !rpmbLocked s then (s, some (lcRes 1))
  else if !s.dome.drbgOk then (s, some entropyRes)
  else
    let (s, nonce) := drbgGen false 16 s
    let a := rpmbFrame [] (rpmbTail [] nonce 0 0 1 0 2)
    let b := rpmbFrame [] (rpmbTail [] nonce 0 (rpmbAddr s) 1 0 4)
    match memWrite (join48 (wAt w 4) (wAt w 5)) (a ++ b) s with
    | (s, false) => (s, some hostMemRes)
    | (s, true) =>
      let s := { s with dome := { s.dome with nonce := some nonce } }
      (if s.dome.st = .cold then setDomeSt .loading s else s, some (okRes 1024))

/-- Steps 3 of R335 on the responses: the REASON that fails. -/
def respBad (s : State) (a b : List Byte) : Option Nat :=
  let d := respData b
  if !respMacOk s a || !respMacOk s b || s.dome.nonce ≠ some (respNonce a) || s.dome.nonce ≠ some (respNonce b)
      || respType a ≠ 0x0200 || respType b ≠ 0x0400 || respAddr b ≠ rpmbAddr s || respResult a ≠ 0 || respResult b ≠ 0
      || respBlocks a ≠ 1 || respBlocks b ≠ 1 then some 0x0C
  else if zeroAt d 0 256 then none
  else if numAt d 0 4 ≠ 0x56435231 || byteAt d 4 ≠ 1 || 1 < byteAt d 5 || !zeroAt d 6 2 || !zeroAt d 23 1 || !zeroAt d 84 172 then some 1
  else if slice d 72 12 ≠ uidBytes s then some 2
  else none

/-- The record of a response. -/
def recordOf (d : List Byte) : Record :=
  if zeroAt d 0 256 then {}
  else { bank := byteAt d 5, imageGen := numAt d 8 6, counter := numAt d 14 6, policy := numAt d 20 3, imageHash := slice d 24 48 }

/-- A load that fails: back to COLD, unless the Dome is ALARMED (R335). -/
def loadFail (n reason : Nat) (s : State) : State × Option Res :=
  let s := raise 106 n reason (noteReject (authRes reason) 0 s)
  (if s.dome.st = .loading then setDomeSt .cold s else s, some (authRes reason))

/-- A load that the Dome's state, its life cycle or the alarm refuses: no event, but the latest refused load (R335, R345, R349). -/
def loadRefuse (reason : Nat) (s : State) : State × Option Res := (noteReject (lcRes reason) 0 s, some (lcRes reason))

/-- A load that ends in READY. -/
def loadOk (n : Nat) (keys : List PKey) (blank noImage : Bool) (s : State) : State × Option Res :=
  let s := setDomeSt .ready (setMark (loadKeys keys s))
  (raise 105 n (keys.length + b2n blank * 2 ^ 9 + b2n noImage * 2 ^ 10)
    { s with dome := { s.dome with imageLost := noImage } }, some (okRes s.dome.record.imageGen keys.length))

/-- IMAGE_LOAD in SEALED, with its responses read (R335). -/
def loadSealed (n : Nat) (noImage : Bool) (resp ba bb : List Byte) (s : State) : State × Option Res :=
  let a := resp.take 512
  let b := resp.drop 512
  match respBad s a b with
  | some r => loadFail n r s
  | none =>
    let d := respData b
    let r := recordOf d
    let blank := zeroAt d 0 256
    let s0 := s
    let s := { s with dome := { s.dome with writeCnt := respWcnt a, record := r, recordValid := true, recordBlank := blank } }
    if s.dome.st = .alarmed then loadRefuse 2 s
    else if noImage then loadOk n [] false true s
    else if !blank && bitN r.policy 6 && !s.tmp.loadedMark then loadRefuse 2 (setDomeSt .alarmed (rsetFld rTMP_LATCH 0 1 1 s))
    else match if blank then some [] else recordBank s r (if r.bank = 0 then ba else bb) with
      | none => loadFail n 0x0A s
      | some keys =>
        if !keys.isEmpty && !s.dome.drbgOk then (s0, some entropyRes) else loadOk n keys blank false (extend 0 (hash48 d) s)

/-- IMAGE_LOAD in MANUFACTURE: the valid bank with the higher IMAGE_GEN (R337). -/
def loadOpen (n : Nat) (ba bb : List Byte) (s : State) : State × Option Res :=
  let pick := match openBank s 0 ba, openBank s 1 bb with
    | some x, some y => if x.1.imageGen < y.1.imageGen then some y else some x
    | some x, none => some x
    | none, o => o
  match pick with
  | none => loadFail n 0x0A s
  | some (r, keys) => if !keys.isEmpty && !s.dome.drbgOk then (s, some entropyRes) else
    let s := { s with dome := { s.dome with record := r } }
    loadOk n keys false false (extend 0 (hash48 (recordBytes s false r)) s)

def bodyImageLoad : Body := fun n _ w s =>
  let noImage := flag (wAt w 12) 0
  let life := lifeNow s
  if resetNeeded s then loadRefuse 5 s
  else if life = .sealed && !(s.dome.st == .loading || s.dome.st == .alarmed) || (life ≠ .sealed && s.dome.st ≠ .cold) then loadRefuse 1 s
  else if life ≠ .sealed && life ≠ .manufacture && !noImage then loadRefuse 3 s
  else
    let need := life == .sealed
    match if need then memRead s (join48 (wAt w 4) (wAt w 5)) 1024 else some [],
        if noImage then some [] else memRead s (join48 (wAt w 6) (wAt w 7)) (fld (wAt w 8) 0 14),
        if noImage then some [] else memRead s (join48 (wAt w 9) (wAt w 10)) (fld (wAt w 11) 0 14) with
    | some resp, some ba, some bb =>
      if need then loadSealed n noImage resp ba bb s
      else if noImage then loadOk n [] false true s
      else loadOpen n ba bb s
    | _, _, _ => (s, some hostMemRes)

/-! ### LC_CHANGE (R338 to R340) -/

/-- An EMPTY slot keeps only its generation (R287). -/
def emptySlots (s : State) : State :=
  { s with dome := { s.dome with slots := tabMap {} (fun _ v => { gen := v.gen }) s.dome.slots, held := [], dcache := [] } }

/-- Empty every Belfry slot (R255). -/
def belfryClear (s : State) : State := s.arr.belfry.foldl (fun s p => bslotDrop p.1 s) s

/-- Draw the nonce of DOM_LC_NONCE. -/
def drawLcNonce (s : State) : State :=
  let (s, l) := drbgGen false 16 s
  { s with dome := { s.dome with lcNonce := l } }

/-- The effect instant of a life-cycle change (R340). -/
def applyLife (n : Nat) (target : LifeCycle) (s : State) : State :=
  let old := lifeNow s
  let s := belfryClear (cacheDrop (fun _ => true) (emptySlots { s with dome := { s.dome with commit := none } }))
  let s := match target with
    | .fieldDebug => { s with dome := { s.dome with debug := true } }
    | .returned => { s with fuses := { s.fuses with life := .returned, prodDestroyed := true }, dome := { s.dome with debug := false } }
    | t => { s with fuses := { s.fuses with life := t } }
  raise 107 n (lifeCode target + lifeCode old * 4) (setDomeSt .cold s)

/-- The allowed transitions: does it need a token? none: not allowed (R338). -/
def lifeMove (s : State) (target : Nat) : Option Bool :=
  match lifeNow s, target with
  | .manufacture, 0 => some false
  | .manufacture, 2 => some false
  | .sealed, 1 => some true
  | .sealed, 2 => some true
  | .fieldDebug, 2 => some true
  | _, _ => none

/-- Rows 3 to 6 of a token's checks (R339). -/
def tokenEarly (s : State) (target : Nat) (t key : List Byte) : Option Res :=
  let hy := bitN (byteAt t 5) 0
  if numAt t 0 4 ≠ 0x56444247 || byteAt t 4 ≠ 1 || 1 < byteAt t 5 || byteAt t 6 ≠ target || !zeroAt t 36 12
      || t.length ≠ 48 + sigLen hy || key.length ≠ keyBlockLen hy then some (authRes 1)
  else if slice t 8 12 ≠ uidBytes s then some (authRes 2)
  else authPolicy s (byteAt t 7) hy key

/-- The checks of a token (R339). -/
def tokenBad (s : State) (target : Nat) (t key : List Byte) : Option Res :=
  let hy := bitN (byteAt t 5) 0
  orElse (tokenEarly s target t key) fun _ => orElse (authSigs hy key (t.take 48) (t.drop 48)) fun _ =>
    if slice t 20 16 ≠ s.dome.lcNonce then some (authRes 0x0D) else none

def bodyLcChange : Body := fun n _ w s =>
  let target := fld (wAt w 4) 0 2
  let goal : LifeCycle := match target with | 0 => .sealed | 1 => .fieldDebug | _ => .returned
  if !s.dome.drbgOk then (s, some entropyRes)
  else if s.dome.st = .loading then (drawLcNonce s, some (lcRes 1))
  else match lifeMove s target with
    | none => (drawLcNonce s, some (lcRes 3))
    | some false =>
      if fld (wAt w 7) 0 12 ≠ 0 then (drawLcNonce s, some (rangeRes 7))
      else (drawLcNonce (applyLife n goal s), some (okRes 0))
    | some true =>
      if fld (wAt w 7) 0 12 < 144 then (drawLcNonce s, some (rangeRes 7))
      else if fld (wAt w 10) 0 12 < 96 then (drawLcNonce s, some (rangeRes 10))
      else match memRead s (join48 (wAt w 5) (wAt w 6)) (fld (wAt w 7) 0 12), memRead s (join48 (wAt w 8) (wAt w 9)) (fld (wAt w 10) 0 12) with
      | some t, some key =>
        if (tokenEarly s target t key).isNone && s.dome.upset then dualMismatch (drawLcNonce s)
        else match tokenBad s target t key with
        | some r => (drawLcNonce (noteReject r 0 s), some r)
        | none => (drawLcNonce (applyLife n goal s), some (okRes 0))
      | _, _ => (drawLcNonce s, some hostMemRes)

/-! ### RPMB_PROVISION (R336) -/

/-- RPMB_PROVISION. A host memory error that lets a byte of the key out blows the fuse too: the key leaves once per device (R12, R321; assumption
log 40). The key stands in bytes 196 to 227 of the frame. -/
def bodyRpmbProvision : Body := fun _ _ w s =>
  if s.dome.st ≠ .cold then (s, some (lcRes 1))
  else if lifeNow s ≠ .sealed then (s, some (lcRes 3))
  else if !rpmbLocked s then (s, some (lcRes 1))
  else if s.fuses.prov then (s, some (lcRes 4))
  else
    let out := join48 (wAt w 4) (wAt w 5)
    let sent := min (Config.freeNat s.draws) (goodPrefix s out 512)
    match memWrite out (rpmbFrame (rpmbKey s) (rpmbTail [] [] 0 0 1 0 1)) s with
    | (s, false) => ({ s with fuses := { s.fuses with prov := decide (196 < sent) } }, some hostMemRes)
    | (s, true) => ({ s with fuses := { s.fuses with prov := true } }, some (okRes 512))

/-! ### ATTEST, MEAS_EXTEND, MEAS_READ (R342, R343, R346) -/

/-- The 864 bytes of a statement. -/
def statement (s : State) (pq : Bool) (chal : List Byte) : List Byte :=
  let t := if domOn s dTIME then wcNs s % 2 ^ 32 else 0
  toBytesBE 4 0x56415453 ++ [1, mkB (b2n pq), mkB (lifeCode (lifeNow s)), mkB (domeStCode s.dome.st)] ++ uidBytes s
    ++ toBytesBE 6 s.dome.record.imageGen ++ toBytesBE 6 s.dome.record.counter ++ toBytesBE 3 s.dome.record.policy
    ++ toBytesBE 3 (rget s rTWR_HEALTH).toNat ++ toBytesBE 4 t ++ [mkB (b2n (!domOn s dTIME) + b2n (s.tmu.src == .d1) * 2), mkB chal.length]
    ++ (List.range 16).flatMap (measOf s) ++ fitBytes 48 chal ++ zeroBytes 4

def bodyAttest : Body := fun _ _ w s =>
  let out := join48 (wAt w 7) (wAt w 8)
  let pq := flag (wAt w 4) 1 || bitN s.dome.record.policy 5
  if !(s.dome.st == .ready || s.dome.st == .alarmed) then (s, some (lcRes 1))
  else if flag (wAt w 4) 0 then
    let l := fitBytes 96 (ecdsaPub (idScalar s)) ++ fitBytes 96 (ecdsaPub (importScalar s))
      ++ fitBytes 1952 (mldsaPub (pqSeed s))
    match memWrite out l s with
    | (s, true) => (s, some (okRes 2144))
    | (s, false) => (s, some hostMemRes)
  else if (wAt w 9).toNat < (if pq then 4269 else 960) then (s, some (rangeRes 9))
  else if !s.dome.drbgOk then (s, some entropyRes)
  else match memRead s (join48 (wAt w 5) (wAt w 6)) (fld (wAt w 4) 2 6) with
    | none => (s, some hostMemRes)
    | some chal =>
      if s.dome.upset then dualMismatch s
      else
        let st := statement s pq chal
        let k := s.draws
        let (s, _) := drbgGen false 80 s
        let l := st ++ fitBytes 96 (ecdsaSign (idScalar s) (hash48 st) (ecdsaNonce k))
          ++ (if pq then fitBytes 3309 (mldsaSign (pqSeed s) st (mldsaRnd (k + 48))) else [])
        match memWrite out l s with
        | (s, true) => (s, some (okRes l.length))
        | (s, false) => (s, some hostMemRes)

def bodyMeasExtend : Body := fun _ _ w s =>
  match memRead s (join48 (wAt w 5) (wAt w 6)) 48 with
  | none => (s, some hostMemRes)
  | some d => (extend (fld (wAt w 4) 0 4) d s, some (okRes 0))

def bodyMeasRead : Body := fun _ _ w s =>
  match memWrite (join48 (wAt w 4) (wAt w 5)) ((List.range 16).flatMap fun i => fitBytes 48 (measOf s i)) s with
  | (s, true) => (s, some (okRes 768))
  | (s, false) => (s, some hostMemRes)

end Sys2Proof.Machine
end

