-- ==== Sys2Proof/Machine/Reads.lean ====
section
/-! DEFINITION. Sys2Proof/Machine/Reads.lean: LT_READ and CNT_SNAPSHOT (R117 to R122, R166, R216), and the commands of SecYs that
stand alone. -/

namespace Sys2Proof.Machine

def bodySecySet : Body := fun n _ w s =>
  match chkSecySet n w s with
  | some r => (s, some r)
  | none => (appSecySet w s, some (okRes 0))

def bodySecyDelete : Body := fun n _ w s =>
  match chkSecyDelete n w s with
  | some r => (s, some r)
  | none => (appSecyDelete w s, some (okRes 0))

/-! ### Object records (R118 to R120) -/

/-- The association words for AN 0 to 3 of a channel. -/
def anWords (s : State) (rx : Bool) (ch : Nat) : List Word :=
  (List.range 4).map fun an => match chanAssoc s rx ch an with
    | some sa => mkW (sa + 2 ^ 13)
    | none => 0

def secyRecord (s : State) (i : Nat) : List Word :=
  let y := secy s i
  let enc := ((liveAssocs s).find? fun p => !p.2.rx && p.2.channel == i && p.2.state == .inUse).map fun p => p.2.an
  [mkW (i + 2 ^ 9), y.settings, wLo y.window, wHi y.window] ++ words64 y.sci
    ++ [mkW (enc.getD 0 + b2n enc.isSome * 2 ^ 2 + (secyRxscs s i).length * 2 ^ 8)] ++ anWords s false i

def rxscRecord (s : State) (i : Nat) : List Word :=
  let c := rxsc s i
  [mkW (i + 2 ^ 12 + b2n c.fwdOnly * 2 ^ 13 + b2n c.enable * 2 ^ 14 + b2n c.idle * 2 ^ 15),
   mkW (c.secy + secyPort (secy s c.secy) * 2 ^ 9)] ++ words64 c.sci ++ anWords s true i

def aStateCode : AState → Nat
  | .free => 0
  | .installed => 1
  | .inUse => 2
  | .exhausted => 3

def assocRecord (s : State) (i : Nat) : List Word :=
  let a := assoc s i
  let xpn := suiteXpn (secySuite (secy s (assocSecy s a)))
  [mkW (i + 2 ^ 13 + b2n a.rx * 2 ^ 14 + a.an * 2 ^ 15 + aStateCode a.state * 2 ^ 17 + b2n xpn * 2 ^ 19),
   mkW (a.channel + assocPort s a * 2 ^ 12), mkW a.kref, mkW a.label] ++ words64 a.nextPn
    ++ words64 (if a.rx then a.lowestPn else a.leaseEnd) ++ words64 (if a.rx then 0 else a.threshPn)
    ++ [mkW a.ssci, mkW (a.ssci / 2 ^ 24 % 2 ^ 8 + b2n a.scheduled * 2 ^ 8 + b2n a.mirrored * 2 ^ 9 + b2n a.best * 2 ^ 10
        + b2n a.cut * 2 ^ 11 + b2n a.threshSent * 2 ^ 12),
      mkW (a.belfry.getD 0 + b2n a.belfry.isSome * 2 ^ 9)]

/-- Does an object of type `ty` exist, with a port that ring `n` may see (R47)? -/
def recordSeen (s : State) (n ty i : Nat) : Bool :=
  match ty with
  | 0 => (secy s i).valid && portOk s n (secyPort (secy s i))
  | 1 => (rxsc s i).valid && portOk s n (secyPort (secy s (rxsc s i).secy))
  | _ => (assoc s i).state != .free && portOk s n (assocPort s (assoc s i))

def ltRecord (s : State) (n ty i : Nat) : List Word :=
  let len := match ty with | 0 => 12 | 1 => 9 | _ => 16
  if recordSeen s n ty i then
    match ty with
    | 0 => secyRecord s i
    | 1 => rxscRecord s i
    | _ => assocRecord s i
  else List.replicate len 0

def bodyLtRead : Body := fun n _ w s =>
  writeSnap (join48 (wAt w 5) (wAt w 6)) (ltRecord s n (fld (wAt w 4) 0 2) (fld (wAt w 2) 0 13)) s

/-! ### Counter records (R122, R166, R216) -/

/-- A header and `n` counters; the record of an object that is absent, or that the ring may not see, is zero throughout (R47, R121). -/
def cntRecord (i : Nat) (valid dir : Bool) (n : Nat) (f : Nat → Nat) : List Word :=
  if valid then mkW (i + 2 ^ 16 + b2n dir * 2 ^ 17) :: (List.range n).flatMap fun k => [wLo (f k), wHi (f k)]
  else List.replicate (1 + 2 * n) 0

def snapRecord (s : State) (n ty i : Nat) : List Word :=
  match ty with
  | 0 => cntRecord i (recordSeen s n 0 i) false 12 fun k => tabGet 0 (secy s i).cnt k
  | 1 => cntRecord i (recordSeen s n 0 i) false 4 fun k => tabGet 0 (secy s i).txCnt k
  | 2 => cntRecord i (recordSeen s n 1 i) false 10 fun k => tabGet 0 (rxsc s i).cnt k
  | 3 => cntRecord i (recordSeen s n 2 i) (assoc s i).rx 6 fun k => tabGet 0 (assoc s i).cnt k
  | 4 => cntRecord i (pplPortsOk s n i) false 25 fun k => tabGet 0 s.plCnt (egKey i (k + 1))
  | _ => cntRecord i (pplPortsOk s n i) false 27 fun k => tabGet 0 s.plCnt (igKey i (k + 1))

def bodyCntSnapshot : Body := fun n _ w s =>
  let ty := fld (wAt w 4) 0 3
  let first := fld (wAt w 2) 0 13
  writeSnap (join48 (wAt w 6) (wAt w 7)) ((List.range (fld (wAt w 5) 0 14)).flatMap fun k => snapRecord s n ty (first + k)) s

end Sys2Proof.Machine
end

