-- ==== Sys2Proof/Machine/Group.lean ====
section
/-! DEFINITION. Sys2Proof/Machine/Group.lean: commit groups: staging and the commit point (R57 to R66). -/

namespace Sys2Proof.Machine

/-! ### What a member checks, holds and does -/

/-- The execution checks of a groupable command. -/
def memberChk (n : Nat) (w : List Word) (s : State) : Option Res :=
  match wOp w with
  | 0x10 => chkSecySet n w s
  | 0x11 => chkSecyDelete n w s
  | 0x12 => chkRxscSet n w s
  | 0x13 => chkRxscDelete n w s
  | 0x16 => chkInstall n w s
  | 0x17 => chkSwitch n w s
  | 0x18 => chkRetire n w s
  | 0x19 => chkAdjust n w s
  | 0x1B => chkTreeSwitch n w s
  | 0x1E => chkSltRebuild n w s
  | _ => chkCalSwitch n w s

/-- The effect of a member; `plan` is what an install, or a record that the partner has not confirmed, was staged with. -/
def memberApp (plan : Option Assoc) (w : List Word) (s : State) : State × Res :=
  match wOp w with
  | 0x10 => (appSecySet w s, okRes 0)
  | 0x11 => (appSecyDelete w s, okRes 0)
  | 0x12 => appRxscSet w s
  | 0x13 => (appRxscDelete w s, okRes 0)
  | 0x16 =>
    let p := plan.getD (installPlan w s)
    (appInstall w p s, installRes p)
  | 0x17 => (appSwitch w s, okRes 0)
  | 0x18 => (appRetire w s, okRes 0)
  | 0x19 =>
    let sa := fld (wAt w 2) 0 13
    let s := match plan.bind Assoc.req with
      | some q => adjustLost q.cause q.endPn w s
      | none => appAdjust w s
    (s, pnRes (assoc s sa).nextPn)
  | 0x1B => (appTreeSwitch w s, okRes 0)
  | 0x1E => (appSltRebuild w s, okRes 0)
  | _ => (appCalSwitch w s, calSwitchRes w s)

/-- The pair of a receive channel that a member names. -/
def chanPair (s : State) (i : Nat) : Obj := .pair (secyPort (secy s (rxsc s i).secy)) (rxsc s i).sci

/-- What a member reserves for creation, and the objects it holds (R60). `s` is the state that it is staged against. -/
def memberObjs (w : List Word) (s : State) : List Obj × List Obj :=
  match wOp w with
  | 0x10 =>
    let i := fld (wAt w 2) 0 9
    let port := fld (wAt w 4) 0 5
    let other := if flag (wAt w 4) 20 then (match defaultSecy s port with | some j => [Obj.secy j] | none => []) else []
    (if flag (wAt w 4) 5 then [.secy i, .secyOn port i] else [], .secy i :: other)
  | 0x11 => ([], [.secy (fld (wAt w 2) 0 9)])
  | 0x12 =>
    let i := rsIdx w
    if rsCreate w then
      ([.rxsc i, .pair (secyPort (secy s (rsSecy w))) (w64 w 5), .dep (rsSecy w)], [.rxsc i])
    else (if rsInserts s w then [chanPair s i] else [], [.rxsc i])
  | 0x13 => ([], [.rxsc (rsIdx w)])
  | 0x16 =>
    let sa := fld (wAt w 4) 0 13
    let a := installOf w
    let y := assocSecy s a
    ([Obj.sa sa, .an a.rx a.channel a.an, .dep y, .depSa y] ++ (if a.rx then [.depCh a.channel] else [.claim (a.kref % 4096)])
      ++ (if a.cut then [.cutOn a.channel] else [])
      ++ (if a.scheduled then [.belfry sa] else []), [.sa sa])
  | 0x17 =>
    let sa := fld (wAt w 2) 0 13
    let y := (assoc s sa).channel
    ([], [Obj.sa sa, .arm y] ++ (if switchFires y w s then ((encoding s y).map Obj.sa).toList else []))
  | 0x18 =>
    let sa := fld (wAt w 2) 0 13
    let y := (assoc s sa).channel
    ([], Obj.sa sa :: (if (armedOf s y).map Armed.target = some sa then [.arm y] else []))
  | 0x19 =>
    let sa := fld (wAt w 2) 0 13
    (if flag (wAt w 4) 4 && flag (wAt w 4) 5 then [.cutOn (assoc s sa).channel] else [], [.sa sa])
  | 0x1B => ([], [.tree (fld (wAt w 2) 0 2)])
  | 0x1E => ([], [.shadow (fld (wAt w 2) 0 2)])
  | _ => ([], [.cal (fld (wAt w 2) 0 5)])

/-! ### Staging (R60) -/

/-- What staging has gathered: the state as it stands with the SLT ways kept, the state with the earlier members' effects, the
reservations, the pipelines rebuilt, and the lease records: association, its plan, its end, whether an install's. -/
structure Stage where
  real : State
  work : State
  creates : List Obj := []
  holds : List Obj := []
  rebuilt : List Nat := []
  leases : List (Nat × Assoc × Nat × Bool) := []

/-- Keep room in the SLT for an RXSC_SET: in the shadow when a rebuild of its pipeline goes before (R193, R200). The state has the ways kept
with room, and IG_SLT_NO_ROOM raised without (R188). -/
def stageRoom (w : List Word) (g : Stage) : State × Bool :=
  let c := rxscOf w (rxsc g.work (rsIdx w))
  let port := secyPort (secy g.work c.secy)
  let k := pplOf port
  let e : SltEnt := { port, sci := c.sci, st := .reserved, rxsc := rsIdx w }
  let (s, r) := if g.rebuilt.contains k then shadowPlace k e g.real else sltPlace k false e g.real
  (s, r = 0)

/-- The lease that a member records: association, the association it will leave, the lease's end, whether it is an install. -/
def memberLease (w : List Word) (s : State) : Option (Nat × Assoc × Nat × Bool) :=
  match wOp w with
  | 0x16 =>
    let p := installPlan w s
    if p.rx then none else some (fld (wAt w 4) 0 13, p, p.leaseEnd, true)
  | 0x19 =>
    let sa := fld (wAt w 2) 0 13
    let a := assoc s sa
    (adjustRecord w (assocTop s a) a).map fun e => (sa, adjustOf w (assocTop s a) a, e, false)
  | _ => none

/-- The first failing check of a member: admission, domains, execution (R46, R60). -/
def stageChk (n : Nat) (w : List Word) (s : State) : Option Res :=
  match admitLate s n w with
  | some r => some r
  | none => if needsUnmet s (wOp w) then some (failRes .capacity 1) else memberChk n w s

/-- The answer of a member that fails staging, with the state that its failing leaves. -/
abbrev StageErr := Res × State

/-- Stage one member against the state with the earlier members' effects. -/
def stageMember (n : Nat) (w : List Word) (g : Stage) : Except StageErr Stage :=
  match stageChk n w g.work with
  | some r => .error (r, g.real)
  | none =>
    let (c, h) := memberObjs w g.work
    let lease := memberLease w g.work
    let mk := match lease with
      | some (sa, p, e, _) => writeMark p.channel p.an sa e g.work
      | none => g.work
    let g' := { g with work := (memberApp none w mk).1, creates := g.creates ++ c, holds := g.holds ++ h,
                       leases := g.leases ++ lease.toList,
                       rebuilt := if wOp w = 0x1E then fld (wAt w 2) 0 2 :: g.rebuilt else g.rebuilt }
    if wOp w = 0x12 && rsInserts g.work w then
      match stageRoom w g with
      | (s, true) => .ok { g' with real := s }
      | (s, false) => .error (sltRes, s)
    else .ok g'

/-- Stage members in turn, the first of them being member `k` of the group: the first that fails, with its place. -/
def stageAll (n : Nat) : Nat → List Ent → Stage → Except (Nat × StageErr) Stage
  | _, [], g => .ok g
  | k, e :: r, g =>
    match stageMember n e.words g with
    | .error x => .error (k, x)
    | .ok g => stageAll n (k + 1) r g

/-- The order number of a ring's ended group. -/
def endOrder (s : State) (n : Nat) : Option Nat := match (ring s n).grp with | .ended o => some o | _ => none

/-- May ring `n`'s group start under ring order, FENCE and BARRIER (R60)? It does not wait for earlier descriptors without a state effect. -/
def groupReady (s : State) (n : Nat) : Bool :=
  (endOrder s n).isSome && match members (ring s n) with
  | e :: _ => mayBegin withoutEffect s n e && !(s.pwr.restoring && (members (ring s n)).any fun m => needsPipe (wOp m.words))
  | [] => false

/-- Is another ring's group ready whose END was fetched earlier? -/
def otherFirst (s : State) (n : Nat) : Bool :=
  match endOrder s n with
  | none => false
  | some o => (List.range 64).any fun m => m != n && groupReady s m && (match endOrder s m with | some p => p < o | none => false)

/-- Does a member record a lease of association `sa`? -/
def namesLease (sa : Nat) (e : Ent) : Bool :=
  (wOp e.words = 0x16 && fld (wAt e.words 4) 0 13 = sa) || (wOp e.words = 0x19 && fld (wAt e.words 2) 0 13 = sa)

/-- The place in the group of the latest member that names an association's lease. -/
def leaseIdx (ms : List Ent) (sa : Nat) : Nat := (findIdxFrom (namesLease sa) 0 ms.reverse).elim 0 fun p => ms.length - 1 - p.1

/-- Record a staged lease: the AON's at once; a mirrored one goes to the partner, or is answered at once when its first hop is
down (R262, R270). -/
def stageLease (n : Nat) (ms : List Ent) (l : Nat × Assoc × Nat × Bool) (s : State) : State :=
  let (sa, p, e, install) := l
  if (ring s n).grp ≠ .staged then s
  else if !p.mirrored then recordLease sa p e s
  else
    let s := recordLease sa p e s
    let prior := tabGet none s.mirrorOps sa
    let plan := match prior with | some o => o.plan | none => p
    let inst := match prior with | some o => !o.adjust | none => install
    let s := setMirrorOp sa (some { ring := n, idx := leaseIdx ms sa, staged := true, adjust := !inst, plan, endPn := e, since := s.clock }) s
    if mirrorLinkUp s p.partner then s else mirrorAnswer sa (some 1) s

/-- COMMIT_GROUP_STAGING of ring `n`. A group that enters staging in the alarm clock does not apply: every member completes with ALARM
(R65). -/
def commitGroupStaging (n : Nat) (s : State) : State :=
  if domOn s dHOST && s.pwr.state = .run && s.groupStaged.isNone && groupReady s n && !otherFirst s n then
    let ms := members (ring s n)
    if alarmNow s then closeGroup n (fun _ => compNow s (failRes .alarm 0)) s
    else match stageAll n 0 ms { real := s, work := s } with
    | .error (k, r, t) => groupFail n k r t
    | .ok g =>
      let waits := (g.leases.filter fun l => l.2.1.mirrored).map fun l => l.1
      let plans := (g.leases.filter fun l => l.2.2.2).map fun l => (l.1, l.2.1)
      let s := { g.real with groupStaged := some { ring := n, creates := g.creates, holds := g.holds, plans, waits } }
      let s := modRing n (fun r => { r with grp := .staged }) s
      g.leases.foldl (fun s l => stageLease n ms l s) s
  else s

/-! ### The commit point (R57, R62) -/

/-- The association that a member names in an install or adjust. -/
def memberSa (w : List Word) : Nat := if wOp w = 0x16 then fld (wAt w 4) 0 13 else fld (wAt w 2) 0 13

/-- The oldest member of ring `n`'s group without a completion gets one. -/
def finishMember (n : Nat) (r : Res) (s : State) : State :=
  modRing n (fun q => { q with window := modFirst (fun e => e.member && e.isOpen) (entDone (compNow s r)) q.window }) s

/-- Apply the members in SQ order; each gets its completion. -/
def commitMembers (n : Nat) (g : Staged) : List Ent → State → State
  | [], s => s
  | e :: r, s =>
    let plan := (g.plans.find? fun p => p.1 == memberSa e.words).map Prod.snd
    let plan := if wOp e.words = 0x19 then plan.bind (fun p => if p.mirrorLost then some p else none) else plan
    let (s, x) := memberApp plan e.words s
    commitMembers n g r (finishMember n x s)

/-- COMMIT_POINT of ring `n`: every member at once, with the same TIME. -/
def commitPoint (n : Nat) (s : State) : State :=
  match s.groupStaged with
  | some g =>
    if g.ring = n && g.waits.isEmpty && s.pwr.state = .run then
      let ms := members (ring s n)
      let s := commitMembers n g ms (modRing n (fun r => { r with grp := .none }) { s with groupStaged := none })
      reserveMembers n (dropReserved s)
    else s
  | none => s

/-- A tamper response ends a staged group: every member completes with ALARM (R65). -/
def groupAlarm (s : State) : State :=
  match s.groupStaged with
  | some g =>
    closeGroup g.ring (fun _ => compNow s (failRes .alarm 0)) s
  | none => s

end Sys2Proof.Machine
end

