-- ==== Sys2Proof/Machine/EventRows.lean ====
section
/-! DEFINITION. Sys2Proof/Machine/EventRows.lean: the event rings (R78 to R80, R531), the pending bits and forced events (R532 to
R535), and the AON event log (R466 to R472). -/

namespace Sys2Proof.Machine

/-! ### Event rings (R78 to R80, R531) -/

/-- The four words of an event entry (R79). -/
def evWords (phase : Bool) (e : EvEntry) : List Word :=
  [mkW (e.ev.src + b2n phase * 2 ^ 8 + e.ev.sev * 2 ^ 9 + b2n e.notime * 2 ^ 11 + e.ev.inst * 2 ^ 16), mkW e.ev.detail,
   mkW e.time, mkW (e.time / 2 ^ 24 % 2 ^ 8 + e.seq * 2 ^ 8)]

/-- The base address of event ring `m`. -/
def evBase (s : State) (m : Nat) : Nat := join48 (rget s (rEVT_RING_BASE_LO m)) (rget s (rEVT_RING_BASE_HI m))

/-- Write an entry at TAIL; host memory's error loses it (R531). Was it written? -/
def evPut (m : Nat) (e : EvEntry) (s : State) : State × Bool :=
  let r := evRing s m
  match writeEntry (evBase s m + 12 * r.tail) (evWords r.phase e) s with
  | (s, false) => (evLose m s, false)
  | (s, true) =>
    let t := (r.tail + 1) % 2 ^ r.log2
    (setEvRing m { evRing s m with tail := t, phase := if t = 0 then !r.phase else r.phase } s, true)

/-- Report the entries that ring `m` lost: one HR_EVR_OVERFLOW entry there, and source 10 as usual elsewhere (R80). Where host memory refuses
that entry too, the losses stay unreported and the entry counts as one more (DESIGN CHOICE, assumption log 58). -/
def evReport (m : Nat) (s : State) : State :=
  let r := evRing s m
  let ev : Event := { src := 10, inst := m, detail := r.lost, sev := sevOf 10, skip := some m }
  let e : EvEntry := { ev, time := stamp s, notime := !domOn s dTIME, seq := r.seq }
  match evPut m e { setEvRing m { r with seq := (r.seq + 1) % 2 ^ 16 } s with raised := s.raised ++ [ev] } with
  | (s, true) => setEvRing m { evRing s m with lost := 0 } s
  | (s, false) => s

/-- EVENT_RING_WRITE: the report of a loss once the ring has space, else the oldest queued entry (R80, R531). An entry that was queued before
the ring became full waits for space (DESIGN CHOICE, assumption log 58). -/
def eventRingWrite (m : Nat) (s : State) : State :=
  let r := evRing s m
  if domOn s dHOST && r.enable && !evFull r then
    if 0 < r.lost then evReport m s
    else match r.queue with
      | [] => s
      | e :: rest => (evPut m e (setEvRing m { r with queue := rest } s)).1
  else s

/-- Write every queued entry of ring `m`, before the PD_HOST switch opens (R531). -/
def evFlush : Nat → Nat → State → State
  | 0, _, s => s
  | k + 1, m, s => if (evRing s m).queue.isEmpty then s else evFlush k m (eventRingWrite m s)

def evFlushAll (s : State) : State := (List.range 8).foldl (fun s m => evFlush 256 m s) s

/-- EVT_RING_ENABLE: a write of EVT_RINGm_CTRL (R78). Disabling drops the queue and the losses not yet reported (DESIGN CHOICE, assumption
log 43). -/
def evtRingCtrl (m : Nat) (v : Word) (s : State) : State :=
  let r := evRing s m
  if !domOn s dHOST then s
  else if r.enable then
    if flag v 0 then s else setEvRing m { r with enable := false, queue := [], lost := 0 } s
  else
    let log2 := fld v 8 4
    let r := { r with log2 }
    if !flag v 0 then setEvRing m r s
    else if log2 < 4 || 12 < log2 || evBase s m % 2 ^ (log2 + 4) ≠ 0 then setEvRing m { r with cfgErr := true } s
    else setEvRing m { enable := true, log2 } s

/-- EVT_RING_HEAD: host software returns entries (R80). -/
def evtRingHead (m : Nat) (v : Word) (s : State) : State :=
  if domOn s dHOST then setEvRing m { evRing s m with head := fld v 0 12 } s else s

/-- EVT_PEND_CLEAR: a W1C write of EVT_PENDb (R532, R533). -/
def evtPendClear (b : Nat) (v : Word) (s : State) : State :=
  if domOn s dHOST then rset (rEVT_PEND b) (rget s (rEVT_PEND b) &&& ~~~v) s else s

/-- EVT_FORCE: raise the named sources, while debug is open (R525, R535). No 1 ms limit applies or starts. -/
def evtForce (b : Nat) (v : Word) (s : State) : State :=
  if domOn s dHOST && dbgOpen s then
    let l := (List.range 24).filter fun i => flag v i && isSource (24 * b + i)
    { s with raised := s.raised ++ l.map fun i => { src := 24 * b + i, inst := 0, detail := 0xFFFFFF, sev := sevOf (24 * b + i) } }
  else s

/-! ### The AON event log (R466 to R472) -/

/-- LOG_WRITE: the oldest queued event goes into the log; LG_THRESH when LOG_UNREAD reaches THRESH. -/
def logWrite (s : State) : State :=
  match s.log.queue with
  | [] => s
  | e :: rest =>
    let g := s.log
    let next := (g.next + 1) % 1024
    let unread := min 1024 (g.unread + 1)
    let thresh := rfld s rLOG_CTRL 0 11
    let hit := thresh ≠ 0 && thresh ≤ unread && !g.threshed
    let s := { s with log := { g with next, wrapped := g.wrapped || next == 0, total := (g.total + 1) % 2 ^ 24, unread
                                      threshed := g.threshed || hit, entries := tabPut {} g.entries g.next e
                                      queue := rest } }
    if hit then raise 116 0 unread s else s

/-- The four words of log entry `i`, with PAR_ERR where it fails parity on readout (R467). -/
def logWords (s : State) (i : Nat) : List Word :=
  let e := tabGet {} s.log.entries (i % 1024)
  [if e.bad then e.w0 ||| 0x800 else e.w0, e.w1, e.w2, e.w3]

/-- LOG_RD_IDX: latch the words of an entry (R470). -/
def logRdIdx (v : Word) (s : State) : State :=
  let i := fld v 0 10
  let s := rset rLOG_RD_IDX (mkW i) s
  (List.range 4).foldl (fun s k => rset (rLOG_RD_W k) (wAt (logWords s i) k) s) s

/-- LOG_CTRL_ACK: LOG_UNREAD becomes 0 and LG_THRESH is rearmed (R472). -/
def logCtrlAck (s : State) : State := { s with log := { s.log with unread := 0, threshed := false } }

/-- LOG_DUMP (R471). -/
def bodyLogDump : Body := fun _ _ w s =>
  let first := fld (wAt w 4) 0 10
  let count := fld (wAt w 4) 10 11
  let ext := s.log.next + b2n s.log.wrapped * 2 ^ 10
  match memWriteWords (join48 (wAt w 5) (wAt w 6)) ((List.range count).flatMap fun k => logWords s (first + k)) s with
  | (s, true) => (s, some (okRes (12 * count) ext))
  | (s, false) => (s, some hostMemRes)

end Sys2Proof.Machine
end

