-- ==== Sys2Proof/Machine/Tamper.lean ====
section
/-! DEFINITION. Sys2Proof/Machine/Tamper.lean: the tamper loops and sensors (R448 to R453) and the response to a detection in the alarm
clock (R456 to R460). Detections themselves are in Machine/Detect.lean. -/

namespace Sys2Proof.Machine

/-! ### Loops (R448 to R451) -/

/-- One step of the pattern sequence s(n) = s(n-1) xor s(n-15); bit 0 is the newest of 15 bits. -/
def patStep (p : Nat) : Nat := (p * 2 + b2n (p.testBit 0 != p.testBit 14)) % 2 ^ 15

def patSteps : Nat → Nat → Nat
  | 0, p => p
  | n + 1, p => patSteps n (patStep p)

/-- The 16 bits that a window drives at a phase offset, from the pattern's state at its start; bit i is that of tick i (R449). -/
def windowBits (offset p : Nat) : Nat :=
  (List.range 16).foldl (fun m i => if (patSteps (offset + i + 1) p).testBit 0 then m + 2 ^ i else m) 0

/-- The DRV bits of loop `k` in the window that runs: phase offset 8,192 × k (R449). -/
def loopDrv (s : State) (k : Nat) : BitVec 16 := BitVec.ofNat 16 (windowBits (8192 * k) s.tmp.pattern)

/-- The SNS samples of R449: where the wiring holds the pad (`held`) its level, elsewhere the weak pull, the complement of the DRV bit. -/
def pulled (drv held level : BitVec 16) : BitVec 16 := (level &&& held) ||| (~~~drv &&& ~~~held)

/-- The generator passes a window boundary: 16 ticks, or a new seed from the Dome DRBG, never 0 (R449). -/
def patWindow (s : State) : State :=
  let s := { s with tmp := { s.tmp with windows := s.tmp.windows + 1, prevPattern := s.tmp.pattern } }
  if s.tmp.reseed && domOn s dDOME && s.dome.drbgOk then
    let (s, l) := drbgGen false 2 s
    let seed := ofBytesLE l % 2 ^ 15
    { s with tmp := { s.tmp with pattern := if seed = 0 then 1 else seed, reseed := false } }
  else { s with tmp := { s.tmp with pattern := patSteps 16 s.tmp.pattern } }

def loopOn (s : State) (k : Nat) : Bool := rflag s rTMP_CTRL k

/-- The class of a window and, when SWAPPED, the peer (R450). -/
def windowClass (s : State) (drv : Nat → BitVec 16) (k : Nat) (sns : BitVec 16) : Nat × Nat :=
  if sns = drv k then (0, 0)
  else if sns = ~~~drv k then (1, 0)
  else if sns = 0 then (2, 0)
  else if sns = ~~~(0 : BitVec 16) then (3, 0)
  else match ([0, 1, 2, 3].find? fun j => j != k && loopOn s j && sns == drv j) with
    | some j => (4, j)
    | none => (5, 0)

def setLoop (k : Nat) (v : Loop) (s : State) : State := { s with tmp := { s.tmp with loops := tabPut {} s.tmp.loops k v } }

/-- Show a loop's class in TMP_STATUS, its peer in TMP_LOOP_PEER. -/
def showClass (k cls peer : Nat) (s : State) : State :=
  let s := rsetFld rTMP_STATUS (3 * k) 3 cls s
  if cls = 4 then rsetFld rTMP_LOOP_PEER (2 * k) 2 peer s else s

/-- A disabled loop is not sampled: class DISABLED, no fault. -/
def loopOff (k : Nat) (s : State) : State := showClass k 6 0 (setLoop k {} s)

/-- One loop's window ends (R451); the answer says whether the loop detects. -/
def loopStep (drv sns : Nat → BitVec 16) (k : Nat) (s : State) : State × Bool :=
  if !loopOn s k then (loopOff k s, false)
  else
    let (cls, peer) := windowClass s drv k (sns k)
    let v : Loop := tabGet {} s.tmp.loops k
    let d := rfld s rTMP_DEBOUNCE 0 4
    let s := showClass k cls peer s
    let note := cls + (if cls = 4 then peer * 2 ^ 4 else 0)
    if cls = 0 then
      if v.fault && d ≤ v.good + 1 then (raise 111 k 0 (setLoop k {} s), false)
      else (setLoop k (if v.fault then { v with good := v.good + 1 } else {}) s, false)
    else if v.fault then
      let s := if cls = v.cls then s else raise 110 k note s
      (setLoop k { v with cls, good := 0 } s, false)
    else if d ≤ v.bad + 1 then (raise 110 k note (setLoop k { fault := true, cls } s), true)
    else (setLoop k { v with bad := v.bad + 1, good := 0 } s, false)

/-- Have the 16 ticks of the next window passed (R450)? -/
def windowDue (s : State) : Bool := 16 * (s.tmp.windows + 1) ≤ aonTicks s

/-- LOOP_WINDOW_END: every loop's window is classified by its SNS samples; the loops that enter fault detect together (R450, R451, R454). -/
def loopWindowEnd (sns : Nat → BitVec 16) (s : State) : State :=
  let step (a : State × List Nat) (k : Nat) : State × List Nat :=
    let (t, hit) := loopStep (loopDrv s) sns k a.1
    (t, if hit then a.2 ++ [k] else a.2)
  if windowDue s then
    let (t, hits) := [0, 1, 2, 3].foldl step (patWindow s, [])
    if hits.isEmpty then t else detect hits t
  else s

/-! ### Internal sensors (R453) -/

/-- The shield's latest evaluation is that of tick 4 × `shieldTick`. -/
def shieldTick (s : State) : Nat := aonTicks s / 4

/-- Is an evaluation due (R453)? Its 16 samples lie in the window that runs and the one before. -/
def shieldDue (s : State) : Bool :=
  s.tmp.shieldAt < shieldTick s && 16 * s.tmp.windows ≤ 4 * shieldTick s && 4 * shieldTick s ≤ 16 * (s.tmp.windows + 1)

/-- What drove the mesh at the latest 16 samples: phase offset 4,096 (R453). -/
def shieldDrv (s : State) : BitVec 16 :=
  BitVec.ofNat 16 ((windowBits 4096 s.tmp.prevPattern + windowBits 4096 s.tmp.pattern * 2 ^ 16) / 2 ^ (4 * shieldTick s - 16 * s.tmp.windows))

/-- SHIELD_EVALUATE: the class of the latest 16 samples, INTACT or not; no debounce. -/
def shieldEvaluate (sns : BitVec 16) (s : State) : State :=
  if shieldDue s then
    let bad := sns != shieldDrv s
    let was := s.tmp.shieldFault
    let s := rsetFld rTMP_STATUS 12 1 (b2n bad) { s with tmp := { s.tmp with shieldFault := bad, shieldAt := shieldTick s } }
    if bad && !was then sensorDetect 4 0 s
    else if was && !bad then raise 113 4 0 s
    else s
  else s

/-- Does CK_DOME run? It runs in IDLE too (R476). -/
def domeClock (s : State) : Bool := domOn s dDOME

/-- CLOCK_GLITCH: a glitch or a frequency error of CK_DOME. -/
def clockGlitch (freq : Bool) (s : State) : State :=
  if domeClock s then
    sensorDetect 5 (if freq then 2 else 1)
      (rsetFld rTMP_STATUS 13 1 1 { s with tmp := { s.tmp with clockFault := true, clockAt := s.clock } })
  else s

/-- CLOCK_FAULT_CLEAR: 1 µs after the last error. -/
def clockFaultClear (s : State) : State :=
  if s.tmp.clockFault && s.tmp.clockAt + usClocks ≤ s.clock then
    raise 113 5 0 (rsetFld rTMP_STATUS 13 1 0 { s with tmp := { s.tmp with clockFault := false } })
  else s

/-- The clocks between temperature samples: 1 ms while CK_SYS runs, 1 s otherwise (R453). -/
def tempPeriod (s : State) : Nat := if s.pwr.ckOk.testBit 0 then 1000 * usClocks else 1000000 * usClocks

/-- TEMPERATURE_SAMPLE: a sample that is due. -/
def temperatureSample (code : Nat) (s : State) : State :=
  if s.tmp.tempAt ≤ s.clock then tempStep code { s with tmp := { s.tmp with tempAt := s.clock + tempPeriod s } } else s
where
 /-- Compare a sample with the limits, after debounce. -/
 tempStep (code : Nat) (s : State) : State :=
  let low := rfld s rTMP_TEMP_LIMIT 0 8
  let high := rfld s rTMP_TEMP_LIMIT 8 8
  let d := rfld s rTMP_DEBOUNCE 4 4
  let t := s.tmp
  let s := rset rTMP_TEMP (mkW (code + 2 ^ 8)) s
  if t.tempFault then
    if low + 5 ≤ code && code + 5 ≤ high then
      if d ≤ t.tempGood + 1 then
        raise 113 6 0 (rsetFld rTMP_STATUS 14 1 0 { s with tmp := { t with tempFault := false, tempBad := 0, tempGood := 0 } })
      else { s with tmp := { t with tempGood := t.tempGood + 1 } }
    else { s with tmp := { t with tempGood := 0 } }
  else if code < low || high < code then
    if d ≤ t.tempBad + 1 then
      sensorDetect 6 code (rsetFld rTMP_STATUS 14 1 1 { s with tmp := { t with tempFault := true, tempBad := 0, tempGood := 0 } })
    else { s with tmp := { t with tempBad := t.tempBad + 1 } }
  else { s with tmp := { t with tempBad := 0 } }

/-! ### The response (R456 to R460, R462) -/

/-- Egress frames whose cipher work is not complete end as AlarmDrop (R157). -/
def egAlarm (s : State) : State :=
  (egList s).foldl (fun s p => if p.2.act = .protect && p.2.st != .whole then egEnd p.1 17 p.2 s else s) s

/-- Every ingress frame not fully released ends as AlarmDrop at once, a started CUT frame with pa_abort_o (R209, R212). -/
def igAlarm (s : State) : State := (igList s).foldl (fun s p => igEnd p.1 23 p.2 s) s

/-- Host jobs in progress end with ALARM (R246). -/
def jobAlarm (s : State) : State :=
  s.items.foldl (fun s p => match p.2 with
    | some { kind := .job n i, .. } => jobEnd p.1 n i (failRes .alarm 0) s
    | _ => s) s

/-- Is a running descriptor one of the Dome's operations that a response ends (R299, R347, R437, R457)? -/
def domeOp (op : Nat) : Bool := (0x20 ≤ op && op ≤ 0x2D) || op == 0x53

/-- Dome operations in progress complete with ALARM, SPL_KEY_SEND among them. -/
def domeOpsAlarm (s : State) : State :=
  let s := { s with spl := { s.spl with tags := tabMap .free (fun _ t => match t with | .used .key _ _ _ _ _ => .free | t => t) s.spl.tags
                                        nonces := s.spl.nonces.map fun o => { o with alarm := true } } }
  (List.range 64).foldl (fun s n => (ring s n).window.foldl (fun s e =>
    if e.st = .running && domeOp (entOpcode e) then finish n e.idx (failRes .alarm 0) s else s) s) s

/-- The Dome's state after a response of a level: ALARMED when the latch is set (R457, R458). -/
def alarmDome (level : Nat) (s : State) : State :=
  let s := if level = 2 then rsetFld rTMP_LATCH 0 1 1 s else s
  setDomeSt (if alarmLatch s then .alarmed else .cold) s

/-- TAMPER_RESPONSE: the alarm clock. During an erasure a higher level only raises the response (R459). -/
def tamperResponse (s : State) : State :=
  let t := s.tmp
  if t.pendMask = 0 || !domOn s dDOME || s.pwr.state = .idle then s
  else
    let level := t.pendLevel
    let s := { s with tmp := { t with pendMask := 0, pendLevel := 0, alarmAt := if t.erasing then t.alarmAt else some s.clock } }
    if t.erasing then
      if t.eraseLevel < level then
        alarmDome level (noteResponse t.pendMask level { s with tmp := { s.tmp with eraseLevel := level } })
      else s
    else
      let s := { s with tmp := { s.tmp with erasing := true, eraseLevel := level }, dome := { s.dome with commit := none },
                        pwr := { s.pwr with ctxKey := none } }
      let s := bumpRetcnt (rsetFld rTMP_LATCH 1 1 1 (noteResponse t.pendMask level s))
      let s := domeOpsAlarm (stcAlarm (jobAlarm (igAlarm (egAlarm (groupAlarm s)))))
      alarmDome level (belfryClear (cacheDrop (fun _ => true) (emptySlots s)))

/-- TAMPER_ERASE_DONE: the cells and the scrambling key are overwritten (R457, R461). -/
def tamperEraseDone (s : State) : State :=
  if s.tmp.erasing then
    raise 114 0 (rget s rPWR_RETCNT).toNat
      { s with tmp := { s.tmp with erasing := false, eraseLevel := 0 }, dome := { s.dome with permBase := s.draws }, draws := s.draws + 1 }
  else s

end Sys2Proof.Machine
end

