-- ==== Sys2Proof/Machine/SpirePort.lean ====
section
/-! DEFINITION. Sys2Proof/Machine/SpirePort.lean: a Spire port's training, retraining and link down (R405 to R411, R431), sending
and replay (R414 to R418), what every received packet does at the link layer, forwarding (R421, R422). -/

namespace Sys2Proof.Machine

/-! ### Tags that end (R424, R425, R431) -/

/-- End a descriptor's outstanding request: its tag is freed and it completes. -/
def endTag (t : Nat) (r : Res) (s : State) : State :=
  match splTag s t with
  | .used _ n i _ _ _ => finishRun n i r (setTag t .free s)
  | _ => s

/-- Release the near bus when the locked sequence of tag `t` holds it (R429). -/
def dropHold (t : Nat) (s : State) : State :=
  match s.spl.hold with
  | some h => if h.tag = t then { s with spl := { s.spl with hold := none } } else s
  | none => s

/-- LINK_LOST (R431, R432). -/
def lostRes : Res := failRes .linkLost 0

/-! ### Link down (R410, R431) -/

/-- A packet that a port going DOWN discards. `sent`: it was in the replay buffer. -/
def discardPkt (p : Nat) (k : Pkt) (own : Option (Nat × Nat)) (fwd : Bool) (s : State) : State :=
  if fwd then refuseForward k .linkLost 0 4 s
  else if k.ty = 3 then
    let s := postedErr p k.dest k.tag (fld (wAt k.payload 0) 0 17) 4 s
    match own with
    | some (n, i) => finishRun n i lostRes (setTag k.tag .free s)
    | none => s
  else s

/-- May the port train: ENABLE, and in tree mode DA and DB only once the node has its ID (R406, R423)? -/
def mayTrain (s : State) (p : Nat) : Bool := rflag s (rSP_CTRL p) 0 && (p = 0 || nodeHasId s)

/-- Begin (or repeat) receiver detection; until `at_` its results have no effect. -/
def toDetect (p at_ : Nat) (s : State) : State :=
  modSport p (fun v => { v with step := .detect, stepAt := at_, detDone := 0, present := 0, lane0 := {}, lane1 := {}, lane2 := {},
                                lane3 := {}, rate2 := false, rateOk := false, peerWidths := 0, peerRates := 0, peerOk := 0, peerRx := 0 }) s

/-- Start training from DETECT. -/
def startTraining (p : Nat) (s : State) : State :=
  if domOn s dSPIRE && (sport s p).st = .down && mayTrain s p then
    toDetect p s.clock (modSport p (fun v => { v with st := .training }) s)
  else s

/-- A port enters DOWN with a cause (R410, R431); while it may, it trains again. -/
def linkDown (p cause : Nat) (s : State) : State :=
  let v := sport s p
  if v.st = .down then s
  else
    let s := if v.st = .active || v.st = .retrain then epochStep s else s
    let s := raise 131 p (cause + s.spl.epoch * 2 ^ 4) s
    let s := setSport p { locked := v.locked, testNext := v.testNext, testWant := v.testWant, partner := v.partner, rr := v.rr,
                          line := v.line, lineAt := v.lineAt, crcSince := v.crcSince, ovrSince := v.ovrSince } s
    let s := v.replay.foldl (fun s q => discardPkt p q.pkt none q.fwd s) s
    let s := v.queue.foldl (fun s q => discardPkt p q.pkt q.own q.from_.isSome s) s
    let s := s.spl.tags.foldl (fun s t => match t.2 with
      | .used use _ _ _ port _ => if port = p && use != .bcast then dropHold t.1 (endTag t.1 lostRes s) else s
      | _ => s) s
    startTraining p (mirrorPortDown p s)

/-! ### Retraining (R409, R410) -/

/-- An ACTIVE port retrains: the fourth time in a row without an acknowledgement, it goes DOWN. -/
def startRetrain (p cause : Nat) (s : State) : State :=
  let v := sport s p
  if v.st = .active then
    let s := rsat (rSP_ERR p) 16 8 1 s
    if 4 ≤ v.retrains + 1 then linkDown p 3 s
    else
      let keep (l : Lane) : Lane := { inv := l.inv }
      setSport p { v with st := .retrain, step := .poll, stepAt := s.clock, retrainAt := s.clock, retrainCause := cause,
                          retrains := v.retrains + 1, expiries := 0, lockLost := none, rate2 := false, rateOk := false,
                          lane0 := keep v.lane0, lane1 := keep v.lane1, lane2 := keep v.lane2, lane3 := keep v.lane3,
                          peerWidths := 0, peerRates := 0, peerOk := 0, peerRx := 0 } s
  else s

/-! ### Training sets (R405 to R407) -/

def laneOf (v : SPort) (l : Nat) : Lane := if l = 0 then v.lane0 else if l = 1 then v.lane1 else if l = 2 then v.lane2 else v.lane3
def setLane (l : Nat) (x : Lane) (v : SPort) : SPort :=
  if l = 0 then { v with lane0 := x } else if l = 1 then { v with lane1 := x } else if l = 2 then { v with lane2 := x }
  else { v with lane3 := x }

/-- The physical lanes that receive one lane number of the peer correctly, each number on one lane only (R407). -/
def goodLanes (v : SPort) : List Nat :=
  [0, 1, 2, 3].filter fun l => (laneOf v l).good && (laneOf v l).sent.isSome
    && [0, 1, 2, 3].all fun m => m == l || !(laneOf v m).good || (laneOf v m).sent != (laneOf v l).sent

/-- Number of set bits of a four-bit mask. -/
def bits4 (m : Nat) : Nat := ([0, 1, 2, 3].filter fun i => m.testBit i).length

/-- The mask of a list of lanes. -/
def laneMask (l : List Nat) : Nat := l.foldl (fun m i => m ||| 2 ^ i) 0

def maxWidth (s : State) (p : Nat) : Nat := 2 ^ rfld s (rSP_CTRL p) 1 2

/-- The width that CONFIG settles on; 0 while there is none (R407). -/
def pickWidth (s : State) (p : Nat) (v : SPort) : Nat :=
  (([4, 2, 1] : List Nat).find? fun w => w ≤ maxWidth s p && v.peerWidths.testBit (Nat.log2 w) && w ≤ (goodLanes v).length
    && w ≤ bits4 v.peerOk).getD 0

/-- The physical lane on which logical lane `k` has 16 good TS2 in a row. -/
def laneFor (v : SPort) (k : Nat) : Option Nat := [0, 1, 2, 3].find? fun l => (laneOf v l).num == some k && 16 ≤ (laneOf v l).ts2

/-- The physical lanes on which logical lanes 0 to w-1 go out: those that the peer reported, lowest first (R407). -/
def txLanes (v : SPort) (w : Nat) : List Nat := ([0, 1, 2, 3].filter fun l => v.peerOk.testBit l).take w

/-- The physical lanes of logical lanes 0 to w-1, once each has its TS2. -/
def laneMap (v : SPort) (w : Nat) : Option (List Nat) :=
  let l := (List.range w).filterMap (laneFor v)
  if l.length = w && 0 < w then some l else none

/-- Is a list of lanes strictly descending? -/
def descending : List Nat → Bool
  | a :: b :: r => b < a && descending (b :: r)
  | _ => true

/-- A tree node takes its ID when U reaches ACTIVE; its DA and DB ports may then train (R423). -/
def takeNodeId (s : State) : State :=
  let v := sport s 0
  if isTree s && !rflag s rSPL_NODE 13 && (v.peerPort = 1 || v.peerPort = 2) then
    let s := rsetFld rSPL_NODE 0 12 (2 * v.peerNode + v.peerPort) { s with spl := { s.spl with hasId := true } }
    startTraining 2 (startTraining 1 s)
  else s

/-- The port reaches ACTIVE, from DOWN or from a retrain (R406, R409, R411). -/
def toActive (p : Nat) (gen2 : Bool) (s : State) : State :=
  let v := sport s p
  let offerW := ([4, 2, 1] : List Nat).find? fun w => w ≤ maxWidth s p && w ≤ bits4 v.present
  let below := v.width < offerW.getD 0 || (rflag s (rSP_CTRL p) 3 && !gen2)
  let excluded := 15 - (laneMask (goodLanes v) &&& v.peerOk)
  let v := { v with st := .active, step := .active, gen2, rate2 := gen2, replayAt := s.clock, sentAt := s.clock, lockLost := none }
  let s :=
    if (sport s p).st = .training then
      let v := { v with txSeq := 0, rxSeq := 0, ackDue := false, queue := [], replay := [], resend := [], expiries := 0, retrains := 0,
                        crcAt := [], xoffTx := 0, xoffRx := 0, partner := some (v.peerNode, v.peerPort) }
      raise 130 p (v.width + b2n gen2 * 2 ^ 3 + v.peerNode * 2 ^ 4) (setSport p v s)
    else
      raise 132 p (v.retrainCause + v.width * 2 ^ 4 + b2n gen2 * 2 ^ 7) (setSport p { v with resend := v.replay.map fun q => q.seq } s)
  let s := if below then raise 133 p (v.width + b2n gen2 * 2 ^ 3 + excluded * 2 ^ 4) s else s
  if p = 0 then takeNodeId s else s

/-- CONFIG ends: the width and its lanes are settled; RATE or ACTIVE follows. -/
def configDone (p w : Nat) (lanes : List Nat) (s : State) : State :=
  let v := sport s p
  let v := { v with width := w, lanesOk := laneMask lanes, reversed := 1 < w && descending lanes
                    inverted := laneMask ([0, 1, 2, 3].filter fun l => (laneOf v l).inv) }
  if rflag s (rSP_CTRL p) 3 && v.peerRates.testBit 1 then
    let clear (l : Lane) : Lane := { l with ts1 := 0, ts2 := 0 }
    setSport p { v with step := .rate, stepAt := s.clock, rate2 := true, rateOk := false, lane0 := clear v.lane0,
                        lane1 := clear v.lane1, lane2 := clear v.lane2, lane3 := clear v.lane3 } s
  else toActive p false (setSport p v s)

/-- A training set's bytes: the lane is in W0, the sixteen bytes follow. -/
structure Ts where
  com : Nat
  ty : Nat
  lane : Nat
  widths : Nat
  rates : Nat
  control : Nat
  node : Nat
  port : Nat
  rxOk : Nat
  ids : List Nat
deriving DecidableEq, Repr

def parseTs (w : List Word) : Ts :=
  let b := wordsBytes (w.drop 1)
  let g (i : Nat) : Nat := (b.getD i 0).toNat
  { com := g 0, ty := g 1, lane := g 2, widths := g 3, rates := g 4, control := g 5, node := (g 6 * 256 + g 7) % 2 ^ 12, port := g 8,
    rxOk := g 9, ids := [g 10, g 11, g 12, g 13, g 14, g 15] }

/-- The ID byte of a TYPE, and its inverse. -/
def tsId (ty : Nat) (inv : Bool) : Nat := match ty, inv with | 1, false => 0x4A | 1, true => 0xB5 | _, false => 0x45 | _, true => 0xBA

/-- Is the set good at the rate in force? -/
def tsGood (v : SPort) (t : Ts) (inv : Bool) : Bool :=
  t.com == (if v.step = .rate then 0x1E else 0xBC) && (t.ty == 1 || t.ty == 2) && t.ids.all (· == tsId t.ty inv)

/-- What a good set tells of the peer, and the lane's runs. -/
def noteTs (l : Nat) (t : Ts) (v : SPort) : SPort :=
  let x := laneOf v l
  let v := { v with peerWidths := t.widths % 8, peerRates := t.rates % 4, peerNode := t.node, peerPort := t.port % 4 }
  if t.ty = 1 then
    let n := if x.sent = some t.lane || v.step = .rate then x.ts1 + 1 else 1
    if v.step = .rate then setLane l { x with ts1 := min n 64, ts2 := 0 } v
    else setLane l { x with sent := some t.lane, ts1 := min n 64, good := x.good || 64 ≤ n, ts2 := 0 } { v with peerOk := t.rxOk % 16 }
  else
    let num := if t.lane ≤ 3 then some t.lane else none
    setLane l { x with num, ts2 := if x.num = num then min (x.ts2 + 1) 16 else 1, ts1 := if v.step = .rate then x.ts1 else 0 }
      { v with peerRx := t.rxOk % 16 }

/-- TRAINING_SET_RECEIVE. -/
def trainingSetReceive (p : Nat) (w : List Word) (s : State) : State :=
  let v := sport s p
  let l := fld (wAt w 0) 0 2
  let t := parseTs w
  if !domOn s dSPIRE then s
  else if v.st = .active then
    if (t.com = (if v.gen2 then 0x1E else 0xBC)) && t.ty = 1 && t.ids.all (· == 0x4A) && t.control.testBit 0 then startRetrain p 1 s else s
  else if v.st = .down || v.step = .detect || !v.present.testBit l || (v.step = .rate && !v.rateOk) then s
  else if tsGood v t true then setSport p (setLane l { inv := !(laneOf v l).inv } v) s
  else if !tsGood v t false then
    setSport p (setLane l { laneOf v l with ts1 := 0, ts2 := 0 } v) s
  else
    let v := noteTs l t v
    let v := if v.step = .poll && !(goodLanes v).isEmpty then { v with step := .config, stepAt := s.clock } else v
    let s := setSport p v s
    match v.step with
    | .config =>
      let w := pickWidth s p v
      match laneMap v w with
      | some lanes => if w ≤ bits4 v.peerRx then configDone p w lanes s else s
      | none => s
    | .rate =>
      match laneMap v v.width with
      | some _ => toActive p true s
      | none => s
    | _ => s

/-! ### The port's own side of the lanes (R404 to R407, R516) -/

/-- The widths offered: no wider than MAX_WIDTH and the lanes present (R406). -/
def offeredWidths (s : State) (p : Nat) : Nat :=
  ([1, 2, 4] : List Nat).foldl (fun m w => if w ≤ maxWidth s p && w ≤ bits4 (sport s p).present then m + w else m) 0

/-- Does the port send TS2: in CONFIG once both sides' reports give a width, in RATE once every lane of the width has had a set at Gen2? -/
def sendsTs2 (s : State) (p : Nat) : Bool :=
  let v := sport s p
  (v.step == .config && pickWidth s p v != 0)
    || (v.step == .rate && [0, 1, 2, 3].all fun l => !v.lanesOk.testBit l || 0 < (laneOf v l).ts1 || 0 < (laneOf v l).ts2)

/-- RX_OK: the lane numbers that arrive correctly, physical ones in TS1, logical ones in TS2; POLL reports none (R406, R407). -/
def ownRxOk (s : State) (p : Nat) : Nat :=
  let v := sport s p
  if sendsTs2 s p || v.step == .rate then
    laneMask ((List.range 4).filter fun k => [0, 1, 2, 3].any fun l => (laneOf v l).num == some k && 0 < (laneOf v l).ts2)
  else if v.step == .config then laneMask ((goodLanes v).filterMap fun l => ((laneOf v l).sent).filter (· ≤ 3))
  else 0

/-- The training set that a port sends on a physical lane in its present step: none where it sends none (R405 to R407). -/
def ownTs (s : State) (p l : Nat) : Option Ts :=
  let v := sport s p
  let two := sendsTs2 s p
  let w := if v.step == .rate then v.width else pickWidth s p v
  let out := findIdxFrom (· == l) 0 (txLanes v w)
  if !(v.st == .training || v.st == .retrain) || v.step == .detect || !v.present.testBit l then none
  else if v.step == .rate && (!v.rateOk || out.isNone) then none
  else some
    { com := if v.step == .rate then 0x1E else 0xBC, ty := if two then 2 else 1
      lane := if two || v.step == .rate then (out.map Prod.fst).getD 0xFF else l
      widths := offeredWidths s p, rates := 1 + 2 * b2n (rflag s (rSP_CTRL p) 3)
      control := b2n (v.st == .retrain) + 2 * b2n (v.step == .rate || (two && rflag s (rSP_CTRL p) 3 && v.peerRates.testBit 1))
      node := ownNode s, port := p, rxOk := ownRxOk s p, ids := List.replicate 6 (tsId (if two then 2 else 1) false) }

/-- The sixteen bytes of a training set (R405). -/
def tsBytes (t : Ts) : List Byte :=
  ([t.com, t.ty, t.lane, t.widths, t.rates, t.control, t.node / 256, t.node % 256, t.port, t.rxOk] ++ t.ids).map mkB

/-- What a transmit lane carries: at Gen2 the sync header of its blocks, and symbols (R404, R515). -/
structure LaneOut where
  sync : Option (BitVec 2)
  syms : List Sym
deriving DecidableEq, Repr

/-- What a port sends on a physical lane: its training set, whose COM is K28.5 at Gen1; in ACTIVE, its share of the latest packet; idle on a
lane of the width that carries none of it; nothing on a lane that it does not use. -/
def laneOut (s : State) (p l : Nat) : LaneOut :=
  let v := sport s p
  match ownTs s p l with
  | some t =>
    match v.step with
    | .rate => { sync := some (syncHeader true), syms := (tsBytes t).map fun b => { k := false, byte := b } }
    | _ => { sync := none, syms := (tsBytes t).mapIdx fun i b => { k := i == 0, byte := b } }
  | none =>
    let sync := if v.gen2 then some (syncHeader false) else none
    match v.st, findIdxFrom (· == l) 0 (txLanes v v.width) with
    | .active, some (i, _) =>
      let x := if v.line.isEmpty then [] else laneSyms v.width v.lineAt i (packetSyms v.gen2 v.line)
      { sync, syms := if x.isEmpty then [idleSym v.gen2] else x }
    | _, _ => { sync := none, syms := [] }

/-- RECEIVER_DETECT_DONE: when every lane's detection has ended, POLL follows if any lane has a receiver. -/
def receiverDetectDone (p l : Nat) (present : Bool) (s : State) : State :=
  let v := sport s p
  if domOn s dSPIRE && (v.st = .training || v.st = .retrain) && v.step = .detect && v.stepAt ≤ s.clock then
    let v := { v with detDone := v.detDone ||| 2 ^ l, present := setBitsN v.present l 1 (b2n present) }
    if v.detDone = 15 then
      if v.present = 0 then setSport p { v with detDone := 0 } s
      else setSport p { v with step := .poll, stepAt := s.clock } s
    else setSport p v s
  else s

/-- SPL_RATE_ACK: the port's PLL runs at the requested rate (R516). -/
def splRateAck (p : Nat) (s : State) : State :=
  let v := sport s p
  if domOn s dSPIRE && (v.st = .training || v.st = .retrain) && v.step = .rate then setSport p { v with rateOk := true } s else s

/-- TRAINING_TIMEOUT: 2 ms in a step lead back to DETECT 1 ms later; 1 ms in RATE to Gen1 at the same width (R406). -/
def trainingTimeout (p : Nat) (s : State) : State :=
  let v := sport s p
  if domOn s dSPIRE && (v.st = .training || v.st = .retrain) then
    if v.step = .rate then (if v.stepAt + 1000 * usClocks ≤ s.clock then toActive p false s else s)
    else if v.stepAt + 2000 * usClocks ≤ s.clock then toDetect p (s.clock + 1000 * usClocks) s
    else s
  else s

/-! ### Lock and framing (R404, R409, R410) -/

/-- LANE_LOCK_CHANGE. -/
def laneLockChange (p locked : Nat) (s : State) : State :=
  if !domOn s dSPIRE then s
  else
    let s := modSport p (fun v => { v with locked }) s
    let v := sport s p
    let lost := v.lanesOk - (v.lanesOk &&& locked)
    if (v.st = .active || v.st = .retrain) && v.step != .rate && lost = v.lanesOk then
      let v := { v with framingLost := v.framingLost || !v.gen2 }
      setSport p (if v.lockLost.isSome then v else { v with lockLost := some s.clock }) s
    else
      let s := setSport p { v with lockLost := none } s
      if v.st = .active && lost ≠ 0 then startRetrain p 5 s else s

/-- LOCK_LOSS_TIMEOUT: 1 µs without lock on any lane. -/
def lockLossTimeout (p : Nat) (s : State) : State :=
  match (sport s p).lockLost with
  | some t => if domOn s dSPIRE && t + usClocks ≤ s.clock then linkDown p 1 s else s
  | none => s

/-- RETRAIN_TIMEOUT: 3 ms. -/
def retrainTimeout (p : Nat) (s : State) : State :=
  let v := sport s p
  if domOn s dSPIRE && v.st = .retrain && v.retrainAt + 3000 * usClocks ≤ s.clock then linkDown p 2 s else s

/-- GEN2_FRAMING_ERROR. -/
def gen2FramingError (p : Nat) (s : State) : State :=
  if domOn s dSPIRE && (sport s p).gen2 then startRetrain p 3 s else s

/-- GEN1_FRAMING_RESYNC. -/
def gen1FramingResync (p : Nat) (s : State) : State :=
  if domOn s dSPIRE then modSport p (fun v => { v with framingLost := false }) s else s

/-! ### The control register's commands -/

/-- SPL_PORT_ENABLE (R406). -/
def splPortEnable (p : Nat) (s : State) : State :=
  if domOn s dSPIRE then startTraining p (rsetFld (rSP_CTRL p) 0 1 1 s) else s

/-- SPL_PORT_DISABLE (R410). -/
def splPortDisable (p : Nat) (s : State) : State :=
  if domOn s dSPIRE then linkDown p 0 (rsetFld (rSP_CTRL p) 0 1 0 s) else s

/-- SPL_RETRAIN_REQUEST (R409). -/
def splRetrainRequest (p : Nat) (s : State) : State := if domOn s dSPIRE then startRetrain p 0 s else s

/-! ### Sending (R414 to R418, R438, R442) -/

/-- Bytes of a port's replay buffer. -/
def replayBytes (v : SPort) : Nat := v.replay.foldl (fun n q => n + pktBytes q.pkt) 0

/-- Put words on the line. -/
def onLine (p : Nat) (v : SPort) (seq : Nat) (k : Pkt) (s : State) : State :=
  onStream p { v with ackDue := false, sentAt := s.clock, line := withCrc (pktWords seq (lastAccepted v) v.xoffTx k) } s

/-- The first packet of a VC in a port's queue. -/
def vcHead (v : SPort) (vc : Nat) : Option QPkt := v.queue.find? fun q => q.pkt.vc == vc

/-- May a packet of this VC start: no XOFF, and room in the replay buffer? -/
def vcReady (v : SPort) (q : QPkt) : Bool :=
  !v.xoffRx.testBit q.pkt.vc && v.replay.length < 1024 && replayBytes v + pktBytes q.pkt ≤ 32768

/-- The round-robin group in turn after VC `rr` (R418). -/
def rrOrder (rr : Nat) : List Nat :=
  let g := [2, 4, 6, 0, 1]
  g.drop (((findIdxFrom (· == rr) 0 g).map Prod.fst).getD 4 + 1) ++ g.take (((findIdxFrom (· == rr) 0 g).map Prod.fst).getD 4 + 1)

/-- The next queued packet by VC. -/
def pickPkt (v : SPort) : Option QPkt :=
  ([5, 3] ++ rrOrder v.rr ++ [7]).findSome? fun vc => match vcHead v vc with
    | some q => if vcReady v q then some q else none
    | none => none

/-- One step of the test sequence, and `n` words of it (R442). -/
def testStep (x : Nat) : Nat :=
  (x * 2 + b2n (((x.testBit 23 != x.testBit 22) != x.testBit 21) != x.testBit 16)) % 2 ^ 24

def testWords : Nat → Nat → List Word × Nat
  | 0, x => ([], x)
  | n + 1, x => ((mkW x :: (testWords n (testStep x)).1), (testWords n (testStep x)).2)

/-- A domain's time for a Spire exchange, in units of 1/256 ns. -/
def domTime (s : State) (k : Nat) : Nat := (dom s.tmu k).time / 2 ^ 24
def lcTime (s : State) : Nat := s.tmu.lc / 2 ^ 24

/-- A TIME packet as it leaves: T1 is taken for a REQ, T3 is written into a RESP (R438, R439). -/
def stampTime (k : Pkt) (s : State) : State × Pkt :=
  if k.ty ≠ 10 then (s, k)
  else
    let d := b2n (flag (wAt k.payload 0) 0)
    if k.sub = 0 then
      let q : TimeReq := { (if d = 0 then s.spl.time0 else s.spl.time1) with sent := true, t1Dom := domTime s d, t1Lc := lcTime s }
      ({ s with spl := if d = 0 then { s.spl with time0 := q } else { s.spl with time1 := q } }, k)
    else
      let t3 := domTime s d
      let f := (wAt k.payload 7).toNat % 256 + t3 % 256 * 2 ^ 8
      (s, { k with payload := k.payload.take 4 ++ words64 (t3 / 256) ++ [mkW f] })

/-- A packet leaves for the first time: it takes the next SEQ and enters the replay buffer; an SPL_WRITE completes (R414, R424, R445). -/
def sendNew (p : Nat) (q : QPkt) (s : State) : State :=
  let (s, k) := stampTime q.pkt s
  let v := sport s p
  let v := { v with txSeq := (v.txSeq + 1) % 4096, replay := v.replay ++ [{ seq := v.txSeq, pkt := k, fwd := q.from_.isSome }]
                    replayAt := if v.replay.isEmpty then s.clock else v.replayAt
                    rr := if [2, 4, 6, 0, 1].contains k.vc then k.vc else v.rr }
  let s := onLine p v ((v.txSeq + 4095) % 4096) k s
  match q.own with
  | some (n, i) => finishRun n i (okRes k.tag) (setTag k.tag .free s)
  | none => s

/-- SPL_PACKET_SEND: replays first, then the queue by VC, then TEST packets. -/
def splPacketSend (p : Nat) (s : State) : State :=
  let v := sport s p
  if !domOn s dSPIRE || v.st != .active then s
  else match v.resend with
  | seq :: rest =>
    let v := { v with resend := rest }
    match v.replay.find? fun q => q.seq == seq with
    | some q => onLine p v seq q.pkt s
    | none => setSport p v s
  | [] =>
    match pickPkt v with
    | some q => sendNew p q (setSport p { v with queue := v.queue.erase q } s)
    | none =>
      if rflag s (rSP_TEST p) 0 then
        let (l, x) := testWords 339 v.testNext
        let k := ownPkt s 7 11 0xFFE 0 0 l
        if vcReady v { pkt := k } then sendNew p { pkt := k } (setSport p { v with testNext := x } s) else s
      else s

/-- REPLAY_TIMEOUT: every unacknowledged packet is to be resent; the fourth in a row retrains (R409, R415). -/
def replayTimeout (p : Nat) (s : State) : State :=
  let v := sport s p
  if domOn s dSPIRE && v.st = .active && !v.replay.isEmpty && v.replayAt + ceilDiv (rfld s (rSP_REPLAY p) 0 16) 2 ≤ s.clock then
    let s := rsat (rSP_ERR p) 8 8 1 s
    let s := setSport p { v with resend := v.replay.map (fun q => q.seq), replayAt := s.clock, expiries := v.expiries + 1 } s
    if 4 ≤ v.expiries + 1 then startRetrain p 2 s else s
  else s

/-- ACK_TIMER: 200 ns without sending (R416). -/
def ackTimer (p : Nat) (s : State) : State :=
  let v := sport s p
  if domOn s dSPIRE && v.ackDue && v.sentAt + 100 ≤ s.clock then sendAck p s else s

/-! ### Receiving (R414, R417) -/

/-- The ACK and XOFF fields of a header with a good CRC. -/
def takeAck (p ack xoff : Nat) (s : State) : State :=
  let v := { sport s p with xoffRx := xoff }
  let oldest := match v.replay with | q :: _ => q.seq | [] => v.txSeq
  let d := (ack + 4097 - oldest) % 4096
  if v.replay.length < d then rsat (rSP_ERR p) 0 8 1 (setSport p v s)
  else if d = 0 then setSport p v s
  else
    let rep := v.replay.drop d
    setSport p { v with replay := rep, resend := v.resend.filter (fun q => rep.any fun r => r.seq == q), replayAt := s.clock
                        expiries := 0, retrains := 0 } s

/-- Does the port take packets? -/
def takesPkts (s : State) (p : Nat) : Bool := domOn s dSPIRE && (sport s p).st == .active && !(sport s p).framingLost

/-- Would the port accept the packet (R414)? -/
def acceptable (s : State) (p : Nat) (r : Rx) : Bool :=
  takesPkts s p && r.crcOk && r.pkt.ty != 0 && r.seq == (sport s p).rxSeq && rxRoom s p r.pkt

/-- Accept a packet at the link layer. -/
def accept (p : Nat) (r : Rx) (s : State) : State :=
  modSport p (fun v => { v with rxSeq := (v.rxSeq + 1) % 4096, ackDue := true }) (takeAck p r.ack r.xoff s)

/-- SP_LINK_ERR: failures and overruns since the last one (R446). -/
def linkErr (p : Nat) (s : State) : State :=
  let v := sport s p
  let t := raise 137 p (min v.crcSince 255 + min v.ovrSince 255 * 2 ^ 8) s
  if t.raised.length = s.raised.length then s else setSport p { v with crcSince := 0, ovrSince := 0 } t

/-- Saturating counters of SPL_Pp_DROP: 0 UNROUTABLE, 1 STALE, 2 OVERRUN, 3 BAD_TYPE. -/
def cntDrop (p i : Nat) (s : State) : State := rsat (rSP_DROP p) (6 * i) 6 1 s

/-- Has a packet for this node a SUB that its TYPE defines (R413)? The other TYPEs define none. -/
def subOk (k : Pkt) : Bool :=
  match k.ty with
  | 8 => k.sub ≤ 1
  | 9 => 1 ≤ k.sub && k.sub ≤ 4
  | 10 => k.sub ≤ 1
  | _ => true

/-- PACKET_DISCARD: a packet that is not accepted, or is accepted with a bad TYPE, or with a SUB for which the spec gives no effect here
(assumption log 31). Any other has its own command. -/
def packetDiscard (p : Nat) (w : List Word) (s : State) : State :=
  let r := parsePkt w
  if !takesPkts s p then s
  else if !r.crcOk then
    let v := sport s p
    let recent := v.crcAt.filter (fun t => s.clock < t + 100 * usClocks) ++ [s.clock]
    let s := rsat (rSP_ERR p) 0 8 1 (setSport p { v with crcSince := v.crcSince + 1, crcAt := if 8 ≤ recent.length then [] else recent } s)
    let s := linkErr p s
    if 8 ≤ recent.length then startRetrain p 4 s else s
  else if r.pkt.ty = 0 then s
  else
    let v := sport s p
    if r.seq ≠ v.rxSeq then
      let d := (v.rxSeq + 4096 - r.seq) % 4096
      let s := takeAck p r.ack r.xoff s
      if d ≤ 2048 then sendAck p s else s
    else if !rxRoom s p r.pkt then
      linkErr p (modSport p (fun v => { v with ovrSince := v.ovrSince + 1 }) (cntDrop p 2 (takeAck p r.ack r.xoff s)))
    else if !typeOk r.pkt then cntDrop p 3 (accept p r s)
    else if !subOk r.pkt && route s r.pkt.dest = .here then accept p r s
    else s

/-- ACK: a received ACK packet. -/
def ackReceive (p : Nat) (w : List Word) (s : State) : State :=
  let r := parsePkt w
  if takesPkts s p && r.crcOk && r.pkt.ty = 0 then takeAck p r.ack r.xoff s else s

/-! ### Forwarding (R421, R422, R431) -/

/-- SPL_FORWARD: an accepted packet for another node. -/
def splForward (p : Nat) (w : List Word) (s : State) : State :=
  let r := parsePkt w
  let k := r.pkt
  let out := route s k.dest
  if !acceptable s p r || !typeOk k || k.ty = 4 || out = .here then s
  else
    let s := accept p r s
    let refuse (s : State) : State := refuseForward k .remoteErr 3 3 (cntDrop p 0 s)
    match out with
    | .port q =>
      if 15 ≤ k.hops + 1 || q = p then refuse s
      else if portUp s q then enqueue q { pkt := { k with hops := k.hops + 1 }, from_ := some p } s
      else refuseForward k .linkLost 0 4 s
    | _ => refuse s

end Sys2Proof.Machine
end

