-- ==== Sys2Proof/Machine/Power.lean ====
section
/-! DEFINITION. Sys2Proof/Machine/Power.lean: power states, requests, domain switching, entry to RETAIN and OFF, the context image
and its restore, wake and cold start (R476 to R501), and the DRBG's start-up at power-up (R306, R307, R341). -/

namespace Sys2Proof.Machine

/-! ### Small readings -/

def setBit1 (n d : Nat) : Nat := n ||| 2 ^ d
def clearBit1 (n d : Nat) : Nat := if n.testBit d then n - 2 ^ d else n

/-- BUSY of PWR_STATE: a transition is in progress. -/
def pwrBusy (s : State) : Bool := s.pwr.trans != .none

/-- WIDTH: HALF when exactly one of PD_TWA and PD_TWB is on (R476). -/
def halfWidth (s : State) : Bool := domOn s dTWA != domOn s dTWB

/-- VALID of PWR_CTX_STATUS. -/
def imgValid (s : State) : Bool := rflag s rPWR_CTX_STATUS 0

/-- PW_STATE (R493): the block is in its new state. -/
def raiseState (prev : PState) (s : State) : State :=
  raise 139 0 (pstCode s.pwr.state + pstCode prev * 2 ^ 2 + b2n (halfWidth s) * 2 ^ 4 + s.pwr.on * 2 ^ 8) s

/-- A refused request: REFUSE and PW_REFUSED (R478, R493). -/
def pwrRefuse (req cause : Nat) (s : State) : State :=
  raise 140 0 (req + cause * 2 ^ 4) (modPwr (fun p => { p with refuse := cause }) s)

/-- Every ring pair is DISABLED or STOPPED. -/
def ringsStopped (s : State) : Bool :=
  s.rings.all fun r => r.2.state == .disabled || r.2.state == .stopped

/-! ### Power-up of a domain (R243, R306, R308, R402, R480, R489, R491) -/

/-- The SPL registers whose reset value depends on the life cycle (R447). -/
def spireResetRegs (s : State) : State :=
  if lifeNow s = .manufacture then rset rSPL_NODE 0x1000 (rset rSPL_ACCESS 0x7FFF s) else s

/-- PD_DOME powers up: from the island the Dome resumes and re-masks; else it starts cold, with fresh generations, empty slots and a
fresh life-cycle nonce, and is ALARMED when the latch is set (R288, R308, R335, R341). -/
def domeUp (s : State) : State :=
  if s.pwr.island then
    { s with dome := { s.dome with drbgOk := false, drbgRetry := false }, pwr := { s.pwr with island := false, remasking := true } }
  else
    let d := s.dome
    let s := { s with dome := { debug := d.debug, drbgDown := d.drbgDown, drbgFails := d.drbgFails, genBase := s.draws
                                permBase := s.draws + 4096 }
                      draws := s.draws + 4097 }
    let (s, l) := drawBytes 16 s
    let s := { s with dome := { s.dome with lcNonce := l } }
    if alarmLatch s then setDomeSt .alarmed s else s

/-- A domain's switch is closed and its supply in range: it leaves reset and isolation, and starts. -/
def domainUp (d : Nat) (s : State) : State :=
  let s := modPwr (fun p => { p with on := setBit1 p.on d }) s
  if d = dDOME then domeUp s
  else if d = dTWA then startTowers [0, 1, 2, 3] s
  else if d = dTWB then startTowers [4, 5, 6, 7] s
  else if d = dSPIRE then spireResetRegs s
  else s

/-! ### Power-down of a domain (R480, R483, R500) -/

/-- Every armed AT_TIME switch is disarmed (R266). -/
def disarmTimed (s : State) : State :=
  (tabKeys s.armed).foldl (fun s y => match armedOf s y with
    | some { trigger := .atTime _, .. } => disarm y 4 s
    | _ => s) s

/-- Frames that wait for a launch time are late once PD_TIME is off. -/
def launchesLost (s : State) : State :=
  (egList s).foldl (fun s p => if p.2.launch.isSome then setEg p.1 (some { p.2 with launch := some .late }) s else s) s

/-- The towers of a group lose their cached keys and leave service; their retirements stay (R247, R480). -/
def towersDown (ts : List Nat) (s : State) : State :=
  arrayChange (fun s => ts.foldl (fun s t => setTower t { tower s t with started := false, kat := 0, leaving := false, cache := [] } s) s) s

/-- PD_PIPE loses its objects, its frames and its counters. -/
def pipeDown (s : State) : State :=
  let s := belfryClear s
  { s with secys := [], rxscs := [], assocs := [], armed := [], mirrorOps := [], ppls := [], plCnt := [], egFrames := [], igFrames := []
           macOut := [], coreOut := [], retOut := [], arr := { s.arr with belfry := [] } }

/-- PD_DOME opens: for RETAIN the island keeps the Dome's state, else nothing stays (R483). -/
def domeDown (retain : Bool) (s : State) : State :=
  let addr := rget s rDOM_RPMB_ADDR
  let s := dropRegs dDOME s
  if retain then
    rset rDOM_RPMB_ADDR addr
      { s with dome := { s.dome with drbgOk := false, drbgRetry := false, held := [], dcache := [], drbgCalls := 0 }
               pwr := { s.pwr with island := true, remasking := false } }
  else clearIsland { s with pwr := { s.pwr with remasking := false } }

/-- Detections that still wait for an alarm clock when PD_DOME goes off have the AON's response (R460, R461). -/
def pendToAon (s : State) : State :=
  if s.tmp.pendMask = 0 then s
  else aonResponse s.tmp.pendMask s.tmp.pendLevel { s with tmp := { s.tmp with pendMask := 0, pendLevel := 0 } }

/-- The domain is isolated and off (R500). -/
def domainDown (d : Nat) (s : State) : State :=
  let s :=
    if d = dDOME then domeDown (s.pwr.trans == .entry false) s
    else if d = dHOST then
      let s := takeTokens 0 (evFlushAll s)
      dropRegs dHOST { s with rings := [], stcs := [], evRings := [], groupStaged := none, lastFetch := 63 }
    else if d = dPIPE then dropRegs dPIPE (pipeDown s)
    else if d = dTWA then towersDown [0, 1, 2, 3] s
    else if d = dTWB then towersDown [4, 5, 6, 7] s
    else if d = dTIME then dropRegs dTIME { launchesLost (disarmTimed s) with tmu := {} }
    else dropRegs dSPIRE { s with spl := {} }
  let s := modPwr (fun p => { p with on := clearBit1 p.on d, sw := clearBit1 p.sw d, drained := false }) s
  if d = dDOME then pendToAon s else s

/-! ### Moving the switches (R479, R489, R500, R501) -/

/-- The clock from which the next switch may move (R500). -/
def staggerFrom (s : State) : Nat := s.clock + rfld s rPWR_SWITCH 0 8 * usClocks

/-- Close a domain's switch. -/
def closeSwitch (d : Nat) (rest : List (Nat × Bool)) (s : State) : State :=
  modPwr (fun p => { p with todo := rest, sw := setBit1 p.sw d, closing := some (d, s.clock), nextAt := some (staggerFrom s),
                            stage := if d = dDOME then 6 else 5 }) s

/-- Open a domain's switch. -/
def openSwitch (d : Nat) (rest : List (Nat × Bool)) (s : State) : State :=
  let s := domainDown d s
  modPwr (fun p => { p with todo := rest, nextAt := some (staggerFrom s), stage := 4 }) s

/-- Every RUNNING ring is stopped (R74, R483). -/
def stopRings (s : State) : State := (tabKeys s.rings).foldl (fun s n => stopRing n s) s

/-- May the switch of domain `d` open now? Its work has ended; PD_HOST stays on until every ring is STOPPED or DISABLED (R74), PD_DOME until
a response under way is over (R462). -/
def mayOpen (s : State) (d : Nat) : Bool :=
  match s.pwr.trans with
  | .entry _ => (d != dDOME || (s.tmp.pendMask = 0 && !s.tmp.erasing)) && (d != dHOST || ringsStopped s)
  | _ => s.pwr.drained

/-- What an open switch of domain `d` waits for is set going: a ring enabled during an entry is stopped too (R74). -/
def beforeOpen (d : Nat) (s : State) : State := if d = dHOST then stopRings s else s

/-- The clocks are stable, as the switches of a wake or cold start need (R477). -/
def mayClose (s : State) : Bool := s.pwr.trans == .domains || s.pwr.ckOk % 32 = 31

/-- The last switch of a transition has moved. -/
def transEnd (s : State) : State :=
  let p := s.pwr
  match p.trans with
  | .wake _ =>
    raiseState p.prev { s with pwr := { p with state := .run, trans := .none, nextAt := none, stage := if imgValid s then 7 else 0 } }
  | .entry toOff =>
    let st : PState := if toOff then .off else .retain
    let us := min 4095 ((s.clock - p.entryAt) / usClocks)
    let s := { s with log := { s.log with epoch := (s.log.epoch + 1) % 2 ^ 16 }
                      pwr := { p with state := st, trans := .none, nextAt := none, stage := 0, wakeO := false, retO := !toOff, wakeHeld := false } }
    let s := raiseState p.prev (rsetFld rPWR_TIMING 12 12 us s)
    if p.wakeHeld || p.wakePin then wakeRequest s else s
  | _ => modPwr (fun p => { p with trans := .none, nextAt := none, stage := 0 }) s

/-- Is a transition at its switches: an entry reaches them only after its drain (R483)? -/
def switching (s : State) : Bool :=
  match s.pwr.trans with
  | .entry _ => s.pwr.stage = 4
  | .wake _ => true
  | .domains => true
  | _ => false

/-- Move the next switch, as far as one may move. -/
def movePower : Nat → State → State
  | 0, s => s
  | fuel + 1, s =>
    if !switching s || s.pwr.closing.isSome then s
    else match s.pwr.todo with
      | [] => transEnd s
      | (d, true) :: rest => if s.pwr.nextAt.isNone && mayClose s then movePower fuel (closeSwitch d rest s) else s
      | (d, false) :: rest =>
        let s := beforeOpen d s
        if s.pwr.nextAt.isNone && mayOpen s d then movePower fuel (openSwitch d rest s) else s

/-- The stagger time has passed already. -/
def staggerOver (s : State) : Pwr → Pwr := fun p =>
  match p.nextAt with
  | some t => if t ≤ s.clock then { p with nextAt := none } else p
  | none => p

/-- PWR_SWITCH_STAGGER. -/
def pwrSwitchStagger (s : State) : State := modPwr (staggerOver s) s

/-- PWR_SW_ACK of domain `d`. -/
def pwrSwAck (d : Nat) (s : State) : State :=
  match s.pwr.closing with
  | some (e, _) => if e = d then domainUp d (modPwr (fun p => staggerOver s { p with closing := none }) s) else s
  | none => s

/-- PWR_ACK_TIMEOUT of domain `d`: an ack in the clock of the limit is still used (R500, R501). -/
def pwrAckTimeout (d : Nat) (s : State) : State :=
  match s.pwr.closing with
  | some (e, t) =>
    if e = d && d != dDOME && d != dHOST && t + 100 * usClocks < s.clock then
      pwrRefuse (pstCode s.pwr.state) 3
        (modPwr (fun p => staggerOver s { p with closing := none, sw := clearBit1 p.sw d }) s)
    else s
  | none => s

/-! ### Domains in RUN (R31, R479) -/

/-- The orders of R479. -/
def offOrder : List Nat := [dSPIRE, dTIME, dPIPE, dTWB, dTWA]
def onOrder : List Nat := [dTWA, dTWB, dPIPE, dTIME, dSPIRE]

/-- The towers of the groups that leave stop taking items, and the table is refilled without them (R247). -/
def towersLeave (offs : List Nat) (s : State) : State :=
  let ts := (if offs.contains dTWA then [0, 1, 2, 3] else []) ++ (if offs.contains dTWB then [4, 5, 6, 7] else [])
  if ts.isEmpty then s
  else arrayChange (fun s => ts.foldl (fun s t => setTower t { tower s t with leaving := true } s) s) s

/-- A write of PWR_DOMAIN. -/
def pwrDomainWrite (v : Nat) (s : State) : State :=
  let w := (v % 2 ^ 8) ||| 7
  if pwrBusy s then pwrRefuse (pstCode s.pwr.state) 5 s
  else match s.pwr.state with
    | .idle => if w = rfld s rPWR_DOMAIN 0 8 then s else pwrRefuse 1 2 s
    | .run =>
      let s := rset rPWR_DOMAIN (mkW w) s
      let offs := offOrder.filter fun d => domOn s d && !w.testBit d
      let ons := onOrder.filter fun d => !domOn s d && w.testBit d
      let todo := (offs.map fun d => (d, false)) ++ (ons.map fun d => (d, true))
      if todo.isEmpty then s
      else towersLeave offs (modPwr (fun p => { p with trans := .domains, prev := .run, stage := if offs.isEmpty then 5 else 4, todo,
                                                       nextAt := none, drained := false }) s)
    | _ => rset rPWR_DOMAIN (mkW w) s

/-- Does a descriptor need domain `d`, and cannot be served without it (R31)? A host job that has started is none of them here: a tower
finishes the one it holds, and `abortJobs` ends those at the crossbar. -/
def needsDom (s : State) (d : Nat) (e : Ent) : Bool :=
  let op := entOpcode e
  (opNeeds op).contains d || ((d = dTWA || d = dTWB) && isJobOp op && e.st = .waiting && !towerReady s)

/-- ABORTED POWER (R31). -/
def powerRes : Res := failRes .aborted 2

/-- The fetched descriptors of ring `n` that need the domain end; a group that is open keeps the failure for its end. -/
def abortRing (d n : Nat) (s : State) : State :=
  let hit (e : Ent) : Bool := e.readable && needsDom s d e
  let open_ := (ring s n).grp == .opened
  let group := (members (ring s n)).find? fun e => hit e && (match e.st with | .done _ => false | _ => true)
  let s := (ring s n).window.foldl (fun s e =>
    if e.member || !hit e then s
    else match e.st with
      | .done _ => s
      | _ => finish n e.idx powerRes s) s
  match group with
  | none => s
  | some f =>
    if open_ then
      let spoil (e : Ent) : Ent := if e.member && hit e && e.bad.isNone then { e with bad := some powerRes } else e
      modRing n (fun r => { r with window := r.window.map spoil }) s
    else
      let close (e : Ent) : Ent :=
        if e.member then (if hit e then entDone (compNow s powerRes) e else entDone (compNow s (failRes .commitFail 0)) e) else e
      let s := match s.groupStaged with
        | some g => if g.ring = n then dropStaging s else s
        | none => s
      raise 13 n (statusCode .aborted + f.idx * 2 ^ 10)
        (reserveMembers n (modRing n (fun q => { q with window := q.window.map close, grp := .none }) s))

/-- Host jobs at the crossbar that no tower group can serve end (R31). -/
def abortJobs (s : State) : State :=
  if towerReady s then s
  else s.items.foldl (fun s p => match p.2 with
    | some { kind := .job n i, st := .crossbar, .. } => jobEnd p.1 n i powerRes s
    | _ => s) s

/-- Have the frames of the pipelines left, those in the return queues too (R479, R483)? -/
def framesGone (s : State) : Bool :=
  (egList s).isEmpty && (igList s).isEmpty && s.ppls.all fun p => p.2.retQ.isEmpty

/-- Has the work inside domain `d` finished: the frames of the pipelines, the items of a tower group (R21, R247)? -/
def domDrained (s : State) (d : Nat) : Bool :=
  if d = dPIPE then framesGone s
  else if d = dTWA || d = dTWB then
    s.items.all (fun p => match p.2 with
      | some x => x.st == .crossbar || twDomain x.tower != d
      | none => true)
  else true

/-- DOMAIN_DRAIN_DONE: the work of the domain whose switch is to open ends (R31, R410, R479). -/
def domainDrainDone (s : State) : State :=
  match s.pwr.trans, s.pwr.todo with
  | .domains, (d, false) :: _ =>
    if s.pwr.nextAt.isSome || s.pwr.closing.isSome || !domDrained s d then s
    else
      let s := if d = dSPIRE then linkDown 2 4 (linkDown 1 4 (linkDown 0 4 s)) else s
      let s := if d = dTWA || d = dTWB then abortJobs s else s
      let s := (List.range 64).foldl (fun s n => abortRing d n s) s
      modPwr (fun p => { p with drained := true }) s
  | _, _ => s

/-! ### IDLE (R481, R482) -/

/-- The conditions of IDLE. -/
def idleOk (s : State) : Bool :=
  (!domOn s dPIPE || (List.range 24).all fun n => !rflag s (rPA_EG_CTRL n) 0 && !rflag s (rPA_IG_CTRL n) 0)
    && !rflag s (rSTC_CTRL 0) 0 && !rflag s (rSTC_CTRL 1) 0
    && s.rings.all fun r => r.2.posted.isEmpty && r.2.window.isEmpty

/-- PWR_REQ TARGET = IDLE. A detection that waits for its response wakes the block again (R460). -/
def pwrReqIdle (s : State) : State :=
  if pwrBusy s then pwrRefuse 1 5 s
  else if s.pwr.state ≠ .run then pwrRefuse 1 7 s
  else if !idleOk s then pwrRefuse 1 1 s
  else
    let s := raiseState .run (modPwr (fun p => { p with state := .idle, stage := 0 }) (rset rPWR_REQ 1 s))
    if s.tmp.pendMask ≠ 0 || s.pwr.wakePin then idleWake s else s

/-- PWR_REQ TARGET = RUN: a wake request, and in RUN nothing (R477, R478). -/
def pwrReqRun (s : State) : State := wakeRequest (rset rPWR_REQ 0 s)

/-- IDLE_EXIT: the fast clocks run again. -/
def idleExit (s : State) : State :=
  if s.pwr.state = .idle && s.pwr.trans = .idleExit then
    raiseState .idle (modPwr (fun p => { p with state := .run, trans := .none, prev := .idle }) s)
  else s

/-- An access to the ranges whose clocks IDLE gates (R482). -/
def idleRange (off : Nat) : Bool := (0x6000 ≤ off && off < 0x9000) || (0xB000 ≤ off && off < 0xC000)

def idleRangeAccess (off : Nat) (s : State) : State := if idleRange off then idleWake s else s

/-! ### Entry to RETAIN and OFF (R483 to R487) -/

/-- The number of classifier nodes that an image holds. -/
def imageNodes (s : State) : Nat :=
  [0, 1, 2, 3].foldl (fun n k => n + (ppl s k).bank0.nodes + (ppl s k).bank1.nodes) 0

/-- Length of a context image (R487). -/
def imageLen (s : State) : Nat := 1379632 + 12 * imageNodes s

/-- The first failing check of an entry (R483 step 1). -/
def entryCause (toOff : Bool) (s : State) : Option Nat :=
  if domOn s dPIPE && !towerReady s then some 1
  else if !toOff && domOn s dPIPE && rfld s rPWR_CTX_LEN 0 10 * 4096 < imageLen s then some 4
  else none

/-- PWR_REQ TARGET = RETAIN or OFF in RUN or IDLE: the checks and the stop. -/
def startEntry (toOff : Bool) (s : State) : State :=
  let req := if toOff then 3 else 2
  match entryCause toOff s with
  | some c => pwrRefuse req c s
  | none =>
    let s := rset rPWR_REQ (mkW req) s
    let s := modPwr (fun p => { p with state := .run, prev := p.state, trans := .entry toOff, stage := 1, wakeHeld := false,
                                       restoreReq := false, restoring := false, entryAt := s.clock }) s
    stopRings s

/-- RETAIN to OFF: the island opens, the counter counts (R478). -/
def retainToOff (s : State) : State :=
  let s := bumpRetcnt (clearIsland (rset rPWR_REQ 3 s))
  let s := { s with log := { s.log with epoch := (s.log.epoch + 1) % 2 ^ 16 }, pwr := { s.pwr with state := .off, wakeO := false, retO := false } }
  let s := raiseState .retain s
  if s.pwr.wakePin then wakeRequest s else s

def pwrReqRetain (s : State) : State :=
  if pwrBusy s then pwrRefuse 2 5 s
  else match s.pwr.state with
    | .run => startEntry false s
    | .idle => startEntry false s
    | _ => pwrRefuse 2 7 s

def pwrReqOff (s : State) : State :=
  if pwrBusy s then pwrRefuse 3 5 s
  else match s.pwr.state with
    | .run => startEntry true s
    | .idle => startEntry true s
    | .retain => retainToOff s
    | .off => pwrRefuse 3 7 s

/-- What the pipelines save (R486): shadows, armed switches, frames in flight and Belfry contents are left out. -/
def pipeSave (s : State) : PipeSave :=
  let cut (b : Bank) : Bank := { b with image := b.image.filter fun e => e.1 < b.nodes }
  { regs := s.regs.filter fun e => regDomain e.1 == some dPIPE
    secys := s.secys, rxscs := s.rxscs
    assocs := tabMap {} (fun _ a => { a with req := none, stalled := false }) s.assocs
    ppls := tabMap {} (fun _ p => { bank0 := cut p.bank0, bank1 := cut p.bank1, actBank := p.actBank, active := p.active,
                                    epoch := p.epoch }) s.ppls
    cnt := s.plCnt }

/-- The header of a context image (R485). -/
def ctxHeader (s : State) (len : Nat) (iv : List Byte) : List Byte :=
  toBytesBE 4 0x56435458 ++ [1] ++ toBytesBE 3 (rget s rPWR_RETCNT).toNat ++ toBytesBE 3 len ++ [mkB (rfld s rPWR_DOMAIN 0 8)] ++ iv
    ++ uidBytes s ++ zeroBytes 28

/-- The buffer's address. -/
def ctxBase (s : State) : Nat := join48 (rget s rPWR_CTX_BASE_LO) (rget s rPWR_CTX_BASE_HI)

/-- Draw a context key and write the image under it; does host memory take it? The body's bytes are opaque (R486). -/
def writeImage (s : State) : State × Bool :=
  let len := imageLen s
  let (s, key) := drbgGen false 32 s
  let (s, iv) := drbgGen false 12 s
  let (s, body) := freeBytes (len - 80) s
  let hdr := ctxHeader s len iv
  let ct := gcmCrypt key iv body
  let s := { s with saved := some (pipeSave s), pwr := { s.pwr with ctxKey := some key, imgLen := len } }
  memWrite (ctxBase s) (hdr ++ ct ++ fitBytes 16 (gcmTag key iv hdr ct)) s

/-- Everything has drained: rings stopped, no frame, item or storage transfer in flight (R483 step 3). -/
def entryDrained (s : State) : Bool :=
  ringsStopped s && framesGone s && s.items.all (fun p => p.2.isNone)
    && [0, 1].all fun c => (stc s c).xfers.isEmpty

/-- The domains on, in the order in which an entry opens them. -/
def entryList (s : State) : List (Nat × Bool) :=
  ((offOrder ++ [dHOST, dDOME]).filter fun d => domOn s d).map fun d => (d, false)

/-- An entry goes on to its switches. -/
def entrySwitches (s : State) : State :=
  let s := if domOn s dSPIRE then linkDown 2 4 (linkDown 1 4 (linkDown 0 4 s)) else s
  modPwr (fun p => { p with stage := 4, todo := entryList s, nextAt := none }) s

/-- ENTRY_DRAIN_DONE: the counter, the image, the switches (R483 steps 4 and 5, R484). -/
def entryDrainDone (s : State) : State :=
  match s.pwr.trans with
  | .entry toOff =>
    let s := if 3 ≤ s.pwr.stage then s else stopRings s
    if 3 ≤ s.pwr.stage || !entryDrained s then s
    else
      let s := bumpRetcnt s
      let s := if toOff then s else modPwr (fun p => { p with islandCnt := (rget s rPWR_RETCNT).toNat }) s
      if !toOff && domOn s dPIPE then
        match writeImage s with
        | (s, false) =>
          pwrRefuse 2 6 (rsetFld rPWR_CTX_STATUS 0 1 0 (modPwr (fun p => { p with trans := .none, stage := 0, wakeHeld := false }) s))
        | (s, true) =>
          let kib := ceilDiv s.pwr.imgLen 1024
          let s := rsetFld rPWR_CTX_STATUS 0 1 1 (rsetFld rPWR_CTX_STATUS 12 12 kib s)
          entrySwitches (raise 141 0 (kib + (rget s rPWR_RETCNT).toNat % 2 ^ 12 * 2 ^ 12) s)
      else entrySwitches (rsetFld rPWR_CTX_STATUS 0 1 0 (modPwr (fun p => { p with ctxKey := none }) s))
  | _ => s

/-- VCH_WAKE's synchronised level (R521): a level of 1 is a wake request outside RUN. -/
def vchWake (level : Bool) (s : State) : State :=
  let s := modPwr (fun p => { p with wakePin := level }) s
  if level && (s.pwr.state != .run || entering s) then wakeRequest s else s

/-! ### The restore of a context image (R278, R488) -/

/-- PWR_CTX_CTRL RESTORE = 1: accepted from a wake request until the next entry. -/
def pwrCtxRestore (s : State) : State :=
  let waking := match s.pwr.trans with | .wake _ => true | _ => false
  if !entering s && (s.pwr.state = .run || s.pwr.state = .idle || waking) then modPwr (fun p => { p with restoreReq := true }) s else s

/-- PWR_CTX_CTRL DISCARD = 1. -/
def pwrCtxDiscard (s : State) : State := rsetFld rPWR_CTX_STATUS 0 1 0 s

/-- Is work of the pipelines' commands under way? -/
def pipeWork (s : State) : Bool :=
  s.groupStaged.isSome || s.mirrorOps.any (fun o => o.2.isSome) || s.ppls.any (fun p => p.2.seedCmd.isSome)

/-- The checks of a restore, in order; VALID as it was (R488). -/
def restoreCheck (s : State) (valid : Bool) : Option Nat :=
  if !valid then some 6
  else match s.pwr.ctxKey with
    | none => some 5
    | some key =>
      match memRead s (ctxBase s) 64 with
      | none => some 4
      | some hdr =>
        if ofBytesBE (slice hdr 5 3) ≠ (rget s rPWR_RETCNT).toNat || ofBytesBE (slice hdr 5 3) ≠ s.pwr.islandCnt then some 2
        else match memRead s (ctxBase s + 64) (s.pwr.imgLen - 64) with
          | none => some 4
          | some rest =>
            let ct := rest.take (rest.length - 16)
            let iv := slice hdr 12 12
            if slice hdr 0 5 = toBytesBE 4 0x56435458 ++ [1] && slice hdr 24 12 = uidBytes s
                && ofBytesBE (slice hdr 8 3) = s.pwr.imgLen
                && rest.drop (rest.length - 16) = fitBytes 16 (gcmTag key iv hdr ct) then none
            else some 3

/-- CONTEXT_RESTORE_START. -/
def contextRestoreStart (s : State) : State :=
  if s.pwr.restoreReq && !s.pwr.restoring && domOn s dPIPE && domOn s dDOME && !s.pwr.remasking && towerReady s
      && s.pwr.state ≠ .idle && !pipeWork s then
    let valid := imgValid s
    let s := rsetFld rPWR_CTX_STATUS 0 1 0 (modPwr (fun p => { p with restoreReq := false }) s)
    match restoreCheck s valid with
    | some r => raise 142 0 r (rsetFld rPWR_CTX_STATUS 1 3 r s)
    | none => modPwr (fun p => { p with restoring := true, restoreAt := s.clock }) s
  else s

/-- A restored transmit association (R278): spent, or lifted above its mark with a new lease record. The number of records. -/
def restoreTx (sa : Nat) (x : State × Nat) : State × Nat :=
  let (s, n) := x
  let a := assoc s sa
  let m := mark s a.channel a.an
  let top := assocTop s a
  if a.spent then x
  else if !m.valid || m.sa ≠ sa || top < m.mark + 1 then
    let s := setAssoc sa { a with spent := true, nextPn := 0, state := if a.state = .inUse then .exhausted else a.state } s
    (if a.state = .inUse then raise 25 (assocPort s a) sa s else s, n)
  else
    let np := max a.nextPn (m.mark + 1)
    let e := leaseFrom a top np
    let s := writeMark a.channel a.an sa e s
    if !a.mirrored then (setAssoc sa { a with nextPn := np, leaseEnd := e } s, n + 1)
    else (openRecord true sa e (setAssoc sa { a with nextPn := np, leaseEnd := if a.best then e else a.leaseEnd } s), n + 1)

/-- Load the saved state: it replaces every PD_PIPE register and object, and the Belfry slots are assigned, empty (R255, R488). -/
def loadSaved (v : PipeSave) (s : State) : State :=
  let s := dropRegs dPIPE { s with arr := { s.arr with belfry := [] } }
  let s := v.regs.foldl (fun s e => rset e.1 e.2 s) s
  let s := { s with secys := v.secys, rxscs := v.rxscs, assocs := v.assocs, ppls := v.ppls, plCnt := v.cnt, armed := [] }
  (liveAssocs s).foldl (fun s p => match p.2.belfry with
    | some i => setBslot i { sa := some p.1 } s
    | none => s) s

/-- CONTEXT_RESTORE_DONE. -/
def contextRestoreDone (s : State) : State :=
  if !s.pwr.restoring then s
  else match s.saved with
    | none => s
    | some v =>
      let s := loadSaved v s
      let tx := ((liveAssocs s).filter fun p => !p.2.rx).map Prod.fst
      let (s, n) := tx.foldl (fun x sa => restoreTx sa x) (s, 0)
      let s := rsetFld rPWR_CTX_STATUS 1 3 1 (modPwr (fun p => { p with restoring := false }) s)
      let s := rsetFld rPWR_TIMING 0 12 (min 4095 ((s.clock - s.pwr.wakeAt) / usClocks)) s
      raise 143 0 (n % 2 ^ 12 + min 4095 ((s.clock - s.pwr.restoreAt) / usClocks) * 2 ^ 12) s

/-! ### The DRBG and re-masking (R306, R307, R341) -/

/-- A failed health test: FAILS, DM_ENTROPY_FAIL with its test (R307). -/
def drbgFail (test : Nat) (permanent : Bool) (s : State) : State :=
  raise 97 0 (test + b2n permanent * 2 ^ 2) (rsat rDOM_DRBG 16 8 1 s)

/-- DRBG_HEALTH_FAIL: which of the two continuous tests failed is open. -/
def drbgHealthFail (s : State) : State :=
  if domOn s dDOME && s.dome.drbgOk then
    drbgFail (Config.freeNat s.draws % 2) false
      { s with dome := { s.dome with drbgOk := false, drbgRetry := true, drbgFails := 0 }, draws := s.draws + 1 }
  else s

/-- A restart fails: after four in a row the DRBG stays down until the block is reset. -/
def restartFailed (s : State) : State :=
  let n := s.dome.drbgFails + 1
  let down := decide (4 ≤ n)
  drbgFail 2 down { s with dome := { s.dome with drbgFails := n, drbgRetry := !down, drbgDown := down } }

/-- DRBG_RESTART_DONE. -/
def drbgRestartDone (pass : Bool) (s : State) : State :=
  if domOn s dDOME && s.dome.drbgRetry then
    if pass then
      raise 98 0 (s.dome.drbgFails + 1) { s with dome := { s.dome with drbgOk := true, drbgRetry := false, drbgFails := 0 } }
    else restartFailed s
  else s

/-- DRBG_STARTUP_DONE: the test at PD_DOME power-up; after a wake from RETAIN the instantiated DRBG is reseeded, at a cold start it serves the
generations and the nonce (R288, R306). -/
def drbgStartupDone (pass : Bool) (s : State) : State :=
  if domOn s dDOME && !s.dome.drbgOk && !s.dome.drbgRetry && !s.dome.drbgDown then
    if pass then
      let s := { s with dome := { s.dome with drbgOk := true, drbgFails := 0, drbgCalls := 0 } }
      if s.pwr.remasking then rsat rDOM_DRBG 0 16 1 s else drbgCountFree s
    else drbgFail 2 false { s with dome := { s.dome with drbgRetry := true, drbgFails := 0 } }
  else s

/-- Every slot's shares are XORed with a fresh mask (R341). -/
def remaskSlots (s : State) : State :=
  let base := s.draws
  let fresh (i : Nat) (v : Slot) : Slot := { v with share := v.share.mapIdx fun j b => b ^^^ Config.drbgByte (base + 32 * i + j) }
  drbgCountFree { s with draws := base + 32 * 4096, dome := { s.dome with slots := tabMap {} fresh s.dome.slots } }

/-- REMASK_DONE: every slot is re-masked; a disturbed computation of it raises the mismatch source (R341). -/
def remaskDone (s : State) : State :=
  if domOn s dDOME && s.pwr.remasking && s.dome.drbgOk then
    let s := remaskSlots (modPwr (fun p => { p with remasking := false }) s)
    if s.dome.upset then (dualMismatch s).1 else s
  else s

end Sys2Proof.Machine
end

