-- ==== Sys2Proof/Machine/RegAccess.lean ====
section
/-! DEFINITION. Sys2Proof/Machine/RegAccess.lean: what every register of the window reads as, what a read clears or latches, and
what a write does (R1, R2, R8 to R11, R19, R36, R37, R39, R67, R68, R78, R170, R171, R219, R220, R257, R320, R349, R364, R402, R447, R474,
R475, R494, R532, R536, R537). A write's command and the same write as a REGISTER_WRITE or from a far node run one operation. -/

namespace Sys2Proof.Machine

/-! ### Reading -/

/-- Two's complement of `w` bits, as a word. -/
def sgnW (w : Nat) (i : Int) : Word := mkW (unsgn w i)

/-- A bit list as a number, bit 0 first. -/
def bitsOf (l : List Bool) : Nat := l.foldr (fun b n => b2n b + 2 * n) 0

/-- GLB (R536). -/
def readGlb (s : State) (off : Nat) : Word :=
  if off = rGLB_ID then 0x5643 else if off = rGLB_VERSION then 0x100 else if off = rGLB_CAP then 0x017098 else rget s off

/-- STAGE of PWR_STATE (R494). -/
def stageCode (s : State) : Nat :=
  if s.pwr.restoring then 8
  else if s.pwr.stage = 7 then (if imgValid s then 7 else 0)
  else if s.pwr.stage = 1 && ringsStopped s then 2
  else s.pwr.stage

/-- PWR (R494). -/
def readPwr (s : State) (off : Nat) : Word :=
  if off = rPWR_STATE then
    mkW (pstCode s.pwr.state + b2n (halfWidth s) * 2 ^ 2 + stageCode s * 2 ^ 3 + b2n (pwrBusy s) * 2 ^ 7 + s.pwr.on * 2 ^ 8
      + s.pwr.refuse * 2 ^ 16)
  else if off = rPWR_CLK then
    let lock (p : Nat) : Bool := domOn s dSPIRE && (sport s p).locked != 0
    mkW (s.pwr.ckOk % 32 + bitsOf [domOn s dDOME, lock 0, lock 1, lock 2, s.pwr.state == .idle] * 2 ^ 5)
  else if off = rPWR_CTX_CTRL then 0
  else rget s off

/-- EVT (R78, R532). -/
def readEvt (s : State) (off : Nat) : Word :=
  if off = rEVT_IRQ_STATUS then mkW (irqLines s)
  else if inArr off (rEVT_IRQ_SRC 0) 4 8 then
    match irqSrc s ((off - rEVT_IRQ_SRC 0) / 4) with
    | some src => mkW (src + 2 ^ 8)
    | none => 0
  else if 0x2800 ≤ off && off < 0x2900 then
    let r := evRing s ((off - 0x2800) / 0x20)
    let o := (off - 0x2800) % 0x20
    if o = 0x08 then mkW (b2n r.enable + r.log2 * 2 ^ 8)
    else if o = 0x0C then mkW (r.tail + b2n r.phase * 2 ^ 12 + b2n r.cfgErr * 2 ^ 13)
    else if o = 0x10 then mkW r.head
    else rget s off
  else rget s off

/-- LOG (R475): LOG_TICK_HI reads as LOG_TICK_LO latched it. -/
def readLog (s : State) (off : Nat) : Word :=
  if off = rLOG_STATUS then mkW (s.log.next + b2n s.log.wrapped * 2 ^ 10)
  else if off = rLOG_TOTAL then mkW s.log.total
  else if off = rLOG_UNREAD then mkW s.log.unread
  else if off = rLOG_TICK_LO then mkW (aonTick s)
  else rget s off

def rstCode : RState → Nat
  | .disabled => 0
  | .running => 1
  | .stopping => 2
  | .stopped => 3

/-- Completions held after a CQ write error (R73): while writing is suspended all that are generated, afterwards those that were
held and are not written yet. -/
def heldComps (r : Ring) : Nat := (r.window.filter fun e => if r.held then !e.isOpen else e.kept).length

/-- A ring pair's page (R36). -/
def readRing (s : State) (off : Nat) : Word :=
  let r := ring s ((off - 0x4000) / 0x80)
  match (off - 0x4000) % 0x80 with
  | 0x14 => mkW (b2n r.en)
  | 0x18 => mkW (rstCode r.state + r.err * 2 ^ 8 + r.window.length * 2 ^ 16)
  | 0x1C => mkW r.sqHead
  | 0x20 => mkW r.sqTail
  | 0x24 => mkW (r.cqTail + b2n r.phase * 2 ^ 16)
  | 0x28 => mkW r.cqHead
  | 0x30 => mkW r.errIdx
  | 0x34 => mkW (heldComps r)
  | 0x38 => wLo r.ccnt
  | 0x3C => wHi r.ccnt
  | _ => rget s off

/-- TWR_TOWt_STATUS (R257). -/
def towStatus (s : State) (t : Nat) : Nat :=
  let v := tower s t
  if domOn s (twDomain t) && v.started then
    let good (gh : Bool) : Nat := (healthy v gh).foldl (fun m u => m + 2 ^ u) 0
    good false + good true * 2 ^ 9 + (if v.removed then 0xF else v.outCore) * 2 ^ 12 + (if v.removed then 2 else 1) * 2 ^ 16
      + capOf s t * 2 ^ 18
  else 0xF000

/-- TWR (R248, R257). -/
def readTwr (s : State) (off : Nat) : Word :=
  if inArr off (rTWR_DEFECT 0) 4 4 then wAt (mapWords (defectOf s)) ((off - rTWR_DEFECT 0) / 4)
  else if inArr off (rTWR_TOW_STATUS 0) 0x10 8 then mkW (towStatus s ((off - rTWR_TOW_STATUS 0) / 0x10))
  else if inArr off (rTWR_TOW_CTX 0) 0x10 8 then
    let used := (towerItems s ((off - rTWR_TOW_CTX 0) / 0x10) .suspended).length
    mkW (used + max (rfld s off 8 5) used * 2 ^ 8)
  else if off = rBELFRY_STATUS then
    mkW (belfryHeld s + (s.arr.belfry.filter fun p => p.2.sa.isSome && p.2.st == .ready).length * 2 ^ 10)
  else rget s off

/-- Free egress reorder space of a pipeline (PPL_EG_ROB). -/
def robFree (s : State) (k : Nat) : Nat := 512 - (portsOf k).foldl (fun n p => n + portUnits s p) 0

/-- Free hold-buffer cells of a pipeline (PPL_IG_HOLD). -/
def holdFree (s : State) (k : Nat) : Nat := 2048 - (portsOf k).foldl (fun n p => n + portCells s p) 0

def shadowCode : ShadowSt → Nat
  | .empty => 0
  | .building => 1
  | .ready => 2
  | .failed => 3

/-- A pipeline's page (R171, R220). -/
def readPpl (s : State) (off : Nat) : Word :=
  let k := (off - 0x7000) / 0x400
  let p := ppl s k
  match (off - 0x7000) % 0x400 with
  | 0x004 => mkW (bitsOf [p.actBank, p.bank0.valid, p.bank1.valid, heldBy s (.tree k)] + (bankOf p p.actBank).nodes * 2 ^ 5)
  | 0x00C => mkW (robFree s k)
  | 0x010 => mkW (64 - retUnits p)
  | 0x200 => mkW (shadowCode p.shSt + b2n (heldBy s (.shadow k)) * 2 ^ 2 + (sltList p.active).length * 2 ^ 4
                  + ((sltList p.active).filter fun e => 4096 ≤ e.1).length * 2 ^ 16)
  | 0x204 => mkW p.active.seed
  | 0x208 => mkW p.shadow.seed
  | 0x20C => rget s off ||| mkW (pplPending s k * 2 ^ 12)
  | 0x214 => rget s off ||| mkW (holdFree s k * 2 ^ 8)
  | _ => rget s off

/-- Does a frame of the port wait for its launch time (R161)? -/
def launchHeld (s : State) (n : Nat) : Bool :=
  (egList s).any fun p => p.2.port == n && p.2.launch.isSome && !p.2.started && !p.2.released && !isWaiting p.2
    && latePolicy s n != 2 && (releaseAt s p.2).isSome

/-- Does a frame of the port wait in state `st`? -/
def portWaits (s : State) (n : Nat) (st : EgSt) : Bool := (egList s).any fun p => p.2.port == n && p.2.st == st

/-- The port's ready indication (R124, R137). -/
def egReadyPort (s : State) (n : Nat) : Bool := dpRuns s && !s.pwr.restoring && !entering s && !pipeLeaving s && rflag s (rPA_EG_CTRL n) 0 && !portBlocked s n

/-- A port's page (R170, R219). -/
def readPa (s : State) (off : Nat) : Word :=
  let n := (off - 0x8000) / 0x80
  match (off - 0x8000) % 0x80 with
  | 0x08 => mkW (bitsOf [egReadyPort s n, launchHeld s n, portWaits s n .leaseWait, portWaits s n .spaceWait, portWaits s n .returnWait])
  | 0x48 => rget s off ||| mkW (portPending s n * 2 ^ 8)
  | 0x5C =>
    let y := match defaultSecy s n with | some y => 4 + y * 2 ^ 3 | none => 0
    mkW (portClear s n + y + portCells s n * 2 ^ 12)
  | _ => rget s off

/-- TMU (R402): TMU_LC_MID and TMU_LC_HI read as TMU_LC_LO latched them. -/
def readTmu (s : State) (off : Nat) : Word :=
  let t := s.tmu
  if off = rLC_LO then mkW (lcNs s)
  else if off = rTMU_WC then
    rget s off ||| mkW (wcCode t.src + t.sel * 2 ^ 2 + b2n t.slewing * 2 ^ 4)
  else if off = rSYNC_PULL then sgnW 24 t.pull
  else if off = rSYNC_LAST then sgnW 24 (clampI (-8388608) 8388607 t.syncErr)
  else if off = rSYNC_STATUS then
    mkW (bitsOf [pullRange s, t.lost, (List.range 24).any fun p => rflag s rSYNC_PORTS p && cycleDiffers s p])
  else if inArr off 0x9040 4 16 then
    let d := dom t ((off - 0x9040) / 0x20)
    match (off - 0x9040) % 0x20 with
    | 0x10 => mkW (dstCode d.st)
    | 0x14 => sgnW 24 d.ofs
    | 0x18 => mkW (unsgn 32 d.rate)
    | 0x1C => mkW (unsgn 32 d.rate / 2 ^ 24)
    | _ => rget s off
  else if inArr off (rP_CAL 0) 0x20 24 then
    let p := (off - rP_CAL 0) / 0x20
    let c := cal s p
    mkW (bitsOf [c.active == 1, c.bank0.valid, c.bank1.valid, c.running, calHeld s p])
  else rget s off

def linkCode : LinkSt → Nat
  | .down => 0
  | .training => 1
  | .active => 2
  | .retrain => 3

/-- A Spire port's page (R447). -/
def readSp (s : State) (off : Nat) : Word :=
  let v := sport s ((off - 0xA400) / 0x100)
  match (off - 0xA400) % 0x100 with
  | 0x04 => mkW (linkCode v.st + v.width * 2 ^ 2 + b2n v.gen2 * 2 ^ 5 + v.lanesOk * 2 ^ 6 + b2n v.reversed * 2 ^ 10 + v.inverted * 2 ^ 11)
  | 0x08 => match v.partner with | some (n, p) => mkW (n + p * 2 ^ 12 + 2 ^ 14) | none => 0
  | 0x10 => rget s off ||| mkW (v.xoffTx * 2 ^ 8 + v.xoffRx * 2 ^ 16)
  | 0x14 => mkW v.replay.length
  | _ => rget s off

/-- SPL (R447). -/
def readSpl (s : State) (off : Nat) : Word :=
  if off = rSPL_PERR_STATUS then rget s off ||| mkW (s.spl.perrValid + s.spl.perrNext * 2 ^ 8)
  else if off = rSPL_TAGS then mkW (tagsOut s + s.spl.epoch * 2 ^ 13)
  else if 0xA400 ≤ off then readSp s off
  else rget s off

/-- STC (R364): a _HI register reads as its _LO latched it. -/
def readStc (s : State) (off : Nat) : Word :=
  let c := (off - 0xB000) / 0x100
  if (off - 0xB000) % 0x100 = 0x04 then
    let v := stc s c
    let cap := v.xfers.any fun x => x.units.any fun u => match item s u.id with | some i => i.st == .crossbar | none => false
    mkW (b2n (stcReady s c && v.tagWait.isNone) + v.xfers.length * 2 + b2n cap * 2 ^ 7 + b2n v.tagWait.isSome * 2 ^ 8)
  else if inArr ((off - 0xB000) % 0x100) 0x18 8 3 then rget s (off + 0x40)
  else if (off - 0xB000) % 0x100 < 0x30 then rget s off
  else 0

/-- Slots in a state. -/
def slotsIn (s : State) (st : SlotSt) : Nat := (s.dome.slots.filter fun p => p.2.st == st).length

/-- Persistent keys loaded (DOM_PERSIST). -/
def persistCount (s : State) : Nat := (s.dome.slots.filter fun p => p.2.st == .loaded && slotPersist p.2).length

/-- Bits of a number as four bits, one per index. -/
def fourBits (f : Nat → Bool) : Nat := bitsOf ([0, 1, 2, 3].map f)

/-- DOM (R320, R349). -/
def readDom (s : State) (off : Nat) : Word :=
  let d := s.dome
  if off = rDOM_STATE then
    mkW (domeStCode d.st + lifeCode (lifeNow s) * 2 ^ 2 + bitsOf [testRootOn s, s.fuses.hybrid, d.drbgOk] * 2 ^ 4)
  else if off = rDOM_SLOTS then mkW (slotsIn s .loaded)
  else if off = rDOM_REVOKED then mkW (slotsIn s .revoked)
  else if off = rDOM_DCACHE then mkW d.dcache.length
  else if off = rDOM_HELD then mkW (d.held.length + b2n (domeWaiting s) * 2 ^ 5)
  else if inArr off (rDOM_UID 0) 4 4 then mkW (s.fuses.uid / 2 ^ (24 * ((off - rDOM_UID 0) / 4)))
  else if off = rDOM_TRUST then
    mkW (bitsOf [s.fuses.prov, alarmLatch s, d.commit.isSome, d.recordValid, d.recordBlank, d.imageLost, d.record.bank == 1,
                 resetRequired s, s.tmp.loadedMark])
  else if off = rDOM_POLICY then mkW d.record.policy
  else if off = rDOM_KUM_CTR_LO then wLo d.record.counter
  else if off = rDOM_KUM_CTR_HI then wHi d.record.counter
  else if off = rDOM_IMAGE_GEN_LO then wLo d.record.imageGen
  else if off = rDOM_IMAGE_GEN_HI then wHi d.record.imageGen
  else if off = rDOM_PERSIST then mkW (persistCount s)
  else if off = rDOM_RPMB_WCNT_LO then wLo d.writeCnt
  else if off = rDOM_RPMB_WCNT_HI then mkW (bitsN d.writeCnt 24 8)
  else if inArr off (rDOM_LC_NONCE 0) 4 6 then wAt (bytesWords 6 d.lcNonce) ((off - rDOM_LC_NONCE 0) / 4)
  else if off = rDOM_AUTH_FUSE then mkW (fourBits (eccProg s) + fourBits (pqProg s) * 2 ^ 4)
  else rget s off

/-- Does a domain that is on hold the offset's range (R19)? Reserved ranges hold nothing. -/
def rangeOn (s : State) (off : Nat) : Bool := match regDomain off with | some d => domOn s d | none => false

/-- The value that a read returns (R1, R2, R9, R19). -/
def regRead (s : State) (off : Nat) : Word :=
  if !rangeOn s off || off % 4 ≠ 0 then 0
  else if off < 0x1000 then readGlb s off
  else if off < 0x2000 then readPwr s off
  else if off < 0x3000 then readEvt s off
  else if off < 0x4000 then readLog s off
  else if off < 0x6000 then readRing s off
  else if off < 0x7000 then readTwr s off
  else if off < 0x8000 then readPpl s off
  else if off < 0x9000 then readPa s off
  else if off < 0xA000 then readTmu s off
  else if off < 0xB000 then readSpl s off
  else if off < 0xC000 then readStc s off
  else if off < 0xD000 then readDom s off
  else if off < 0xE000 then rget s off
  else if (off - 0x10000) % 0x400 = 0 then mkW (ring s ((off - 0x10000) / 0x400)).sqTail
  else if (off - 0x10000) % 0x400 = 4 then mkW (ring s ((off - 0x10000) / 0x400)).cqHead
  else 0

/-- A read clears the RC fields of its register (R9). -/
def readClear (off : Nat) (s : State) : State :=
  if rangeOn s off && regRc off != 0 then rset off (rget s off &&& ~~~(regRc off)) s else s

/-- A read of a register whose table says that it latches the upper parts (R364, R402, R475). The upper parts of an STC pair are
latched beside the pair itself, 0x40 above. -/
def latchRead (off : Nat) (s : State) : State :=
  if !rangeOn s off then s
  else if off = rLC_LO then rset rLC_MID (mkW (lcNs s / 2 ^ 24)) (rset rLC_HI (mkW (lcNs s / 2 ^ 48 % 2 ^ 16)) s)
  else if off = rLOG_TICK_LO then rset rLOG_TICK_HI (mkW (aonTick s / 2 ^ 24 + s.log.epoch * 2 ^ 8)) s
  else if off < 0xC000 && 0xB000 ≤ off && (off - 0xB000) / 0x100 < 2 && inArr ((off - 0xB000) % 0x100) 0x14 8 3 then
    rset (off + 0x44) (rget s (off + 4)) s
  else s

/-- A read, its value and everything it changes. -/
def regReadFull (off : Nat) (s : State) : State × Word := (latchRead off (readClear off s), regRead s off)

/-! ### Writing -/

/-- Three, or four, bits for each of `n` sources from source `first`, those of the reserved ones left out (R532). -/
def laneBits (w n first : Nat) : Nat :=
  (List.range n).foldl (fun m i => if isSource (first + i) then m + (2 ^ w - 1) * 2 ^ (w * i) else m) 0

/-- The bits that a write sets (access RW of the register tables), but for the registers whose write is an operation. -/
def rwBits (off : Nat) : Nat :=
  if off < 0x1000 then
    if off = rGLB_SCRATCH then mAll
    else if 0x400 ≤ off && off < 0x480 then
      match (off - 0x400) % 0x10 with | 0 => 0x17F | 4 => 0xFF | 8 => mAll | _ => 0
    else if inArr off (rRGRP 0) 4 8 then mAll else 0
  else if off < 0x2000 then
    if off = rPWR_CTX_BASE_LO then 0xFFF000 else if off = rPWR_CTX_BASE_HI then mAll else if off = rPWR_CTX_LEN then 0x3FF
    else if off = rPWR_SWITCH then 0xFF else 0
  else if off < 0x3000 then
    if off < 0x2180 then
      let b := (off - 0x2000) / 0x40
      match (off - 0x2000) % 0x40 with
      | 0x04 => bankMask b
      | 0x08 => laneBits 3 8 (24 * b)
      | 0x0C => laneBits 3 8 (24 * b + 8)
      | 0x10 => laneBits 3 8 (24 * b + 16)
      | 0x14 => laneBits 4 6 (24 * b)
      | 0x18 => laneBits 4 6 (24 * b + 6)
      | 0x1C => laneBits 4 6 (24 * b + 12)
      | 0x20 => laneBits 4 6 (24 * b + 18)
      | _ => 0
    else if inArr off (rEVT_RING_BASE_LO 0) 0x20 8 || inArr off (rEVT_RING_BASE_HI 0) 0x20 8 then mAll else 0
  else if off < 0x4000 then (if off = rLOG_CTRL then 0x7FF else 0)
  else if off < 0x6000 then
    match (off - 0x4000) % 0x80 with | 0 => mAll | 4 => mAll | 8 => mAll | 0x0C => mAll | 0x10 => 0xF0F | 0x2C => 0x0FFFF7 | _ => 0
  else if off < 0x7000 then
    if off = rTWR_TEST then 0xFF else if off = rBELFRY_CTRL then 0xFFFF else if off = rBELFRY_BUDGET then 0x3FF else 0
  else if off < 0x8000 then
    match (off - 0x7000) % 0x400 with | 0x000 => 1 | 0x20C => 0xFFF | 0x210 => 0xFFFF | 0x214 => 0xFF | _ => 0
  else if off < 0x8C00 then
    match (off - 0x8000) % 0x80 with
    | 0x00 => 7 | 0x04 => 0x3FFF | 0x40 => 0x1F | 0x44 => 0x3FFF | 0x48 => 0x7F
    | 0x4C => 0x1FFFF | 0x50 => 0x1FFFF | 0x54 => 0x1FFFF | 0x58 => 0x1FFFF | _ => 0
  else if off < 0x9000 then 0
  else if off < 0xA000 then
    if off = rLC_INCR_LO then mAll else if off = rLC_INCR_HI then 0xFFF else if off = rTMU_WC then 8
    else if off = rTMU_LAUNCH then 0xFFFF else if off = rTMU_LAUNCH_AHEAD then mAll else if off = rSYNC_CTRL then 3
    else if off = rSYNC_PORTS then mAll
    else if inArr off (rD_CTRL 0) 0x20 2 then 0x3FF
    else if inArr off (rD_KP 0) 0x20 2 || inArr off (rD_KI 0) 0x20 2 || inArr off (rD_STEP 0) 0x20 2 then mAll
    else if inArr off (rP_TX_DELAY 0) 0x20 24 || inArr off (rP_RX_DELAY 0) 0x20 24 then mAll
    else if inArr off (rP_LAUNCH 0) 0x20 24 then 0x3FF else 0
  else if off < 0xB000 then
    if off = rSPL_NODE then 0x3FFF else if off = rSPL_ACCESS then 0x7FFF else if off = rSPL_TIMEOUT then mAll
    else if off = rSPL_GATHER then 0xFFFF else if off = rSPL_KT_CTRL then 0x1FFFFF else if off = rSPL_EVT_CTRL then 0x7FFF
    else if inArr off (rSPL_ROUTE_RANGE 0) 4 16 then mAll else if inArr off (rSPL_ROUTE_PORT 0) 4 16 then 7
    else if inArr off (rSP_CTRL 0) 0x100 3 then 0x1F else if inArr off (rSP_REPLAY 0) 0x100 3 then 0xFFFF
    else if inArr off (rSP_FC 0) 0x100 3 then 0x1F else if inArr off (rSP_TIME 0) 0x100 3 then mAll
    else if inArr off (rSP_TEST 0) 0x100 3 then 3 else 0
  else if off < 0xC000 then (if inArr off (rSTC_CTRL 0) 0x100 2 then 3 else 0)
  else if off < 0xD000 then (if off = rDOM_RPMB_ADDR then 0xFFFF else 0)
  else if off = rTMP_CTRL then 0xF else if off = rTMP_LEVEL then 0xFFFF else if off = rTMP_DEBOUNCE then 0xFF
  else if off = rTMP_TEMP_LIMIT then 0xFFFF else 0

/-- The W1S lock bit of a register. -/
def lockBit (off : Nat) : Nat :=
  if off = rPG_LOCK then 1 else if off = rSPL_NODE then 2 ^ 14 else if off = rSPL_ACCESS then 2 ^ 15
  else if off = rSPL_KT_CTRL then 2 ^ 21 else if off = rDOM_RPMB_ADDR then 2 ^ 16 else if off = rTMP_CTRL then 2 ^ 4 else 0

/-- Is the register locked (R11, R68, R349, R420, R426, R447, R455)? -/
def regLocked (s : State) (off : Nat) : Bool :=
  (0x400 ≤ off && off < rPG_LOCK && rflag s rPG_LOCK 0)
    || (off == rSPL_NODE && rflag s rSPL_NODE 14) || (off == rSPL_ACCESS && rflag s rSPL_ACCESS 15)
    || (off == rSPL_KT_CTRL && rflag s rSPL_KT_CTRL 21) || (off == rDOM_RPMB_ADDR && rflag s rDOM_RPMB_ADDR 16)
    || ((off == rTMP_CTRL || off == rTMP_LEVEL || off == rTMP_DEBOUNCE || off == rTMP_TEMP_LIMIT) && rflag s rTMP_CTRL 4)

/-- The bits of a field whose written value is refused. -/
def keepIf (bad : Bool) (lo len : Nat) : Nat := if bad then (2 ^ len - 1) * 2 ^ lo else 0

/-- May ring pair `n`'s register at page offset `o` be written (R37)? -/
def ringRegOpen (s : State) (n o : Nat) : Bool :=
  let r := ring s n
  r.state == .disabled || r.state == .stopped || ((o == 8 || o == 0x0C) && r.state == .stopping && r.err == 6)

/-- The bits that a write of `v` leaves as they are: a value outside the field's range, or a field that the block's state locks. -/
def keepBits (s : State) (off : Nat) (v : Word) : Nat :=
  let out (lo len a b : Nat) : Bool := fld v lo len < a || b < fld v lo len
  if regLocked s off then mAll
  else if off < 0x2000 then
    if off = rPWR_SWITCH then keepIf (out 0 8 5 255) 0 8
    else if off = rPWR_CTX_BASE_LO || off = rPWR_CTX_BASE_HI || off = rPWR_CTX_LEN then keepIf (pwrBusy s) 0 24
    else 0
  else if off < 0x3000 then
    if 0x2800 ≤ off then keepIf (evRing s ((off - 0x2800) / 0x20)).enable 0 24 else 0
  else if off < 0x4000 then keepIf (1024 < fld v 0 11) 0 11
  else if off < 0x6000 then keepIf (!ringRegOpen s ((off - 0x4000) / 0x80) ((off - 0x4000) % 0x80)) 0 24
  else if off < 0x7000 then
    if off = rTWR_TEST then keepIf (out 0 8 1 255) 0 8
    else if off = rBELFRY_CTRL then keepIf (out 0 16 500 65535) 0 16
    else if off = rBELFRY_BUDGET then keepIf (out 0 10 64 840) 0 10 else 0
  else if off < 0x8000 then
    if (off - 0x7000) % 0x400 = 0x214 then keepIf (out 0 8 1 255) 0 8 else 0
  else if off < 0x9000 then
    match (off - 0x8000) % 0x80 with
    | 0x00 => keepIf (rflag s off 0) 2 1
    | 0x04 => keepIf (out 0 14 64 9216) 0 14
    | 0x40 => keepIf (rflag s off 0) 1 2
    | 0x44 => keepIf (out 0 14 64 9216) 0 14
    | _ => 0
  else if off < 0xA000 then
    if off = rTMU_LAUNCH then keepIf (out 0 16 40 65535) 0 16
    else if off = rTMU_LAUNCH_AHEAD then keepIf (out 0 24 1 2000000) 0 24
    else if inArr off (rD_CTRL 0) 0x20 2 then keepIf (out 6 4 1 15) 6 4
    else if inArr off (rP_LAUNCH 0) 0x20 24 then keepIf (fld v 0 2 = 3) 0 2 else 0
  else if off < 0xB000 then
    if off = rSPL_NODE then keepIf (flag v 12) 0 12
    else if off = rSPL_TIMEOUT then keepIf (out 0 16 10 65535) 0 16 + keepIf (out 16 8 1 255) 16 8
    else if off = rSPL_GATHER then keepIf (out 0 16 1 65535) 0 16
    else if inArr off (rSP_CTRL 0) 0x100 3 then keepIf (fld v 1 2 = 3) 1 2
    else if inArr off (rSP_REPLAY 0) 0x100 3 then keepIf (out 0 16 1000 65535) 0 16
    else if inArr off (rSP_FC 0) 0x100 3 then keepIf (out 0 5 8 20) 0 5 else 0
  else if off < 0xD000 then 0
  else if off = rTMP_LEVEL then
    [0, 2, 4, 6, 8, 10, 12, 14].foldl (fun m lo => m + keepIf (fld v lo 2 = 3) lo 2) 0
  else if off = rTMP_DEBOUNCE then keepIf (fld v 0 4 = 0) 0 4 + keepIf (fld v 4 4 = 0) 4 4
  else if off = rTMP_TEMP_LIMIT then
    keepIf (fld v 0 8 < 9 || 214 < fld v 8 8 || fld v 8 8 < fld v 0 8 + 20) 0 16
  else 0

/-- The value that a write stores for a written value: TMP_LEVEL stores 1 for a 0 of sources 4, 5 and 7 (R454). -/
def writeVal (off : Nat) (v : Word) : Word :=
  if off = rTMP_LEVEL then
    [8, 10, 14].foldl (fun v lo => if fld v lo 2 = 0 then mkW (setBitsN v.toNat lo 2 1) else v) v
  else v

/-- Store the RW fields and set the lock bit of a register. -/
def regStore (off : Nat) (v : Word) (s : State) : State :=
  let m := mkW (rwBits off) &&& ~~~(mkW (keepBits s off v))
  let w := writeVal off v
  rset off ((rget s off &&& ~~~m) ||| (w &&& m) ||| (w &&& mkW (lockBit off))) s

/-- HRE_RINGn_CTRL (R36). -/
def ringCtrlWrite (n : Nat) (v : Word) (s : State) : State :=
  let s := if flag v 1 then resumeCq n s else s
  if flag v 0 then ringEnable n s else ringDisable n s

/-- TMP_CTRL: a loop that is disabled is not sampled any more (R448). -/
def tmpCtrlWrite (v : Word) (s : State) : State :=
  let s' := regStore rTMP_CTRL v s
  [0, 1, 2, 3].foldl (fun t k => if loopOn s k && !loopOn s' k then loopOff k t else t) s'

/-- SPL_NODE: a tree root has ID 0; a tree node without ROOT takes its ID when its U port reaches ACTIVE (R423). A node that enters tree
mode with U ACTIVE takes it at once; DA and DB start training once the node has its ID. -/
def splNodeWrite (v : Word) (s : State) : State :=
  let was := isTree s
  let s := regStore rSPL_NODE v s
  let s := if isTree s && rflag s rSPL_NODE 13 then rsetFld rSPL_NODE 0 12 0 s else s
  let s := if isTree s then s else { s with spl := { s.spl with hasId := false } }
  let s := if isTree s && !was && !rflag s rSPL_NODE 13 && portUp s 0 then takeNodeId s else s
  startTraining 2 (startTraining 1 s)

/-- SPL_Pp_CTRL (R406, R409, R410, R447). -/
def spCtrlWrite (p : Nat) (v : Word) (s : State) : State :=
  let was := rflag s (rSP_CTRL p) 0
  let s := regStore (rSP_CTRL p) (mkW (setBitsN v.toNat 0 1 (b2n was))) s
  let s := if flag v 0 then splPortEnable p s else splPortDisable p s
  if flag v 5 then splRetrainRequest p s else s

/-- TMU_SYNC_CTRL (R394, R395). -/
def syncCtrlWrite (v : Word) (s : State) : State :=
  let s := syncRestart s (regStore rSYNC_CTRL v s)
  if flag v 2 then tmuSyncClear s else s

/-- PWR_REQ (R478). -/
def pwrReqWrite (v : Word) (s : State) : State :=
  match fld v 0 2 with
  | 0 => pwrReqRun s
  | 1 => pwrReqIdle s
  | 2 => pwrReqRetain s
  | _ => pwrReqOff s

/-- PWR_CTX_CTRL (R488). -/
def ctxCtrlWrite (v : Word) (s : State) : State :=
  let s := if flag v 0 then pwrCtxRestore s else s
  if flag v 1 then pwrCtxDiscard s else s

/-- LOG_CTRL (R472). -/
def logCtrlWrite (v : Word) (s : State) : State :=
  let s := regStore rLOG_CTRL v s
  if flag v 11 then logCtrlAck s else s

/-- A doorbell write in IDLE starts the exit and is accepted (R482). -/
def doorbell (sq : Bool) (n v : Nat) (s : State) : State := if sq then dblSqTail n v (idleWake s) else dblCqHead n v (idleWake s)

/-- A full write of the register at `off` (R1, R2, R9, R19). -/
def regWrite (off : Nat) (v : Word) (s : State) : State :=
  if !rangeOn s off || off % 4 ≠ 0 then s
  else if off < 0x2000 then
    if off = rPWR_REQ then pwrReqWrite v s
    else if off = rPWR_DOMAIN then pwrDomainWrite v.toNat s
    else if off = rPWR_CTX_CTRL then ctxCtrlWrite v s
    else regStore off v s
  else if off < 0x3000 then
    if off < 0x2180 then
      if (off - 0x2000) % 0x40 = 0 then evtPendClear ((off - 0x2000) / 0x40) v s
      else if (off - 0x2000) % 0x40 = 0x24 then evtForce ((off - 0x2000) / 0x40) v s
      else regStore off v s
    else if inArr off (rEVT_RING_CTRL 0) 0x20 8 then evtRingCtrl ((off - 0x2800) / 0x20) v s
    else if inArr off (rEVT_RING_HEAD 0) 0x20 8 then evtRingHead ((off - 0x2800) / 0x20) v s
    else regStore off v s
  else if off < 0x4000 then
    if off = rLOG_CTRL then logCtrlWrite v s else if off = rLOG_RD_IDX then logRdIdx v s else regStore off v s
  else if off < 0x6000 then
    if (off - 0x4000) % 0x80 = 0x14 then ringCtrlWrite ((off - 0x4000) / 0x80) v s else regStore off v s
  else if off < 0xA000 then
    if off = rSYNC_CTRL then syncCtrlWrite v s
    else if off = rBELFRY_BUDGET then regStore off v (takeTokens 0 s)
    else if off = rSYNC_PORTS then syncRestart s (regStore off v s)
    else regStore off v s
  else if off < 0xB000 then
    if off = rSPL_NODE then splNodeWrite v s
    else if inArr off (rSP_CTRL 0) 0x100 3 then spCtrlWrite ((off - 0xA400) / 0x100) v s
    else regStore off v s
  else if off < 0x10000 then
    if off = rTMP_CTRL then tmpCtrlWrite v s else regStore off v s
  else if (off - 0x10000) % 0x400 = 0 then doorbell true ((off - 0x10000) / 0x400) v.toNat s
  else if (off - 0x10000) % 0x400 = 4 then doorbell false ((off - 0x10000) / 0x400) v.toNat s
  else s

/-- REGISTER_WRITE: a narrow write changes nothing (R2); an access of any width to a gated range starts the exit from IDLE (R482). -/
def registerWrite (off : Nat) (v : Nat) (full : Bool) (s : State) : State :=
  let s := idleRangeAccess off s
  if full then regWrite off (mkW v) s else s

/-- Setting a lock bit (GLB_PG_LOCK, SPL_NODE, SPL_ACCESS, SPL_KT_CTRL, DOM_RPMB_ADDR, TMP_CTRL) changes nothing else (R9, R11). -/
def setLock (off : Nat) (s : State) : State :=
  if rangeOn s off then rset off (rget s off ||| mkW (lockBit off)) s else s

end Sys2Proof.Machine
end

