-- ==== Sys2Proof/Machine/Control.lean ====
section
/-! DEFINITION. Sys2Proof/Machine/Control.lean: the ring-control opcodes (R81), CAL_SWITCH outside a group (R399), Dome writes that wait for
a preceding key (R296), and a change of the clocks (R497). -/

namespace Sys2Proof.Machine

/-- NOP (R81). -/
def bodyNop : Body := fun _ _ _ s => (s, some (okRes 0))

/-- BARRIER (R81): its wait is part of `mayStart`. -/
def bodyBarrier : Body := fun _ _ _ s => (s, some (okRes 0))

/-- RING_STOP (R81). -/
def bodyRingStop : Body := fun _ _ w s => (stopRing (fld (wAt w 4) 0 6) s, some (okRes 0))

/-- SW_EVENT (R77, R81). -/
def bodySwEvent : Body := fun n _ w s => (raise 11 n (wAt w 4).toNat s, some (okRes 0))

/-- CAL_SWITCH outside a group (R399). -/
def bodyCalSwitch : Body := fun n _ w s =>
  match chkCalSwitch n w s with
  | some r => (s, some r)
  | none => (appCalSwitch w s, some (calSwitchRes w s))

/-- A Dome write that finds the preceding key of its slot, or 16 of them, still held waits; it runs on when none is (R296). -/
def runWaits (op : Nat) (waits : List Word → State → Bool) (body : Body) (n i : Nat) (s : State) : State :=
  match entAt s n i with
  | some e =>
    if e.st = .running && wOp e.words = op && domOn s dHOST then
      if waits e.words s then s
      else
        match body n i e.words s with
        | (s', some r) => effect n i r s' s
        | (s', none) => s'
    else
      let first : Body := fun n i w s =>
        if waits w s then (s, none) else body n i w s
      runDesc op first n i s
  | none => s

/-- CLOCK_OK: ck_ok_i as it is now. -/
def clockOk (bits : Nat) (s : State) : State := modPwr (fun p => { p with ckOk := bits }) s

end Sys2Proof.Machine
end

