-- ==== Sys2Proof/Machine/SpireTx.lean ====
section
/-! DEFINITION. Sys2Proof/Machine/SpireTx.lean: Spire Link's transactions: remote register access, locked sequences, key transport, lease
mirror packets, time exchange, events, test packets, broadcast and gather (R424 to R445). -/

namespace Sys2Proof.Machine

/-! ### Sending a request of a descriptor (R424, R432) -/

/-- Route a request to `node` and send it under the next tag: NO_ROUTE or LINK_LOST at once where it cannot go. -/
def splRequest (n i node : Nat) (use : TagUse) (mk : Nat → Pkt) (s : State) : State × Option Res :=
  match firstHop s node with
  | none => (s, some (failRes .remoteErr 3))
  | some p =>
    if !portUp s p then (s, some lostRes)
    else match nextTag s with
      | none => (s, none)
      | some t => (enqueue p { pkt := mk t } (takeTag t (.used use n i s.spl.epoch p (s.clock + reqTimeout s)) s), none)

/-- A Spire descriptor starts only when a tag is free (R424). -/
def runSpl (op : Nat) (body : Body) (n i : Nat) (s : State) : State :=
  if (nextTag s).isNone then s else runDesc op body n i s

def splNode (w : List Word) : Nat := fld (wAt w 2) 0 12
def splAddr (w : List Word) : Nat := fld (wAt w 4) 0 17
def splCount (w : List Word) : Nat := fld (wAt w 5) 0 9

/-- SPL_READ (R444). -/
def bodySplRead : Body := fun n i w s =>
  splRequest n i (splNode w) .read (fun t => ownPkt s 0 1 (splNode w) t 0 [mkW (splAddr w), mkW (splCount w)]) s

/-- SPL_WRITE (R424, R441, R444, R445): it completes when the WR enters the replay buffer. -/
def bodySplWrite : Body := fun n i w s =>
  match firstHop s (splNode w) with
  | none => (s, some (failRes .remoteErr 3))
  | some p =>
    if !portUp s p then (s, some lostRes)
    else match memReadWords s (join48 (wAt w 6) (wAt w 7)) (splCount w), nextTag s with
      | none, _ => (s, some hostMemRes)
      | some _, none => (s, none)
      | some data, some t =>
        let k := ownPkt s (if flag (wAt w 4) 17 then 7 else 1) 3 (splNode w) t 0 (mkW (splAddr w) :: data)
        (enqueue p { pkt := k, own := some (n, i) } (takeTag t .posted s), none)

/-! ### Register access at the far node (R426) -/

/-- The unit of an offset, in the order of UNITS; none outside every unit. -/
def regUnit (off : Nat) : Option Nat :=
  if off < 0x1000 then some 0 else if off < 0x2000 then some 1 else if off < 0x3000 then some 2 else if off < 0x4000 then some 3
  else if off < 0x6000 then some 4 else if off < 0x7000 then some 5 else if off < 0x8000 then some 6 else if off < 0x9000 then some 7
  else if off < 0xA000 then some 8 else if off < 0xB000 then some 9 else if off < 0xC000 then some 10 else if off < 0xD000 then some 11
  else if off < 0xE000 then some 12 else if off < 0x10000 then none else if off < 0x20000 then some 13 else none

/-- Does SPL_ACCESS permit the offset's unit? -/
def unitOk (s : State) (off : Nat) : Bool := match regUnit off with | some u => rflag s rSPL_ACCESS u | none => true

/-- Is the power domain of the offset's unit off? -/
def unitOff (s : State) (off : Nat) : Bool := match regDomain off with | some d => !domOn s d | none => false

/-- Why the far node refuses an access to some registers: 1 ACCESS, 2 POWER. -/
def farRefusal (s : State) (offs : List Nat) : Option Nat :=
  if offs.any fun o => !unitOk s o then some 1 else if offs.any (unitOff s) then some 2 else none

/-- One read, one write, of a master other than the host, in a state where IDLE's ranges wake the clocks (R482). -/
def busRead (off : Nat) (s : State) : State × Word := regReadFull off (idleRangeAccess off s)
def busWrite (off : Nat) (v : Word) (s : State) : State := regWrite off v (idleRangeAccess off s)

/-- Registers in ascending address order. -/
def busReads : List Nat → State → State × List Word
  | [], s => (s, [])
  | o :: r, s =>
    let (s, v) := busRead o s
    let (s, l) := busReads r s
    (s, v :: l)

def busWrites : List (Nat × Word) → State → State
  | [], s => s
  | (o, v) :: r, s => busWrites r (busWrite o v s)

/-- (old and not MASK) or (DATA and MASK) (R443, R444). -/
def maskWrite (off : Nat) (data mask : Word) (s : State) : State :=
  busWrite off ((regRead s off &&& ~~~mask) ||| (data &&& mask)) s

/-- An operation of a locked sequence: KIND, ADDR, DATA, MASK (R444). -/
structure LockOp where
  kind : Nat
  addr : Nat
  data : Word
  mask : Word

def lockOp (l : List Word) : LockOp :=
  { kind := fld (wAt l 0) 17 2, addr := fld (wAt l 0) 0 17, data := wAt l 1, mask := wAt l 2 }

/-- Run operations in order: the values read, the number performed, and the index of a COMPARE that failed (R444). -/
def runOps : List LockOp → Nat → State → State × List Word × Nat × Option Nat
  | [], k, s => (s, [], k, none)
  | o :: r, k, s =>
    if o.kind = 2 then runOps r (k + 1) (maskWrite o.addr o.data o.mask s)
    else
      let (s, v) := busRead o.addr s
      if o.kind = 1 then
        let (s, l, m, f) := runOps r (k + 1) s
        (s, v :: l, m, f)
      else if v &&& o.mask = o.data &&& o.mask then runOps r (k + 1) s
      else (s, [], k, some k)

/-- The operations in a list of words, three each; KIND NONE ends them (R444). -/
def opsIn : Nat → List Word → List LockOp
  | 0, _ => []
  | n + 1, l => if l.isEmpty || (lockOp (l.take 3)).kind = 0 then [] else lockOp (l.take 3) :: opsIn n (l.drop 3)

/-- The operations of a descriptor, those of the far node and those of the near node (R429, R444). -/
def descOps (w : List Word) (near : Bool) : List LockOp :=
  ((lockOps w).filter fun k => flag (wAt w k) 19 == near).map fun k => lockOp [wAt w k, wAt w (k + 1), wAt w (k + 2)]

/-! ### Broadcast at a node (R443) -/

/-- Forward a BCAST packet that arrived on a port (`none` at the origin), and answer the ports it goes out on. -/
def bcastPorts (s : State) (arrived : Option Nat) : List Nat :=
  (if isTree s then [1, 2] else [0, 1, 2].filter fun q => rflag s (rSP_CTRL q) 4).filter fun q =>
    (sport s q).st == .active && arrived != some q

/-- Apply a BCAST packet here; does the node fail? -/
def bcastApply (k : Pkt) (s : State) : State × Bool :=
  let off := fld (wAt k.payload 0) 0 17
  let data := wAt k.payload 1
  let mask := wAt k.payload 2
  if !rflag s rSPL_ACCESS 14 || !unitOk s off then (s, true)
  else if flag (wAt k.payload 0) 17 then
    let (s, v) := busRead off s
    (s, v &&& mask != data &&& mask)
  else (maskWrite off data mask s, false)

/-- The gather of a packet ends: its CPL goes back, or at the origin its descriptor completes (R443, R445). -/
def gatherEnd (g : Gather) (s : State) : State :=
  match g.back with
  | some p =>
    let k : Pkt := { vc := 2, ty := 5, dest := 0xFFE, src := ownNode s, tag := g.tag, epoch := g.epoch,
                     payload := [0, mkW (g.count + g.fails * 2 ^ 12), mkW g.low] }
    if portUp s p then enqueue p { pkt := k } s else s
  | none => endTag g.tag (okRes (g.count + g.fails * 2 ^ 12 + g.low * 2 ^ 24)) s

/-- Set the gathers. -/
def setGathers (l : List Gather) (s : State) : State := { s with spl := { s.spl with gathers := l } }

/-- Begin a gather, or end it at once when no port is awaited. -/
def gatherBegin (g : Gather) (s : State) : State :=
  if g.awaited.isEmpty then gatherEnd g s else setGathers (s.spl.gathers ++ [g]) s

/-- The gather wait of a packet with HOPS `h`, in clocks. -/
def gatherWait (s : State) (h : Nat) : Nat := (15 - h) * rfld s rSPL_GATHER 0 16 * usClocks

/-- SPL_BCAST (R443, R444): the origin sends the packet down and gathers. -/
def bodySplBcast : Body := fun n i w s =>
  match nextTag s with
  | none => (s, none)
  | some t =>
    let ports := bcastPorts s none
    let k := ownPkt s 1 4 0xFFF t 0 [mkW (fld (wAt w 4) 0 18), wAt w 5, wAt w 6]
    if ports.isEmpty then (s, some (okRes (0xFFF * 2 ^ 24)))
    else
      let until_ := s.clock + gatherWait s 0
      let s := takeTag t (.used .bcast n i s.spl.epoch 3 until_) s
      let s := ports.foldl (fun s q => enqueue q { pkt := k } s) s
      let g : Gather := { src := ownNode s, tag := t, epoch := s.spl.epoch, back := none, awaited := ports, count := 0, fails := 0,
                          low := 0xFFF, deadline := until_ }
      (setGathers (s.spl.gathers ++ [g]) s, none)

/-- A BCAST packet at a node that received it on port `p`. -/
def bcastServe (p : Nat) (k : Pkt) (s : State) : State :=
  let ports := if 14 ≤ k.hops then [] else bcastPorts s (some p)
  let s := ports.foldl (fun s q => enqueue q { pkt := { k with hops := k.hops + 1 }, from_ := some p } s) s
  let (s, bad) := bcastApply k s
  gatherBegin { src := k.src, tag := k.tag, epoch := k.epoch, back := some p, awaited := ports, count := 1, fails := b2n bad,
                low := if bad then ownNode s else 0xFFF, deadline := s.clock + gatherWait s k.hops } s

/-- A gather CPL from port `p`. -/
def gatherCpl (p : Nat) (k : Pkt) (g : Gather) (s : State) : State :=
  let c := wAt k.payload 1
  let g' := { g with awaited := g.awaited.filter fun q => q != p, count := (g.count + fld c 0 12) % 2 ^ 12
                     fails := (g.fails + fld c 12 12) % 2 ^ 12, low := min g.low (fld (wAt k.payload 2) 0 12) }
  if g'.awaited.isEmpty then gatherEnd g' (setGathers (s.spl.gathers.filter fun x => x != g) s)
  else setGathers (s.spl.gathers.map fun x => if x = g then g' else x) s

/-- GATHER_TIMEOUT: the CPL goes without the missing subtrees. -/
def gatherTimeout (key : Nat) (s : State) : State :=
  match s.spl.gathers.find? fun g => 4096 * g.src + g.tag == key && g.deadline ≤ s.clock with
  | some g => if domOn s dSPIRE then gatherEnd g (setGathers (s.spl.gathers.filter fun x => x != g) s) else s
  | none => s

/-! ### Requests served on the near bus (R426, R429, R430) -/

/-- Serve an accepted access while the near bus is free. -/
def serveBus (p : Nat) (k : Pkt) (s : State) : State :=
  let addr := fld (wAt k.payload 0) 0 17
  if k.ty = 1 then
    let offs := (List.range (min 338 (fld (wAt k.payload 1) 0 9))).map fun j => addr + 4 * j
    match farRefusal s offs with
    | some c => sendOwn (cplPkt s k .remoteErr c 0 []) s
    | none =>
      let (s, l) := busReads offs s
      sendOwn (cplPkt s k .ok 0 0 l) s
  else if k.ty = 2 then
    let ops := opsIn 4 k.payload
    match farRefusal s (ops.map fun o => o.addr) with
    | some c => sendOwn (cplPkt s k .remoteErr c 0 []) s
    | none =>
      match runOps ops 0 s with
      | (s, l, _, none) => sendOwn (cplPkt s k .ok 0 0 l) s
      | (s, l, _, some j) => sendOwn (cplPkt s k .remoteErr 5 j l) s
  else if k.ty = 3 then
    let ws := k.payload.drop 1
    let offs := (List.range ws.length).map fun j => addr + 4 * j
    match farRefusal s offs with
    | some c => sendOwn (noticePkt s k c) s
    | none => busWrites (offs.zip ws) s
  else bcastServe p k s

/-- Spire Link's turn at the register slave port (R426). -/
def serveFar (p : Nat) (k : Pkt) (s : State) : State := serveBus p k { s with spl := { s.spl with lastFar := true } }

/-- An accepted access: it waits while a locked sequence holds the near bus (R429). -/
def reachBus (p : Nat) (k : Pkt) (s : State) : State :=
  if s.spl.hold.isSome then { s with spl := { s.spl with busWait := s.spl.busWait ++ [(p, k)] } } else serveFar p k s

/-- What a received packet is taken for here: accepted, of the TYPE and addressed to this node (R414, R420, R421). -/
def taken (p ty : Nat) (w : List Word) (s : State) : Option Pkt :=
  let r := parsePkt w
  if acceptable s p r && typeOk r.pkt && r.pkt.ty == ty && (ty == 4 || route s r.pkt.dest == .here) then some r.pkt else none

/-- Do `f` on a received packet of a TYPE, after accepting it. -/
def onPkt (p ty : Nat) (w : List Word) (f : Pkt → State → State) (s : State) : State :=
  match taken p ty w s with
  | some k => f k (accept p (parsePkt w) s)
  | none => s

/-- The same for a SUB of the TYPE. -/
def onSub (p ty sub : Nat) (w : List Word) (f : Pkt → State → State) (s : State) : State :=
  match taken p ty w s with
  | some k => if k.sub = sub then f k (accept p (parsePkt w) s) else s
  | none => s

/-- RD_REQ, WR and BCAST. -/
def rdReqReceive (p : Nat) (w : List Word) : State → State := onPkt p 1 w (reachBus p)
def wrReceive (p : Nat) (w : List Word) : State → State := onPkt p 3 w (reachBus p)
def bcastReceive (p : Nat) (w : List Word) : State → State := onPkt p 4 w (reachBus p)

/-- RETRY LOCK (R430, R437). -/
def lockRes : Res := failRes .retry 0x13

/-- A LOCK_REQ of the node's own that no port has sent is not sent any more: its sequence has no effect (R430). -/
def withdraw (t : Nat) (s : State) : State :=
  [0, 1, 2].foldl (fun s p => modSport p (fun v =>
    { v with queue := v.queue.filter fun q => !(q.from_.isNone && q.pkt.ty == 2 && q.pkt.tag == t) }) s) s

/-- A LOCK_REQ, and two locked sequences that cross (R430). -/
def lockReq (p : Nat) (k : Pkt) (s : State) : State :=
  match s.spl.hold with
  | some h =>
    if h.node = k.src then
      if ownNode s < k.src then sendOwn (cplPkt s k .retry 0x13 0 []) s
      else serveFar p k (dropHold h.tag (endTag h.tag lockRes (withdraw h.tag s)))
    else reachBus p k s
  | none => serveFar p k s

def lockReqReceive (p : Nat) (w : List Word) : State → State := onPkt p 2 w (lockReq p)

/-! ### Locked sequences at the near node (R429) -/

/-- SPL_LOCKED: the near bus is held from here on. -/
def bodySplLocked : Body := fun n i w s =>
  let payload := (lockOps w).flatMap fun k => if flag (wAt w k) 19 then [] else [wAt w k, wAt w (k + 1), wAt w (k + 2)]
  match splRequest n i (splNode w) .locked (fun t => ownPkt s 0 2 (splNode w) t 0 payload) s, nextTag s with
  | (s', none), some t =>
    let h : NearHold := { tag := t, node := splNode w, deadline := s.clock + rfld s rSPL_TIMEOUT 16 8 * usClocks }
    ({ s' with spl := { s'.spl with hold := some h } }, none)
  | x, _ => x

/-- A locked sequence starts only when the near bus is free (R429). -/
def runLocked (n i : Nat) (s : State) : State := if s.spl.hold.isSome then s else runSpl 0x52 bodySplLocked n i s

/-- The CPL of a locked sequence: the near operations run, and the sequence completes (R429, R444, R445). -/
def lockedCpl (t : Nat) (w : List Word) (k : Pkt) (s : State) : State :=
  let p0 := wAt k.payload 0
  if fld p0 0 8 ≠ 0 then
    dropHold t (endTag t { st := codeStatus (fld p0 0 8), reason := fld p0 8 8, detail := fld p0 16 3 } s)
  else
    let far := (descOps w false).length
    match runOps (descOps w true) far s with
    | (s, l, m, none) =>
      let vs := k.payload.drop 1 ++ l
      dropHold t (endTag t (okRes ((wAt vs 0).toNat + (wAt vs 1).toNat * 2 ^ 24) m) s)
    | (s, _, _, some j) => dropHold t (endTag t { st := .remoteErr, reason := 5, detail := j } s)

/-- LOCK_TIMEOUT: the near hold's limit expires (R429). -/
def lockTimeout (s : State) : State :=
  match s.spl.hold with
  | some h =>
    if h.deadline ≤ s.clock then
      dropHold h.tag (parkTag h.tag (endTag h.tag (failRes .timeout 0) s))
    else s
  | none => s

/-! ### Completions (R419, R425, R432, R445) -/

/-- The CPL of SPL_READ. -/
def readCpl (t : Nat) (w : List Word) (k : Pkt) (s : State) : State :=
  let p0 := wAt k.payload 0
  if fld p0 0 8 ≠ 0 then endTag t { st := codeStatus (fld p0 0 8), reason := fld p0 8 8 } s
  else
    let l := (k.payload.drop 1).take (splCount w)
    match memWriteWords (join48 (wAt w 6) (wAt w 7)) l s with
    | (s, true) => endTag t (okRes (3 * l.length)) s
    | (s, false) => endTag t hostMemRes s

/-- The descriptor of a tag that a packet answers: the tag is outstanding under the packet's EPOCH (R425). -/
def tagDesc (s : State) (k : Pkt) : Option (TagUse × Nat × Nat × List Word) :=
  match splTag s k.tag with
  | .used use n i e _ _ => if e = k.epoch then (entAt s n i).map fun x => (use, n, i, x.words) else none
  | _ => none

/-- A CPL of a request of the node's own; one that is none counts STALE. A descriptor that would complete in the clock of a tamper
response ends with ALARM and has no effect (R75). -/
def ownCpl (p : Nat) (k : Pkt) (s : State) : State :=
  match tagDesc s k with
  | some (.bcast, _, _, _) => cntDrop p 1 s
  | some (.key, _, _, _) => endTag k.tag { st := codeStatus (fld (wAt k.payload 0) 0 8), reason := fld (wAt k.payload 0) 8 8 } s
  | some (.read, _, _, w) => if alarmNow s then endTag k.tag (failRes .alarm 0) s else readCpl k.tag w k s
  | some (.locked, _, _, w) =>
    if alarmNow s then dropHold k.tag (endTag k.tag (failRes .alarm 0) s) else lockedCpl k.tag w k s
  | none => cntDrop p 1 s

/-- The gather that a CPL from port `p` belongs to. -/
def gatherOf (s : State) (p : Nat) (k : Pkt) : Option Gather :=
  s.spl.gathers.find? fun g => g.tag == k.tag && g.epoch == k.epoch && g.awaited.contains p

/-- A received CPL: a gather's comes from the link partner, that of an own request to the node's ID; the DEST decides where both would do. -/
def cplTake (p : Nat) (k : Pkt) (s : State) : State :=
  match gatherOf s p k with
  | some g => if k.dest ≠ 0xFFE && (tagDesc s k).any fun d => d.1 != .bcast then ownCpl p k s else gatherCpl p k g s
  | none => ownCpl p k s

def cplReceive (p : Nat) (w : List Word) : State → State := onPkt p 5 w (cplTake p)

/-- REQUEST_TIMEOUT: no CPL within SPL_TIMEOUT TIMEOUT (R425, R432). -/
def requestTimeout (t : Nat) (s : State) : State :=
  match splTag s t with
  | .used use _ _ _ _ deadline =>
    if use != .bcast && deadline ≤ s.clock && domOn s dSPIRE then dropHold t (parkTag t (endTag t (failRes .timeout 0) s)) else s
  | _ => s

/-- ERR_NOTICE (R427). -/
def errNoticeReceive (p : Nat) (w : List Word) : State → State :=
  onPkt p 6 w fun k s => postedErr p k.src k.tag (fld (wAt k.payload 0) 0 17) (fld (wAt k.payload 0) 17 7) s

/-- EVENT (R440, R446). -/
def eventReceive (p : Nat) (w : List Word) : State → State :=
  onPkt p 7 w fun k s =>
    let sev := fld (wAt k.payload 0) 9 2
    raiseSev sev 135 p (k.src + fld (wAt k.payload 0) 0 8 * 2 ^ 12 + sev * 2 ^ 20) s

/-! ### Lease mirror (R277, R433) -/

/-- A lease record: a partner whose PD_PIPE is off does not answer. -/
def leaseRecordReceive (p : Nat) (w : List Word) : State → State :=
  onSub p 8 0 w fun k s =>
    if domOn s dPIPE then
      let (s, l) := recordReceive k.src k.payload s
      sendOwn (replyPkt s k 3 8 1 l) s
    else s

/-- A confirmation or refusal. -/
def partnerLeaseConfirm (p : Nat) (w : List Word) : State → State := onSub p 8 1 w fun k s => partnerConfirm k.src k.payload s

/-! ### Key transport (R434 to R437) -/

/-- The transport key. -/
def transferKey (dk : List Byte) (src dest target gen attr : Nat) (nonce : List Byte) : List Byte :=
  fitBytes 32 (hkdfSha384 (toBytesBE 2 src ++ toBytesBE 2 dest ++ toBytesBE 2 target ++ toBytesBE 3 gen ++ toBytesBE 3 attr
    ++ fitBytes 16 nonce) dk [0x56, 0x53, 0x50, 0x4C, 0x2D, 0x4B, 0x54] 32)

/-- The near checks: both key references resolve, in the order of R291, and the source key meets R302 with the domain key as wrap key;
the key and the domain key. -/
def keySendKeys (s : State) (w : List Word) : Except Res (List Byte × List Byte) :=
  let kref := (wAt w 4).toNat
  let v := slot s (kref % 4096)
  match domeReady s with
  | some r => .error r
  | none =>
    if v.st = .empty then .error (failRes .keyEmpty 1)
    else if v.st = .revoked then .error (failRes .keyRevoked 1)
    else if krefExp kref ≠ 0 && krefExp kref ≠ slotGen s (kref % 4096) % 1024 then .error (failRes .keyStale 1)
    else if slotPersist v then .error (failRes .keyDenied 4)
    else if slotLock v then .error (failRes .keyDenied 5)
    else if formOf (slotDest v) (v.attr.testBit 7) ≠ some .direct || slotDest v = 0x40 then .error (failRes .keyDenied 2)
    else match resolve s (wAt w 5).toNat 0 .wrap 0 with
      | .error r => .error r
      | .ok dk =>
        if slotDest v &&& setOf (slotDest (slot s ((wAt w 5).toNat % 4096))) = 0 then .error (failRes .keyDenied 2)
        else .ok (v.key, dk)

/-- The attributes asked for the target: DEST and LEN of the source, LOCK as requested (R435). -/
def keySendAttr (s : State) (w : List Word) : Nat :=
  (slot s ((wAt w 4).toNat % 4096)).attr % 2 ^ 8 + b2n (flag (wAt w 7) 0) * 2 ^ 9

/-- SPL_KEY_SEND: the near checks, then OPEN. -/
def bodySplKeySend : Body := fun n i w s =>
  match keySendKeys s w with
  | .error r => (s, some r)
  | .ok _ =>
    splRequest n i (splNode w) .key
      (fun t => ownPkt s 4 9 (splNode w) t 1 [mkW (fld (wAt w 6) 0 22), mkW (keySendAttr s w)]) s

/-- The answer to an OPEN or a BLOB: STATUS, REASON and what follows. -/
def keyReply (k : Pkt) (sub : Nat) (r : Res) (l : List Word) (s : State) : State :=
  sendOwn (replyPkt s k 4 9 sub (mkW (statusCode r.st + r.reason * 2 ^ 8) :: l)) s

/-- The far checks at OPEN; `gen` adds the check at BLOB that the generation has not changed. The target takes the Direct form, so other
attributes are out of range (R286). The status of a node whose SPL_KT_CTRL ENABLE is 0 is not stated: a free value, never OK. -/
def farKeyCheck (s : State) (target expGen attr : Nat) (gen : Option Nat) : Except Res (List Byte) :=
  let dSlot := rfld s rSPL_KT_CTRL 0 12
  match domeReady s with
  | some r => .error r
  | none =>
    if !rflag s rSPL_KT_CTRL 12 then
      .error { st := codeStatus (1 + Config.freeNat s.draws % 18), reason := Config.freeNat (s.draws + 1) % 256 }
    else if !rflag s rSPL_KT_CTRL (13 + slotOwner target) then .error (failRes .keyDenied 1)
    else match resolve s dSlot 0 .wrap 0 with
      | .error r => .error r
      | .ok dk =>
        let t := setOf (slotDest (slot s dSlot))
        if attr % 128 = 0 || attr % 128 &&& t ≠ attr % 128 then .error (failRes .keyDenied 2)
        else match gen with
          | some g => if slotGen s target ≠ g then .error (failRes .keyStale 1) else farRows dk
          | none => farRows dk
where
  farRows (dk : List Byte) : Except Res (List Byte) :=
    match chkSlotRows s (target + expGen * 2 ^ 12) true with
    | some r => .error r
    | none =>
      if (slot s target).st = .loaded then .error (badRes 0x0B 0)
      else if formOf (attr % 128) (attr.testBit 7) ≠ some .direct then .error (badRes 5 0)
      else .ok dk

/-- The nonces held for less than 1 ms. -/
def openNonces (s : State) : List OpenNonce := s.spl.nonces.filter fun o => s.clock < o.since + 1000 * usClocks

/-- OPEN: the far checks, then a NONCE (R435, R437). -/
def keyOpen (k : Pkt) (s : State) : State :=
  let target := fld (wAt k.payload 0) 0 12
  let expGen := fld (wAt k.payload 0) 12 10
  let attr := fld (wAt k.payload 1) 0 10
  let none6 : List Word := List.replicate 7 0
  if 8 ≤ (openNonces s).length then keyReply k 2 lockRes none6 s
  else match farKeyCheck s target expGen attr none with
    | .error r => keyReply k 2 r none6 { s with draws := s.draws + 2 }
    | .ok _ =>
      if !s.dome.drbgOk then keyReply k 2 entropyRes none6 s
      else
        let (s, nonce) := drbgGen false 16 s
        let o : OpenNonce := { src := k.src, tag := k.tag, target, attr, gen := slotGen s target, expGen, nonce, since := s.clock }
        let s := { s with spl := { s.spl with nonces := openNonces s ++ [o] } }
        keyReply k 2 (okRes 0) (mkW o.gen :: bytesWords 6 nonce) s

/-- NONCE: the near Dome sends the wrapped key (R435, R436). -/
def keyNonce (p : Nat) (k : Pkt) (s : State) : State :=
  match tagDesc s k with
  | some (.key, _, _, w) =>
    let p0 := wAt k.payload 0
    if fld p0 0 8 ≠ 0 then endTag k.tag { st := codeStatus (fld p0 0 8), reason := fld p0 8 8 } s
    else match keySendKeys s w with
      | .error r => endTag k.tag r s
      | .ok (key, dk) =>
        if s.dome.upset then endTag k.tag (failRes .alarm 0) (dualMismatch s).1
        else
          let attr := keySendAttr s w
          let nonce := (wordsBytes ((List.range 6).map fun j => wAt k.payload (2 + j))).take 16
          let tk := transferKey dk (ownNode s) (splNode w) (fld (wAt w 6) 0 12) (wAt k.payload 1).toNat attr nonce
          let len := key.length + 8
          let blob := fitBytes len (kwWrap true tk key)
          sendOwn (replyPkt s k 4 9 3 (mkW len :: bytesWords 14 blob)) s
  | _ => cntDrop p 1 s

/-- BLOB: the far checks again, the unwrap, the write of the target and DONE (R437). -/
def keyBlob (p : Nat) (k : Pkt) (s : State) : State :=
  match s.spl.nonces.find? fun o => o.src == k.src && o.tag == k.tag with
  | none => keyReply k 4 (failRes .authFail 0x0D) [0] s
  | some o =>
    let s := { s with spl := { s.spl with nonces := s.spl.nonces.filter fun x => x != o } }
    if o.alarm then keyReply k 4 (failRes .alarm 0) [0] s
    else match farKeyCheck s o.target o.expGen o.attr (some o.gen) with
      | .error r => keyReply k 4 r [0] { s with draws := s.draws + 2 }
      | .ok dk =>
        if o.since + 1000 * usClocks ≤ s.clock then keyReply k 4 (failRes .authFail 0x0D) [0] s
        else if !s.dome.drbgOk then keyReply k 4 entropyRes [0] s
        else if alarmNow s then keyReply k 4 (failRes .alarm 0) [0] s
        else if s.dome.upset then keyReply k 4 (failRes .alarm 0) [0] (dualMismatch s).1
        else
          let len := fld (wAt k.payload 0) 0 6
          let tk := transferKey dk k.src (ownNode s) o.target o.gen o.attr o.nonce
          let blob := (wordsBytes (k.payload.drop 1)).take len
          match kwUnwrap true tk blob with
          | some key =>
            if key.length = (if o.attr.testBit 7 then 32 else 16) then
              let s := raise 136 p o.target (writeSlot o.target (o.attr &&& 0x2FF) false key s)
              keyReply k 4 (okRes 0) [mkW (slotGen s o.target)] s
            else keyReply k 4 (failRes .authFail 4) [0] s
          | none => keyReply k 4 (failRes .authFail 4) [0] s

/-- DONE: SPL_KEY_SEND completes (R437, R445). -/
def keyDone (p : Nat) (k : Pkt) (s : State) : State :=
  match tagDesc s k with
  | some (.key, _, _, w) =>
    let p0 := wAt k.payload 0
    let g := (wAt k.payload 1).toNat
    if fld p0 0 8 ≠ 0 then endTag k.tag { st := codeStatus (fld p0 0 8), reason := fld p0 8 8 } s
    else endTag k.tag (okRes (g + slotKref (fld (wAt w 6) 0 12) g * 2 ^ 24)) s
  | _ => cntDrop p 1 s

def openReceive (p : Nat) (w : List Word) : State → State := onSub p 9 1 w keyOpen
def nonceReceive (p : Nat) (w : List Word) : State → State := onSub p 9 2 w (keyNonce p)
def blobReceive (p : Nat) (w : List Word) : State → State := onSub p 9 3 w (keyBlob p)
def doneReceive (p : Nat) (w : List Word) : State → State := onSub p 9 4 w (keyDone p)

/-! ### Time (R438, R439) -/

/-- 2^LOG_INTERVAL s in clocks of 2 ns. -/
def intervalClocks (s : State) (k : Nat) : Nat :=
  match sgn 4 (rfld s (rD_CTRL k) 2 4) with
  | .ofNat e => 2 ^ e * 500000000
  | .negSucc e => 500000000 / 2 ^ (e + 1)

def timeReqOf (s : State) (k : Nat) : TimeReq := if k = 0 then s.spl.time0 else s.spl.time1
def setTimeReq (k : Nat) (q : TimeReq) (s : State) : State :=
  { s with spl := if k = 0 then { s.spl with time0 := q } else { s.spl with time1 := q } }

/-- TIME_REQ_TIMER: a REQ goes out on the port that the domain's SRC names. T1 is taken as it leaves. -/
def timeReqTimer (k : Nat) (s : State) : State :=
  let src := rfld s (rD_CTRL k) 0 2
  let q := timeReqOf s k
  if domOn s dTIME && domOn s dSPIRE && src != 0 && portUp s (src - 1) && q.nextAt ≤ s.clock then
    enqueue (src - 1) { pkt := ownPkt s 5 10 0xFFE 0 0 [mkW k] }
      (setTimeReq k { q with sent := false, nextAt := s.clock + intervalClocks s k } s)
  else s

/-- TIME_REQ: the partner takes T2 and answers; T3 is written as the RESP leaves. A node whose PD_TIME is off answers too, with the STATE of its
domains as they stand then, INVALID (DESIGN CHOICE: the spec does not say whether it answers; assumption log 64). -/
def timeReqReceive (p : Nat) (w : List Word) : State → State :=
  onSub p 10 0 w fun k s =>
    let d := b2n (flag (wAt k.payload 0) 0)
    let t2 := domTime s d
    let l := [mkW (d + dstCode (dom s.tmu d).st * 2)] ++ words64 (t2 / 256) ++ [0, 0, 0, mkW (t2 % 256)]
    enqueue p { pkt := ownPkt s 5 10 0xFFE 0 1 l } s

/-- The offset of an exchange in 1/256 ns (R438). -/
def exchangeOfs (t1 t2 t3 t4 : Nat) (asym : Int) : Int :=
  (sgn 72 (t2 + 2 ^ 72 - t1 % 2 ^ 72) - sgn 72 (t4 + 2 ^ 72 - t3 % 2 ^ 72) - asym) / 2

/-- TIME_RESP: the sample goes to the servo. While the domain is INVALID, T1 and T4 are LC's and the sample sets the domain to the
partner's time. -/
def timeResp (p : Nat) (k : Pkt) (s : State) : State :=
  let d := b2n (flag (wAt k.payload 0) 0)
  let q := timeReqOf s d
  if !domOn s dTIME || rfld s (rD_CTRL d) 0 2 ≠ p + 1 || !q.sent then s
  else
    let s := setTimeReq d { q with sent := false } s
    if fld (wAt k.payload 0) 1 2 = 0 then s
    else
      let t2 := w64 k.payload 1 * 256 + fld (wAt k.payload 7) 0 8
      let t3 := w64 k.payload 4 * 256 + fld (wAt k.payload 7) 8 8
      let asym := sgn 24 (rget s (rSP_TIME p)).toNat
      if (dom s.tmu d).st = .invalid then
        let e := exchangeOfs q.t1Lc t2 t3 (lcTime s) asym
        applySample d e (modDom d (fun v => { v with time := s.tmu.lc }) s)
      else applySample d (exchangeOfs q.t1Dom t2 t3 (domTime s d) asym) s

def timeRespReceive (p : Nat) (w : List Word) : State → State := onSub p 10 1 w (timeResp p)

/-! ### Test packets (R442) -/

/-- Does the payload run on from `x`? The next word of the sequence, where it does. -/
def testRun : Nat → List Word → Option Nat
  | x, [] => some x
  | x, w :: r => if w.toNat = x then testRun (testStep x) r else none

/-- TEST: count and check. After a break, the next packet's first word is taken for the sequence's. -/
def testTake (p : Nat) (k : Pkt) (s : State) : State :=
  if !rflag s (rSP_TEST p) 1 then s
  else
    let want := (sport s p).testWant.getD (wAt k.payload 0).toNat
    let s := rsat (rSP_TEST_RX p) 0 24 1 s
    match testRun want k.payload with
    | some x => modSport p (fun v => { v with testWant := some x }) s
    | none => raise 138 p 0 (rsat (rSP_TEST_ERR p) 0 24 1 (modSport p (fun v => { v with testWant := none }) s))

def testReceive (p : Nat) (w : List Word) : State → State := onPkt p 11 w (testTake p)

end Sys2Proof.Machine
end

