-- ==== Sys2Proof/Machine/Reset.lean ====
section
/-! DEFINITION. Sys2Proof/Machine/Reset.lean: the reset of the block and the power-up of PD_AON (R455, R464, R494, R498). -/

namespace Sys2Proof.Machine

/-- The ranges whose registers a reset of the block leaves as they are: PWR, LOG and TMP (R455, R494). -/
def keptByReset (off : Nat) : Bool :=
  (0x1000 ≤ off && off < 0x2000) || (0x3000 ≤ off && off < 0x4000) || (0xD000 ≤ off && off < 0xE000)

/-- A VCH_WAKE that is already high is a wake request once the reset is released (R521). -/
def wakeIfHigh (s : State) : State := if s.pwr.wakePin then wakeRequest s else s

/-- BLOCK_RESET: OFF; every posted descriptor, transfer, frame and key is gone, with no completion. PD_AON keeps the tamper monitor and
its registers, the latch, LOADED_MARK, the event log, the lease marks, the retention counter and the PWR fields but for STATE and VALID;
RESET_REQUIRED is cleared. A detection that still waited has the AON's response. -/
def blockReset (s : State) : State :=
  let p := s.pwr
  let t := s.tmp
  let s' : State :=
    { State.reset with
      regs := tabDrop (fun o => !keptByReset o) s.regs, mem := s.mem, memRdErr := s.memRdErr, memWrErr := s.memWrErr, marks := s.marks
      log := s.log, pwr := { refuse := p.refuse, wakePin := p.wakePin, ckOk := p.ckOk, imgLen := p.imgLen }
      tmp := { t with erasing := false, eraseLevel := 0 }, fuses := s.fuses, pending := s.pending, clock := s.clock, draws := s.draws }
  wakeIfHigh (pendToAon (rsetFld rPWR_CTX_STATUS 0 1 0 (rsetFld rTMP_LATCH 1 1 0 s')))

/-- AON_POWER_UP: everything returns to its reset value. The fuses, host memory and the levels of the inputs are not the block's to
reset; the time base starts anew. -/
def aonPowerUp (s : State) : State :=
  wakeIfHigh
    { State.reset with
      mem := s.mem, memRdErr := s.memRdErr, memWrErr := s.memWrErr, fuses := s.fuses, pending := s.pending, draws := s.draws
      pwr := { wakePin := s.pwr.wakePin, ckOk := s.pwr.ckOk } }

end Sys2Proof.Machine
end

