-- ==== Sys2Proof/Machine/HostBus.lean ====
section
/-! DEFINITION. Sys2Proof/Machine/HostBus.lean: the host at the register slave port: what each of its accesses does, its waiting while a
locked sequence holds the near bus, and the order in which waiting accesses are served (R2, R9, R19, R426, R429, R482). -/

namespace Sys2Proof.Machine

/-- A read by the host: what it returns and clears, for a full access; a narrower one returns zero and clears nothing (R1, R2, R9). Either starts the
exit from IDLE (R482). -/
def hostRead (off : Nat) (full : Bool) (s : State) : State :=
  let s := idleRangeAccess off s
  if full then { readClear off s with rdata := (regRead s off).setWidth 32 } else { s with rdata := 0 }

/-- A read by the host of a register that latches its upper parts (R364, R402, R475). -/
def hostLatch (off : Nat) (full : Bool) (s : State) : State :=
  let s := idleRangeAccess off s
  if full then { latchRead off s with rdata := (regRead s off).setWidth 32 } else { s with rdata := 0 }

/-- The effect of a command that is an access of the host to a register; the other commands are none. -/
def hostAccess (c : Instr) (s : State) : State :=
  match c with
  | .registerWrite off val full => registerWrite off.toNat val.toNat full s
  | .glbPgLock => setLock rPG_LOCK s
  | .ringEnable n => ringEnable n.val s
  | .ringDisable n => ringDisable n.val s
  | .resumeCq n => resumeCq n.val s
  | .dblSqTail n v => doorbell true n.val v.toNat s
  | .dblCqHead n v => doorbell false n.val v.toNat s
  | .tmuSyncClear => tmuSyncClear s
  | .splPortEnable p => splPortEnable p.val s
  | .splPortDisable p => splPortDisable p.val s
  | .splRetrainRequest p => splRetrainRequest p.val s
  | .splNodeLock => setLock rSPL_NODE s
  | .splAccessLock => setLock rSPL_ACCESS s
  | .splKtCtrlLock => setLock rSPL_KT_CTRL s
  | .domRpmbAddrLock => setLock rDOM_RPMB_ADDR s
  | .tmpCtrlLock => setLock rTMP_CTRL s
  | .evtRingEnable m v => evtRingCtrl m.val v s
  | .evtRingHead m v => evtRingHead m.val v s
  | .evtPendClear b v => evtPendClear b.val v s
  | .evtForce b v => evtForce b.val v s
  | .logCtrlAck => logCtrlAck s
  | .logRdIdx v => logRdIdx v s
  | .readClear rd => hostRead rd.off.toNat rd.full s
  | .latchingLoRead rd => hostLatch rd.off.toNat rd.full s
  | .pwrReqRun => pwrReqRun s
  | .pwrReqIdle => pwrReqIdle s
  | .pwrReqRetain => pwrReqRetain s
  | .pwrReqOff => pwrReqOff s
  | .pwrDomainWrite v => pwrDomainWrite v.toNat s
  | .pwrCtxRestore => pwrCtxRestore s
  | .pwrCtxDiscard => pwrCtxDiscard s
  | _ => s

/-- The host's turn at the register slave port (R426). -/
def serveHost (c : Instr) (s : State) : State := hostAccess c { s with spl := { s.spl with lastFar := false } }

/-- An access of the host: it waits while a locked sequence holds the near bus (R429). -/
def hostBus (c : Instr) (s : State) : State :=
  if s.spl.hold.isSome then { s with hostWait := s.hostWait ++ [c] } else serveHost c s

/-- Serve the accesses that waited once the near bus is free: those of each master in the order of their arrival, the masters in turn (R426, R429). -/
def serveWaiting : Nat → State → State
  | 0, s => s
  | n + 1, s =>
    match s.spl.hold, s.hostWait, s.spl.busWait with
    | some _, _, _ => s
    | none, [], [] => s
    | none, c :: r, [] => serveWaiting n (serveHost c { s with hostWait := r })
    | none, [], (p, k) :: q => serveWaiting n (serveFar p k { s with spl := { s.spl with busWait := q } })
    | none, c :: r, (p, k) :: q =>
      if s.spl.lastFar then serveWaiting n (serveHost c { s with hostWait := r })
      else serveWaiting n (serveFar p k { s with spl := { s.spl with busWait := q } })

end Sys2Proof.Machine
end

