-- ==== Sys2Proof/Machine/Pins.lean ====
section
/-! DEFINITION. Sys2Proof/Machine/Pins.lean: the levels of the block's outputs that no register shows, and the debug slave port (R449, R495, R499, R502,
R510, R512, R515, R520 to R522, R525). Frames toward the MACs, the switch core and the host path stand in State (R502 to R508). -/

namespace Sys2Proof.Machine

/-! ### Power, interrupts and wake (R499, R520, R521) -/

/-- pwr_sw_o[7:1], in the bit numbers of DOMAINS_ON. -/
def pwrSwO (s : State) : Nat := s.pwr.sw
/-- pwr_ret_o: the Dome's retention island is to stay supplied. -/
def pwrRetO (s : State) : Bool := s.pwr.retO
/-- vch_irq_o[7:0]; 0 while PD_HOST is off. -/
def vchIrqO (s : State) : Nat := irqLines s
/-- vch_wake_o. -/
def vchWakeO (s : State) : Bool := s.pwr.wakeO

/-! ### Tamper loops (R449, R522) -/

/-- tmp_drv_o[k]: the loop's pattern bit of the present tick; 0 for a disabled loop. -/
def tmpDrvO (s : State) (k : Nat) : Bool := loopOn s k && (loopDrv s k).getLsbD (aonTicks s - 16 * s.tmp.windows)
/-- tmp_pull_en_o[k]: the weak pull is released for a disabled loop. -/
def tmpPullEnO (s : State) (k : Nat) : Bool := loopOn s k
/-- tmp_pull_dir_o[k]: toward the complement of the pattern bit. -/
def tmpPullDirO (s : State) (k : Nat) : Bool := loopOn s k && !tmpDrvO s k

/-! ### Port Adapters, storage channels, timestamps (R495, R502, R510, R512) -/

/-- pa_eg_ready_o[n][l]; lane 1 is used with PREEMPT_EN = 1 alone. 0 while PD_PIPE is off. -/
def paEgReadyO (s : State) (n l : Nat) : Bool := domOn s dPIPE && egReadyPort s n && (l == 0 || rflag s (rPA_EG_CTRL n) 2)
/-- stc_req_ready_o[c]; 0 while PD_HOST is off. -/
def stcReqReadyO (s : State) (c : Nat) : Bool := domOn s dHOST && stcReady s c && (stc s c).tagWait.isNone
/-- ts_bus_o; 0 while PD_TIME is off. -/
def tsBusO (s : State) : Nat := tsBus s

/-! ### SerDes lanes (R515) -/

/-- spl_rate_o[p]: 1 asks the port's PLL for Gen2. -/
def splRateO (s : State) (p : Nat) : Bool := domOn s dSPIRE && (sport s p).rate2
/-- spl_pd_o[p]: the port's lanes are powered down while ENABLE is 0, and while PD_SPIRE is off (assumption log 65). -/
def splPdO (s : State) (p : Nat) : Bool := !(domOn s dSPIRE && rflag s (rSP_CTRL p) 0)
/-- spl_det_req_o[p][l]: receiver detection of a lane is requested until it has finished. -/
def splDetReqO (s : State) (p l : Nat) : Bool :=
  let v := sport s p
  domOn s dSPIRE && v.st != .down && v.step == .detect && decide (v.stepAt ≤ s.clock) && !v.detDone.testBit l
/-- spl_tx_data_o[p][l], as symbols. -/
def splTxO (s : State) (p l : Nat) : LaneOut := if domOn s dSPIRE then laneOut s p l else { sync := none, syms := [] }
/-- spl_tx_idle_o[p][l]: the transmitter is in electrical idle while it sends nothing, and while PD_SPIRE is off (assumption log 65). -/
def splTxIdleO (s : State) (p l : Nat) : Bool := (splTxO s p l).syms.isEmpty

/-! ### Debug access (R525, R526) -/

/-- vch_dbg_open_o. -/
def vchDbgOpenO (s : State) : Bool := dbgOpen s
/-- Is vch_scan_en_i honoured while vch_rst_n_i has the level `rst`? -/
def scanHonoured (s : State) (rst : Bool) : Bool := dbgOpen s && !rst

/-- A read through the debug slave port: zero in SEALED; the register window; from 0x100000 an internal memory, whose layout is open (R526: free). -/
def dbgRead (addr : BitVec 24) (full : Bool) (s : State) : State × BitVec 32 :=
  if !dbgOpen s then (s, 0)
  else if addr.toNat < 0x20000 then
    let t := hostRead addr.toNat full s
    ({ t with rdata := s.rdata }, t.rdata)
  else if addr.toNat < 0x100000 then (s, 0)
  else ({ s with draws := s.draws + 1 }, BitVec.ofNat 32 (Config.freeNat s.draws))

/-- A write through the debug slave port to the register window; in SEALED it is ignored. -/
def dbgWrite (addr : BitVec 24) (v : BitVec 32) (full : Bool) (s : State) : State :=
  if dbgOpen s && addr.toNat < 0x20000 then registerWrite addr.toNat v.toNat full s else s

end Sys2Proof.Machine
end

