-- ==== Sys2Proof/Machine/Finish.lean ====
section
/-! DEFINITION. Sys2Proof/Machine/Finish.lean: what follows every command by itself: work that the command has made possible goes on as far
as it can, and its events are delivered (R23 to R25, R158, R225, R232, R350, R417, R429, R500, R529). -/

namespace Sys2Proof.Machine

/-- The consequences of a command: descriptors that may start now get their admission checks; host jobs that have ended leave the array; egress frames that waited go on; towers take and
continue items; CUT frames stream; storage requests that waited for their TAG are accepted; accesses that waited for the near bus are
served; XOFF bits follow the buffers; power switches move; the command's events are delivered. -/
def finalize (s : State) : State :=
  let s := egRetry (reapJobs (admitAll s))
  let s := streamAll (pumpAll s)
  let s := stcRetry 1 (stcRetry 0 s)
  let s := serveWaiting (s.hostWait.length + s.spl.busWait.length) s
  settle (movePower 20 (xoffAll s))

/-- One clock of CK_TS passes: 2 ns of the model's time base, in which the Time Unit advances its counters (R374, R379; assumption log 2). -/
def tick (s : State) : State :=
  let s := tmuTick s
  { s with clock := s.clock + 1 }

end Sys2Proof.Machine
end

