-- ==== Sys2Proof/Machine/ExecAon.lean ====
section
/-! DEFINITION. Sys2Proof/Machine/ExecAon.lean: the meanings of the commands of locks, tamper, events, the log, power and reset (R78, R349, R402 to R539).
Each is the named operation followed by what the block then does by itself. -/

namespace Sys2Proof.Machine

/-- SPL_NODE_LOCK (R420). -/
def execSplNodeLock (s : State) : Host.Outcome State Fault Refusal :=
  .next (finalize (hostBus .splNodeLock s))

/-- SPL_ACCESS_LOCK (R426). -/
def execSplAccessLock (s : State) : Host.Outcome State Fault Refusal :=
  .next (finalize (hostBus .splAccessLock s))

/-- SPL_KT_CTRL_LOCK (R447). -/
def execSplKtCtrlLock (s : State) : Host.Outcome State Fault Refusal :=
  .next (finalize (hostBus .splKtCtrlLock s))

/-- DOM_RPMB_ADDR_LOCK (R349). -/
def execDomRpmbAddrLock (s : State) : Host.Outcome State Fault Refusal :=
  .next (finalize (hostBus .domRpmbAddrLock s))

/-- TMP_CTRL_LOCK (R455). -/
def execTmpCtrlLock (s : State) : Host.Outcome State Fault Refusal :=
  .next (finalize (hostBus .tmpCtrlLock s))

/-- LOOP_WINDOW_END (R451). -/
def execLoopWindowEnd (held level : Vector (BitVec 16) 4) (s : State) : Host.Outcome State Fault Refusal :=
  .next (finalize (loopWindowEnd (fun k => pulled (loopDrv s k) (held.toList.getD k 0) (level.toList.getD k 0)) s))

/-- SHIELD_EVALUATE (R453). -/
def execShieldEvaluate (held level : BitVec 16) (s : State) : Host.Outcome State Fault Refusal :=
  .next (finalize (shieldEvaluate (pulled (shieldDrv s) held level) s))

/-- CLOCK_GLITCH (R453). -/
def execClockGlitch (freq : Bool) (s : State) : Host.Outcome State Fault Refusal :=
  .next (finalize (clockGlitch freq s))

/-- TEMPERATURE_SAMPLE (R453). -/
def execTemperatureSample (code : Byte) (s : State) : Host.Outcome State Fault Refusal :=
  .next (finalize (temperatureSample code.toNat s))

/-- TAMPER_RESPONSE (R456). -/
def execTamperResponse (s : State) : Host.Outcome State Fault Refusal :=
  .next (finalize (tamperResponse s))

/-- TAMPER_ERASE_DONE (R457). -/
def execTamperEraseDone (s : State) : Host.Outcome State Fault Refusal :=
  .next (finalize (tamperEraseDone s))

/-- EVENT_RING_WRITE (R531). -/
def execEventRingWrite (m : Fin 8) (s : State) : Host.Outcome State Fault Refusal :=
  .next (finalize (eventRingWrite m.val s))

/-- LOG_WRITE (R466). -/
def execLogWrite (s : State) : Host.Outcome State Fault Refusal :=
  .next (finalize (logWrite s))

/-- EVT_RING_ENABLE (R78). -/
def execEvtRingEnable (m : Fin 8) (v : Word) (s : State) : Host.Outcome State Fault Refusal :=
  .next (finalize (hostBus (.evtRingEnable m v) s))

/-- EVT_RING_HEAD (R80). -/
def execEvtRingHead (m : Fin 8) (v : Word) (s : State) : Host.Outcome State Fault Refusal :=
  .next (finalize (hostBus (.evtRingHead m v) s))

/-- EVT_PEND_CLEAR (R533). -/
def execEvtPendClear (b : Fin 6) (v : Word) (s : State) : Host.Outcome State Fault Refusal :=
  .next (finalize (hostBus (.evtPendClear b v) s))

/-- EVT_FORCE (R535). -/
def execEvtForce (b : Fin 6) (v : Word) (s : State) : Host.Outcome State Fault Refusal :=
  .next (finalize (hostBus (.evtForce b v) s))

/-- LOG_CTRL_ACK (R472). -/
def execLogCtrlAck (s : State) : Host.Outcome State Fault Refusal :=
  .next (finalize (hostBus .logCtrlAck s))

/-- LOG_RD_IDX (R470). -/
def execLogRdIdx (v : Word) (s : State) : Host.Outcome State Fault Refusal :=
  .next (finalize (hostBus (.logRdIdx v) s))

/-- READ_CLEAR (R9). -/
def execReadClear (rd : RegRead) (s : State) : Host.Outcome State Fault Refusal :=
  .next (finalize (hostBus (.readClear rd) s))

/-- LATCHING_LO_READ (R402). -/
def execLatchingLoRead (rd : RegRead) (s : State) : Host.Outcome State Fault Refusal :=
  .next (finalize (hostBus (.latchingLoRead rd) s))

/-- VCH_WAKE (R521). -/
def execVchWake (level : Bool) (s : State) : Host.Outcome State Fault Refusal :=
  .next (finalize (vchWake level s))

/-- PWR_REQ_RUN (R478). -/
def execPwrReqRun (s : State) : Host.Outcome State Fault Refusal :=
  .next (finalize (hostBus .pwrReqRun s))

/-- PWR_REQ_IDLE (R481). -/
def execPwrReqIdle (s : State) : Host.Outcome State Fault Refusal :=
  .next (finalize (hostBus .pwrReqIdle s))

/-- PWR_REQ_RETAIN (R483). -/
def execPwrReqRetain (s : State) : Host.Outcome State Fault Refusal :=
  .next (finalize (hostBus .pwrReqRetain s))

/-- PWR_REQ_OFF (R483). -/
def execPwrReqOff (s : State) : Host.Outcome State Fault Refusal :=
  .next (finalize (hostBus .pwrReqOff s))

/-- PWR_DOMAIN_WRITE (R479). -/
def execPwrDomainWrite (v : Word) (s : State) : Host.Outcome State Fault Refusal :=
  .next (finalize (hostBus (.pwrDomainWrite v) s))

/-- DOMAIN_DRAIN_DONE (R31). -/
def execDomainDrainDone (s : State) : Host.Outcome State Fault Refusal :=
  .next (finalize (domainDrainDone s))

/-- ENTRY_DRAIN_DONE (R483). -/
def execEntryDrainDone (s : State) : Host.Outcome State Fault Refusal :=
  .next (finalize (entryDrainDone s))

/-- PWR_SW_ACK (R500). -/
def execPwrSwAck (d : Fin 8) (s : State) : Host.Outcome State Fault Refusal :=
  .next (finalize (pwrSwAck d.val s))

/-- PWR_SWITCH_STAGGER (R500). -/
def execPwrSwitchStagger (s : State) : Host.Outcome State Fault Refusal :=
  .next (finalize (pwrSwitchStagger s))

/-- PWR_ACK_TIMEOUT (R501). -/
def execPwrAckTimeout (d : Fin 8) (s : State) : Host.Outcome State Fault Refusal :=
  .next (finalize (pwrAckTimeout d.val s))

/-- CLOCK_OK (R497). -/
def execClockOk (bits : BitVec 5) (s : State) : Host.Outcome State Fault Refusal :=
  .next (finalize (clockOk bits.toNat s))

/-- IDLE_EXIT (R482). -/
def execIdleExit (s : State) : Host.Outcome State Fault Refusal :=
  .next (finalize (idleExit s))

/-- PWR_CTX_RESTORE (R488). -/
def execPwrCtxRestore (s : State) : Host.Outcome State Fault Refusal :=
  .next (finalize (hostBus .pwrCtxRestore s))

/-- PWR_CTX_DISCARD (R488). -/
def execPwrCtxDiscard (s : State) : Host.Outcome State Fault Refusal :=
  .next (finalize (hostBus .pwrCtxDiscard s))

/-- CONTEXT_RESTORE_START (R488). -/
def execContextRestoreStart (s : State) : Host.Outcome State Fault Refusal :=
  .next (finalize (contextRestoreStart s))

/-- CONTEXT_RESTORE_DONE (R488). -/
def execContextRestoreDone (s : State) : Host.Outcome State Fault Refusal :=
  .next (finalize (contextRestoreDone s))

/-- BLOCK_RESET (R498). -/
def execBlockReset (s : State) : Host.Outcome State Fault Refusal :=
  .next (finalize (blockReset s))

/-- AON_POWER_UP (R498). -/
def execAonPowerUp (s : State) : Host.Outcome State Fault Refusal :=
  .next (finalize (aonPowerUp s))

/-- SHADOW_BUILD_DONE (R200). -/
def execShadowBuildDone (k : Fin 4) (s : State) : Host.Outcome State Fault Refusal :=
  .next (finalize (shadowBuildDone k.val s))

/-- PACKET_DISCARD (R414). -/
def execPacketDiscard (p : Fin 3) (words : List Word) (s : State) : Host.Outcome State Fault Refusal :=
  .next (finalize (packetDiscard p.val words s))

/-- GEN1_FRAMING_RESYNC (R404). -/
def execGen1FramingResync (p : Fin 3) (s : State) : Host.Outcome State Fault Refusal :=
  .next (finalize (gen1FramingResync p.val s))

/-- CLOCK_FAULT_CLEAR (R453). -/
def execClockFaultClear (s : State) : Host.Outcome State Fault Refusal :=
  .next (finalize (clockFaultClear s))

/-- IDLE_RANGE_ACCESS (R482). -/
def execIdleRangeAccess (off : BitVec 17) (s : State) : Host.Outcome State Fault Refusal :=
  .next (finalize (idleRangeAccess off.toNat s))

end Sys2Proof.Machine
end

