-- ==== Sys2Proof/Machine/ExecDome.lean ====
section
/-! DEFINITION. Sys2Proof/Machine/ExecDome.lean: the meanings of the commands of Dome slots, trust, measurements and LOG_DUMP (R300 to R346, R471).
Each is the named operation followed by what the block then does by itself. -/

namespace Sys2Proof.Machine

/-- SLOT_UNWRAP (R300). -/
def execSlotUnwrap (n : Fin 64) (i : Nat) (s : State) : Host.Outcome State Fault Refusal :=
  .next (finalize (runWaits 0x20 (fun w s => slotWriteWaits s w) bodySlotUnwrap n.val i s))

/-- SLOT_GENERATE (R312). -/
def execSlotGenerate (n : Fin 64) (i : Nat) (s : State) : Host.Outcome State Fault Refusal :=
  .next (finalize (runWaits 0x21 (fun w s => slotWriteWaits s w) bodySlotGenerate n.val i s))

/-- SLOT_WRAP (R302). -/
def execSlotWrap (n : Fin 64) (i : Nat) (s : State) : Host.Outcome State Fault Refusal :=
  .next (finalize (runDesc 0x22 bodySlotWrap n.val i s))

/-- SLOT_ERASE (R314). -/
def execSlotErase (n : Fin 64) (i : Nat) (s : State) : Host.Outcome State Fault Refusal :=
  .next (finalize (runDesc 0x23 bodySlotErase n.val i s))

/-- SLOT_ATTR (R315). -/
def execSlotAttr (n : Fin 64) (i : Nat) (s : State) : Host.Outcome State Fault Refusal :=
  .next (finalize (runDesc 0x24 bodySlotAttr n.val i s))

/-- SLOT_READ (R316). -/
def execSlotRead (n : Fin 64) (i : Nat) (s : State) : Host.Outcome State Fault Refusal :=
  .next (finalize (runDesc 0x25 bodySlotRead n.val i s))

/-- MKA_DERIVE (R303). -/
def execMkaDerive (n : Fin 64) (i : Nat) (s : State) : Host.Outcome State Fault Refusal :=
  .next (finalize (runDesc 0x26 bodyMkaDerive n.val i s))

/-- SIGN_DIGEST (R318). -/
def execSignDigest (n : Fin 64) (i : Nat) (s : State) : Host.Outcome State Fault Refusal :=
  .next (finalize (runDesc 0x27 bodySignDigest n.val i s))

/-- KUM_APPLY (R332). -/
def execKumApply (n : Fin 64) (i : Nat) (s : State) : Host.Outcome State Fault Refusal :=
  .next (finalize (runWaits 0x28 (fun w s => kumApplyWaits w s) bodyKumApply n.val i s))

/-- KUM_COMMIT (R333). -/
def execKumCommit (n : Fin 64) (i : Nat) (s : State) : Host.Outcome State Fault Refusal :=
  .next (finalize (runWaits 0x29 (fun w s => kumCommitWaits w s) bodyKumCommit n.val i s))

/-- IMAGE_NONCE (R335). -/
def execImageNonce (n : Fin 64) (i : Nat) (s : State) : Host.Outcome State Fault Refusal :=
  .next (finalize (runDesc 0x2A bodyImageNonce n.val i s))

/-- IMAGE_LOAD (R335). -/
def execImageLoad (n : Fin 64) (i : Nat) (s : State) : Host.Outcome State Fault Refusal :=
  .next (finalize (runDesc 0x2B bodyImageLoad n.val i s))

/-- LC_CHANGE (R338). -/
def execLcChange (n : Fin 64) (i : Nat) (s : State) : Host.Outcome State Fault Refusal :=
  .next (finalize (runDesc 0x2C bodyLcChange n.val i s))

/-- RPMB_PROVISION (R336). -/
def execRpmbProvision (n : Fin 64) (i : Nat) (s : State) : Host.Outcome State Fault Refusal :=
  .next (finalize (runDesc 0x2D bodyRpmbProvision n.val i s))

/-- REPAIR_EXPORT (R245). -/
def execRepairExport (n : Fin 64) (i : Nat) (s : State) : Host.Outcome State Fault Refusal :=
  .next (finalize (runDesc 0x2E bodyRepairExport n.val i s))

/-- REPAIR_LOAD (R245). -/
def execRepairLoad (n : Fin 64) (i : Nat) (s : State) : Host.Outcome State Fault Refusal :=
  .next (finalize (runDesc 0x2F bodyRepairLoad n.val i s))

/-- ATTEST (R343). -/
def execAttest (n : Fin 64) (i : Nat) (s : State) : Host.Outcome State Fault Refusal :=
  .next (finalize (runDesc 0x60 bodyAttest n.val i s))

/-- MEAS_EXTEND (R342). -/
def execMeasExtend (n : Fin 64) (i : Nat) (s : State) : Host.Outcome State Fault Refusal :=
  .next (finalize (runDesc 0x61 bodyMeasExtend n.val i s))

/-- MEAS_READ (R346). -/
def execMeasRead (n : Fin 64) (i : Nat) (s : State) : Host.Outcome State Fault Refusal :=
  .next (finalize (runDesc 0x62 bodyMeasRead n.val i s))

/-- LOG_DUMP (R471). -/
def execLogDump (n : Fin 64) (i : Nat) (s : State) : Host.Outcome State Fault Refusal :=
  .next (finalize (runDesc 0x63 bodyLogDump n.val i s))

end Sys2Proof.Machine
end

