-- ==== Sys2Proof/Machine/ExecHost.lean ====
section
/-! DEFINITION. Sys2Proof/Machine/ExecHost.lean: the meanings of the commands of the host interface and ring control (R9, R36 to R76, R81).
Each is the named operation followed by what the block then does by itself. -/

namespace Sys2Proof.Machine

/-- REGISTER_WRITE (R9). -/
def execRegisterWrite (off : BitVec 17) (val : BitVec 32) (full : Bool) (s : State) : Host.Outcome State Fault Refusal :=
  .next (finalize (hostBus (.registerWrite off val full) s))

/-- GLB_PG_LOCK (R68). -/
def execGlbPgLock (s : State) : Host.Outcome State Fault Refusal :=
  .next (finalize (hostBus .glbPgLock s))

/-- RING_ENABLE (R38). -/
def execRingEnable (n : Fin 64) (s : State) : Host.Outcome State Fault Refusal :=
  .next (finalize (hostBus (.ringEnable n) s))

/-- RING_DISABLE (R70). -/
def execRingDisable (n : Fin 64) (s : State) : Host.Outcome State Fault Refusal :=
  .next (finalize (hostBus (.ringDisable n) s))

/-- RESUME_CQ (R73). -/
def execResumeCq (n : Fin 64) (s : State) : Host.Outcome State Fault Refusal :=
  .next (finalize (hostBus (.resumeCq n) s))

/-- DBL_SQ_TAIL (R40). -/
def execDblSqTail (n : Fin 64) (v : Word) (s : State) : Host.Outcome State Fault Refusal :=
  .next (finalize (hostBus (.dblSqTail n v) s))

/-- DBL_CQ_HEAD (R41). -/
def execDblCqHead (n : Fin 64) (v : Word) (s : State) : Host.Outcome State Fault Refusal :=
  .next (finalize (hostBus (.dblCqHead n v) s))

/-- DESCRIPTOR_FETCH (R36). -/
def execDescriptorFetch (n : Fin 64) (s : State) : Host.Outcome State Fault Refusal :=
  .next (finalize (descriptorFetch n.val s))

/-- COMPLETION_WRITE (R49). -/
def execCompletionWrite (n : Fin 64) (s : State) : Host.Outcome State Fault Refusal :=
  .next (finalize (completionWrite n.val s))

/-- NOTIFY_TIMER (R76). -/
def execNotifyTimer (n : Fin 64) (s : State) : Host.Outcome State Fault Refusal :=
  .next (finalize (notifyTimer n.val s))

/-- COMMIT_GROUP_STAGING (R60). -/
def execCommitGroupStaging (n : Fin 64) (s : State) : Host.Outcome State Fault Refusal :=
  .next (finalize (commitGroupStaging n.val s))

/-- COMMIT_POINT (R62). -/
def execCommitPoint (n : Fin 64) (s : State) : Host.Outcome State Fault Refusal :=
  .next (finalize (commitPoint n.val s))

/-- NOP (R81). -/
def execNop (n : Fin 64) (i : Nat) (s : State) : Host.Outcome State Fault Refusal :=
  .next (finalize (runDesc 0x70 bodyNop n.val i s))

/-- BARRIER (R81). -/
def execBarrier (n : Fin 64) (i : Nat) (s : State) : Host.Outcome State Fault Refusal :=
  .next (finalize (runDesc 0x71 bodyBarrier n.val i s))

/-- RING_STOP (R81). -/
def execRingStop (n : Fin 64) (i : Nat) (s : State) : Host.Outcome State Fault Refusal :=
  .next (finalize (runDesc 0x72 bodyRingStop n.val i s))

/-- SW_EVENT (R81). -/
def execSwEvent (n : Fin 64) (i : Nat) (s : State) : Host.Outcome State Fault Refusal :=
  .next (finalize (runDesc 0x73 bodySwEvent n.val i s))

end Sys2Proof.Machine
end

