-- ==== Sys2Proof/Machine/ExecJobs.lean ====
section
/-! DEFINITION. Sys2Proof/Machine/ExecJobs.lean: the meanings of the commands of host jobs, storage configuration, time and Spire remote commands (R360 to R372, R399, R429 to R444).
Each is the named operation followed by what the block then does by itself. -/

namespace Sys2Proof.Machine

/-- JOB_GCM (R367). -/
def execJobGcm (n : Fin 64) (i : Nat) (s : State) : Host.Outcome State Fault Refusal :=
  .next (finalize (runDesc 0x30 bodyTowerJob n.val i s))

/-- JOB_XTS (R368). -/
def execJobXts (n : Fin 64) (i : Nat) (s : State) : Host.Outcome State Fault Refusal :=
  .next (finalize (runDesc 0x31 bodyTowerJob n.val i s))

/-- JOB_SECOC (R369). -/
def execJobSecoc (n : Fin 64) (i : Nat) (s : State) : Host.Outcome State Fault Refusal :=
  .next (finalize (runDesc 0x32 bodyTowerJob n.val i s))

/-- JOB_MKPDU_ICV (R371). -/
def execJobMkpduIcv (n : Fin 64) (i : Nat) (s : State) : Host.Outcome State Fault Refusal :=
  .next (finalize (runDesc 0x33 bodyMkpduIcv n.val i s))

/-- JOB_RANDOM (R372). -/
def execJobRandom (n : Fin 64) (i : Nat) (s : State) : Host.Outcome State Fault Refusal :=
  .next (finalize (runDesc 0x34 bodyRandom n.val i s))

/-- STC_CFG_SET (R360). -/
def execStcCfgSet (n : Fin 64) (i : Nat) (s : State) : Host.Outcome State Fault Refusal :=
  .next (finalize (runDesc 0x3C bodyStcCfgSet n.val i s))

/-- STC_CFG_READ (R361). -/
def execStcCfgRead (n : Fin 64) (i : Nat) (s : State) : Host.Outcome State Fault Refusal :=
  .next (finalize (runDesc 0x3D bodyStcCfgRead n.val i s))

/-- TIME_SAMPLE (R399). -/
def execTimeSample (n : Fin 64) (i : Nat) (s : State) : Host.Outcome State Fault Refusal :=
  .next (finalize (runDesc 0x40 bodyTimeSample n.val i s))

/-- TIME_DOMAIN (R399). -/
def execTimeDomain (n : Fin 64) (i : Nat) (s : State) : Host.Outcome State Fault Refusal :=
  .next (finalize (runDesc 0x41 bodyTimeDomain n.val i s))

/-- TIME_SELECT (R399). -/
def execTimeSelect (n : Fin 64) (i : Nat) (s : State) : Host.Outcome State Fault Refusal :=
  .next (finalize (runDesc 0x42 bodyTimeSelect n.val i s))

/-- TIME_READ (R399). -/
def execTimeRead (n : Fin 64) (i : Nat) (s : State) : Host.Outcome State Fault Refusal :=
  .next (finalize (runDesc 0x43 bodyTimeRead n.val i s))

/-- CAL_LOAD (R399). -/
def execCalLoad (n : Fin 64) (i : Nat) (s : State) : Host.Outcome State Fault Refusal :=
  .next (finalize (runDesc 0x44 bodyCalLoad n.val i s))

/-- CAL_SWITCH (R399). -/
def execCalSwitch (n : Fin 64) (i : Nat) (s : State) : Host.Outcome State Fault Refusal :=
  .next (finalize (runDesc 0x45 bodyCalSwitch n.val i s))

/-- CAL_READ (R399). -/
def execCalRead (n : Fin 64) (i : Nat) (s : State) : Host.Outcome State Fault Refusal :=
  .next (finalize (runDesc 0x46 bodyCalRead n.val i s))

/-- SPL_READ (R444). -/
def execSplRead (n : Fin 64) (i : Nat) (s : State) : Host.Outcome State Fault Refusal :=
  .next (finalize (runSpl 0x50 bodySplRead n.val i s))

/-- SPL_WRITE (R444). -/
def execSplWrite (n : Fin 64) (i : Nat) (s : State) : Host.Outcome State Fault Refusal :=
  .next (finalize (runSpl 0x51 bodySplWrite n.val i s))

/-- SPL_LOCKED (R429). -/
def execSplLocked (n : Fin 64) (i : Nat) (s : State) : Host.Outcome State Fault Refusal :=
  .next (finalize (runLocked n.val i s))

/-- SPL_KEY_SEND (R435). -/
def execSplKeySend (n : Fin 64) (i : Nat) (s : State) : Host.Outcome State Fault Refusal :=
  .next (finalize (runSpl 0x53 bodySplKeySend n.val i s))

/-- SPL_BCAST (R443). -/
def execSplBcast (n : Fin 64) (i : Nat) (s : State) : Host.Outcome State Fault Refusal :=
  .next (finalize (runSpl 0x54 bodySplBcast n.val i s))

end Sys2Proof.Machine
end

