-- ==== Sys2Proof/Machine/ExecLinkTable.lean ====
section
/-! DEFINITION. Sys2Proof/Machine/ExecLinkTable.lean: the meanings of the commands of the link table, key changes, classifier and SLT commands (R108 to R121, R141 to R143, R200, R201, R262 to R269).
Each is the named operation followed by what the block then does by itself. -/

namespace Sys2Proof.Machine

/-- SECY_SET (R112). -/
def execSecySet (n : Fin 64) (i : Nat) (s : State) : Host.Outcome State Fault Refusal :=
  .next (finalize (runDesc 0x10 bodySecySet n.val i s))

/-- SECY_DELETE (R113). -/
def execSecyDelete (n : Fin 64) (i : Nat) (s : State) : Host.Outcome State Fault Refusal :=
  .next (finalize (runDesc 0x11 bodySecyDelete n.val i s))

/-- RXSC_SET (R115). -/
def execRxscSet (n : Fin 64) (i : Nat) (s : State) : Host.Outcome State Fault Refusal :=
  .next (finalize (runDesc 0x12 bodyRxscSet n.val i s))

/-- RXSC_DELETE (R116). -/
def execRxscDelete (n : Fin 64) (i : Nat) (s : State) : Host.Outcome State Fault Refusal :=
  .next (finalize (runDesc 0x13 bodyRxscDelete n.val i s))

/-- LT_READ (R117). -/
def execLtRead (n : Fin 64) (i : Nat) (s : State) : Host.Outcome State Fault Refusal :=
  .next (finalize (runDesc 0x14 bodyLtRead n.val i s))

/-- CNT_SNAPSHOT (R121). -/
def execCntSnapshot (n : Fin 64) (i : Nat) (s : State) : Host.Outcome State Fault Refusal :=
  .next (finalize (runDesc 0x15 bodyCntSnapshot n.val i s))

/-- SA_INSTALL (R262). -/
def execSaInstall (n : Fin 64) (i : Nat) (s : State) : Host.Outcome State Fault Refusal :=
  .next (finalize (runDesc 0x16 bodySaInstall n.val i s))

/-- SA_SWITCH (R264). -/
def execSaSwitch (n : Fin 64) (i : Nat) (s : State) : Host.Outcome State Fault Refusal :=
  .next (finalize (runDesc 0x17 bodySaSwitch n.val i s))

/-- SA_RETIRE (R268). -/
def execSaRetire (n : Fin 64) (i : Nat) (s : State) : Host.Outcome State Fault Refusal :=
  .next (finalize (runDesc 0x18 bodySaRetire n.val i s))

/-- SA_ADJUST (R269). -/
def execSaAdjust (n : Fin 64) (i : Nat) (s : State) : Host.Outcome State Fault Refusal :=
  .next (finalize (runDesc 0x19 bodySaAdjust n.val i s))

/-- TREE_LOAD (R141). -/
def execTreeLoad (n : Fin 64) (i : Nat) (s : State) : Host.Outcome State Fault Refusal :=
  .next (finalize (runDesc 0x1A bodyTreeLoad n.val i s))

/-- TREE_SWITCH (R142). -/
def execTreeSwitch (n : Fin 64) (i : Nat) (s : State) : Host.Outcome State Fault Refusal :=
  .next (finalize (runDesc 0x1B bodyTreeSwitch n.val i s))

/-- TREE_READ (R143). -/
def execTreeRead (n : Fin 64) (i : Nat) (s : State) : Host.Outcome State Fault Refusal :=
  .next (finalize (runDesc 0x1C bodyTreeRead n.val i s))

/-- SLT_SEED (R200). -/
def execSltSeed (n : Fin 64) (i : Nat) (s : State) : Host.Outcome State Fault Refusal :=
  .next (finalize (runDesc 0x1D bodySltSeed n.val i s))

/-- SLT_REBUILD (R200). -/
def execSltRebuild (n : Fin 64) (i : Nat) (s : State) : Host.Outcome State Fault Refusal :=
  .next (finalize (runDesc 0x1E bodySltRebuild n.val i s))

/-- SLT_ENTRY (R201). -/
def execSltEntry (n : Fin 64) (i : Nat) (s : State) : Host.Outcome State Fault Refusal :=
  .next (finalize (runDesc 0x1F bodySltEntry n.val i s))

end Sys2Proof.Machine
end

