-- ==== Sys2Proof/Machine/ExecPath.lean ====
section
/-! DEFINITION. Sys2Proof/Machine/ExecPath.lean: the meanings of the commands of the egress and ingress pipelines, the towers, the Belfry and the SLTs (R139 to R277).
Each is the named operation followed by what the block then does by itself. -/

namespace Sys2Proof.Machine

/-- EG_FRAME_ADMIT (R139). -/
def execEgFrameAdmit (port : Fin 24) (express : Bool) (len : BitVec 14) (bytes : List Byte) (launch : Option (BitVec 32)) (err : Bool) (s : State) : Host.Outcome State Fault Refusal :=
  .next (finalize (egFrameAdmit port.val express len.toNat bytes launch err s))

/-- SWITCH_FIRE (R266). -/
def execSwitchFire (secy : Fin 512) (s : State) : Host.Outcome State Fault Refusal :=
  .next (finalize (switchFire secy.val s))

/-- AON_LEASE_CONFIRM (R276). -/
def execAonLeaseConfirm (sa : Fin 8192) (s : State) : Host.Outcome State Fault Refusal :=
  .next (finalize (aonLeaseConfirm sa.val s))

/-- MIRROR_CONFIRM_TIMEOUT (R148). -/
def execMirrorConfirmTimeout (sa : Fin 8192) (s : State) : Host.Outcome State Fault Refusal :=
  .next (finalize (mirrorConfirmTimeout sa.val s))

/-- LEASE_RECORD_RESEND (R277). -/
def execLeaseRecordResend (sa : Fin 8192) (s : State) : Host.Outcome State Fault Refusal :=
  .next (finalize (leaseRecordResend sa.val s))

/-- ITEM_DISPATCH (R225). -/
def execItemDispatch (id : Nat) (s : State) : Host.Outcome State Fault Refusal :=
  .next (finalize (itemDispatch id s))

/-- KEY_FETCH_DONE (R291). -/
def execKeyFetchDone (id : Nat) (s : State) : Host.Outcome State Fault Refusal :=
  .next (finalize (keyFetchDone id s))

/-- TOWER_ITEM_DONE (R222). -/
def execTowerItemDone (id : Nat) (s : State) : Host.Outcome State Fault Refusal :=
  .next (finalize (towerItemDone id s))

/-- PARITY_MISMATCH (R239). -/
def execParityMismatch (tower : Fin 8) (ghash : Bool) (unit : Fin 9) (id : Nat) (s : State) : Host.Outcome State Fault Refusal :=
  .next (finalize (parityMismatch tower.val ghash unit.val id s))

/-- ROLLING_TEST_STEP (R240). -/
def execRollingTestStep (s : State) : Host.Outcome State Fault Refusal :=
  .next (finalize (rollingTestStep s))

/-- KNOWN_ANSWER_TEST_DONE (R241). -/
def execKnownAnswerTestDone (tower : Fin 8) (ghash : Bool) (unit : Fin 9) (pass : Bool) (s : State) : Host.Outcome State Fault Refusal :=
  .next (finalize (katDone tower.val ghash unit.val pass s))

/-- STAGING_START (R251). -/
def execStagingStart (slot : Fin 512) (s : State) : Host.Outcome State Fault Refusal :=
  .next (finalize (stagingStart slot.val s))

/-- STAGING_RAISE (R252). -/
def execStagingRaise (slot : Fin 512) (s : State) : Host.Outcome State Fault Refusal :=
  .next (finalize (stagingRaise slot.val s))

/-- EG_FRAME_START (R159). -/
def execEgFrameStart (id : Nat) (s : State) : Host.Outcome State Fault Refusal :=
  .next (finalize (egFrameStart id s))

/-- LAUNCH_RELEASE (R391). -/
def execLaunchRelease (id : Nat) (s : State) : Host.Outcome State Fault Refusal :=
  .next (finalize (launchRelease id s))

/-- EG_FRAME_END (R165). -/
def execEgFrameEnd (id : Nat) (s : State) : Host.Outcome State Fault Refusal :=
  .next (finalize (egFrameEnd id s))

/-- CAL_INSTANCE_PASS (R390). -/
def execCalInstancePass (port : Fin 24) (s : State) : Host.Outcome State Fault Refusal :=
  .next (finalize (calInstancePass port.val s))

/-- RETURN_QUEUE_SEND (R504). -/
def execReturnQueueSend (k : Fin 4) (s : State) : Host.Outcome State Fault Refusal :=
  .next (finalize (returnQueueSend k.val s))

/-- IG_FRAME_RECEIVE (R172). -/
def execIgFrameReceive (port : Fin 24) (express : Bool) (bytes : List Byte) (status : Fin 4) (ts : BitVec 40) (s : State) : Host.Outcome State Fault Refusal :=
  .next (finalize (igFrameReceive port.val express bytes status.val ts.toNat s))

/-- SLT_LEARN_STEP (R192). -/
def execSltLearnStep (k : Fin 4) (s : State) : Host.Outcome State Fault Refusal :=
  .next (finalize (sltLearnStep k.val s))

/-- HOLD_LIMIT_EXPIRE (R211). -/
def execHoldLimitExpire (id : Nat) (s : State) : Host.Outcome State Fault Refusal :=
  .next (finalize (holdLimitExpire id s))

/-- IG_FRAME_RELEASE (R206). -/
def execIgFrameRelease (id : Nat) (s : State) : Host.Outcome State Fault Refusal :=
  .next (finalize (igFrameRelease id s))

/-- SLT_AGING_SWEEP (R195). -/
def execSltAgingSweep (k : Fin 4) (s : State) : Host.Outcome State Fault Refusal :=
  .next (finalize (sltAgingSweep k.val s))

/-- SLT_SCRUB (R198). -/
def execSltScrub (k : Fin 4) (st : ScrubStep) (loc : Nat) (s : State) : Host.Outcome State Fault Refusal :=
  .next (finalize (sltScrub k.val st.shadow loc st.done s))

end Sys2Proof.Machine
end

