-- ==== Sys2Proof/Machine/ExecSpire.lean ====
section
/-! DEFINITION. Sys2Proof/Machine/ExecSpire.lean: the meanings of the commands of the Spire link and its packets (R403 to R447, R516).
Each is the named operation followed by what the block then does by itself. -/

namespace Sys2Proof.Machine

/-- SPL_PORT_ENABLE (R406). -/
def execSplPortEnable (p : Fin 3) (s : State) : Host.Outcome State Fault Refusal :=
  .next (finalize (hostBus (.splPortEnable p) s))

/-- SPL_PORT_DISABLE (R410). -/
def execSplPortDisable (p : Fin 3) (s : State) : Host.Outcome State Fault Refusal :=
  .next (finalize (hostBus (.splPortDisable p) s))

/-- SPL_RETRAIN_REQUEST (R409). -/
def execSplRetrainRequest (p : Fin 3) (s : State) : Host.Outcome State Fault Refusal :=
  .next (finalize (hostBus (.splRetrainRequest p) s))

/-- RECEIVER_DETECT_DONE (R516). -/
def execReceiverDetectDone (p : Fin 3) (lane : Fin 4) (present : Bool) (s : State) : Host.Outcome State Fault Refusal :=
  .next (finalize (receiverDetectDone p.val lane.val present s))

/-- TRAINING_SET_RECEIVE (R405). -/
def execTrainingSetReceive (p : Fin 3) (words : List Word) (s : State) : Host.Outcome State Fault Refusal :=
  .next (finalize (trainingSetReceive p.val words s))

/-- SPL_RATE_ACK (R516). -/
def execSplRateAck (p : Fin 3) (s : State) : Host.Outcome State Fault Refusal :=
  .next (finalize (splRateAck p.val s))

/-- TRAINING_TIMEOUT (R406). -/
def execTrainingTimeout (p : Fin 3) (s : State) : Host.Outcome State Fault Refusal :=
  .next (finalize (trainingTimeout p.val s))

/-- LANE_LOCK_CHANGE (R409). -/
def execLaneLockChange (p : Fin 3) (locked : BitVec 4) (s : State) : Host.Outcome State Fault Refusal :=
  .next (finalize (laneLockChange p.val locked.toNat s))

/-- LOCK_LOSS_TIMEOUT (R410). -/
def execLockLossTimeout (p : Fin 3) (s : State) : Host.Outcome State Fault Refusal :=
  .next (finalize (lockLossTimeout p.val s))

/-- RETRAIN_TIMEOUT (R410). -/
def execRetrainTimeout (p : Fin 3) (s : State) : Host.Outcome State Fault Refusal :=
  .next (finalize (retrainTimeout p.val s))

/-- GEN2_FRAMING_ERROR (R409). -/
def execGen2FramingError (p : Fin 3) (s : State) : Host.Outcome State Fault Refusal :=
  .next (finalize (gen2FramingError p.val s))

/-- SPL_PACKET_SEND (R418). -/
def execSplPacketSend (p : Fin 3) (s : State) : Host.Outcome State Fault Refusal :=
  .next (finalize (splPacketSend p.val s))

/-- REPLAY_TIMEOUT (R415). -/
def execReplayTimeout (p : Fin 3) (s : State) : Host.Outcome State Fault Refusal :=
  .next (finalize (replayTimeout p.val s))

/-- ACK_TIMER (R416). -/
def execAckTimer (p : Fin 3) (s : State) : Host.Outcome State Fault Refusal :=
  .next (finalize (ackTimer p.val s))

/-- ACK (R414). -/
def execAck (p : Fin 3) (words : List Word) (s : State) : Host.Outcome State Fault Refusal :=
  .next (finalize (ackReceive p.val words s))

/-- SPL_FORWARD (R422). -/
def execSplForward (p : Fin 3) (words : List Word) (s : State) : Host.Outcome State Fault Refusal :=
  .next (finalize (splForward p.val words s))

/-- RD_REQ (R426). -/
def execRdReq (p : Fin 3) (words : List Word) (s : State) : Host.Outcome State Fault Refusal :=
  .next (finalize (rdReqReceive p.val words s))

/-- WR (R426). -/
def execWr (p : Fin 3) (words : List Word) (s : State) : Host.Outcome State Fault Refusal :=
  .next (finalize (wrReceive p.val words s))

/-- LOCK_REQ (R430). -/
def execLockReq (p : Fin 3) (words : List Word) (s : State) : Host.Outcome State Fault Refusal :=
  .next (finalize (lockReqReceive p.val words s))

/-- BCAST (R443). -/
def execBcast (p : Fin 3) (words : List Word) (s : State) : Host.Outcome State Fault Refusal :=
  .next (finalize (bcastReceive p.val words s))

/-- CPL (R425). -/
def execCpl (p : Fin 3) (words : List Word) (s : State) : Host.Outcome State Fault Refusal :=
  .next (finalize (cplReceive p.val words s))

/-- ERR_NOTICE (R427). -/
def execErrNotice (p : Fin 3) (words : List Word) (s : State) : Host.Outcome State Fault Refusal :=
  .next (finalize (errNoticeReceive p.val words s))

/-- EVENT_PACKET (R440). -/
def execEventPacket (p : Fin 3) (words : List Word) (s : State) : Host.Outcome State Fault Refusal :=
  .next (finalize (eventReceive p.val words s))

/-- LEASE_RECORD_RECEIVE (R277). -/
def execLeaseRecordReceive (p : Fin 3) (words : List Word) (s : State) : Host.Outcome State Fault Refusal :=
  .next (finalize (leaseRecordReceive p.val words s))

/-- PARTNER_LEASE_CONFIRM (R277). -/
def execPartnerLeaseConfirm (p : Fin 3) (words : List Word) (s : State) : Host.Outcome State Fault Refusal :=
  .next (finalize (partnerLeaseConfirm p.val words s))

/-- OPEN (R437). -/
def execOpenPkt (p : Fin 3) (words : List Word) (s : State) : Host.Outcome State Fault Refusal :=
  .next (finalize (openReceive p.val words s))

/-- NONCE (R436). -/
def execNonce (p : Fin 3) (words : List Word) (s : State) : Host.Outcome State Fault Refusal :=
  .next (finalize (nonceReceive p.val words s))

/-- BLOB (R437). -/
def execBlob (p : Fin 3) (words : List Word) (s : State) : Host.Outcome State Fault Refusal :=
  .next (finalize (blobReceive p.val words s))

/-- DONE (R437). -/
def execDone (p : Fin 3) (words : List Word) (s : State) : Host.Outcome State Fault Refusal :=
  .next (finalize (doneReceive p.val words s))

/-- TIME_REQ_TIMER (R438). -/
def execTimeReqTimer (k : Fin 2) (s : State) : Host.Outcome State Fault Refusal :=
  .next (finalize (timeReqTimer k.val s))

/-- TIME_REQ (R438). -/
def execTimeReq (p : Fin 3) (words : List Word) (s : State) : Host.Outcome State Fault Refusal :=
  .next (finalize (timeReqReceive p.val words s))

/-- TIME_RESP (R438). -/
def execTimeResp (p : Fin 3) (words : List Word) (s : State) : Host.Outcome State Fault Refusal :=
  .next (finalize (timeRespReceive p.val words s))

/-- TEST (R442). -/
def execTest (p : Fin 3) (words : List Word) (s : State) : Host.Outcome State Fault Refusal :=
  .next (finalize (testReceive p.val words s))

/-- REQUEST_TIMEOUT (R432). -/
def execRequestTimeout (tag : Nat) (s : State) : Host.Outcome State Fault Refusal :=
  .next (finalize (requestTimeout tag s))

/-- LOCK_TIMEOUT (R429). -/
def execLockTimeout (s : State) : Host.Outcome State Fault Refusal :=
  .next (finalize (lockTimeout s))

/-- GATHER_TIMEOUT (R443). -/
def execGatherTimeout (tag : Nat) (s : State) : Host.Outcome State Fault Refusal :=
  .next (finalize (gatherTimeout tag s))

end Sys2Proof.Machine
end

