-- ==== Sys2Proof/Machine/ExecTime.lean ====
section
/-! DEFINITION. Sys2Proof/Machine/ExecTime.lean: the meanings of the commands of storage transfers, the Dome generator and time (R307 to R399, R513).
Each is the named operation followed by what the block then does by itself. -/

namespace Sys2Proof.Machine

/-- STC_REQUEST (R354). -/
def execStcRequest (c : Fin 2) (tag : Fin 32) (fromDev : Bool) (ce : Bool) (cfg : Fin 128) (dun : BitVec 64) (len : Word) (s : State) : Host.Outcome State Fault Refusal :=
  .next (finalize (stcRequest c.val { tag := tag.val, fromDev := fromDev, ce := ce, cfg := cfg.val, dun := dun.toNat, len := len.toNat } s))

/-- STC_DATA_IN (R513). -/
def execStcDataIn (c : Fin 2) (fromDev : Bool) (bytes : List Byte) (last : Bool) (s : State) : Host.Outcome State Fault Refusal :=
  .next (finalize (stcDataIn c.val fromDev bytes last s))

/-- STC_TRANSFER_COMPLETE (R351). -/
def execStcTransferComplete (c : Fin 2) (fromDev : Bool) (s : State) : Host.Outcome State Fault Refusal :=
  .next (finalize (stcTransferComplete c.val fromDev s))

/-- PRECEDING_KEY_RELEASE (R296). -/
def execPrecedingKeyRelease (s : State) : Host.Outcome State Fault Refusal :=
  .next (finalize (precedingKeyRelease s))

/-- DRBG_HEALTH_FAIL (R307). -/
def execDrbgHealthFail (s : State) : Host.Outcome State Fault Refusal :=
  .next (finalize (drbgHealthFail s))

/-- DRBG_RESTART_DONE (R307). -/
def execDrbgRestartDone (pass : Bool) (s : State) : Host.Outcome State Fault Refusal :=
  .next (finalize (drbgRestartDone pass s))

/-- DRBG_STARTUP_DONE (R306). -/
def execDrbgStartupDone (pass : Bool) (s : State) : Host.Outcome State Fault Refusal :=
  .next (finalize (drbgStartupDone pass s))

/-- REMASK_DONE (R341). -/
def execRemaskDone (s : State) : Host.Outcome State Fault Refusal :=
  .next (finalize (remaskDone s))

/-- LC_HALFWRAP (R377). -/
def execLcHalfwrap (s : State) : Host.Outcome State Fault Refusal :=
  .next (finalize (lcHalfwrap s))

/-- SAMPLE_LOSS_EXPIRE (R382). -/
def execSampleLossExpire (k : Fin 2) (s : State) : Host.Outcome State Fault Refusal :=
  .next (finalize (sampleLoss k.val s))

/-- SLEW_DONE (R384). -/
def execSlewDone (s : State) : Host.Outcome State Fault Refusal :=
  .next (finalize (slewDone s))

/-- CYC_SYNC_EDGE (R394). -/
def execCycSyncEdge (falling : Bool) (s : State) : Host.Outcome State Fault Refusal :=
  .next (finalize (cycSyncEdge falling s))

/-- CYC_PULL_APPLY (R395). -/
def execCycPullApply (s : State) : Host.Outcome State Fault Refusal :=
  .next (finalize (cycPullApply s))

/-- CYC_SYNC_LOST (R395). -/
def execCycSyncLost (s : State) : Host.Outcome State Fault Refusal :=
  .next (finalize (cycSyncLost s))

/-- CAL_CHANGEOVER (R399). -/
def execCalChangeover (port : Fin 24) (s : State) : Host.Outcome State Fault Refusal :=
  .next (finalize (calChangeover port.val s))

/-- TMU_SYNC_CLEAR (R395). -/
def execTmuSyncClear (s : State) : Host.Outcome State Fault Refusal :=
  .next (finalize (hostBus .tmuSyncClear s))

end Sys2Proof.Machine
end

