-- ==== Sys2Proof/Machine/Dispatch.lean ====
section
/-! DEFINITION. Sys2Proof/Machine/Dispatch.lean: one arm per command. -/

namespace Sys2Proof.Machine

def exec (i : Instr) (s : State) : Host.Outcome State Fault Refusal :=
  match i with
  | .registerWrite off val full => Sys2Proof.Machine.execRegisterWrite off val full s
  | .glbPgLock => Sys2Proof.Machine.execGlbPgLock s
  | .ringEnable n => Sys2Proof.Machine.execRingEnable n s
  | .ringDisable n => Sys2Proof.Machine.execRingDisable n s
  | .resumeCq n => Sys2Proof.Machine.execResumeCq n s
  | .dblSqTail n v => Sys2Proof.Machine.execDblSqTail n v s
  | .dblCqHead n v => Sys2Proof.Machine.execDblCqHead n v s
  | .descriptorFetch n => Sys2Proof.Machine.execDescriptorFetch n s
  | .completionWrite n => Sys2Proof.Machine.execCompletionWrite n s
  | .notifyTimer n => Sys2Proof.Machine.execNotifyTimer n s
  | .commitGroupStaging n => Sys2Proof.Machine.execCommitGroupStaging n s
  | .commitPoint n => Sys2Proof.Machine.execCommitPoint n s
  | .nop n j => Sys2Proof.Machine.execNop n j s
  | .barrier n j => Sys2Proof.Machine.execBarrier n j s
  | .ringStop n j => Sys2Proof.Machine.execRingStop n j s
  | .swEvent n j => Sys2Proof.Machine.execSwEvent n j s
  | .secySet n j => Sys2Proof.Machine.execSecySet n j s
  | .secyDelete n j => Sys2Proof.Machine.execSecyDelete n j s
  | .rxscSet n j => Sys2Proof.Machine.execRxscSet n j s
  | .rxscDelete n j => Sys2Proof.Machine.execRxscDelete n j s
  | .ltRead n j => Sys2Proof.Machine.execLtRead n j s
  | .cntSnapshot n j => Sys2Proof.Machine.execCntSnapshot n j s
  | .saInstall n j => Sys2Proof.Machine.execSaInstall n j s
  | .saSwitch n j => Sys2Proof.Machine.execSaSwitch n j s
  | .saRetire n j => Sys2Proof.Machine.execSaRetire n j s
  | .saAdjust n j => Sys2Proof.Machine.execSaAdjust n j s
  | .treeLoad n j => Sys2Proof.Machine.execTreeLoad n j s
  | .treeSwitch n j => Sys2Proof.Machine.execTreeSwitch n j s
  | .treeRead n j => Sys2Proof.Machine.execTreeRead n j s
  | .sltSeed n j => Sys2Proof.Machine.execSltSeed n j s
  | .sltRebuild n j => Sys2Proof.Machine.execSltRebuild n j s
  | .sltEntry n j => Sys2Proof.Machine.execSltEntry n j s
  | .slotUnwrap n j => Sys2Proof.Machine.execSlotUnwrap n j s
  | .slotGenerate n j => Sys2Proof.Machine.execSlotGenerate n j s
  | .slotWrap n j => Sys2Proof.Machine.execSlotWrap n j s
  | .slotErase n j => Sys2Proof.Machine.execSlotErase n j s
  | .slotAttr n j => Sys2Proof.Machine.execSlotAttr n j s
  | .slotRead n j => Sys2Proof.Machine.execSlotRead n j s
  | .mkaDerive n j => Sys2Proof.Machine.execMkaDerive n j s
  | .signDigest n j => Sys2Proof.Machine.execSignDigest n j s
  | .kumApply n j => Sys2Proof.Machine.execKumApply n j s
  | .kumCommit n j => Sys2Proof.Machine.execKumCommit n j s
  | .imageNonce n j => Sys2Proof.Machine.execImageNonce n j s
  | .imageLoad n j => Sys2Proof.Machine.execImageLoad n j s
  | .lcChange n j => Sys2Proof.Machine.execLcChange n j s
  | .rpmbProvision n j => Sys2Proof.Machine.execRpmbProvision n j s
  | .repairExport n j => Sys2Proof.Machine.execRepairExport n j s
  | .repairLoad n j => Sys2Proof.Machine.execRepairLoad n j s
  | .attest n j => Sys2Proof.Machine.execAttest n j s
  | .measExtend n j => Sys2Proof.Machine.execMeasExtend n j s
  | .measRead n j => Sys2Proof.Machine.execMeasRead n j s
  | .logDump n j => Sys2Proof.Machine.execLogDump n j s
  | .jobGcm n j => Sys2Proof.Machine.execJobGcm n j s
  | .jobXts n j => Sys2Proof.Machine.execJobXts n j s
  | .jobSecoc n j => Sys2Proof.Machine.execJobSecoc n j s
  | .jobMkpduIcv n j => Sys2Proof.Machine.execJobMkpduIcv n j s
  | .jobRandom n j => Sys2Proof.Machine.execJobRandom n j s
  | .stcCfgSet n j => Sys2Proof.Machine.execStcCfgSet n j s
  | .stcCfgRead n j => Sys2Proof.Machine.execStcCfgRead n j s
  | .timeSample n j => Sys2Proof.Machine.execTimeSample n j s
  | .timeDomain n j => Sys2Proof.Machine.execTimeDomain n j s
  | .timeSelect n j => Sys2Proof.Machine.execTimeSelect n j s
  | .timeRead n j => Sys2Proof.Machine.execTimeRead n j s
  | .calLoad n j => Sys2Proof.Machine.execCalLoad n j s
  | .calSwitch n j => Sys2Proof.Machine.execCalSwitch n j s
  | .calRead n j => Sys2Proof.Machine.execCalRead n j s
  | .splRead n j => Sys2Proof.Machine.execSplRead n j s
  | .splWrite n j => Sys2Proof.Machine.execSplWrite n j s
  | .splLocked n j => Sys2Proof.Machine.execSplLocked n j s
  | .splKeySend n j => Sys2Proof.Machine.execSplKeySend n j s
  | .splBcast n j => Sys2Proof.Machine.execSplBcast n j s
  | .egFrameAdmit port express len bytes launch err => Sys2Proof.Machine.execEgFrameAdmit port express len bytes launch err s
  | .switchFire secy => Sys2Proof.Machine.execSwitchFire secy s
  | .aonLeaseConfirm sa => Sys2Proof.Machine.execAonLeaseConfirm sa s
  | .mirrorConfirmTimeout sa => Sys2Proof.Machine.execMirrorConfirmTimeout sa s
  | .leaseRecordResend sa => Sys2Proof.Machine.execLeaseRecordResend sa s
  | .itemDispatch id => Sys2Proof.Machine.execItemDispatch id s
  | .keyFetchDone id => Sys2Proof.Machine.execKeyFetchDone id s
  | .towerItemDone id => Sys2Proof.Machine.execTowerItemDone id s
  | .parityMismatch tower ghash unit id => Sys2Proof.Machine.execParityMismatch tower ghash unit id s
  | .rollingTestStep => Sys2Proof.Machine.execRollingTestStep s
  | .knownAnswerTestDone tower ghash unit pass => Sys2Proof.Machine.execKnownAnswerTestDone tower ghash unit pass s
  | .stagingStart slot => Sys2Proof.Machine.execStagingStart slot s
  | .stagingRaise slot => Sys2Proof.Machine.execStagingRaise slot s
  | .egFrameStart id => Sys2Proof.Machine.execEgFrameStart id s
  | .launchRelease id => Sys2Proof.Machine.execLaunchRelease id s
  | .egFrameEnd id => Sys2Proof.Machine.execEgFrameEnd id s
  | .calInstancePass port => Sys2Proof.Machine.execCalInstancePass port s
  | .returnQueueSend k => Sys2Proof.Machine.execReturnQueueSend k s
  | .igFrameReceive port express bytes status ts => Sys2Proof.Machine.execIgFrameReceive port express bytes status ts s
  | .sltLearnStep k => Sys2Proof.Machine.execSltLearnStep k s
  | .holdLimitExpire id => Sys2Proof.Machine.execHoldLimitExpire id s
  | .igFrameRelease id => Sys2Proof.Machine.execIgFrameRelease id s
  | .sltAgingSweep k => Sys2Proof.Machine.execSltAgingSweep k s
  | .sltScrub k st loc => Sys2Proof.Machine.execSltScrub k st loc s
  | .stcRequest c tag fromDev ce cfg dun len => Sys2Proof.Machine.execStcRequest c tag fromDev ce cfg dun len s
  | .stcDataIn c fromDev bytes last => Sys2Proof.Machine.execStcDataIn c fromDev bytes last s
  | .stcTransferComplete c fromDev => Sys2Proof.Machine.execStcTransferComplete c fromDev s
  | .precedingKeyRelease => Sys2Proof.Machine.execPrecedingKeyRelease s
  | .drbgHealthFail => Sys2Proof.Machine.execDrbgHealthFail s
  | .drbgRestartDone pass => Sys2Proof.Machine.execDrbgRestartDone pass s
  | .drbgStartupDone pass => Sys2Proof.Machine.execDrbgStartupDone pass s
  | .remaskDone => Sys2Proof.Machine.execRemaskDone s
  | .lcHalfwrap => Sys2Proof.Machine.execLcHalfwrap s
  | .sampleLossExpire k => Sys2Proof.Machine.execSampleLossExpire k s
  | .slewDone => Sys2Proof.Machine.execSlewDone s
  | .cycSyncEdge falling => Sys2Proof.Machine.execCycSyncEdge falling s
  | .cycPullApply => Sys2Proof.Machine.execCycPullApply s
  | .cycSyncLost => Sys2Proof.Machine.execCycSyncLost s
  | .calChangeover port => Sys2Proof.Machine.execCalChangeover port s
  | .tmuSyncClear => Sys2Proof.Machine.execTmuSyncClear s
  | .splPortEnable p => Sys2Proof.Machine.execSplPortEnable p s
  | .splPortDisable p => Sys2Proof.Machine.execSplPortDisable p s
  | .splRetrainRequest p => Sys2Proof.Machine.execSplRetrainRequest p s
  | .receiverDetectDone p lane present => Sys2Proof.Machine.execReceiverDetectDone p lane present s
  | .trainingSetReceive p words => Sys2Proof.Machine.execTrainingSetReceive p words s
  | .splRateAck p => Sys2Proof.Machine.execSplRateAck p s
  | .trainingTimeout p => Sys2Proof.Machine.execTrainingTimeout p s
  | .laneLockChange p locked => Sys2Proof.Machine.execLaneLockChange p locked s
  | .lockLossTimeout p => Sys2Proof.Machine.execLockLossTimeout p s
  | .retrainTimeout p => Sys2Proof.Machine.execRetrainTimeout p s
  | .gen2FramingError p => Sys2Proof.Machine.execGen2FramingError p s
  | .splPacketSend p => Sys2Proof.Machine.execSplPacketSend p s
  | .replayTimeout p => Sys2Proof.Machine.execReplayTimeout p s
  | .ackTimer p => Sys2Proof.Machine.execAckTimer p s
  | .ack p words => Sys2Proof.Machine.execAck p words s
  | .splForward p words => Sys2Proof.Machine.execSplForward p words s
  | .rdReq p words => Sys2Proof.Machine.execRdReq p words s
  | .wr p words => Sys2Proof.Machine.execWr p words s
  | .lockReq p words => Sys2Proof.Machine.execLockReq p words s
  | .bcast p words => Sys2Proof.Machine.execBcast p words s
  | .cpl p words => Sys2Proof.Machine.execCpl p words s
  | .errNotice p words => Sys2Proof.Machine.execErrNotice p words s
  | .eventPacket p words => Sys2Proof.Machine.execEventPacket p words s
  | .leaseRecordReceive p words => Sys2Proof.Machine.execLeaseRecordReceive p words s
  | .partnerLeaseConfirm p words => Sys2Proof.Machine.execPartnerLeaseConfirm p words s
  | .openPkt p words => Sys2Proof.Machine.execOpenPkt p words s
  | .nonce p words => Sys2Proof.Machine.execNonce p words s
  | .blob p words => Sys2Proof.Machine.execBlob p words s
  | .done p words => Sys2Proof.Machine.execDone p words s
  | .timeReqTimer k => Sys2Proof.Machine.execTimeReqTimer k s
  | .timeReq p words => Sys2Proof.Machine.execTimeReq p words s
  | .timeResp p words => Sys2Proof.Machine.execTimeResp p words s
  | .test p words => Sys2Proof.Machine.execTest p words s
  | .requestTimeout tag => Sys2Proof.Machine.execRequestTimeout tag s
  | .lockTimeout => Sys2Proof.Machine.execLockTimeout s
  | .gatherTimeout tag => Sys2Proof.Machine.execGatherTimeout tag s
  | .splNodeLock => Sys2Proof.Machine.execSplNodeLock s
  | .splAccessLock => Sys2Proof.Machine.execSplAccessLock s
  | .splKtCtrlLock => Sys2Proof.Machine.execSplKtCtrlLock s
  | .domRpmbAddrLock => Sys2Proof.Machine.execDomRpmbAddrLock s
  | .tmpCtrlLock => Sys2Proof.Machine.execTmpCtrlLock s
  | .loopWindowEnd held level => Sys2Proof.Machine.execLoopWindowEnd held level s
  | .shieldEvaluate held level => Sys2Proof.Machine.execShieldEvaluate held level s
  | .clockGlitch freq => Sys2Proof.Machine.execClockGlitch freq s
  | .temperatureSample code => Sys2Proof.Machine.execTemperatureSample code s
  | .tamperResponse => Sys2Proof.Machine.execTamperResponse s
  | .tamperEraseDone => Sys2Proof.Machine.execTamperEraseDone s
  | .eventRingWrite m => Sys2Proof.Machine.execEventRingWrite m s
  | .logWrite => Sys2Proof.Machine.execLogWrite s
  | .evtRingEnable m v => Sys2Proof.Machine.execEvtRingEnable m v s
  | .evtRingHead m v => Sys2Proof.Machine.execEvtRingHead m v s
  | .evtPendClear b v => Sys2Proof.Machine.execEvtPendClear b v s
  | .evtForce b v => Sys2Proof.Machine.execEvtForce b v s
  | .logCtrlAck => Sys2Proof.Machine.execLogCtrlAck s
  | .logRdIdx v => Sys2Proof.Machine.execLogRdIdx v s
  | .readClear rd => Sys2Proof.Machine.execReadClear rd s
  | .latchingLoRead rd => Sys2Proof.Machine.execLatchingLoRead rd s
  | .vchWake level => Sys2Proof.Machine.execVchWake level s
  | .pwrReqRun => Sys2Proof.Machine.execPwrReqRun s
  | .pwrReqIdle => Sys2Proof.Machine.execPwrReqIdle s
  | .pwrReqRetain => Sys2Proof.Machine.execPwrReqRetain s
  | .pwrReqOff => Sys2Proof.Machine.execPwrReqOff s
  | .pwrDomainWrite v => Sys2Proof.Machine.execPwrDomainWrite v s
  | .domainDrainDone => Sys2Proof.Machine.execDomainDrainDone s
  | .entryDrainDone => Sys2Proof.Machine.execEntryDrainDone s
  | .pwrSwAck d => Sys2Proof.Machine.execPwrSwAck d s
  | .pwrSwitchStagger => Sys2Proof.Machine.execPwrSwitchStagger s
  | .pwrAckTimeout d => Sys2Proof.Machine.execPwrAckTimeout d s
  | .clockOk bits => Sys2Proof.Machine.execClockOk bits s
  | .idleExit => Sys2Proof.Machine.execIdleExit s
  | .pwrCtxRestore => Sys2Proof.Machine.execPwrCtxRestore s
  | .pwrCtxDiscard => Sys2Proof.Machine.execPwrCtxDiscard s
  | .contextRestoreStart => Sys2Proof.Machine.execContextRestoreStart s
  | .contextRestoreDone => Sys2Proof.Machine.execContextRestoreDone s
  | .blockReset => Sys2Proof.Machine.execBlockReset s
  | .aonPowerUp => Sys2Proof.Machine.execAonPowerUp s
  | .shadowBuildDone k => Sys2Proof.Machine.execShadowBuildDone k s
  | .packetDiscard p words => Sys2Proof.Machine.execPacketDiscard p words s
  | .gen1FramingResync p => Sys2Proof.Machine.execGen1FramingResync p s
  | .clockFaultClear => Sys2Proof.Machine.execClockFaultClear s
  | .idleRangeAccess off => Sys2Proof.Machine.execIdleRangeAccess off s

end Sys2Proof.Machine
end

