-- ==== Sys2Proof/WellFormed.lean ====
section
/-! DEFINITION. Sys2Proof/WellFormed.lean: which commands are well formed: the ranges of the operands that their types do not bound.
The meanings are total: an ill-formed command names nothing and changes nothing. -/

namespace Sys2Proof

/-- Why a command is ill formed. -/
inductive IllFormed where
  /-- An SQ index is 14 bits (R35). -/
  | index
  /-- A register offset is a multiple of 4 (R537). -/
  | offset
  /-- A packet is three words at least and 344 at most (R412). -/
  | packet
  /-- A tower has 9 round cores and 3 GHASH units (R217). -/
  | unit
  /-- An SLT location is a bucket's way, or an overflow entry from 4,096 on (R185). -/
  | location
  /-- A transaction tag is 12 bits (R424). -/
  | tag
  /-- A broadcast is named by source node and tag, 12 bits each (R443). -/
  | gather
  /-- A frame has a byte at least (R139, R172). -/
  | frame
deriving DecidableEq, Repr

def chkIndex (i : Nat) : Option IllFormed := if i < 16384 then none else some .index
def chkOffset (off : BitVec 17) : Option IllFormed := if off.toNat % 4 = 0 then none else some .offset
def chkPacket (w : List Word) : Option IllFormed := if 3 ≤ w.length && w.length ≤ 344 then none else some .packet
def chkUnit (ghash : Bool) (u : Fin 9) : Option IllFormed := if ghash && 3 ≤ u.val then some .unit else none
def chkLoc (loc : Nat) : Option IllFormed :=
  if loc < 2048 || (4096 ≤ loc && loc < 4160) then none else some .location
def chkTag (t : Nat) : Option IllFormed := if t < 4096 then none else some .tag
def chkGather (k : Nat) : Option IllFormed := if k < 2 ^ 24 then none else some .gather
def chkFrame (b : List Byte) : Option IllFormed := if b = [] then some .frame else none

/-- The check that a command fails, if any. -/
def illFormed (c : Instr) : Option IllFormed :=
  match c with
  | .registerWrite off _ _ => chkOffset off
  | .glbPgLock => none
  | .ringEnable _ => none
  | .ringDisable _ => none
  | .resumeCq _ => none
  | .dblSqTail _ _ => none
  | .dblCqHead _ _ => none
  | .descriptorFetch _ => none
  | .completionWrite _ => none
  | .notifyTimer _ => none
  | .commitGroupStaging _ => none
  | .commitPoint _ => none
  | .nop _ i => chkIndex i
  | .barrier _ i => chkIndex i
  | .ringStop _ i => chkIndex i
  | .swEvent _ i => chkIndex i
  | .secySet _ i => chkIndex i
  | .secyDelete _ i => chkIndex i
  | .rxscSet _ i => chkIndex i
  | .rxscDelete _ i => chkIndex i
  | .ltRead _ i => chkIndex i
  | .cntSnapshot _ i => chkIndex i
  | .saInstall _ i => chkIndex i
  | .saSwitch _ i => chkIndex i
  | .saRetire _ i => chkIndex i
  | .saAdjust _ i => chkIndex i
  | .treeLoad _ i => chkIndex i
  | .treeSwitch _ i => chkIndex i
  | .treeRead _ i => chkIndex i
  | .sltSeed _ i => chkIndex i
  | .sltRebuild _ i => chkIndex i
  | .sltEntry _ i => chkIndex i
  | .slotUnwrap _ i => chkIndex i
  | .slotGenerate _ i => chkIndex i
  | .slotWrap _ i => chkIndex i
  | .slotErase _ i => chkIndex i
  | .slotAttr _ i => chkIndex i
  | .slotRead _ i => chkIndex i
  | .mkaDerive _ i => chkIndex i
  | .signDigest _ i => chkIndex i
  | .kumApply _ i => chkIndex i
  | .kumCommit _ i => chkIndex i
  | .imageNonce _ i => chkIndex i
  | .imageLoad _ i => chkIndex i
  | .lcChange _ i => chkIndex i
  | .rpmbProvision _ i => chkIndex i
  | .repairExport _ i => chkIndex i
  | .repairLoad _ i => chkIndex i
  | .attest _ i => chkIndex i
  | .measExtend _ i => chkIndex i
  | .measRead _ i => chkIndex i
  | .logDump _ i => chkIndex i
  | .jobGcm _ i => chkIndex i
  | .jobXts _ i => chkIndex i
  | .jobSecoc _ i => chkIndex i
  | .jobMkpduIcv _ i => chkIndex i
  | .jobRandom _ i => chkIndex i
  | .stcCfgSet _ i => chkIndex i
  | .stcCfgRead _ i => chkIndex i
  | .timeSample _ i => chkIndex i
  | .timeDomain _ i => chkIndex i
  | .timeSelect _ i => chkIndex i
  | .timeRead _ i => chkIndex i
  | .calLoad _ i => chkIndex i
  | .calSwitch _ i => chkIndex i
  | .calRead _ i => chkIndex i
  | .splRead _ i => chkIndex i
  | .splWrite _ i => chkIndex i
  | .splLocked _ i => chkIndex i
  | .splKeySend _ i => chkIndex i
  | .splBcast _ i => chkIndex i
  | .egFrameAdmit _ _ _ bytes _ _ => chkFrame bytes
  | .switchFire _ => none
  | .aonLeaseConfirm _ => none
  | .mirrorConfirmTimeout _ => none
  | .leaseRecordResend _ => none
  | .itemDispatch _ => none
  | .keyFetchDone _ => none
  | .towerItemDone _ => none
  | .parityMismatch _ ghash unit _ => chkUnit ghash unit
  | .rollingTestStep => none
  | .knownAnswerTestDone _ ghash unit _ => chkUnit ghash unit
  | .stagingStart _ => none
  | .stagingRaise _ => none
  | .egFrameStart _ => none
  | .launchRelease _ => none
  | .egFrameEnd _ => none
  | .calInstancePass _ => none
  | .returnQueueSend _ => none
  | .igFrameReceive _ _ bytes _ _ => chkFrame bytes
  | .sltLearnStep _ => none
  | .holdLimitExpire _ => none
  | .igFrameRelease _ => none
  | .sltAgingSweep _ => none
  | .sltScrub _ _ loc => chkLoc loc
  | .stcRequest _ _ _ _ _ _ _ => none
  | .stcDataIn _ _ _ _ => none
  | .stcTransferComplete _ _ => none
  | .precedingKeyRelease => none
  | .drbgHealthFail => none
  | .drbgRestartDone _ => none
  | .drbgStartupDone _ => none
  | .remaskDone => none
  | .lcHalfwrap => none
  | .sampleLossExpire _ => none
  | .slewDone => none
  | .cycSyncEdge _ => none
  | .cycPullApply => none
  | .cycSyncLost => none
  | .calChangeover _ => none
  | .tmuSyncClear => none
  | .splPortEnable _ => none
  | .splPortDisable _ => none
  | .splRetrainRequest _ => none
  | .receiverDetectDone _ _ _ => none
  | .trainingSetReceive _ _ => none
  | .splRateAck _ => none
  | .trainingTimeout _ => none
  | .laneLockChange _ _ => none
  | .lockLossTimeout _ => none
  | .retrainTimeout _ => none
  | .gen2FramingError _ => none
  | .splPacketSend _ => none
  | .replayTimeout _ => none
  | .ackTimer _ => none
  | .ack _ words => chkPacket words
  | .splForward _ words => chkPacket words
  | .rdReq _ words => chkPacket words
  | .wr _ words => chkPacket words
  | .lockReq _ words => chkPacket words
  | .bcast _ words => chkPacket words
  | .cpl _ words => chkPacket words
  | .errNotice _ words => chkPacket words
  | .eventPacket _ words => chkPacket words
  | .leaseRecordReceive _ words => chkPacket words
  | .partnerLeaseConfirm _ words => chkPacket words
  | .openPkt _ words => chkPacket words
  | .nonce _ words => chkPacket words
  | .blob _ words => chkPacket words
  | .done _ words => chkPacket words
  | .timeReqTimer _ => none
  | .timeReq _ words => chkPacket words
  | .timeResp _ words => chkPacket words
  | .test _ words => chkPacket words
  | .requestTimeout tag => chkTag tag
  | .lockTimeout => none
  | .gatherTimeout tag => chkGather tag
  | .splNodeLock => none
  | .splAccessLock => none
  | .splKtCtrlLock => none
  | .domRpmbAddrLock => none
  | .tmpCtrlLock => none
  | .loopWindowEnd _ _ => none
  | .shieldEvaluate _ _ => none
  | .clockGlitch _ => none
  | .temperatureSample _ => none
  | .tamperResponse => none
  | .tamperEraseDone => none
  | .eventRingWrite _ => none
  | .logWrite => none
  | .evtRingEnable _ _ => none
  | .evtRingHead _ _ => none
  | .evtPendClear _ _ => none
  | .evtForce _ _ => none
  | .logCtrlAck => none
  | .logRdIdx _ => none
  | .readClear rd => chkOffset rd.off
  | .latchingLoRead rd => chkOffset rd.off
  | .vchWake _ => none
  | .pwrReqRun => none
  | .pwrReqIdle => none
  | .pwrReqRetain => none
  | .pwrReqOff => none
  | .pwrDomainWrite _ => none
  | .domainDrainDone => none
  | .entryDrainDone => none
  | .pwrSwAck _ => none
  | .pwrSwitchStagger => none
  | .pwrAckTimeout _ => none
  | .clockOk _ => none
  | .idleExit => none
  | .pwrCtxRestore => none
  | .pwrCtxDiscard => none
  | .contextRestoreStart => none
  | .contextRestoreDone => none
  | .blockReset => none
  | .aonPowerUp => none
  | .shadowBuildDone _ => none
  | .packetDiscard _ words => chkPacket words
  | .gen1FramingResync _ => none
  | .clockFaultClear => none
  | .idleRangeAccess off => chkOffset off

/-- A command is well formed. -/
def WellFormed (c : Instr) : Prop := illFormed c = none

end Sys2Proof
end

