-- ==== Sys2Proof/Safety.lean ====
section
/-! DEFINITION. Sys2Proof/Safety.lean: what a safe state of the block is, and the words that the claims are stated in. -/

namespace Sys2Proof.Machine

/-- Host memory is in its canonical form: addresses rising, no entry equal to what an unlisted address reads as. -/
abbrev Memory.wf (m : Tab Byte) : Prop := tabWf (0 : Byte) m = true

/-- The descriptor at index `i` of ring `n` has opcode `op` and the words `w` and may start now: it is fetched and waits, outside a group,
and ring order, FENCE and BARRIER let it start (R53 to R56). -/
def startable (s : State) (op n i : Nat) (w : List Word) : Bool :=
  match entAt s n i with
  | some e => decide (e.st = .waiting) && e.readable && !e.member && decide (e.words = w) && decide (wOp w = op) && domOn s dHOST
      && mayStart s n e
  | none => false

/-- It starts now: it also passes the admission checks (R46), and this is not the alarm clock (R75). -/
def starts (s : State) (op n i : Nat) (w : List Word) : Bool := startable s op n i w && (admitNow s n w).isNone && !alarmNow s

/-- The near bus is free: no locked sequence holds it, and an access of the host has its turn at once (R426, R429). -/
abbrev busFree (s : State) : Prop := s.spl.hold = none

/-- The state with the host as the master that the near bus served last (R426). -/
def hostTurn (s : State) : State := { s with spl := { s.spl with lastFar := false } }

/-- The state with the bytes `l` stored in host memory from `a` on. -/
def stored (a : Nat) (l : List Byte) (s : State) : State := { s with mem := storeBytes a l s.mem }

/-- The descriptor starts now, or it has started and waits for a preceding key (R296), and this is not the alarm clock. -/
def atWork (s : State) (op n i : Nat) (w : List Word) : Bool :=
  starts s op n i w ||
    match entAt s n i with
    | some e => decide (e.st = .running) && decide (e.words = w) && decide (wOp w = op) && domOn s dHOST && !alarmNow s
    | none => false

/-- The state with descriptor `i` of ring `n` marked as running. -/
def running (n i : Nat) (s : State) : State := modEnt n i (fun e => { e with st := .running }) s

/-- No descriptor waits for its admission checks: those in the windows wait for another or pass them (R46). -/
def admitted (s : State) : Bool :=
  (tabKeys s.rings).all fun n => (ring s n).window.all fun e =>
    e.st != .waiting || !e.readable || e.member || !mayStart s n e || (admitNow s n e.words).isNone

/-- Nothing in the state goes on by itself: no descriptor to be checked, no item, no frame in progress, no storage request that waits for
its TAG, no access that waits for the near bus, the XOFF bits follow the buffers, no power transition is at its switches. -/
def calm (s : State) : Bool :=
  admitted s && s.hostWait.isEmpty && s.items.isEmpty && s.egFrames.isEmpty && s.igFrames.isEmpty && (stc s 0).tagWait.isNone && (stc s 1).tagWait.isNone
    && s.spl.busWait.isEmpty && ([0, 1, 2] : List Nat).all (fun p => xoffNow s p == (sport s p).xoffTx) && !switching s

/-- Is a write of the register an operation of its own, and not the storing of fields: requests, W1C and write-only registers, heads,
control registers that start or stop a unit, doorbells? -/
def opReg (off : Nat) : Bool :=
  off = rPWR_REQ || off = rPWR_DOMAIN || off = rPWR_CTX_CTRL
    || (0x2000 ≤ off && off < 0x2180 && ((off - 0x2000) % 0x40 == 0 || (off - 0x2000) % 0x40 == 0x24))
    || inArr off (rEVT_RING_CTRL 0) 0x20 8 || inArr off (rEVT_RING_HEAD 0) 0x20 8 || off = rLOG_CTRL || off = rLOG_RD_IDX
    || (0x4000 ≤ off && off < 0x6000 && (off - 0x4000) % 0x80 == 0x14) || off = rSYNC_CTRL || off = rSYNC_PORTS || off = rSPL_NODE
    || inArr off (rSP_CTRL 0) 0x100 3 || off = rTMP_CTRL || off = rBELFRY_BUDGET || 0x10000 ≤ off

/-- Is the command an access of the host to a register (R2, R9)? -/
def hostRow : Instr → Bool
  | .registerWrite .. | .glbPgLock | .ringEnable _ | .ringDisable _ | .resumeCq _ | .dblSqTail .. | .dblCqHead .. | .tmuSyncClear
  | .splPortEnable _ | .splPortDisable _ | .splRetrainRequest _ | .splNodeLock | .splAccessLock | .splKtCtrlLock | .domRpmbAddrLock
  | .tmpCtrlLock | .evtRingEnable .. | .evtRingHead .. | .evtPendClear .. | .evtForce .. | .logCtrlAck | .logRdIdx _ | .readClear ..
  | .latchingLoRead .. | .pwrReqRun | .pwrReqIdle | .pwrReqRetain | .pwrReqOff | .pwrDomainWrite _ | .pwrCtxRestore | .pwrCtxDiscard => true
  | _ => false

end Sys2Proof.Machine
end

