-- ==== Sys2Proof/Certificates/Slice0/Obligations.lean ====
section
/-! DEFINITION. Sys2Proof/Certificates/Slice0/Obligations.lean: the statements for the provers. `finalize` is what the block then does by
itself (CalmStateOnlyDeliversItsEvents says what that is where nothing is under way); `starts` says that a descriptor may start now. -/

open Sys2Proof Sys2Proof.Machine

/-- For every command c and every state s whose queue is c followed by rest, step s is exec c on s with the queue rest: nothing is added
around the command's own meaning. The queue is the model's (assumption log 1). -/
def Obligations.StepRunsTheFrontCommand : Prop :=
  ∀ (c : Instr) (rest : List Instr) (s : State), s.pending = c :: rest → step s = exec c { s with pending := rest }

/-- In every state whose queue is empty, step answers a next state: the model's clock has advanced by one, the queue is empty, and host
memory, the rings, the SecYs, the associations, the slots, the fuses, the log, the power controller and the stored registers are as
before; with PD_TIME off only the clock has changed. The tick on an empty queue is the model's choice (assumption log 2). -/
def Obligations.EmptyQueueLetsOneClockPass : Prop :=
  ∀ s : State, s.pending = [] →
      ∃ t, step s = .next t ∧ t.clock = s.clock + 1 ∧ t.pending = [] ∧ t.mem = s.mem ∧ t.rings = s.rings ∧ t.secys = s.secys
        ∧ t.rxscs = s.rxscs ∧ t.assocs = s.assocs ∧ t.marks = s.marks ∧ t.dome = s.dome ∧ t.fuses = s.fuses ∧ t.log = s.log
        ∧ t.pwr = s.pwr ∧ t.tmp = s.tmp ∧ t.regs = s.regs
        ∧ (domOn s dTIME = false → t = { s with clock := s.clock + 1 })

/-- For every command and every state, exec answers a next state; so no command of the table stops the block, whatever state it is in. -/
def Obligations.EveryCommandHasANextState : Prop :=
  ∀ (c : Instr) (s : State), ∃ t, exec c s = .next t

/-- For every command and state, the next state that exec answers has the queue it was given; and every step answers a next state whose queue
is the old one without its front command. -/
def Obligations.CommandsLeaveTheQueueAlone : Prop :=
  (∀ (c : Instr) (s t : State), exec c s = .next t → t.pending = s.pending) ∧
      ∀ s t : State, step s = .next t → t.pending = s.pending.tail

/-- For every state whose host memory lists addresses rising and no byte equal to what an unlisted address reads as, the next state of a step
has host memory of the same form: equal memories stay equal data. What an unlisted byte reads as is the model's choice (assumption log 4). -/
def Obligations.HostMemoryStaysCanonical : Prop :=
  ∀ s t : State, Memory.wf s.mem → step s = .next t → Memory.wf t.mem

/-- State.reset has host memory in its canonical form, an empty queue, every power domain but PD_AON off, the power state OFF, every ring
DISABLED, every slot EMPTY, and TP_AON_POWERUP waiting for the log as its only entry. -/
def Obligations.ResetMemoryIsCanonical : Prop :=
  Memory.wf State.reset.mem ∧ State.reset.pending = [] ∧ State.reset.pwr.state = .off ∧ State.reset.pwr.on = 1
        ∧ (∀ n, (ring State.reset n).state = .disabled) ∧ (∀ i, (slot State.reset i).st = .empty)
        ∧ State.reset.log.queue = [powerupEntry] ∧ ∃ t, step State.reset = .next t

/-- In every state in which nothing goes on by itself (no descriptor whose admission checks fail now, no item, no frame in progress, no
storage request that waits for its TAG, no access that waits for the near bus, XOFF bits that follow the buffers, no power transition at
its switches), finalize is the delivery of the raised events; where no event is raised either, it is the identity. The other statements name their next state as finalize of a state, and
this one says what that is. -/
def Obligations.CalmStateOnlyDeliversItsEvents : Prop :=
  ∀ s : State, calm s = true → finalize s = settle s ∧ (s.raised = [] → finalize s = s)

/-- Delivering the raised events empties them, appends to the log's queue one entry for each, in order, and leaves host memory, rings, SecYs,
channels, associations, marks, pipelines, frames, items, storage channels, the power controller, the tamper monitor, the Time Unit, the
Dome, the fuses, the queue, the clock and the draws as they were; while PD_SPIRE is off Spire Link too is as it was, and every register
but EVT_PENDb and EVT_RINGm_LOST. -/
def Obligations.DeliveredEventsReachOnlyTheEventUnit : Prop :=
  ∀ s : State,
      (settle s).raised = [] ∧ (∃ l, (settle s).log = { s.log with queue := s.log.queue ++ l } ∧ l.length = s.raised.length)
        ∧ (settle s).mem = s.mem ∧ (settle s).rings = s.rings ∧ (settle s).secys = s.secys ∧ (settle s).rxscs = s.rxscs
        ∧ (settle s).assocs = s.assocs ∧ (settle s).marks = s.marks ∧ (settle s).ppls = s.ppls ∧ (settle s).plCnt = s.plCnt
        ∧ (settle s).egFrames = s.egFrames ∧ (settle s).igFrames = s.igFrames ∧ (settle s).items = s.items ∧ (settle s).arr = s.arr
        ∧ (settle s).stcs = s.stcs ∧ (settle s).pwr = s.pwr ∧ (settle s).tmp = s.tmp ∧ (settle s).tmu = s.tmu
        ∧ (settle s).dome = s.dome ∧ (settle s).fuses = s.fuses ∧ (settle s).pending = s.pending ∧ (settle s).clock = s.clock
        ∧ (settle s).draws = s.draws
        ∧ (domOn s dSPIRE = false → (settle s).spl = s.spl ∧
            ∀ off, (∀ b, off ≠ rEVT_PEND b) → (∀ m, off ≠ rEVT_RING_LOST m) → rget (settle s) off = rget s off)

/-- Finishing the descriptor at index i of ring n makes the oldest window entry there that has not ended done, with the answer (ALARM in the
alarm clock), the time stamp and the NOTIME bit of that instant; every other entry of the ring stays as it is, and so do every other ring,
the ring's indices and host memory. HR_PERM is raised exactly for PERM and for KEY_DENIED OWNER, outside the alarm clock. -/
def Obligations.CompletionIsRecordedOnceAndAlone : Prop :=
  ∀ (n i : Nat) (r : Res) (s : State),
      (∀ a e b, (ring s n).window = a ++ e :: b → (∀ x ∈ a, x.idx ≠ i ∨ x.isOpen = false) → e.idx = i → e.isOpen = true →
        (ring (finish n i r s) n).window = a ++ { e with st := .done (compNow s r) } :: b)
        ∧ (compNow s r).time = stamp s ∧ (compNow s r).notime = !domOn s dTIME
        ∧ (alarmNow s = false → (compNow s r).res = r) ∧ (alarmNow s = true → (compNow s r).res = failRes .alarm 0)
        ∧ (entAt s n i = none → (ring (finish n i r s) n).window = (ring s n).window)
        ∧ (∀ j, j ≠ i → entAt (finish n i r s) n j = entAt s n j) ∧ (∀ m, m ≠ n → ring (finish n i r s) m = ring s m)
        ∧ (ring (finish n i r s) n).sqHead = (ring s n).sqHead ∧ (ring (finish n i r s) n).sqTail = (ring s n).sqTail
        ∧ (ring (finish n i r s) n).cqTail = (ring s n).cqTail ∧ (ring (finish n i r s) n).posted = (ring s n).posted
        ∧ (finish n i r s).mem = s.mem ∧ (finish n i r s).regs = s.regs
        ∧ (finish n i r s).raised = (if alarmNow s = false ∧ (r.st = .perm ∨ (r.st = .keyDenied ∧ r.reason = 1)) then
            s.raised ++ [{ src := 12, inst := n % 256, detail := (statusCode r.st + i * 2 ^ 10) % 2 ^ 24, sev := 1 }] else s.raised)

/-- Outside IDLE, for a register whose power domain is on and whose write is no operation of its own (opReg), REGISTER_WRITE stores the value:
each bit that the register table makes writable, that no lock and no range rule keeps, takes the written bit, each other bit keeps its
value (a lock bit, and TMP_LEVEL whose zeros are replaced, apart), and no other register changes. A write narrower than 32 bits, and a
write to a register of a domain that is off, change nothing. Every access of the host has its turn at once while the near bus is free;
while a locked sequence holds the bus it waits behind the accesses of the host that wait already, and changes nothing else. -/
def Obligations.RegisterWriteStoresItsFields : Prop :=
  ∀ (off : BitVec 17) (v : BitVec 32) (s : State),
      (∀ c, hostRow c = true → (busFree s → exec c s = .next (finalize (hostAccess c (hostTurn s))))
        ∧ (¬busFree s → exec c s = .next (finalize { s with hostWait := s.hostWait ++ [c] })))
        ∧ (s.pwr.state ≠ .idle → busFree s →
      (rangeOn s off.toNat = true → off.toNat % 4 = 0 → opReg off.toNat = false →
        exec (.registerWrite off v true) s = .next (finalize (regStore off.toNat (mkW v.toNat) (hostTurn s)))
        ∧ (lockBit off.toNat = 0 → off.toNat ≠ rTMP_LEVEL → ∀ i < 24,
            (rget (regStore off.toNat (mkW v.toNat) s) off.toNat).getLsbD i =
              (if (mkW (rwBits off.toNat)).getLsbD i && !(mkW (keepBits s off.toNat (mkW v.toNat))).getLsbD i then v.getLsbD i
               else (rget s off.toNat).getLsbD i))
        ∧ ∀ o, o ≠ off.toNat → rget (regStore off.toNat (mkW v.toNat) s) o = rget s o)
        ∧ exec (.registerWrite off v false) s = .next (finalize (hostTurn s))
        ∧ (rangeOn s off.toNat = false → exec (.registerWrite off v true) s = .next (finalize (hostTurn s))))

/-- With the near bus free and the register's domain on, GLB_PG_LOCK, SPL_NODE_LOCK, SPL_ACCESS_LOCK, SPL_KT_CTRL_LOCK, DOM_RPMB_ADDR_LOCK and TMP_CTRL_LOCK
answer the state with that register's lock bit set and nothing else changed. A register that is locked keeps every bit in a write,
whatever is written. -/
def Obligations.LockBitsStayAndHoldTheirRegisters : Prop :=
  ∀ s : State,
      (busFree s → (rangeOn s rPG_LOCK = true → exec .glbPgLock s = .next (finalize (rset rPG_LOCK (rget s rPG_LOCK ||| 1#24) (hostTurn s))))
        ∧ (rangeOn s rSPL_NODE = true →
            exec .splNodeLock s = .next (finalize (rset rSPL_NODE (rget s rSPL_NODE ||| 0x004000#24) (hostTurn s))))
        ∧ (rangeOn s rSPL_ACCESS = true →
            exec .splAccessLock s = .next (finalize (rset rSPL_ACCESS (rget s rSPL_ACCESS ||| 0x008000#24) (hostTurn s))))
        ∧ (rangeOn s rSPL_KT_CTRL = true →
            exec .splKtCtrlLock s = .next (finalize (rset rSPL_KT_CTRL (rget s rSPL_KT_CTRL ||| 0x200000#24) (hostTurn s))))
        ∧ (rangeOn s rDOM_RPMB_ADDR = true →
            exec .domRpmbAddrLock s = .next (finalize (rset rDOM_RPMB_ADDR (rget s rDOM_RPMB_ADDR ||| 0x010000#24) (hostTurn s))))
        ∧ (rangeOn s rTMP_CTRL = true →
            exec .tmpCtrlLock s = .next (finalize (rset rTMP_CTRL (rget s rTMP_CTRL ||| 0x000010#24) (hostTurn s)))))
        ∧ ∀ off v, regLocked s off = true → lockBit off = 0 → off < 0x20000 → rget (regStore off v s) off = rget s off

/-- Outside IDLE, with the near bus free, for a register whose domain is on: READ_CLEAR with RC bits answers the state in which exactly those
bits of that register are 0 and the value returned is the register's before; LATCHING_LO_READ of TMU_LC_LO latches bits [47:24] and
[63:48] of the nanoseconds of LC into TMU_LC_MID and TMU_LC_HI; of LOG_TICK_LO it latches bits [31:24] of the AON tick and SLEEP_EPOCH into
LOG_TICK_HI. A read narrower than 32 bits returns zero, and clears and latches nothing. In IDLE with no transition under way,
IDLE_RANGE_ACCESS to the TWR, PPL, PA or STC range starts the exit to RUN and changes nothing else; to another range it changes nothing.
That SLEEP_EPOCH is latched with the tick is the model's reading (assumption log 52). -/
def Obligations.ReadsClearAndLatch : Prop :=
  ∀ (off : BitVec 17) (s : State),
      (s.pwr.state ≠ .idle → busFree s →
        (rangeOn s off.toNat = true → regRc off.toNat ≠ 0 → exec (.readClear ⟨off, true⟩) s = .next (finalize
          { rset off.toNat (rget s off.toNat &&& ~~~(regRc off.toNat)) (hostTurn s) with
            rdata := (regRead (hostTurn s) off.toNat).setWidth 32 }))
        ∧ (rangeOn s rLC_LO = true → exec (.latchingLoRead ⟨BitVec.ofNat 17 rLC_LO, true⟩) s = .next (finalize
          { rset rLC_MID (mkW (lcNs s / 2 ^ 24)) (rset rLC_HI (mkW (lcNs s / 2 ^ 48 % 2 ^ 16)) (hostTurn s)) with
            rdata := (mkW (lcNs s)).setWidth 32 }))
        ∧ (rangeOn s rLOG_TICK_LO = true → exec (.latchingLoRead ⟨BitVec.ofNat 17 rLOG_TICK_LO, true⟩) s = .next (finalize
          { rset rLOG_TICK_HI (mkW (aonTick s / 2 ^ 24 + s.log.epoch * 2 ^ 8)) (hostTurn s) with
            rdata := (mkW (aonTick s)).setWidth 32 }))
        ∧ exec (.readClear ⟨off, false⟩) s = .next (finalize { hostTurn s with rdata := 0 })
        ∧ exec (.latchingLoRead ⟨off, false⟩) s = .next (finalize { hostTurn s with rdata := 0 }))
        ∧ (s.pwr.state = .idle → s.pwr.trans = .none →
            exec (.idleRangeAccess off) s = .next (finalize
              (if (0x6000 ≤ off.toNat ∧ off.toNat < 0x9000) ∨ (0xB000 ≤ off.toNat ∧ off.toNat < 0xC000) then
                { s with pwr := { s.pwr with trans := .idleExit } } else s)))

/-- With PD_HOST on and the near bus free: enabling a DISABLED or STOPPED ring whose group lock is set, whose sizes are 4 to 14 and whose bases are aligned makes it
RUNNING with zero indices, PHASE 1, no error, nothing posted and nothing fetched, and changes nothing else; when the check fails, ERR_CODE
holds the cause, HR_RING_ERR is raised and nothing else changes. Disabling a RUNNING ring leaves ENABLE 0, the ring STOPPED when nothing
is posted or fetched and STOPPING otherwise, every waiting descriptor outside a group ended with ABORTED RING_STOP, and every other ring,
host memory and the registers as they were. RESUME_CQ on a STOPPING ring with held completions clears the hold and counts the completions
kept until they are written; nothing else changes. -/
def Obligations.RingPairsStartAndStop : Prop :=
  ∀ (n : Fin 64) (s : State), domOn s dHOST = true → busFree s →
      (((ring s n).state = .disabled ∨ (ring s n).state = .stopped) →
        (rflag s rPG_LOCK 0 = true → 4 ≤ rfld s (rRING_SIZE n) 0 4 → rfld s (rRING_SIZE n) 0 4 ≤ 14 →
          4 ≤ rfld s (rRING_SIZE n) 8 4 → rfld s (rRING_SIZE n) 8 4 ≤ 14 → sqBase s n % 2 ^ (rfld s (rRING_SIZE n) 0 4 + 6) = 0 →
          cqBase s n % 2 ^ (rfld s (rRING_SIZE n) 8 4 + 5) = 0 →
          exec (.ringEnable n) s = .next (finalize (setRing n
            { ring s n with state := .running, en := true, err := 0, sqHead := 0, sqTail := 0, cqTail := 0, cqHead := 0,
                            phase := true, ccnt := 0, posted := [], window := [], grp := .none, held := false } (hostTurn s))))
        ∧ (∀ c, enableErr s n = some c →
            exec (.ringEnable n) s = .next (finalize (raise 9 n c (setRing n { ring s n with err := c } (hostTurn s))))))
        ∧ ((ring s n).state = .running → ∃ u, exec (.ringDisable n) s = .next (finalize u) ∧ (ring u n).en = false
            ∧ (ring u n).state = (if (ring s n).posted = [] ∧ (ring s n).window = [] then .stopped else .stopping)
            ∧ (∀ e ∈ (ring s n).window, e.st = .waiting → e.member = false →
                ∃ f ∈ (ring u n).window, f.idx = e.idx ∧ f.words = e.words ∧ f.st = .done (compNow s (failRes .aborted 1)))
            ∧ (∀ m, m ≠ n.val → ring u m = ring s m) ∧ u.mem = s.mem ∧ u.regs = s.regs)
        ∧ ((ring s n).state = .stopping → (ring s n).held = true →
            exec (.resumeCq n) s = .next (finalize (setRing n
              { ring s n with held := false, window := (ring s n).window.map keepEnt } (hostTurn s))))

/-- With PD_HOST on, outside IDLE and the near bus free: on a RUNNING or STOPPING ring a new SQ tail inside the SQ posts exactly the descriptors between the old
tail and it, under the next acceptance number; a CQ head inside the CQ and not past the CQ tail becomes the head, and waiting group
members get slots. On a RUNNING ring a value outside its queue records DB_RANGE and stops the ring; a head past the tail records
HEAD_RANGE and stops it. On a ring neither RUNNING nor STOPPING a doorbell changes nothing. -/
def Obligations.DoorbellsMoveTheirPointer : Prop :=
  ∀ (n : Fin 64) (v : Word) (s : State), domOn s dHOST = true → s.pwr.state ≠ .idle → busFree s →
      (((ring s n).state = .running ∨ (ring s n).state = .stopping) → v.toNat < sqSize s n → v.toNat ≠ (ring s n).sqTail →
        (ring s n).sqTail < sqSize s n →
        exec (.dblSqTail n v) s = .next (finalize { setRing n { ring s n with
          sqTail := v.toNat
          posted := (ring s n).posted ++ [((v.toNat + sqSize s n - (ring s n).sqTail) % sqSize s n, s.dbSeq + 1)] } (hostTurn s) with
          dbSeq := s.dbSeq + 1 }))
        ∧ ((ring s n).state = .running → sqSize s n ≤ v.toNat →
            exec (.dblSqTail n v) s = .next (finalize (stopRing n (ringErr n 4 (v.toNat % 2 ^ 14) (hostTurn s)))))
        ∧ (((ring s n).state = .running ∨ (ring s n).state = .stopping) → v.toNat < cqSize s n →
            (v.toNat + cqSize s n - (ring s n).cqHead) % cqSize s n ≤
              ((ring s n).cqTail + cqSize s n - (ring s n).cqHead) % cqSize s n →
            exec (.dblCqHead n v) s = .next (finalize (reserveMembers n (setRing n { ring s n with cqHead := v.toNat } (hostTurn s)))))
        ∧ ((ring s n).state = .running → cqSize s n ≤ v.toNat →
            exec (.dblCqHead n v) s = .next (finalize (stopRing n (ringErr n 4 (v.toNat % 2 ^ 14) (hostTurn s)))))
        ∧ ((ring s n).state = .running → v.toNat < cqSize s n →
            ((ring s n).cqTail + cqSize s n - (ring s n).cqHead) % cqSize s n <
              (v.toNat + cqSize s n - (ring s n).cqHead) % cqSize s n →
            exec (.dblCqHead n v) s = .next (finalize (stopRing n (ringErr n 7 v.toNat (hostTurn s)))))
        ∧ ((ring s n).state = .disabled ∨ (ring s n).state = .stopped →
            exec (.dblSqTail n v) s = .next (finalize (hostTurn s)) ∧ exec (.dblCqHead n v) s = .next (finalize (hostTurn s)))

/-- On a RUNNING ring whose turn it is, a readable posted descriptor outside a group enters the window at the SQ head, waiting, with its CQ
slot; one with BEGIN opens a commit group with it as its first member. Out of its turn DESCRIPTOR_FETCH changes nothing. A waiting
descriptor that may start and fails an admission check completes with that failure, another stays. On a RUNNING or STOPPING ring, the
oldest window entry, done and with its slot, is written where host memory takes it: the 24 bytes at CQ base plus 24 times CQ tail hold its
eight words and every other byte of host memory is as before; the entry leaves the window, the tail advances modulo the CQ size, PHASE
inverts exactly at the wrap, and the count advances modulo 2^48. A notification timer that has run out raises HR_CQk of the ring's SEL and
clears the count and the timer; one still running changes nothing. -/
def Obligations.DescriptorsAreFetchedAndCompletionsWritten : Prop :=
  ∀ (n : Fin 64) (s : State), domOn s dHOST = true →
      (∀ c q rest w, (ring s n).state = .running → (ring s n).posted = (c, q) :: rest → nextServed s = some n.val →
        memReadWords s (sqBase s n + 48 * (ring s n).sqHead) 16 = some w → (ring s n).grp ≠ .opened →
        (wBEGIN w = false → ∃ u, exec (.descriptorFetch n) s = .next (finalize u) ∧ u.lastFetch = n.val
            ∧ ring u n = { ring s n with
                sqHead := ((ring s n).sqHead + 1) % sqSize s n, posted := takePosted ((c, q) :: rest),
                window := (ring s n).window ++ [{ idx := (ring s n).sqHead, seq := q, words := w, slot := true }] }
            ∧ (∀ m, m ≠ n.val → ring u m = ring s m) ∧ u.mem = s.mem ∧ u.regs = s.regs)
        ∧ (wBEGIN w = true → wEND w = false → ∃ u, exec (.descriptorFetch n) s = .next (finalize u) ∧ u.lastFetch = n.val
            ∧ ring u n = { ring s n with
                sqHead := ((ring s n).sqHead + 1) % sqSize s n, posted := takePosted ((c, q) :: rest), grp := .opened
                window := (ring s n).window ++ [{ idx := (ring s n).sqHead, seq := q, words := w, member := true
                                                  bad := memberBad true 0 w }] }
            ∧ (∀ m, m ≠ n.val → ring u m = ring s m) ∧ u.mem = s.mem ∧ u.regs = s.regs))
        ∧ (nextServed s ≠ some n.val → exec (.descriptorFetch n) s = .next (finalize s))
        ∧ (∀ e, e ∈ (ring s n).window → entAt s n e.idx = some e → e.st = .waiting → e.readable = true → e.member = false →
            mayStart s n e = true →
            (∀ b, admitNow s n e.words = some b → admitEnt n s e = finish n e.idx b s) ∧ (admitNow s n e.words = none → admitEnt n s e = s))
        ∧ (∀ e rest c, ((ring s n).state = .running ∨ (ring s n).state = .stopping) → (ring s n).held = false →
            (ring s n).window = e :: rest → e.st = .done c → e.slot = true →
            memWrBad s (cqBase s n + 24 * (ring s n).cqTail) 24 = false →
            ∃ u, exec (.completionWrite n) s = .next (finalize u)
              ∧ (∀ a, memByte u a =
                  if cqBase s n + 24 * (ring s n).cqTail ≤ a ∧ a < cqBase s n + 24 * (ring s n).cqTail + 24 then
                    (wordsBytes (compWords (ring s n).phase e c)).getD (a - (cqBase s n + 24 * (ring s n).cqTail)) 0
                  else memByte s a)
              ∧ (ring u n).cqTail = ((ring s n).cqTail + 1) % cqSize s n
              ∧ (ring u n).phase = (if ((ring s n).cqTail + 1) % cqSize s n = 0 then !(ring s n).phase else (ring s n).phase)
              ∧ (ring u n).ccnt = ((ring s n).ccnt + 1) % 2 ^ 48
              ∧ (ring u n).window.map (fun f => (f.idx, f.words, f.st)) = rest.map (fun f => (f.idx, f.words, f.st))
              ∧ ∀ m, m ≠ n.val → ring u m = ring s m)
        ∧ (∀ t, (ring s n).timer = some t → s.clock < t → exec (.notifyTimer n) s = .next (finalize s))
        ∧ (∀ t, (ring s n).timer = some t → t ≤ s.clock → ∃ u, exec (.notifyTimer n) s = .next (finalize u)
            ∧ (ring u n).unnot = 0 ∧ (ring u n).timer = none ∧ (∀ m, m ≠ n.val → ring u m = ring s m) ∧ u.mem = s.mem
            ∧ u.raised = s.raised ++ [{ src := rfld s (rRING_NOTIFY n) 0 3, inst := 0, sev := 0,
                                        detail := lowestUnnotified s (rfld s (rRING_NOTIFY n) 0 3) % 2 ^ 24 }])

/-- With PD_HOST on, in RUN and with no group staged, COMMIT_GROUP_STAGING of a ready group that no earlier ready group precedes, outside the
alarm clock: when every member passes and none records a lease, the group is staged with the objects it creates and holds, and no SecY,
receive channel, association, pending completion or host memory byte changes (so of one SECY_SET that passes); when the member at place k
fails with r, that member completes with r, every other member with COMMIT_FAIL, no SecY, channel, association, mark or host memory byte
changes, and the group is gone. In the alarm clock every member completes with ALARM. COMMIT_POINT in RUN of a staged group whose partners
have answered applies the members in SQ order, each with its completion, and releases the reservations. -/
def Obligations.CommitGroupsApplyWholeOrNotAtAll : Prop :=
  ∀ (n : Fin 64) (s : State), s.pwr.state = .run →
      (domOn s dHOST = true → s.groupStaged = none → groupReady s n = true → otherFirst s n = false →
        (∀ g, alarmNow s = false → stageAll n 0 (members (ring s n)) { real := s, work := s } = .ok g → g.leases = [] →
          ∃ u, exec (.commitGroupStaging n) s = .next (finalize u) ∧ (ring u n).grp = .staged
            ∧ u.groupStaged = some { ring := n, creates := g.creates, holds := g.holds, plans := [], waits := [] }
            ∧ u.secys = s.secys ∧ u.rxscs = s.rxscs ∧ u.assocs = s.assocs ∧ u.mem = s.mem
            ∧ (ring u n).window = (ring s n).window)
        ∧ (∀ e, alarmNow s = false → members (ring s n) = [e] → wOp e.words = 0x10 → stageChk n e.words s = none →
          ∃ u, exec (.commitGroupStaging n) s = .next (finalize u) ∧ (ring u n).grp = .staged
            ∧ u.groupStaged = some { ring := n, creates := (memberObjs e.words s).1, holds := (memberObjs e.words s).2, plans := [], waits := [] }
            ∧ u.secys = s.secys ∧ u.rxscs = s.rxscs ∧ u.assocs = s.assocs ∧ u.ppls = s.ppls ∧ u.mem = s.mem
            ∧ (ring u n).window = (ring s n).window)
        ∧ (∀ k r t, alarmNow s = false → stageAll n 0 (members (ring s n)) { real := s, work := s } = .error (k, r, t) →
          ∃ u, exec (.commitGroupStaging n) s = .next (finalize u) ∧ (ring u n).grp = .none ∧ u.groupStaged = none
            ∧ u.secys = s.secys ∧ u.rxscs = s.rxscs ∧ u.assocs = s.assocs ∧ u.marks = s.marks ∧ u.mem = s.mem
            ∧ (members (ring u n)).map (fun e => e.st) = (List.range (members (ring s n)).length).map (fun j =>
                .done (compNow s (if j = k then r else failRes .commitFail 0)))
            ∧ ((ring u n).window.filter fun e => !e.member).map (fun e => (e.idx, e.st))
                = ((ring s n).window.filter fun e => !e.member).map (fun e => (e.idx, e.st)))
        ∧ (alarmNow s = true → ∃ u, exec (.commitGroupStaging n) s = .next (finalize u) ∧ (ring u n).grp = .none
            ∧ (∀ e ∈ members (ring u n), e.st = .done (compNow s (failRes .alarm 0)))
            ∧ (members (ring u n)).map Ent.idx = (members (ring s n)).map Ent.idx
            ∧ u.secys = s.secys ∧ u.rxscs = s.rxscs ∧ u.assocs = s.assocs ∧ u.mem = s.mem))
        ∧ (∀ g, s.groupStaged = some g → g.ring = n.val → g.waits = [] →
            exec (.commitPoint n) s = .next (finalize (reserveMembers n (dropReserved (commitMembers n g (members (ring s n))
              (setRing n { ring s n with grp := .none } { s with groupStaged := none }))))))
        ∧ ∀ g e r t, commitMembers n g [] t = t ∧ (wOp e.words ≠ 0x16 → wOp e.words ≠ 0x19 → commitMembers n g (e :: r) t =
            commitMembers n g r (finishMember n (memberApp none e.words t).2 (memberApp none e.words t).1))

/-- When its descriptor starts (ring order, FENCE and the waits of BARRIER over, the admission checks passed, not in the alarm clock), NOP and
BARRIER complete with OK and RESULT 0 and change nothing else; RING_STOP stops the ring of W4 [5:0] and completes with OK; SW_EVENT raises
HR_SW_EVENT with the ring's number and W4 as DETAIL and completes with OK. One that fails an admission check completes with that failure;
in the alarm clock each completes with ALARM, and nothing else happens. -/
def Obligations.RingControlOpcodesComplete : Prop :=
  ∀ (n : Fin 64) (i : Nat) (w : List Word) (s : State),
      (starts s 0x70 n i w = true → exec (.nop n i) s = .next (finalize (finish n i (okRes 0) s)))
        ∧ (starts s 0x71 n i w = true → exec (.barrier n i) s = .next (finalize (finish n i (okRes 0) s)))
        ∧ (starts s 0x72 n i w = true →
            exec (.ringStop n i) s = .next (finalize (finish n i (okRes 0) (stopRing ((wAt w 4).toNat % 64) s))))
        ∧ (starts s 0x73 n i w = true → exec (.swEvent n i) s = .next (finalize (finish n i (okRes 0)
            { s with raised := s.raised ++ [{ src := 11, inst := n, detail := (wAt w 4).toNat, sev := 0 }] })))
        ∧ (∀ b, admitNow s n w = some b →
            (startable s 0x70 n i w = true → exec (.nop n i) s = .next (finalize (finish n i b s)))
            ∧ (startable s 0x71 n i w = true → exec (.barrier n i) s = .next (finalize (finish n i b s)))
            ∧ (startable s 0x72 n i w = true → exec (.ringStop n i) s = .next (finalize (finish n i b s)))
            ∧ (startable s 0x73 n i w = true → exec (.swEvent n i) s = .next (finalize (finish n i b s))))
        ∧ (alarmNow s = true → admitNow s n w = none →
            (startable s 0x70 n i w = true → exec (.nop n i) s = .next (finalize (finish n i { st := .alarm } s)))
            ∧ (startable s 0x71 n i w = true → exec (.barrier n i) s = .next (finalize (finish n i { st := .alarm } s)))
            ∧ (startable s 0x72 n i w = true → exec (.ringStop n i) s = .next (finalize (finish n i { st := .alarm } s)))
            ∧ (startable s 0x73 n i w = true → exec (.swEvent n i) s = .next (finalize (finish n i { st := .alarm } s))))

/-- A starting SECY_SET that passes its checks completes with OK, RESULT 0; the SecY of W2 is valid with the settings of W4 (CREATE read as
0), the window of W5 and W6 and the SCI of W7 to W9, its counters as they were (zero for a SecY that did not exist); every other SecY
keeps its window, SCI, validity and counters, and its settings too unless PORT_DEFAULT = 1 takes the default role from it; a created one
has the next creation number (the model's, for frames in flight). SECY_DELETE
that passes leaves no SecY at that index and every other one as it was. Neither touches receive channels, associations, marks, registers,
the rings but for the completion, or host memory. -/
def Obligations.SecyCommandsChangeTheirSecy : Prop :=
  ∀ (n : Fin 64) (i : Nat) (w : List Word) (s : State),
      (starts s 0x10 n i w = true → chkSecySet n w s = none →
        ∃ u, exec (.secySet n i) s = .next (finalize (finish n i (okRes 0) u))
          ∧ secy u (fld (wAt w 2) 0 9) = { secy s (fld (wAt w 2) 0 9) with
              valid := true, serial := if flag (wAt w 4) 5 then s.installSeq + 1 else (secy s (fld (wAt w 2) 0 9)).serial
              settings := mkW (setBitsN (wAt w 4).toNat 5 1 0), window := join48 (wAt w 5) (wAt w 6), sci := w64 w 7 }
          ∧ (∀ j, j ≠ fld (wAt w 2) 0 9 → (secy u j).valid = (secy s j).valid ∧ (secy u j).window = (secy s j).window
              ∧ (secy u j).sci = (secy s j).sci ∧ (secy u j).cnt = (secy s j).cnt ∧ (secy u j).txCnt = (secy s j).txCnt)
          ∧ (flag (wAt w 4) 20 = false → ∀ j, j ≠ fld (wAt w 2) 0 9 → secy u j = secy s j)
          ∧ u.rxscs = s.rxscs ∧ u.assocs = s.assocs ∧ u.marks = s.marks ∧ u.rings = s.rings ∧ u.regs = s.regs ∧ u.mem = s.mem)
        ∧ (starts s 0x11 n i w = true → chkSecyDelete n w s = none →
          ∃ u, exec (.secyDelete n i) s = .next (finalize (finish n i (okRes 0) u))
            ∧ (secy u (fld (wAt w 2) 0 9)).valid = false ∧ (∀ j, j ≠ fld (wAt w 2) 0 9 → secy u j = secy s j)
            ∧ u.rxscs = s.rxscs ∧ u.assocs = s.assocs ∧ u.marks = s.marks ∧ u.rings = s.rings ∧ u.regs = s.regs ∧ u.mem = s.mem)

/-- A starting RXSC_SET with CREATE = 1 whose checks pass completes. Where its pair has a PENDING or BLOCKED entry, with OK and RESULT 1 and
that entry BOUND to the channel; where it has none, no way is kept for it, no shadow is there and its first bucket has a free way, with OK
and RESULT 0 and the pair's entry in that way; in general with OK or, the SLT without room, with NO_ROOM SLT and no channel changed. Where
OK, the channel of W2 is valid under the SecY, settings and SCI of the descriptor with zero counters, and every other channel is as
before. A modify that needs no entry sets FWD_ONLY and ENABLE alone. RXSC_DELETE that passes leaves no channel at the index and every
other as before. Neither touches SecYs, associations, marks, registers or host memory. -/
def Obligations.ReceiveChannelCommandsChangeTheirChannel : Prop :=
  ∀ (n : Fin 64) (i : Nat) (w : List Word) (s : State),
      (∀ port k t, starts s 0x12 n i w = true → chkRxscSet n w s = none → rsCreate w = true → port = secyPort (secy s (rsSecy w)) →
        k = pplOf port → t = (ppl s k).active →
        ∃ u r, exec (.rxscSet n i) s = .next (finalize (finish n i r u))
          ∧ (r = okRes 0 ∨ r = okRes 1 ∨ (r = sltRes ∧ u.rxscs = s.rxscs ∧ u.ppls = s.ppls))
          ∧ (r.st = .ok → rxsc u (rsIdx w) = { valid := true, serial := s.installSeq + 1, secy := rsSecy w, fwdOnly := rsFwd w
                                               enable := rsEnable w, sci := w64 w 5 }
              ∧ (∀ j, j ≠ rsIdx w → rxsc u j = rxsc s j) ∧ (∀ q, q ≠ k → ppl u q = ppl s q))
          ∧ u.secys = s.secys ∧ u.assocs = s.assocs ∧ u.marks = s.marks ∧ u.regs = s.regs ∧ u.mem = s.mem
          ∧ (∀ l e, sltFind t port (w64 w 5) = some (l, e) → sltKept t port (w64 w 5) = none → r = okRes 1
              ∧ sltAt (ppl u k).active l = some { e with st := .bound, rxsc := rsIdx w, age := true, idle := false })
          ∧ (∀ l, sltFind t port (w64 w 5) = none → sltKept t port (w64 w 5) = none → (ppl s k).shSt = .empty →
              freeWay t (sltBuckets t.seed port (w64 w 5)).1 = some l → r = okRes 0 ∧ sltAt (ppl u k).active l =
                some { port := port, sci := w64 w 5, st := .bound, rxsc := rsIdx w, epoch := (ppl s k).epoch }))
        ∧ (starts s 0x12 n i w = true → chkRxscSet n w s = none → rsInserts s w = false →
            exec (.rxscSet n i) s = .next (finalize (finish n i (okRes 0)
              (setRxsc (rsIdx w) { rxsc s (rsIdx w) with fwdOnly := rsFwd w, enable := rsEnable w } s))))
        ∧ (starts s 0x13 n i w = true → chkRxscDelete n w s = none →
          ∃ u, exec (.rxscDelete n i) s = .next (finalize (finish n i (okRes 0) u))
            ∧ (rxsc u (rsIdx w)).valid = false ∧ (∀ j, j ≠ rsIdx w → rxsc u j = rxsc s j)
            ∧ u.secys = s.secys ∧ u.assocs = s.assocs ∧ u.marks = s.marks ∧ u.regs = s.regs ∧ u.mem = s.mem)

/-- A starting SA_INSTALL that passes its rows completes with OK. Receive: the association of W4 is INSTALLED with NEXT_PN and LOWEST_PN the
start PN. Transmit, not mirrored: it is INSTALLED with NEXT_PN the start PN, or one above its mark where that is larger, LEASE_END as R262
gives it, the lease in its mark, RESULT its NEXT_PN. Where the Belfry assigns no slot, every other association is as before. SA_RETIRE
that passes leaves the association FREE and every other as before, with marks and slots untouched. Neither touches SecYs, channels, the
registers of the rings or host memory. -/
def Obligations.InstallAndRetireChangeTheirAssociation : Prop :=
  ∀ (n : Fin 64) (i : Nat) (w : List Word) (s : State),
      (starts s 0x16 n i w = true → chkInstall n w s = none →
        (flag (wAt w 4) 13 = true → ∃ u, exec (.saInstall n i) s = .next (finalize (finish n i (okRes 0) u))
          ∧ (assoc u (fld (wAt w 4) 0 13)).state = .installed ∧ (assoc u (fld (wAt w 4) 0 13)).nextPn = w64 w 6
          ∧ (assoc u (fld (wAt w 4) 0 13)).lowestPn = w64 w 6 ∧ (assoc u (fld (wAt w 4) 0 13)).cnt = []
          ∧ (flag (wAt w 4) 16 = false → ∀ j, j ≠ fld (wAt w 4) 0 13 → assoc u j = assoc s j)
          ∧ u.marks = s.marks ∧ u.secys = s.secys ∧ u.rxscs = s.rxscs ∧ u.mem = s.mem)
        ∧ (flag (wAt w 4) 13 = false → flag (wAt w 4) 17 = false →
          ∃ u, exec (.saInstall n i) s = .next (finalize (finish n i
              (okRes ((installPlan w s).nextPn % 2 ^ 48) ((installPlan w s).nextPn / 2 ^ 48)) u))
          ∧ (assoc u (fld (wAt w 4) 0 13)).state = .installed
          ∧ (assoc u (fld (wAt w 4) 0 13)).nextPn = liftPn s (fld (wAt w 5) 0 12) (fld (wAt w 4) 14 2) (fld (wAt w 4) 0 13) (w64 w 6)
          ∧ (assoc u (fld (wAt w 4) 0 13)).leaseEnd =
              min ((assoc u (fld (wAt w 4) 0 13)).nextPn + 2 ^ leaseLog (fld (wAt w 5) 12 5) - 1)
                (maxPn (secySuite (secy s (fld (wAt w 5) 0 12))))
          ∧ (mark u (fld (wAt w 5) 0 12) (fld (wAt w 4) 14 2)).valid = true
          ∧ (mark u (fld (wAt w 5) 0 12) (fld (wAt w 4) 14 2)).sa = fld (wAt w 4) 0 13
          ∧ (assoc u (fld (wAt w 4) 0 13)).leaseEnd ≤ (mark u (fld (wAt w 5) 0 12) (fld (wAt w 4) 14 2)).mark
          ∧ (flag (wAt w 4) 16 = false → ∀ j, j ≠ fld (wAt w 4) 0 13 → assoc u j = assoc s j)
          ∧ u.secys = s.secys ∧ u.rxscs = s.rxscs ∧ u.mem = s.mem))
        ∧ (starts s 0x18 n i w = true → chkRetire n w s = none →
          ∃ u, exec (.saRetire n i) s = .next (finalize (finish n i (okRes 0) u))
            ∧ assoc u (fld (wAt w 2) 0 13) = {} ∧ (∀ j, j ≠ fld (wAt w 2) 0 13 → assoc u j = assoc s j)
            ∧ u.marks = s.marks ∧ u.dome.slots = s.dome.slots ∧ u.secys = s.secys ∧ u.rxscs = s.rxscs ∧ u.mem = s.mem)

/-- A starting SA_SWITCH that passes completes with OK and RESULT 0. IMMEDIATE, where NEXT_PN lifted above its mark stays within the largest
PN and no lease is needed after it: the target is IN_USE with that NEXT_PN, the old encoding association INSTALLED, the channel disarmed.
AT_PN on a channel with an encoding association arms the target at the PN given, AT_TIME ahead of the working clock at that time. CANCEL leaves the channel disarmed and every association
as it was. A starting SA_ADJUST that passes and records no lease completes with the resulting NEXT_PN: a receive SET_PN sets LOWEST_PN and
raises NEXT_PN; a transmit threshold alone sets THRESH_PN and clears THRESH_SENT; other associations, SecYs, channels and host memory are
as before. -/
def Obligations.SwitchAndAdjustChangeTheirAssociation : Prop :=
  ∀ (n : Fin 64) (i : Nat) (w : List Word) (s : State),
      (starts s 0x17 n i w = true → chkSwitch n w s = none →
        (fld (wAt w 4) 0 2 = 0 →
          exec (.saSwitch n i) s = .next (finalize (finish n i (okRes 0)
            (fireSwitch (assoc s (fld (wAt w 2) 0 13)).channel (fld (wAt w 2) 0 13) 0
              (disarm (assoc s (fld (wAt w 2) 0 13)).channel 0 s)))))
        ∧ (fld (wAt w 4) 0 2 = 1 → (encoding s (assoc s (fld (wAt w 2) 0 13)).channel).isSome = true →
          ∃ u, exec (.saSwitch n i) s = .next (finalize (finish n i (okRes 0) u))
            ∧ armedOf u (assoc s (fld (wAt w 2) 0 13)).channel =
                some { target := fld (wAt w 2) 0 13, trigger := .atPn (w64 w 5) }
            ∧ u.assocs = s.assocs ∧ u.secys = s.secys ∧ u.marks = s.marks ∧ u.mem = s.mem)
        ∧ (fld (wAt w 4) 0 2 = 2 → domOn s dTIME = true → atTimePast w s = false →
          ∃ u, exec (.saSwitch n i) s = .next (finalize (finish n i (okRes 0) u))
            ∧ armedOf u (assoc s (fld (wAt w 2) 0 13)).channel =
                some { target := fld (wAt w 2) 0 13, trigger := .atTime (wcNs s + atTimeAhead w s) }
            ∧ u.assocs = s.assocs ∧ u.secys = s.secys ∧ u.marks = s.marks ∧ u.mem = s.mem)
        ∧ (fld (wAt w 4) 0 2 = 3 → ∃ u, exec (.saSwitch n i) s = .next (finalize (finish n i (okRes 0) u))
            ∧ armedOf u (assoc s (fld (wAt w 2) 0 13)).channel = none
            ∧ u.assocs = s.assocs ∧ u.secys = s.secys ∧ u.marks = s.marks ∧ u.mem = s.mem))
        ∧ (∀ y sa trig, liftPn s y (assoc s sa).an sa (assoc s sa).nextPn ≤ assocTop s (assoc s sa) →
            needsLease s { assoc s sa with state := .inUse, nextPn := liftPn s y (assoc s sa).an sa (assoc s sa).nextPn } = false →
            assoc (fireSwitch y sa trig s) sa = { assoc s sa with
              state := .inUse, nextPn := liftPn s y (assoc s sa).an sa (assoc s sa).nextPn }
            ∧ (∀ o, encoding s y = some o → o ≠ sa → assoc (fireSwitch y sa trig s) o = { assoc s o with state := .installed })
            ∧ (∀ j, j ≠ sa → encoding s y ≠ some j → assoc (fireSwitch y sa trig s) j = assoc s j)
            ∧ armedOf (fireSwitch y sa trig s) y = none ∧ (fireSwitch y sa trig s).marks = s.marks ∧ (fireSwitch y sa trig s).mem = s.mem)
        ∧ (∀ sa a, sa = fld (wAt w 2) 0 13 → a = assoc s sa → starts s 0x19 n i w = true → chkAdjust n w s = none → a.req = none →
            (a.rx = true → flag (wAt w 4) 0 = true → flag (wAt w 4) 4 = false →
              needsLease s { a with lowestPn := w64 w 5, nextPn := max a.nextPn (w64 w 5) } = false →
              ∃ u, exec (.saAdjust n i) s = .next (finalize (finish n i
                  (okRes (max a.nextPn (w64 w 5) % 2 ^ 48) (max a.nextPn (w64 w 5) / 2 ^ 48)) u))
                ∧ assoc u sa = { a with lowestPn := w64 w 5, nextPn := max a.nextPn (w64 w 5) }
                ∧ (∀ j, j ≠ sa → assoc u j = assoc s j) ∧ u.marks = s.marks ∧ u.secys = s.secys ∧ u.rxscs = s.rxscs ∧ u.mem = s.mem)
            ∧ (a.rx = false → flag (wAt w 4) 0 = false → flag (wAt w 4) 1 = true → flag (wAt w 4) 2 = false → needsLease s a = false →
              ∃ u, exec (.saAdjust n i) s = .next (finalize (finish n i (okRes (a.nextPn % 2 ^ 48) (a.nextPn / 2 ^ 48)) u))
                ∧ assoc u sa = { a with threshPn := w64 w 8, threshSent := false }
                ∧ (∀ j, j ≠ sa → assoc u j = assoc s j) ∧ u.marks = s.marks ∧ u.secys = s.secys ∧ u.rxscs = s.rxscs ∧ u.mem = s.mem))

/-- A starting TREE_LOAD with permitted ports, no staged hold of the banks and a readable source, with FINAL = 1, completes with OK and the
node count FIRST + COUNT; the inactive bank is then valid with that count and holds the nodes read, the active bank and the other
pipelines are as before. TREE_SWITCH to a valid inactive bank makes it the active one, raises EG_TREE_SWITCHED and leaves both banks'
contents. TREE_READ writes the four words of each node named, in order, to its buffer where host memory takes them, and completes with
their byte count. -/
def Obligations.ClassifierTreeCommandsActOnTheirBank : Prop :=
  ∀ (n : Fin 64) (i : Nat) (w : List Word) (s : State),
      (∀ l, starts s 0x1A n i w = true → pplPortsOk s n (fld (wAt w 2) 0 2) = true → heldBy s (.tree (fld (wAt w 2) 0 2)) = false →
        memReadWords s (join48 (wAt w 4) (wAt w 5)) (4 * fld (wAt w 7) 0 14) = some l → flag (wAt w 8) 0 = true →
        ∃ u, exec (.treeLoad n i) s = .next (finalize (finish n i (okRes (fld (wAt w 6) 0 13 + fld (wAt w 7) 0 14)) u))
          ∧ bankOf (ppl u (fld (wAt w 2) 0 2)) (!(ppl s (fld (wAt w 2) 0 2)).actBank) =
              { bankOf (ppl s (fld (wAt w 2) 0 2)) (!(ppl s (fld (wAt w 2) 0 2)).actBank) with
                valid := true, nodes := fld (wAt w 6) 0 13 + fld (wAt w 7) 0 14
                image := putNodes (fld (wAt w 6) 0 13) l
                  (bankOf (ppl s (fld (wAt w 2) 0 2)) (!(ppl s (fld (wAt w 2) 0 2)).actBank)).image }
          ∧ bankOf (ppl u (fld (wAt w 2) 0 2)) (ppl s (fld (wAt w 2) 0 2)).actBank =
              bankOf (ppl s (fld (wAt w 2) 0 2)) (ppl s (fld (wAt w 2) 0 2)).actBank
          ∧ (∀ k, k ≠ fld (wAt w 2) 0 2 → ppl u k = ppl s k) ∧ u.mem = s.mem ∧ u.regs = s.regs)
        ∧ (starts s 0x1B n i w = true → chkTreeSwitch n w s = none →
          ∃ u, exec (.treeSwitch n i) s = .next (finalize (finish n i (okRes 0) u))
            ∧ ppl u (fld (wAt w 2) 0 2) = { ppl s (fld (wAt w 2) 0 2) with actBank := flag (wAt w 4) 0 }
            ∧ (∀ k, k ≠ fld (wAt w 2) 0 2 → ppl u k = ppl s k) ∧ u.mem = s.mem ∧ u.regs = s.regs)
        ∧ (starts s 0x1C n i w = true → pplPortsOk s n (fld (wAt w 2) 0 2) = true →
            memWrBad s (join48 (wAt w 5) (wAt w 6)) (12 * fld (wAt w 8) 0 14) = false →
            exec (.treeRead n i) s = .next (finalize (finish n i (okRes (12 * fld (wAt w 8) 0 14))
              { s with mem := storeBytes (join48 (wAt w 5) (wAt w 6)) (wordsBytes ((List.range (fld (wAt w 8) 0 14)).flatMap fun k =>
                [(tabGet {} (bankOf (ppl s (fld (wAt w 2) 0 2)) (flag (wAt w 4) 0)).image (fld (wAt w 7) 0 13 + k)).w0,
                 (tabGet {} (bankOf (ppl s (fld (wAt w 2) 0 2)) (flag (wAt w 4) 0)).image (fld (wAt w 7) 0 13 + k)).w1,
                 (tabGet {} (bankOf (ppl s (fld (wAt w 2) 0 2)) (flag (wAt w 4) 0)).image (fld (wAt w 7) 0 13 + k)).w2,
                 (tabGet {} (bankOf (ppl s (fld (wAt w 2) 0 2)) (flag (wAt w 4) 0)).image (fld (wAt w 7) 0 13 + k)).w3])) s.mem })))

/-- A starting SLT_SEED with permitted ports, no staged hold and no build under way empties the pipeline's shadow under the given seed, leaves
it BUILDING and runs on; SHADOW_BUILD_DONE, outside the alarm clock, when every entry of the active table is placed, leaves the shadow
READY with them and completes the running SLT_SEED with their number; when one finds no room, it leaves the shadow FAILED, raises
IG_SLT_NO_ROOM and completes with NO_ROOM SLT. SLT_REBUILD that passes exchanges the tables: the shadow is active, the other an EMPTY
shadow that keeps its seed. SLT_ENTRY REMOVE or BLOCK of a PENDING or BLOCKED entry that no staged member binds deletes it, or blocks it,
in the active table and in a shadow that is there; READ of the active table writes its records, as many as the buffer takes, and counts
them all. Other pipelines, channels, registers and host memory are as before. -/
def Obligations.SciTableCommandsActOnTheirPipeline : Prop :=
  ∀ (n : Fin 64) (i : Nat) (w : List Word) (s : State),
      (starts s 0x1D n i w = true → pplPortsOk s n (fld (wAt w 2) 0 2) = true → heldBy s (.shadow (fld (wAt w 2) 0 2)) = false →
        (ppl s (fld (wAt w 2) 0 2)).shSt ≠ .building →
        exec (.sltSeed n i) s = .next (finalize (running n i (setPpl (fld (wAt w 2) 0 2) { ppl s (fld (wAt w 2) 0 2) with
          shadow := { seed := (wAt w 4).toNat }, shSt := .building, seedCmd := some (n.val, i)
          scrubs := (ppl s (fld (wAt w 2) 0 2)).scrubs.filter fun b => !b.shadow } s))))
        ∧ (∀ (k : Fin 4) m j e l, dpRuns s = true → alarmNow s = false → (ppl s k).shSt = .building → (ppl s k).seedCmd = some (m, j) →
            entAt s m j = some e → e.st = .running → l = (sltList (ppl s k).active).map Prod.snd →
            (sltCopyFail l (ppl s k).shadow = none → exec (.shadowBuildDone k) s = .next (finalize (finish m j (okRes l.length)
              (setPpl k { ppl s k with shadow := (sltCopy l (ppl s k).shadow 0).1, shSt := .ready, seedCmd := none } s))))
            ∧ (∀ x, sltCopyFail l (ppl s k).shadow = some x → ∃ r, exec (.shadowBuildDone k) s = .next (finalize (finish m j r
              (setPpl k { ppl s k with shadow := (sltCopy l (ppl s k).shadow 0).1, shSt := .failed, seedCmd := none }
                (raise 50 k (x.port + 2 ^ 6) s)))) ∧ r.st = .noRoom ∧ r.reason = 4 ∧ r.result < l.length))
        ∧ (starts s 0x1E n i w = true → chkSltRebuild n w s = none →
            ∃ u, exec (.sltRebuild n i) s = .next (finalize (finish n i (okRes 0) u))
              ∧ ppl u (fld (wAt w 2) 0 2) = { ppl s (fld (wAt w 2) 0 2) with
                  active := sltActivate (ppl s (fld (wAt w 2) 0 2)).epoch (ppl s (fld (wAt w 2) 0 2)).shadow
                  shadow := { seed := (ppl s (fld (wAt w 2) 0 2)).active.seed }, shSt := .empty
                  scrubs := (ppl s (fld (wAt w 2) 0 2)).scrubs.map fun b => { b with shadow := false } }
              ∧ (∀ k, k ≠ fld (wAt w 2) 0 2 → ppl u k = ppl s k) ∧ u.rxscs = s.rxscs ∧ u.mem = s.mem ∧ u.regs = s.regs)
        ∧ (∀ l out, starts s 0x1F n i w = true → pplPortsOk s n (fld (wAt w 2) 0 2) = true → fld (wAt w 4) 0 4 = 0 →
            l = sltList (ppl s (fld (wAt w 2) 0 2)).active → out = (l.take ((wAt w 7).toNat / 15)).flatMap sltRecord →
            memWrBad s (join48 (wAt w 5) (wAt w 6)) (3 * out.length) = false →
            exec (.sltEntry n i) s = .next (finalize (finish n i (okRes (3 * out.length) l.length)
              (stored (join48 (wAt w 5) (wAt w 6)) (wordsBytes out) s))))
        ∧ (∀ l e, starts s 0x1F n i w = true → pplPortsOk s n (fld (wAt w 2) 0 2) = true →
            (portsOf (fld (wAt w 2) 0 2)).contains (fld (wAt w 8) 0 5) = true → pairStaged s (fld (wAt w 8) 0 5) (w64 w 9) = false →
            sltFind (ppl s (fld (wAt w 2) 0 2)).active (fld (wAt w 8) 0 5) (w64 w 9) = some (l, e) → e.st ≠ .bound →
            (fld (wAt w 4) 0 2 = 1 → exec (.sltEntry n i) s = .next (finalize (finish n i (okRes 0)
              (bothSlt (fld (wAt w 2) 0 2) (sltDrop (fld (wAt w 8) 0 5) (w64 w 9)) s))))
            ∧ (fld (wAt w 4) 0 2 = 2 → exec (.sltEntry n i) s = .next (finalize (finish n i (okRes 0)
              (bothSlt (fld (wAt w 2) 0 2) (sltMod (fld (wAt w 8) 0 5) (w64 w 9) (fun x => { x with st := .blocked })) s)))))

/-- Where host memory takes the record, a starting LT_READ writes the record of the object named (36, 27 or 48 bytes by type, all zero but its
length where the object does not exist or its port is not permitted) to its buffer and completes with the byte count; a starting
CNT_SNAPSHOT writes the counter records of the run named, in order, and completes with their byte count. Nothing but those bytes and the
completion changes. -/
def Obligations.RecordsAndCountersAreWrittenToTheBuffer : Prop :=
  ∀ (n : Fin 64) (i : Nat) (w : List Word) (s : State),
      (starts s 0x14 n i w = true → memWrBad s (join48 (wAt w 5) (wAt w 6))
          (3 * (ltRecord s n (fld (wAt w 4) 0 2) (fld (wAt w 2) 0 13)).length) = false →
        exec (.ltRead n i) s = .next (finalize (finish n i
          (okRes (3 * (ltRecord s n (fld (wAt w 4) 0 2) (fld (wAt w 2) 0 13)).length))
          { s with mem := storeBytes (join48 (wAt w 5) (wAt w 6))
                     (wordsBytes (ltRecord s n (fld (wAt w 4) 0 2) (fld (wAt w 2) 0 13))) s.mem })))
        ∧ (∀ l, starts s 0x15 n i w = true →
            l = (List.range (fld (wAt w 5) 0 14)).flatMap (fun k => snapRecord s n (fld (wAt w 4) 0 3) (fld (wAt w 2) 0 13 + k)) →
            memWrBad s (join48 (wAt w 6) (wAt w 7)) (3 * l.length) = false →
            exec (.cntSnapshot n i) s = .next (finalize (finish n i (okRes (3 * l.length))
              { s with mem := storeBytes (join48 (wAt w 6) (wAt w 7)) (wordsBytes l) s.mem })))

/-- A SLOT_UNWRAP that passes its checks, with the DRBG up and its blob readable, completes: with a key of the slot's length the slot is LOADED
with that key under a fresh share, the attributes given and the next generation, and RESULT gives the generation and a KREF; without one
it completes with AUTH_FAIL and the Dome is as it was. SLOT_GENERATE, with the DRBG up, fills the slot from it (the bytes are free: assumption log 5). MKA_DERIVE writes KEK
and ICK into two slots that are not LOADED. With the DRBG down each completes with RETRY ENTROPY and changes nothing. Other slots and host
memory are as before. The two slot writes wait as running while an UPDATE must wait for a preceding key. AES-KW and the MKA KDF are the published algorithms (assumption log 6). -/
def Obligations.SlotWritesLoadTheirSlot : Prop :=
  ∀ (n : Fin 64) (i k : Nat) (w : List Word) (s : State), k = (wAt w 2).toNat % 4096 →
      (∀ wk blob, atWork s 0x20 n i w = true → slotWriteWaits s w = false → chkSlotWrite s w = none →
        resolve s (wAt w 4).toNat 0 .wrap 0 = .ok wk →
        setOf (fld (wAt w 6) 0 7) &&& setOf (slotDest (slot s ((wAt w 4).toNat % 4096))) = setOf (fld (wAt w 6) 0 7) →
        s.dome.drbgOk = true → memRead s (join48 (wAt w 7) (wAt w 8)) (fld (wAt w 9) 0 6) = some blob → s.dome.upset = false →
        ∃ u r, exec (.slotUnwrap n i) s = .next (finalize (finish n i r u)) ∧ u.mem = s.mem ∧ u.secys = s.secys
          ∧ (∀ j, j ≠ k → slot u j = slot s j)
          ∧ match (kwUnwrap (flag (wAt w 6) 10) wk blob).filter (fun key => key.length == if flag (wAt w 6) 7 then 32 else 16) with
            | some key => r = slotRes u k ∧ slot u k =
                { st := .loaded, attr := newAttr w, testRoot := testRootOn s, gen := some (nextGen (slotGen s k)), key := key
                  share := (List.range key.length).map fun j => Config.drbgByte (s.draws + j) }
            | none => r = failRes .authFail 4 ∧ u.dome = s.dome)
        ∧ (atWork s 0x21 n i w = true → slotWriteWaits s w = false → chkSlotWrite s w = none → s.dome.drbgOk = true →
          ∃ u, exec (.slotGenerate n i) s = .next (finalize (finish n i (slotRes u k) u)) ∧ u.mem = s.mem ∧ u.secys = s.secys
            ∧ slot u k = { st := .loaded, attr := newAttr w, testRoot := testRootOn s, gen := some (nextGen (slotGen s k))
                           key := (List.range (if flag (wAt w 6) 7 then 32 else 16)).map fun j => Config.drbgByte (s.draws + j)
                           share := (List.range (if flag (wAt w 6) 7 then 32 else 16)).map fun j =>
                             Config.drbgByte (s.draws + (if flag (wAt w 6) 7 then 32 else 16) + j) }
            ∧ ∀ j, j ≠ k → slot u j = slot s j)
        ∧ (starts s 0x20 n i w = true → slotWriteWaits s w = true → exec (.slotUnwrap n i) s = .next (finalize (running n i s)))
        ∧ (starts s 0x21 n i w = true → slotWriteWaits s w = true → exec (.slotGenerate n i) s = .next (finalize (running n i s)))
        ∧ (starts s 0x21 n i w = true → chkSlotWrite s w = none → slotWriteWaits s w = false → s.dome.drbgOk = false →
            exec (.slotGenerate n i) s = .next (finalize (finish n i entropyRes s)))
        ∧ (∀ wk, starts s 0x20 n i w = true → chkSlotWrite s w = none → slotWriteWaits s w = false → s.dome.drbgOk = false →
            resolve s (wAt w 4).toNat 0 .wrap 0 = .ok wk →
            setOf (fld (wAt w 6) 0 7) &&& setOf (slotDest (slot s ((wAt w 4).toNat % 4096))) = setOf (fld (wAt w 6) 0 7) →
            exec (.slotUnwrap n i) s = .next (finalize (finish n i entropyRes s)))
        ∧ (∀ cak, starts s 0x26 n i w = true → s.dome.st = .ready → (wAt w 4).toNat % 4096 ≠ (wAt w 5).toNat % 4096 →
            s.dome.drbgOk = false → chkFill s (wAt w 4).toNat 4 = none → chkFill s (wAt w 5).toNat 5 = none →
            resolve s (wAt w 2).toNat 0 .mkaCak 0 = .ok cak →
            exec (.mkaDerive n i) s = .next (finalize (finish n i entropyRes s)))
        ∧ (∀ cak kek ick, starts s 0x26 n i w = true → s.dome.st = .ready → kek = (wAt w 4).toNat % 4096 → ick = (wAt w 5).toNat % 4096 →
            kek ≠ ick → s.dome.drbgOk = true → chkFill s (wAt w 4).toNat 4 = none → chkFill s (wAt w 5).toNat 5 = none →
            resolve s (wAt w 2).toNat 0 .mkaCak 0 = .ok cak →
            ∃ u, exec (.mkaDerive n i) s = .next (finalize (finish n i
                (okRes (slotKref kek (slotGen u kek) + slotKref ick (slotGen u ick) * 2 ^ 24)) u))
              ∧ (slot u kek).st = .loaded ∧ (slot u kek).ick = false ∧ (slot u kek).gen = some (nextGen (slotGen s kek))
              ∧ (slot u kek).key = fitBytes (slotLen (slot s k)) (mkaKdf false cak (keyidOf w) (slotLen (slot s k)))
              ∧ (slot u ick).st = .loaded ∧ (slot u ick).ick = true ∧ (slot u ick).gen = some (nextGen (slotGen s ick))
              ∧ (slot u ick).key = fitBytes (slotLen (slot s k)) (mkaKdf true cak (keyidOf w) (slotLen (slot s k)))
              ∧ slotDest (slot u kek) = 9 ∧ slotDest (slot u ick) = 64 ∧ (∀ j, j ≠ kek → j ≠ ick → slot u j = slot s j)
              ∧ u.mem = s.mem ∧ u.secys = s.secys)

/-- In READY, with rows 1 to 3 of R311 passed: SLOT_WRAP of a LOADED Direct key that the wrap key's set takes writes the blob of key length +
8 bytes and changes nothing else. SLOT_ERASE of a LOADED slot makes it REVOKED with RESULT 1, every other slot and host memory as before;
of another slot it changes nothing, with RESULT 0. SLOT_ATTR clears the destination bits named and sets LOCK where asked, keeping state,
LEN, generation and key, and answers the attribute word. SLOT_READ, in every state of the Dome, writes two words for each slot, zeros for
an owner group not permitted. -/
def Obligations.SlotCommandsChangeOnlyTheirSlot : Prop :=
  ∀ (n : Fin 64) (i k : Nat) (w : List Word) (s : State), k = (wAt w 2).toNat % 4096 →
      (∀ wk, starts s 0x22 n i w = true → s.dome.st = .ready → chkSlotRows s (wAt w 2).toNat true = none → (slot s k).st = .loaded →
        formOf (slotDest (slot s k)) ((slot s k).attr.testBit 7) = some .direct → slotDest (slot s k) ≠ 0x40 →
        resolve s (wAt w 4).toNat 0 .wrap 0 = .ok wk →
        slotDest (slot s k) &&& setOf (slotDest (slot s ((wAt w 4).toNat % 4096))) ≠ 0 → slotLen (slot s k) + 8 ≤ (wAt w 9).toNat →
        memWrBad s (join48 (wAt w 7) (wAt w 8)) (slotLen (slot s k) + 8) = false →
        exec (.slotWrap n i) s = .next (finalize (finish n i (okRes (slotLen (slot s k) + 8))
          (stored (join48 (wAt w 7) (wAt w 8))
              (fitBytes (slotLen (slot s k) + 8) (kwWrap (flag (wAt w 6) 0) wk (slot s k).key)) s))))
        ∧ (starts s 0x23 n i w = true → s.dome.st = .ready → chkSlotRows s (wAt w 2).toNat true = none →
          ((slot s k).st = .loaded → ∃ u, exec (.slotErase n i) s = .next (finalize (finish n i (okRes 1) u))
            ∧ slot u k = { slot s k with st := .revoked, key := [], share := [] } ∧ ∀ j, j ≠ k → slot u j = slot s j)
          ∧ ((slot s k).st ≠ .loaded → exec (.slotErase n i) s = .next (finalize (finish n i (okRes 0) s))))
        ∧ (starts s 0x24 n i w = true → s.dome.st = .ready → chkSlotRows s (wAt w 2).toNat false = none → (slot s k).st = .loaded →
            fld (wAt w 4) 0 7 &&& 0x58 = 0 → formOf (slotDest (slot s k)) ((slot s k).attr.testBit 7) ≠ none →
            formOf (slotDest (slot s k) - (slotDest (slot s k) &&& fld (wAt w 4) 0 7)) ((slot s k).attr.testBit 7)
              = formOf (slotDest (slot s k)) ((slot s k).attr.testBit 7) →
            ∃ u, exec (.slotAttr n i) s = .next (finalize (finish n i (okRes (attrWord u k)) u))
              ∧ slotDest (slot u k) = slotDest (slot s k) - (slotDest (slot s k) &&& fld (wAt w 4) 0 7)
              ∧ slotLock (slot u k) = flag (wAt w 4) 7 ∧ (slot u k).st = .loaded ∧ slotLen (slot u k) = slotLen (slot s k)
              ∧ slotGen u k = slotGen s k ∧ (slot u k).key = (slot s k).key ∧ (∀ j, j ≠ k → slot u j = slot s j)
              ∧ u.mem = s.mem ∧ u.regs = s.regs ∧ u.secys = s.secys)
        ∧ (starts s 0x25 n i w = true → memWrBad s (join48 (wAt w 5) (wAt w 6)) (6 * fld (wAt w 4) 0 13) = false →
            exec (.slotRead n i) s = .next (finalize (finish n i (okRes (6 * fld (wAt w 4) 0 13))
              (stored (join48 (wAt w 5) (wAt w 6)) (wordsBytes ((List.range (fld (wAt w 4) 0 13)).flatMap fun j =>
                  if ownerOk s n (slotOwner (fld (wAt w 2) 0 12 + j)) then
                    [mkW (attrWord s (fld (wAt w 2) 0 12 + j)), mkW (slotGen s (fld (wAt w 2) 0 12 + j))] else [0, 0])) s))))

/-- In READY with a key of use SIGN, SIGN_DIGEST PUBKEY writes the 96 bytes of its public key; SIGN, with the DRBG up and no disturbance,
writes the signature of the digest read and uses 48 drawn bytes. ATTEST in READY or ALARMED writes the 2,144 bytes of its public keys; for
a statement, with room, DRBG and challenge, it writes statement and signatures. MEAS_EXTEND, in every state of the Dome, makes its
register the hash of old value and digest and leaves the other fifteen; MEAS_READ writes the sixteen registers. Slots, fuses and all other
memory are as before. The primitives are the published algorithms, the nonce a free value (assumption log 6). -/
def Obligations.SignaturesAndMeasurementsAreWritten : Prop :=
  ∀ (n : Fin 64) (i : Nat) (w : List Word) (s : State),
      (∀ key, starts s 0x27 n i w = true → s.dome.st = .ready → resolve s (wAt w 2).toNat (wAt w 3).toNat .sign 32 = .ok key →
        memWrBad s (join48 (wAt w 7) (wAt w 8)) 96 = false →
        (flag (wAt w 4) 0 = true → ∃ u, exec (.signDigest n i) s = .next (finalize (finish n i (okRes 96) u))
          ∧ u.mem = storeBytes (join48 (wAt w 7) (wAt w 8)) (fitBytes 96 (ecdsaPub (signScalar key))) s.mem
          ∧ u.dome.slots = s.dome.slots ∧ u.draws = s.draws ∧ u.fuses = s.fuses)
        ∧ (∀ dig, flag (wAt w 4) 0 = false → s.dome.drbgOk = true → memRead s (join48 (wAt w 5) (wAt w 6)) 48 = some dig →
          s.dome.upset = false → ∃ u, exec (.signDigest n i) s = .next (finalize (finish n i (okRes 96) u))
          ∧ u.mem = storeBytes (join48 (wAt w 7) (wAt w 8)) (fitBytes 96 (ecdsaSign (signScalar key) dig (ecdsaNonce s.draws))) s.mem
          ∧ u.dome.slots = s.dome.slots ∧ u.draws = s.draws + 48 ∧ u.fuses = s.fuses))
        ∧ (starts s 0x60 n i w = true → (s.dome.st = .ready ∨ s.dome.st = .alarmed) →
          (flag (wAt w 4) 0 = true → memWrBad s (join48 (wAt w 7) (wAt w 8)) 2144 = false →
            exec (.attest n i) s = .next (finalize (finish n i (okRes 2144)
              (stored (join48 (wAt w 7) (wAt w 8)) (fitBytes 96 (ecdsaPub (idScalar s))
                  ++ fitBytes 96 (ecdsaPub (importScalar s)) ++ fitBytes 1952 (mldsaPub (pqSeed s))) s))))
          ∧ (∀ chal pq l, flag (wAt w 4) 0 = false → pq = (flag (wAt w 4) 1 || bitN s.dome.record.policy 5) →
            (if pq then 4269 else 960) ≤ (wAt w 9).toNat → s.dome.drbgOk = true →
            memRead s (join48 (wAt w 5) (wAt w 6)) (fld (wAt w 4) 2 6) = some chal → s.dome.upset = false →
            l = statement s pq chal ++ fitBytes 96 (ecdsaSign (idScalar s) (hash48 (statement s pq chal)) (ecdsaNonce s.draws))
              ++ (if pq then fitBytes 3309 (mldsaSign (pqSeed s) (statement s pq chal) (mldsaRnd (s.draws + 48))) else []) →
            memWrBad s (join48 (wAt w 7) (wAt w 8)) l.length = false →
            ∃ u, exec (.attest n i) s = .next (finalize (finish n i (okRes l.length) u))
              ∧ u.mem = storeBytes (join48 (wAt w 7) (wAt w 8)) l s.mem ∧ u.draws = s.draws + 80 ∧ u.dome.slots = s.dome.slots
              ∧ u.fuses = s.fuses ∧ u.dome.record = s.dome.record))
        ∧ (∀ d, starts s 0x61 n i w = true → memRead s (join48 (wAt w 5) (wAt w 6)) 48 = some d →
            ∃ u, exec (.measExtend n i) s = .next (finalize (finish n i (okRes 0) u))
              ∧ measOf u (fld (wAt w 4) 0 4) = hash48 (measOf s (fld (wAt w 4) 0 4) ++ d)
              ∧ (∀ j, j ≠ fld (wAt w 4) 0 4 → measOf u j = measOf s j) ∧ u.dome.slots = s.dome.slots ∧ u.mem = s.mem ∧ u.regs = s.regs)
        ∧ (starts s 0x62 n i w = true → memWrBad s (join48 (wAt w 4) (wAt w 5)) 768 = false →
            exec (.measRead n i) s = .next (finalize (finish n i (okRes 768)
              (stored (join48 (wAt w 4) (wAt w 5)) ((List.range 16).flatMap fun j => fitBytes 48 (measOf s j)) s))))

/-- A starting KUM_APPLY with its three inputs readable and no disturbance completes: a message that fails a check with that failure, recorded with its record
number and raised, and no other effect; a message that passes, in SEALED with the DRBG up, with the next IMAGE_GEN: the new commit is
pending with the message's counter, policy, keys and the other bank, its request and image stand in the output buffer, and slots, record
and fuses are as before. KUM_COMMIT with a pending commit in SEALED and its response readable: a response that does not decide it
completes with its failure and changes nothing; one that does, with the DRBG up, applies the commit with RESULT the counter. Applying it
makes its record the Dome's, ends the pending commit, extends measurement 1 by the message's hash and leaves every slot that its records
do not name, and every LOCKed one (the model's choice, assumption log 62). A disturbance of the dual computations ends KUM_APPLY with
ALARM. Signatures, MACs and ciphers are the published algorithms (assumption log 6). -/
def Obligations.KeyUpdatesPrepareAndCommit : Prop :=
  ∀ (n : Fin 64) (i : Nat) (w : List Word) (s : State),
      (∀ m k c, atWork s 0x28 n i w = true → kumApplyWaits w s = false → kumInputs s w = some (m, k, c) → s.dome.upset = false →
        match kumCheck s m k c with
        | .error (r, op) => exec (.kumApply n i) s = .next (finalize (finish n i r
            (raise 103 n (statusCode r.st + r.reason * 2 ^ 8 + op * 2 ^ 16) (noteReject r op s))))
        | .ok x => s.dome.drbgOk = true → s.fuses.life = .sealed →
            memWrBad s (join48 (wAt w 13) (wAt w 14)) (512 + (80 + 48 * x.keys.length)) = false →
            ∃ u com img, exec (.kumApply n i) s = .next (finalize (finish n i (okRes com.record.imageGen (80 + 48 * x.keys.length)) u))
              ∧ u.dome.commit = some com ∧ com.record.imageGen = (s.dome.record.imageGen + 1) % 2 ^ 48
              ∧ com.record.counter = x.counter ∧ com.record.policy = x.policy ∧ com.record.bank = newBank s
              ∧ com.record.imageHash = hash48 img ∧ com.keys = x.keys ∧ com.ops = x.ops ∧ com.rearm = x.rearm
              ∧ u.mem = storeBytes (join48 (wAt w 13) (wAt w 14)) (writeRequest s com.record ++ img) s.mem
              ∧ u.dome.slots = s.dome.slots ∧ u.dome.record = s.dome.record ∧ u.fuses = s.fuses)
        ∧ (∀ m k c, atWork s 0x28 n i w = true → kumApplyWaits w s = false → kumInputs s w = some (m, k, c) → s.dome.upset = true →
            kumEarly s m k = none → exec (.kumApply n i) s = .next (finalize (finish n i (failRes .alarm 0)
              (sensorDetect 7 0 { s with dome := { s.dome with upset := false } }))))
        ∧ (∀ c f, atWork s 0x29 n i w = true → kumCommitWaits w s = false → chkKumCommit s = none → s.dome.commit = some c →
            s.dome.drbgOk = true →
            memRead s (join48 (wAt w 4) (wAt w 5)) 512 = some f →
            match commitAnswer s c (flag (wAt w 6) 0) f with
            | some r => exec (.kumCommit n i) s = .next (finalize (finish n i r s))
            | none => exec (.kumCommit n i) s = .next (finalize (finish n i (okRes c.record.counter) (applyCommit n c
                { s with dome := { s.dome with writeCnt := (s.dome.writeCnt + 1) % 2 ^ 32, recordValid := true } }))))
        ∧ (∀ c, (applyCommit n c s).dome.record = c.record ∧ (applyCommit n c s).dome.commit = none
            ∧ (applyCommit n c s).dome.recordBlank = false ∧ (applyCommit n c s).fuses = s.fuses
            ∧ measOf (applyCommit n c s) 1 = hash48 (measOf s 1 ++ c.kumHash)
            ∧ (s.dome.st = .ready → ∀ j, ((∀ o ∈ c.ops, o.1 ≠ j) ∨ slotLock (slot s j) = true) → slot (applyCommit n c s) j = slot s j)
            ∧ (s.dome.st = .alarmed → c.rearm = true → (applyCommit n c s).dome.st = .ready ∧ alarmLatch (applyCommit n c s) = false))

/-- IMAGE_NONCE that runs (SEALED, DOM_RPMB_ADDR locked, DRBG up, no reset required) writes its two request frames, 1,024 bytes, with a nonce
of 16 drawn bytes, and takes a COLD Dome to LOADING. IMAGE_LOAD with NO_IMAGE in a COLD Dome outside SEALED makes it READY with no key and
leaves the slots; in SEALED, with its inputs readable, it completes; in READY it is refused with LIFECYCLE and recorded as a refused load.
LC_CHANGE from MANUFACTURE to SEALED without a token burns the
life-cycle fuse, empties every slot, drops a pending commit, takes the Dome to COLD and draws a new nonce. RPMB_PROVISION in a COLD Dome
of a SEALED part writes the 512-byte frame with the RPMB key and burns the PROV fuse. -/
def Obligations.ImagesFusesAndLifeCycle : Prop :=
  ∀ (n : Fin 64) (i : Nat) (w : List Word) (s : State),
      (starts s 0x2A n i w = true → resetNeeded s = false → lifeNow s = .sealed → rpmbLocked s = true → s.dome.drbgOk = true →
        memWrBad s (join48 (wAt w 4) (wAt w 5)) 1024 = false →
        ∃ u nonce, exec (.imageNonce n i) s = .next (finalize (finish n i (okRes 1024) u))
          ∧ nonce = (List.range 16).map (fun j => Config.drbgByte (s.draws + j)) ∧ u.dome.nonce = some nonce
          ∧ u.mem = storeBytes (join48 (wAt w 4) (wAt w 5)) (rpmbFrame [] (rpmbTail [] nonce 0 0 1 0 2)
              ++ rpmbFrame [] (rpmbTail [] nonce 0 (rpmbAddr s) 1 0 4)) s.mem
          ∧ u.dome.st = (if s.dome.st = .cold then .loading else s.dome.st) ∧ u.dome.slots = s.dome.slots ∧ u.fuses = s.fuses)
        ∧ (starts s 0x2B n i w = true → resetNeeded s = false →
          (lifeNow s ≠ .sealed → s.dome.st = .cold → flag (wAt w 12) 0 = true →
            ∃ u, exec (.imageLoad n i) s = .next (finalize (finish n i (okRes s.dome.record.imageGen 0) u)) ∧ u.dome.st = .ready
              ∧ u.dome.slots = s.dome.slots ∧ u.dome.imageLost = true ∧ u.fuses = s.fuses ∧ u.mem = s.mem)
          ∧ (∀ resp ba bb, lifeNow s = .sealed → (s.dome.st = .loading ∨ s.dome.st = .alarmed) → flag (wAt w 12) 0 = false →
            memRead s (join48 (wAt w 4) (wAt w 5)) 1024 = some resp →
            memRead s (join48 (wAt w 6) (wAt w 7)) (fld (wAt w 8) 0 14) = some ba →
            memRead s (join48 (wAt w 9) (wAt w 10)) (fld (wAt w 11) 0 14) = some bb →
            ∃ u r, loadSealed n false resp ba bb s = (u, some r) ∧ exec (.imageLoad n i) s = .next (finalize (finish n i r u))
              ∧ u.fuses = s.fuses ∧ u.mem = s.mem ∧ ∀ b, respBad s (resp.take 512) (resp.drop 512) = some b →
                r = authRes b ∧ u.dome.slots = s.dome.slots ∧ u.dome.st = (if s.dome.st = .loading then .cold else s.dome.st))
          ∧ (s.dome.st = .ready →
            exec (.imageLoad n i) s = .next (finalize (finish n i (lcRes 1) (noteReject (lcRes 1) 0 s)))))
        ∧ (starts s 0x2C n i w = true → lifeNow s = .manufacture → fld (wAt w 4) 0 2 = 0 → fld (wAt w 7) 0 12 = 0 →
            s.dome.drbgOk = true → s.dome.st ≠ .loading → tabWf {} s.dome.slots = true →
            ∃ u, exec (.lcChange n i) s = .next (finalize (finish n i (okRes 0) u)) ∧ u.fuses = { s.fuses with life := .sealed }
              ∧ (∀ j, (slot u j).st = .empty ∧ (slot u j).key = [] ∧ (slot u j).gen = (slot s j).gen) ∧ u.dome.commit = none
              ∧ u.dome.st = .cold ∧ u.dome.lcNonce = (List.range 16).map (fun j => Config.drbgByte (s.draws + j)) ∧ u.mem = s.mem)
        ∧ (starts s 0x2D n i w = true → s.dome.st = .cold → lifeNow s = .sealed → rpmbLocked s = true → s.fuses.prov = false →
            memWrBad s (join48 (wAt w 4) (wAt w 5)) 512 = false →
            exec (.rpmbProvision n i) s = .next (finalize (finish n i (okRes 512)
              { s with fuses := { s.fuses with prov := true }
                       mem := storeBytes (join48 (wAt w 4) (wAt w 5)) (rpmbFrame (rpmbKey s) (rpmbTail [] [] 0 0 1 0 1)) s.mem })))

/-- In READY, REPAIR_EXPORT writes twelve words and the record's MAC, with a GEN one above the largest seen. REPAIR_LOAD of a readable record
completes: with AUTH_FAIL and TW_REPAIR_FAIL when a check fails; else with the number of units newly retired, and every unit that was
retired stays so. LOG_DUMP, in every state, writes the four words of each entry named, in order from FIRST and wrapping at 1,024, with
NEXT and WRAPPED in EXT. The MAC is the published algorithm (assumption log 6). -/
def Obligations.RepairRecordsAndLogDump : Prop :=
  ∀ (n : Fin 64) (i : Nat) (w : List Word) (s : State),
      (∀ g l, starts s 0x2E n i w = true → s.dome.st = .ready → g = (max s.arr.loadGen s.arr.expGen + 1) % 2 ^ 24 →
        l = wordsBytes (repairWords s g) → memWrBad s (join48 (wAt w 4) (wAt w 5)) 48 = false →
        exec (.repairExport n i) s = .next (finalize (finish n i (okRes 48 (g % 2 ^ 16))
          { s with arr := { s.arr with expGen := g }
                   mem := storeBytes (join48 (wAt w 4) (wAt w 5)) (l ++ fitBytes 12 (repairMac s l)) s.mem })))
        ∧ (∀ l, starts s 0x2F n i w = true → s.dome.st = .ready → memRead s (join48 (wAt w 4) (wAt w 5)) 48 = some l →
          match repairBad s l with
          | some r => exec (.repairLoad n i) s = .next (finalize (finish n i (failRes .authFail r) (raise 81 0 r s)))
          | none => ∃ u, exec (.repairLoad n i) s = .next (finalize (finish n i (okRes (retiredCount u - retiredCount s)) u))
              ∧ (∀ t k, (tower s t).coreBad.testBit k = true → (tower u t).coreBad.testBit k = true)
              ∧ (∀ t k, (tower s t).ghBad.testBit k = true → (tower u t).ghBad.testBit k = true)
              ∧ u.arr.loadGen = max s.arr.loadGen (wAt (bytesWords 16 l) 5).toNat ∧ u.mem = s.mem ∧ u.dome = s.dome ∧ u.items = s.items)
        ∧ (starts s 0x63 n i w = true → memWrBad s (join48 (wAt w 5) (wAt w 6)) (12 * fld (wAt w 4) 10 11) = false →
            exec (.logDump n i) s = .next (finalize (finish n i (okRes (12 * fld (wAt w 4) 10 11) (s.log.next + b2n s.log.wrapped * 2 ^ 10))
              (stored (join48 (wAt w 5) (wAt w 6)) (wordsBytes ((List.range (fld (wAt w 4) 10 11)).flatMap fun k =>
                  logWords s (fld (wAt w 4) 0 10 + k))) s))))

/-- A starting tower job becomes one new item of its class and its ring's dispatch key with the keys it names, and its descriptor runs on.
When its tower ends it, a JOB_GCM encryption without overlap completes with ciphertext and tag written, a JOB_XTS with its output written,
a JOB_SECOC generate of one well-formed entry without overlap with its record written. In READY, JOB_MKPDU_ICV GENERATE writes the 16-byte
ICV, VERIFY completes with OK or AUTH_FAIL and writes nothing. JOB_RANDOM with the DRBG up writes as many drawn bytes as asked, in every
state of the Dome. The ciphers are the published algorithms (assumption log 6). -/
def Obligations.TowerJobsRunAndTheDomesJobsComplete : Prop :=
  ∀ (n : Fin 64) (i : Nat) (w : List Word) (s : State),
      (∀ u, u = running n i (setItem s.arr.nextId (some { kind := .job n i, cls := fld (wAt w 0) 16 2, dkey := n + 2 * 2 ^ 14, reqs := jobReqs w })
          { s with arr := { s.arr with nextId := s.arr.nextId + 1 } }) →
        (starts s 0x30 n i w = true → exec (.jobGcm n i) s = .next (finalize u))
        ∧ (starts s 0x31 n i w = true → exec (.jobXts n i) s = .next (finalize u))
        ∧ (starts s 0x32 n i w = true → exec (.jobSecoc n i) s = .next (finalize u)))
        ∧ (∀ id keys e data, alarmNow s = false → entAt s n i = some e → e.st = .running → e.words = w → memRead s (join48 (wAt w 12) (wAt w 13)) (fld (wAt w 4) 6 17) = some data →
            ∀ aad, memRead s (join48 (wAt w 9) (wAt w 10)) (fld (wAt w 11) 0 17) = some aad → wOp w = 0x30 → flag (wAt w 4) 0 = false →
            badOverlap (join48 (wAt w 12) (wAt w 13)) (fld (wAt w 4) 6 17) (join48 (wAt w 14) (wAt w 15)) (fld (wAt w 4) 6 17 + 16) = false →
            overlaps (join48 (wAt w 9) (wAt w 10)) (fld (wAt w 11) 0 17) (join48 (wAt w 14) (wAt w 15)) (fld (wAt w 4) 6 17 + 16) = false →
            memWrBad s (join48 (wAt w 14) (wAt w 15)) (fld (wAt w 4) 6 17 + 16) = false →
            ∀ iv ct, iv = (wordsBytes [wAt w 5, wAt w 6, wAt w 7, wAt w 8]).take 12 → ct = gcmCrypt (keys.headD []) iv data →
            jobDone id n i keys s = finish n i (okRes (fld (wAt w 4) 6 17 + 16)) (setItem id none (stored (join48 (wAt w 14) (wAt w 15)) (ct ++ fitBytes 16 (gcmTag (keys.headD []) iv aad ct)) s)))
        ∧ (∀ id keys e data, alarmNow s = false → entAt s n i = some e → e.st = .running → e.words = w → wOp w = 0x31 →
            memRead s (join48 (wAt w 10) (wAt w 11)) (fld (wAt w 6) 2 17) = some data →
            badOverlap (join48 (wAt w 10) (wAt w 11)) (fld (wAt w 6) 2 17) (join48 (wAt w 12) (wAt w 13)) (fld (wAt w 6) 2 17) = false →
            memWrBad s (join48 (wAt w 12) (wAt w 13)) (fld (wAt w 6) 2 17) = false →
            jobDone id n i keys s = finish n i (okRes (fld (wAt w 6) 2 17)) (setItem id none (stored (join48 (wAt w 12) (wAt w 13)) (fitBytes (fld (wAt w 6) 2 17)
                (xts (!flag (wAt w 6) 0) (keys.headD []) (keys.getD 1 []) (w64 w 7) data)) s)))
        ∧ (∀ id keys e t pdu q, alarmNow s = false → entAt s n i = some e → e.st = .running → e.words = w → wOp w = 0x32 → flag (wAt w 4) 0 = false →
            fld (wAt w 4) 1 7 = 1 → memRead s (join48 (wAt w 5) (wAt w 6)) 39 = some t → q = bytesWords 13 t → secocBad q = false →
            memRead s (secocPdu q).1 (secocPdu q).2 = some pdu →
            overlaps (join48 (wAt w 5) (wAt w 6)) 39 (join48 (wAt w 7) (wAt w 8)) 18 = false →
            overlaps (secocPdu q).1 (secocPdu q).2 (join48 (wAt w 7) (wAt w 8)) 18 = false →
            memWrBad s (join48 (wAt w 7) (wAt w 8)) 18 = false →
            jobDone id n i keys s = finish n i (okRes 0) (setItem id none (stored (join48 (wAt w 7) (wAt w 8))
              (macCut (fld (wAt q 1) 12 8) (cmac (keys.headD []) (secocMsg q pdu)) ++ [0, 0]) s)))
        ∧ (∀ ick msg, starts s 0x33 n i w = true → s.dome.st = .ready → resolve s (wAt w 2).toNat 0 .mkaIck 0 = .ok ick →
            memRead s (join48 (wAt w 5) (wAt w 6)) (fld (wAt w 7) 0 14) = some msg →
            (flag (wAt w 4) 0 = false → memWrBad s (join48 (wAt w 8) (wAt w 9)) 16 = false →
              exec (.jobMkpduIcv n i) s = .next (finalize (finish n i (okRes 16)
                (stored (join48 (wAt w 8) (wAt w 9)) (fitBytes 16 (cmac ick msg)) s))))
            ∧ (∀ got, flag (wAt w 4) 0 = true → memRead s (join48 (wAt w 8) (wAt w 9)) 16 = some got →
              exec (.jobMkpduIcv n i) s = .next (finalize (finish n i
                (if got = fitBytes 16 (cmac ick msg) then okRes 0 else failRes .authFail 0x0F) s))))
        ∧ (starts s 0x34 n i w = true → s.dome.drbgOk = true → fld (wAt w 4) 0 17 ≤ 65536 →
            memWrBad s (join48 (wAt w 5) (wAt w 6)) (fld (wAt w 4) 0 17) = false →
            ∃ u, exec (.jobRandom n i) s = .next (finalize (finish n i (okRes (fld (wAt w 4) 0 17)) u))
              ∧ u.mem = storeBytes (join48 (wAt w 5) (wAt w 6))
                  ((List.range (fld (wAt w 4) 0 17)).map fun j => Config.drbgByte (s.draws + j)) s.mem
              ∧ u.draws = s.draws + fld (wAt w 4) 0 17 ∧ u.dome.slots = s.dome.slots)

/-- In READY, STC_CFG_SET with VALID = 1 whose two keys resolve stores its entry and completes with RESULT 0; a key that does not resolve
completes with its status, is recorded as a failed fetch and leaves the entry; VALID = 0 clears the entry. Other entries, slots and host
memory are as before. STC_CFG_READ, in every state of the Dome, writes five words for each entry named and changes nothing else. -/
def Obligations.StorageEntriesAreSetAndRead : Prop :=
  ∀ (n : Fin 64) (i c k : Nat) (w : List Word) (s : State),
      (∀ e, starts s 0x3C n i w = true → s.dome.st = .ready → c = b2n (flag (wAt w 6) 0) → k = fld (wAt w 6) 1 7 →
        e = { valid := true, alg := flag (wAt w 6) 9, dus := flag (wAt w 6) 10, dataKref := (wAt w 2).toNat
              dataLabel := (wAt w 3).toNat, tweakKref := (wAt w 4).toNat, tweakLabel := (wAt w 5).toNat } →
        (flag (wAt w 6) 8 = true → stcKeys s e = none → ∃ u, exec (.stcCfgSet n i) s = .next (finalize (finish n i (okRes 0) u))
          ∧ stcCfg u c k = e ∧ (∀ d j, (d, j) ≠ (c, k) → stcCfg u d j = stcCfg s d j) ∧ (∀ d, (stc u d).xfers = (stc s d).xfers)
          ∧ u.dome.slots = s.dome.slots ∧ u.mem = s.mem)
        ∧ (∀ i' r, flag (wAt w 6) 8 = true → stcKeys s e = some (i', r) →
            exec (.stcCfgSet n i) s = .next (finalize (finish n i r (fetchFail 8 i' r s))) ∧ (fetchFail 8 i' r s).stcs = s.stcs)
        ∧ (flag (wAt w 6) 8 = false → ∃ u, exec (.stcCfgSet n i) s = .next (finalize (finish n i (okRes 0) u)) ∧ stcCfg u c k = {}
            ∧ (∀ d j, (d, j) ≠ (c, k) → stcCfg u d j = stcCfg s d j) ∧ u.mem = s.mem ∧ u.dome = s.dome))
        ∧ (starts s 0x3D n i w = true → c = b2n (flag (wAt w 4) 0) →
            memWrBad s (join48 (wAt w 5) (wAt w 6)) (15 * fld (wAt w 4) 8 8) = false →
            exec (.stcCfgRead n i) s = .next (finalize (finish n i (okRes (15 * fld (wAt w 4) 8 8))
              (stored (join48 (wAt w 5) (wAt w 6)) (wordsBytes ((List.range (fld (wAt w 4) 8 8)).flatMap fun j =>
                  stcRecord (fld (wAt w 4) 1 7 + j) (stcCfg s c (fld (wAt w 4) 1 7 + j)))) s))))

/-- TIME_SAMPLE of a domain with source HOST completes with RESULT saying whether it stepped: the domain is LOCKED with its loss limit
started; a step adds the offset to its time, any other sample leaves the time, and RATE and I follow the servo of R381; LC, the other
domain and the calendars are as before. TIME_DOMAIN SET_RATE writes RATE and I alone; INVALIDATE makes the domain INVALID with time and
rate 0. TIME_SELECT of an INVALID domain completes with STATE, of the selected one with OK and no change; of another it selects it.
TIME_READ writes its record and changes nothing else. -/
def Obligations.TimeCommandsChangeTheTimeUnit : Prop :=
  ∀ (n : Fin 64) (i k : Nat) (w : List Word) (s : State), k = fld (wAt w 2) 0 1 →
      (∀ e, starts s 0x40 n i w = true → rfld s (rD_CTRL k) 0 2 = 0 → e = sgn 48 (join48 (wAt w 4) (wAt w 5)) * 256 + fld (wAt w 6) 0 8 →
        ∃ u, exec (.timeSample n i) s = .next (finalize (finish n i (okRes (1 + b2n (sampleSteps s k e) * 4)) u))
          ∧ (dom u.tmu k).st = .locked ∧ (dom u.tmu k).lossAt = s.clock + lossClocks s k
          ∧ (sampleSteps s k e = true → (dom u.tmu k).time = timeAdd (dom s.tmu k).time (e * 2 ^ 24)
              ∧ (dom u.tmu k).rate = (dom s.tmu k).rate ∧ (dom u.tmu k).integ = (dom s.tmu k).integ)
          ∧ (sampleSteps s k e = false → (dom u.tmu k).time = (dom s.tmu k).time
              ∧ (dom u.tmu k).integ = clampI (-2147484) 2147484 ((dom s.tmu k).integ + ((rget s (rD_KI k)).toNat * e) / 2 ^ 16)
              ∧ (dom u.tmu k).rate = clampI (-2147484) 2147484 ((dom u.tmu k).integ + ((rget s (rD_KP k)).toNat * e) / 2 ^ 16))
          ∧ dom u.tmu (1 - k) = dom s.tmu (1 - k) ∧ u.tmu.lc = s.tmu.lc ∧ u.tmu.cals = s.tmu.cals ∧ u.tmu.pull = s.tmu.pull
          ∧ u.regs = s.regs ∧ u.mem = s.mem)
        ∧ (starts s 0x41 n i w = true → (flag (wAt w 4) 0 = true →
            exec (.timeDomain n i) s = .next (finalize (finish n i (okRes 0) (modDom k (fun d =>
              { d with integ := sgn 32 ((wAt w 5).toNat + fld (wAt w 6) 0 8 * 2 ^ 24)
                       rate := sgn 32 ((wAt w 5).toNat + fld (wAt w 6) 0 8 * 2 ^ 24) }) s))))
          ∧ (flag (wAt w 4) 0 = false → ∃ u, exec (.timeDomain n i) s = .next (finalize (finish n i (okRes 0) u))
            ∧ (dom u.tmu k).st = .invalid ∧ (dom u.tmu k).time = 0 ∧ (dom u.tmu k).rate = 0 ∧ (dom u.tmu k).integ = 0
            ∧ dom u.tmu (1 - k) = dom s.tmu (1 - k) ∧ u.tmu.lc = s.tmu.lc ∧ u.tmu.cals = s.tmu.cals ∧ u.regs = s.regs ∧ u.mem = s.mem))
        ∧ (starts s 0x42 n i w = true →
          ((dom s.tmu k).st = .invalid → exec (.timeSelect n i) s = .next (finalize (finish n i (badRes 0x0B 2) s)))
          ∧ ((dom s.tmu k).st ≠ .invalid → s.tmu.sel = k → exec (.timeSelect n i) s = .next (finalize (finish n i (okRes 0) s)))
          ∧ ((dom s.tmu k).st ≠ .invalid → s.tmu.sel ≠ k → ∃ u b, exec (.timeSelect n i) s = .next (finalize (finish n i (okRes (b2n b)) u))
            ∧ u.tmu.sel = k ∧ u.tmu.src = (if k = 0 then .d0 else .d1) ∧ u.tmu.d0 = s.tmu.d0 ∧ u.tmu.d1 = s.tmu.d1 ∧ u.tmu.lc = s.tmu.lc
            ∧ (u.tmu.src ≠ s.tmu.src → b = decide (1000 * 2 ^ 32 < (timeSub (srcTime s.tmu u.tmu.src) s.tmu.wc).natAbs)
                ∧ u.tmu.slewing = !b ∧ u.tmu.wc = (if b then srcTime s.tmu u.tmu.src else s.tmu.wc))
            ∧ u.tmu.cals = s.tmu.cals ∧ u.regs = s.regs ∧ u.mem = s.mem))
        ∧ (starts s 0x43 n i w = true → memWrBad s (join48 (wAt w 4) (wAt w 5)) (3 * (timeRecord s).length) = false →
            exec (.timeRead n i) s = .next (finalize (finish n i (okRes (3 * (timeRecord s).length))
              (stored (join48 (wAt w 4) (wAt w 5)) (wordsBytes (timeRecord s)) s))))

/-- A CAL_LOAD with a permitted port, no switch of it staged, counts, cycle and entries in range and a readable source makes the inactive
bank valid with its base, cycle and entries; the active bank, what runs and other ports are as before. A CAL_SWITCH that passes: on a
running calendar it is pending for the boundary whose time RESULT gives; on a stopped one the changeover takes place at once: the named
bank runs, or none with STOP. CAL_CHANGEOVER at its boundary does the same for a pending one, and before it changes nothing. CAL_READ
writes its record and changes nothing else. -/
def Obligations.CalendarCommandsActOnTheirPort : Prop :=
  ∀ (n : Fin 64) (i p : Nat) (w : List Word) (s : State), p = fld (wAt w 2) 0 5 →
      (∀ l es, starts s 0x44 n i w = true → portOk s n p = true → heldBy s (.cal p) = false →
        1 ≤ fld (wAt w 6) 0 9 → fld (wAt w 6) 0 9 ≤ 256 → 1000 ≤ (wAt w 10).toNat + fld (wAt w 11) 0 6 * 2 ^ 24 →
        (wAt w 10).toNat + fld (wAt w 11) 0 6 * 2 ^ 24 ≤ 1000000000 → memReadWords s (join48 (wAt w 4) (wAt w 5)) (2 * fld (wAt w 6) 0 9) = some l →
        calEntries l = some es → offsetsOk ((wAt w 10).toNat + fld (wAt w 11) 0 6 * 2 ^ 24) es = true →
        (cal s p).active < 2 → ∃ u, exec (.calLoad n i) s = .next (finalize (finish n i (okRes (fld (wAt w 6) 0 9)) u))
          ∧ calBank (cal u p) (1 - (cal s p).active) =
              { valid := true, base := w64 w 7, cycle := (wAt w 10).toNat + fld (wAt w 11) 0 6 * 2 ^ 24, entries := es }
          ∧ activeBank (cal u p) = activeBank (cal s p) ∧ (cal u p).running = (cal s p).running ∧ (cal u p).claimed = (cal s p).claimed
          ∧ (∀ q, q ≠ p → cal u q = cal s q) ∧ u.mem = s.mem ∧ u.regs = s.regs)
        ∧ (∀ q, starts s 0x45 n i w = true → chkCalSwitch n w s = none →
            q = { stop := flag (wAt w 4) 0, bank := fld (wAt w 4) 1 1, cycle := 0 } →
            ((cal s p).running = true → exec (.calSwitch n i) s = .next (finalize (finish n i
              (okRes (unsgn 48 (boundary (activeBank (cal s p)) (portPull s p) (cycleFrom (activeBank (cal s p)) (portPull s p) (wcNs s)))))
              (setCal p { cal s p with pend := some { q with cycle := cycleFrom (activeBank (cal s p)) (portPull s p) (wcNs s) } } s))))
            ∧ ((cal s p).running = false → exec (.calSwitch n i) s = .next (finalize (finish n i (okRes (wcNs s % 2 ^ 48)) (changeover p q s)))))
        ∧ (∀ (k : Fin 24) q, (cal s k).pend = some q → domOn s dTIME = true →
            (boundary (activeBank (cal s k)) (portPull s k) q.cycle ≤ wcNs s → exec (.calChangeover k) s = .next (finalize (changeover k q s)))
            ∧ (wcNs s < boundary (activeBank (cal s k)) (portPull s k) q.cycle → exec (.calChangeover k) s = .next (finalize s)))
        ∧ (∀ k q, (cal (changeover k q s) k).running = !q.stop ∧ (cal (changeover k q s) k).pend = none
            ∧ (cal (changeover k q s) k).claimed = [] ∧ (cal (changeover k q s) k).active = (if q.stop then (cal s k).active else q.bank)
            ∧ (cal (changeover k q s) k).bank0 = (cal s k).bank0 ∧ (cal (changeover k q s) k).bank1 = (cal s k).bank1
            ∧ (∀ j, j ≠ k → cal (changeover k q s) j = cal s j) ∧ (changeover k q s).mem = s.mem ∧ (changeover k q s).secys = s.secys)
        ∧ (starts s 0x46 n i w = true → portOk s n p = true →
            memWrBad s (join48 (wAt w 5) (wAt w 6)) (3 * (calRecord (cal s p) (fld (wAt w 4) 0 1)).length) = false →
            exec (.calRead n i) s = .next (finalize (finish n i (okRes (3 * (calRecord (cal s p) (fld (wAt w 4) 0 1)).length))
              (stored (join48 (wAt w 5) (wAt w 6)) (wordsBytes (calRecord (cal s p) (fld (wAt w 4) 0 1))) s))))

/-- With a free tag and the first hop toward the node up, a starting SPL_READ, SPL_KEY_SEND (near checks passed) or SPL_LOCKED (near bus free)
takes the next tag, queues its RD_REQ, OPEN or LOCK_REQ with the operands given, and runs on; SPL_LOCKED also holds the near bus.
SPL_WRITE queues a WR with the data read, on the bulk class if asked. With no hop it completes with NO_ROUTE, with the hop down with
LINK_LOST. SPL_BCAST queues its packet on every port that leads down and gathers, or completes at once where none does. Nothing else
changes. -/
def Obligations.RemoteCommandsSendTheirRequest : Prop :=
  ∀ (n : Fin 64) (i p t : Nat) (w : List Word) (s : State), nextTag s = some t →
      (∀ use, firstHop s (splNode w) = some p → portUp s p = true →
        (starts s 0x50 n i w = true → use = .used .read n i s.spl.epoch p (s.clock + reqTimeout s) →
          exec (.splRead n i) s = .next (finalize (running n i (enqueue p
            { pkt := ownPkt s 0 1 (splNode w) t 0 [mkW (splAddr w), mkW (splCount w)] } (takeTag t use s)))))
        ∧ (∀ data, starts s 0x51 n i w = true → memReadWords s (join48 (wAt w 6) (wAt w 7)) (splCount w) = some data →
          exec (.splWrite n i) s = .next (finalize (running n i (enqueue p
            { pkt := ownPkt s (if flag (wAt w 4) 17 then 7 else 1) 3 (splNode w) t 0 (mkW (splAddr w) :: data), own := some (n, i) }
            (takeTag t .posted s)))))
        ∧ (starts s 0x52 n i w = true → s.spl.hold = none → use = .used .locked n i s.spl.epoch p (s.clock + reqTimeout s) →
          ∃ u, exec (.splLocked n i) s = .next (finalize (running n i u)) ∧ splTag u t = use
            ∧ u.spl.hold = some { tag := t, node := splNode w, deadline := s.clock + rfld s rSPL_TIMEOUT 16 8 * usClocks }
            ∧ (sport u p).queue = (sport s p).queue ++ [{ pkt := ownPkt s 0 2 (splNode w) t 0 ((lockOps w).flatMap fun k =>
                if flag (wAt w k) 19 then [] else [wAt w k, wAt w (k + 1), wAt w (k + 2)]) }]
            ∧ (∀ q, q ≠ p → sport u q = sport s q) ∧ u.regs = s.regs ∧ u.mem = s.mem ∧ u.rings = s.rings)
        ∧ (∀ keys, starts s 0x53 n i w = true → keySendKeys s w = .ok keys →
          use = .used .key n i s.spl.epoch p (s.clock + reqTimeout s) →
          exec (.splKeySend n i) s = .next (finalize (running n i (enqueue p
            { pkt := ownPkt s 4 9 (splNode w) t 1 [mkW (fld (wAt w 6) 0 22), mkW (keySendAttr s w)] } (takeTag t use s))))))
        ∧ (starts s 0x50 n i w = true → firstHop s (splNode w) = none →
            exec (.splRead n i) s = .next (finalize (finish n i (failRes .remoteErr 3) s)))
        ∧ (starts s 0x51 n i w = true → firstHop s (splNode w) = some p → portUp s p = false →
            exec (.splWrite n i) s = .next (finalize (finish n i lostRes s)))
        ∧ (starts s 0x54 n i w = true → bcastPorts s none = [] →
            exec (.splBcast n i) s = .next (finalize (finish n i (okRes (0xFFF * 2 ^ 24)) s)))
        ∧ (starts s 0x54 n i w = true → bcastPorts s none ≠ [] →
            ∃ u, exec (.splBcast n i) s = .next (finalize (running n i u))
              ∧ splTag u t = .used .bcast n i s.spl.epoch 3 (s.clock + gatherWait s 0)
              ∧ (∀ q, q < 3 → (sport u q).queue = (sport s q).queue ++ if q ∈ bcastPorts s none then
                  [{ pkt := ownPkt s 1 4 0xFFF t 0 [mkW (fld (wAt w 4) 0 18), wAt w 5, wAt w 6] }] else [])
              ∧ u.spl.gathers = s.spl.gathers ++ [{ src := ownNode s, tag := t, epoch := s.spl.epoch, back := none
                                                    awaited := bcastPorts s none, count := 0, fails := 0, low := 0xFFF
                                                    deadline := s.clock + gatherWait s 0 }]
              ∧ u.regs = s.regs ∧ u.mem = s.mem ∧ u.rings = s.rings)

/-- With PD_SPIRE on and, for the host's three, the near bus free: SPL_PORT_ENABLE sets the bit, and a DOWN port that may train is TRAINING in DETECT; SPL_PORT_DISABLE clears it, and the
port is DOWN, the epoch one on when it was ACTIVE or RETRAIN. SPL_RETRAIN_REQUEST puts an ACTIVE port into RETRAIN with its queue and
replay buffer kept, unless it is the fourth in a row; another port it leaves. RECEIVER_DETECT_DONE for the last lane, with a receiver on
any, goes to POLL; before, it records the lane. A training set that asks an ACTIVE port to retrain does so; a good TS1 in POLL raises its
lane's run; an inverted one turns the lane over. SPL_RATE_ACK in RATE records that the PLL runs. -/
def Obligations.PortControlAndTraining : Prop :=
  ∀ (p : Fin 3) (s : State), domOn s dSPIRE = true →
      (busFree s → (sport s p).st = .down → (p.val = 0 ∨ nodeHasId s = true) →
        ∃ u, exec (.splPortEnable p) s = .next (finalize u) ∧ (sport u p).st = .training ∧ (sport u p).step = .detect
          ∧ (sport u p).stepAt = s.clock ∧ rflag u (rSP_CTRL p) 0 = true ∧ (∀ q, q ≠ p.val → sport u q = sport s q)
          ∧ (∀ o, o ≠ rSP_CTRL p → rget u o = rget s o) ∧ u.spl.epoch = s.spl.epoch ∧ u.mem = s.mem ∧ u.raised = s.raised)
        ∧ (busFree s → (sport s p).st ≠ .down → exec (.splPortEnable p) s = .next (finalize (rsetFld (rSP_CTRL p) 0 1 1 (hostTurn s))))
        ∧ (busFree s → ∃ u, exec (.splPortDisable p) s = .next (finalize u) ∧ (sport u p).st = .down ∧ rflag u (rSP_CTRL p) 0 = false
          ∧ u.spl.epoch = (if (sport s p).st = .active ∨ (sport s p).st = .retrain then (s.spl.epoch + 1) % 16 else s.spl.epoch)
          ∧ u.mem = s.mem ∧ u.clock = s.clock)
        ∧ (busFree s → (sport s p).st = .active → (sport s p).retrains < 3 →
          ∃ u, exec (.splRetrainRequest p) s = .next (finalize u) ∧ (sport u p).st = .retrain ∧ (sport u p).step = .poll
            ∧ (sport u p).retrainAt = s.clock ∧ (sport u p).retrains = (sport s p).retrains + 1 ∧ (sport u p).queue = (sport s p).queue
            ∧ (sport u p).replay = (sport s p).replay ∧ (∀ q, q ≠ p.val → sport u q = sport s q) ∧ u.spl.epoch = s.spl.epoch
            ∧ rfld u (rSP_ERR p) 16 8 = satAdd 8 (rfld s (rSP_ERR p) 16 8) 1 ∧ u.mem = s.mem ∧ u.raised = s.raised)
        ∧ (busFree s → (sport s p).st ≠ .active → exec (.splRetrainRequest p) s = .next (finalize (hostTurn s)))
        ∧ (∀ (l : Fin 4) present v, (sport s p).st = .training → (sport s p).step = .detect → (sport s p).stepAt ≤ s.clock →
            v = { sport s p with detDone := (sport s p).detDone ||| 2 ^ l.val
                                 present := setBitsN (sport s p).present l 1 (b2n present) } →
            exec (.receiverDetectDone p l present) s = .next (finalize (setSport p
              (if v.detDone = 15 then (if v.present = 0 then { v with detDone := 0 } else { v with step := .poll, stepAt := s.clock }) else v) s)))
        ∧ (∀ w, (sport s p).st = .active → (sport s p).gen2 = false → (parseTs w).com = 0xBC → (parseTs w).ty = 1 →
            (parseTs w).ids.all (· == 0x4A) = true → (parseTs w).control.testBit 0 = true →
            exec (.trainingSetReceive p w) s = .next (finalize (startRetrain p 1 s)))
        ∧ (∀ w l, (sport s p).st = .training → (sport s p).step = .poll → l = fld (wAt w 0) 0 2 → (sport s p).present.testBit l = true →
            (tsGood (sport s p) (parseTs w) true = true → exec (.trainingSetReceive p w) s =
              .next (finalize (setSport p (setLane l { inv := !(laneOf (sport s p) l).inv } (sport s p)) s)))
            ∧ (tsGood (sport s p) (parseTs w) true = false → tsGood (sport s p) (parseTs w) false = true →
              goodLanes (noteTs l (parseTs w) (sport s p)) = [] → (parseTs w).ty = 1 →
              exec (.trainingSetReceive p w) s = .next (finalize (setSport p (noteTs l (parseTs w) (sport s p)) s))
              ∧ (laneOf (noteTs l (parseTs w) (sport s p)) l).ts1 =
                  min (if (laneOf (sport s p) l).sent = some (parseTs w).lane then (laneOf (sport s p) l).ts1 + 1 else 1) 64
              ∧ (noteTs l (parseTs w) (sport s p)).peerNode = (parseTs w).node))
        ∧ ((sport s p).st = .training → (sport s p).step = .rate →
            exec (.splRateAck p) s = .next (finalize (setSport p { sport s p with rateOk := true } s)))

/-- With PD_SPIRE on: 2 ms in a step before RATE lead back to DETECT, 1 ms later; before that TRAINING_TIMEOUT changes nothing.
LANE_LOCK_CHANGE stores the lock bits; every lane of an ACTIVE port lost starts the 1 µs limit and loses Gen1 framing, some lost retrain it. LOCK_LOSS_TIMEOUT
after 1 µs without lock, and RETRAIN_TIMEOUT 3 ms after a retrain began, take the port down, where it trains again while it may.
GEN2_FRAMING_ERROR retrains a port at Gen2; GEN1_FRAMING_RESYNC restores Gen1 framing. A port going down clears its queue and buffers, and
the epoch steps when it was ACTIVE or RETRAIN. -/
def Obligations.LossesOfLockAndFramingTakeThePortOn : Prop :=
  ∀ (p : Fin 3) (s : State), domOn s dSPIRE = true →
      ((sport s p).st = .training → (sport s p).step ≠ .rate →
        ((sport s p).stepAt + 1000000 ≤ s.clock → exec (.trainingTimeout p) s = .next (finalize (toDetect p (s.clock + 500000) s)))
        ∧ (s.clock < (sport s p).stepAt + 1000000 → exec (.trainingTimeout p) s = .next (finalize s)))
        ∧ (∀ locked : BitVec 4, (sport s p).st = .active → (sport s p).step ≠ .rate → (sport s p).lanesOk &&& locked.toNat = 0 →
            (sport s p).lockLost = none → exec (.laneLockChange p locked) s = .next (finalize (setSport p
              { sport s p with locked := locked.toNat, lockLost := some s.clock
                               framingLost := (sport s p).framingLost || !(sport s p).gen2 } s)))
        ∧ (∀ locked : BitVec 4, (sport s p).st = .active → (sport s p).lanesOk &&& locked.toNat ≠ 0 →
            (sport s p).lanesOk &&& locked.toNat = (sport s p).lanesOk → exec (.laneLockChange p locked) s = .next (finalize (setSport p
              { sport s p with locked := locked.toNat, lockLost := none } s)))
        ∧ (∀ locked : BitVec 4, (sport s p).st = .active → (sport s p).lanesOk &&& locked.toNat ≠ 0 →
            (sport s p).lanesOk &&& locked.toNat < (sport s p).lanesOk → exec (.laneLockChange p locked) s = .next (finalize
              (startRetrain p 5 (setSport p { sport s p with locked := locked.toNat, lockLost := none } s))))
        ∧ (∀ t, (sport s p).lockLost = some t → t + 500 ≤ s.clock → exec (.lockLossTimeout p) s = .next (finalize (linkDown p 1 s)))
        ∧ ((sport s p).st = .retrain → (sport s p).retrainAt + 1500000 ≤ s.clock →
            exec (.retrainTimeout p) s = .next (finalize (linkDown p 2 s)))
        ∧ ((sport s p).gen2 = true → exec (.gen2FramingError p) s = .next (finalize (startRetrain p 3 s)))
        ∧ exec (.gen1FramingResync p) s = .next (finalize (setSport p { sport s p with framingLost := false } s))
        ∧ (∀ cause, (sport s p).st ≠ .down →
            (sport (linkDown p cause s) p).st = (if mayTrain s p then .training else .down)
            ∧ (linkDown p cause s).spl.epoch =
                (if (sport s p).st = .active ∨ (sport s p).st = .retrain then (s.spl.epoch + 1) % 16 else s.spl.epoch)
            ∧ (sport (linkDown p cause s) p).queue = [] ∧ (sport (linkDown p cause s) p).replay = []
            ∧ (linkDown p cause s).mem = s.mem ∧ (linkDown p cause s).clock = s.clock)

/-- On an ACTIVE port with PD_SPIRE on: SPL_PACKET_SEND with a packet picked by VC takes it off the queue, gives it the next SEQ, appends it
to the replay buffer and puts its words on the line, starting in some byte slot of the stream; a sequence number to be resent goes first. ACK of good framing and CRC drops exactly
the packets it acknowledges. REPLAY_TIMEOUT past the limit, fewer than four times in a row, makes every unacknowledged packet one to
resend and counts. ACK_TIMER 200 ns after the last packet sent sends an ACK. PACKET_DISCARD with a bad CRC counts an error, with the
expected SEQ and a bad TYPE accepts and counts BAD_TYPE; with a SUB that its TYPE does not define it accepts alone (log 31). SPL_FORWARD queues an accepted packet for another node on its way on with HOPS
one more. -/
def Obligations.PacketsAreSentAcknowledgedAndReplayed : Prop :=
  ∀ (p : Fin 3) (s : State), domOn s dSPIRE = true → (sport s p).st = .active →
      (∀ q, (sport s p).resend = [] → pickPkt (sport s p) = some q → q.pkt.ty ≠ 10 → q.own = none →
        ∃ u, exec (.splPacketSend p) s = .next (finalize u) ∧ (sport u p).queue = (sport s p).queue.erase q
          ∧ (sport u p).replay = (sport s p).replay ++ [{ seq := (sport s p).txSeq, pkt := q.pkt, fwd := q.from_.isSome }]
          ∧ (sport u p).txSeq = ((sport s p).txSeq + 1) % 4096 ∧ (sport u p).ackDue = false ∧ (sport u p).sentAt = s.clock
          ∧ ((sport s p).txSeq < 4096 → (sport u p).line =
              withCrc (pktWords (sport s p).txSeq (lastAccepted (sport s p)) (sport s p).xoffTx q.pkt))
          ∧ (sport u p).lineAt = Config.freeNat s.draws % 4 ∧ u.draws = s.draws + 1
          ∧ (∀ k, k ≠ p.val → sport u k = sport s k) ∧ u.spl.tags = s.spl.tags ∧ u.rings = s.rings ∧ u.regs = s.regs ∧ u.mem = s.mem)
        ∧ (∀ seq rest r, (sport s p).resend = seq :: rest → (sport s p).replay.find? (fun q => q.seq == seq) = some r →
            exec (.splPacketSend p) s = .next (finalize (onStream p {
              sport s p with
              resend := rest, ackDue := false, sentAt := s.clock, line := withCrc (pktWords seq (lastAccepted (sport s p)) (sport s p).xoffTx r.pkt) } s)))
        ∧ (∀ w oldest d, (sport s p).framingLost = false → (parsePkt w).crcOk = true → (parsePkt w).pkt.ty = 0 →
            oldest = (match (sport s p).replay with | q :: _ => q.seq | [] => (sport s p).txSeq) → d = ((parsePkt w).ack + 4097 - oldest) % 4096 →
            (0 < d → d ≤ (sport s p).replay.length → ∃ u, exec (.ack p w) s = .next (finalize u)
              ∧ (sport u p).replay = (sport s p).replay.drop d ∧ (sport u p).expiries = 0 ∧ (sport u p).retrains = 0
              ∧ (sport u p).xoffRx = (parsePkt w).xoff ∧ (sport u p).queue = (sport s p).queue ∧ (∀ k, k ≠ p.val → sport u k = sport s k)
              ∧ u.regs = s.regs ∧ u.mem = s.mem)
            ∧ (d = 0 → exec (.ack p w) s = .next (finalize (setSport p { sport s p with xoffRx := (parsePkt w).xoff } s))))
        ∧ ((sport s p).replay ≠ [] → (sport s p).replayAt + ceilDiv (rfld s (rSP_REPLAY p) 0 16) 2 ≤ s.clock → (sport s p).expiries < 3 →
            exec (.replayTimeout p) s = .next (finalize (setSport p { sport s p with
              resend := (sport s p).replay.map (fun q => q.seq), replayAt := s.clock, expiries := (sport s p).expiries + 1 }
              (rsat (rSP_ERR p) 8 8 1 s))))
        ∧ ((sport s p).ackDue = true → (sport s p).sentAt + 100 ≤ s.clock → exec (.ackTimer p) s = .next (finalize (onStream p
            { sport s p with
              ackDue := false, sentAt := s.clock
              line := withCrc (pktWords 0 (lastAccepted (sport s p)) (sport s p).xoffTx { vc := 0, ty := 0, dest := 0, src := 0 }) } s)))
        ∧ (∀ w, (sport s p).framingLost = false → (parsePkt w).crcOk = false → (sport s p).crcAt = [] →
            ∃ u, exec (.packetDiscard p w) s = .next (finalize u) ∧ rfld u (rSP_ERR p) 0 8 = satAdd 8 (rfld s (rSP_ERR p) 0 8) 1
              ∧ (sport u p).crcAt = [s.clock] ∧ (sport u p).rxSeq = (sport s p).rxSeq ∧ (sport u p).replay = (sport s p).replay
              ∧ (sport u p).st = .active ∧ (∀ k, k ≠ p.val → sport u k = sport s k) ∧ u.mem = s.mem)
        ∧ (∀ w, (sport s p).framingLost = false → (parsePkt w).crcOk = true → (parsePkt w).pkt.ty ≠ 0 →
            (parsePkt w).seq = (sport s p).rxSeq → rxRoom s p (parsePkt w).pkt = true → typeOk (parsePkt w).pkt = false →
            exec (.packetDiscard p w) s = .next (finalize (cntDrop p 3 (accept p (parsePkt w) s))))
        ∧ (∀ w, acceptable s p (parsePkt w) = true → typeOk (parsePkt w).pkt = true → subOk (parsePkt w).pkt = false →
            route s (parsePkt w).pkt.dest = .here → exec (.packetDiscard p w) s = .next (finalize (accept p (parsePkt w) s)))
        ∧ (∀ w q, acceptable s p (parsePkt w) = true → typeOk (parsePkt w).pkt = true → (parsePkt w).pkt.ty ≠ 4 →
            route s (parsePkt w).pkt.dest = .port q → q ≠ p.val → (parsePkt w).pkt.hops < 14 → portUp s q = true →
            exec (.splForward p w) s = .next (finalize (enqueue q
              { pkt := { (parsePkt w).pkt with hops := (parsePkt w).pkt.hops + 1 }, from_ := some p.val } (accept p (parsePkt w) s))))

/-- A packet that port p accepts for this node (taken) advances the port's receive sequence, and then: RD_REQ, WR and BCAST are served while
the near bus is free and wait in order of arrival while a locked sequence holds it; a LOCK_REQ with the bus free is served, one of another node than the held sequence's waits, one that
crosses the sequence of a node with a lower ID is answered RETRY LOCK. Served, a
RD_REQ whose registers may be read is answered with a CPL OK of their values, one that may not with ACCESS or POWER; a WR writes its words
to ascending addresses; a LOCK_REQ whose operations all pass is answered OK. A CPL OK for an outstanding SPL_READ writes its words to the
buffer, frees the tag and completes it. ERR_NOTICE writes the posted-error log; an EVENT packet raises SP_EVENT with its severity. -/
def Obligations.ReceivedRequestsReachTheNearBus : Prop :=
  ∀ (p : Fin 3) (w : List Word) (k : Pkt) (s a b : State), a = accept p (parsePkt w) s → b = { a with spl := { a.spl with lastFar := true } } →
      (taken p 1 w s = some k →
        (s.spl.hold = none → exec (.rdReq p w) s = .next (finalize (serveBus p k b)))
        ∧ (s.spl.hold ≠ none → exec (.rdReq p w) s = .next (finalize 
          { a with spl := { a.spl with busWait := a.spl.busWait ++ [(p.val, k)] } }))
        ∧ (∀ offs, offs = (List.range (min 338 (fld (wAt k.payload 1) 0 9))).map (fun j => fld (wAt k.payload 0) 0 17 + 4 * j) →
            (farRefusal b offs = none → serveBus p k b = sendOwn (cplPkt (busReads offs b).1 k .ok 0 0 (busReads offs b).2) (busReads offs b).1)
            ∧ ∀ c, farRefusal b offs = some c → serveBus p k b = sendOwn (cplPkt b k .remoteErr c 0 []) b))
        ∧ (taken p 3 w s = some k →
          (s.spl.hold = none → exec (.wr p w) s = .next (finalize (serveBus p k b)))
          ∧ (s.spl.hold ≠ none → exec (.wr p w) s = .next (finalize { a with spl := { a.spl with busWait := a.spl.busWait ++ [(p.val, k)] } }))
          ∧ (∀ v, k.payload.drop 1 = [v] → farRefusal b [fld (wAt k.payload 0) 0 17] = none →
              serveBus p k b = busWrite (fld (wAt k.payload 0) 0 17) v b))
        ∧ (taken p 2 w s = some k →
          (s.spl.hold = none → exec (.lockReq p w) s = .next (finalize (serveBus p k b))
            ∧ ∀ t l m, farRefusal b ((opsIn 4 k.payload).map fun o => o.addr) = none → runOps (opsIn 4 k.payload) 0 b = (t, l, m, none) →
                serveBus p k b = sendOwn (cplPkt t k .ok 0 0 l) t)
          ∧ (∀ h, s.spl.hold = some h → h.node ≠ k.src →
              exec (.lockReq p w) s = .next (finalize { a with spl := { a.spl with busWait := a.spl.busWait ++ [(p.val, k)] } }))
          ∧ (∀ h, s.spl.hold = some h → h.node = k.src → ownNode s < k.src →
              exec (.lockReq p w) s = .next (finalize (sendOwn (cplPkt a k .retry 0x13 0 []) a))))
        ∧ (taken p 4 w s = some k → s.spl.hold = none → exec (.bcast p w) s = .next (finalize (bcastServe p k b)))
        ∧ (∀ n i x l, taken p 5 w s = some k → alarmNow s = false → gatherOf s p k = none → tagDesc s k = some (.read, n, i, x) → fld (wAt k.payload 0) 0 8 = 0 →
            l = (k.payload.drop 1).take (splCount x) → memWrBad s (join48 (wAt x 6) (wAt x 7)) (3 * l.length) = false →
            exec (.cpl p w) s = .next (finalize (endTag k.tag (okRes (3 * l.length)) (stored (join48 (wAt x 6) (wAt x 7)) (wordsBytes l) a))))
        ∧ (taken p 6 w s = some k → exec (.errNotice p w) s = .next (finalize
            (postedErr p k.src k.tag (fld (wAt k.payload 0) 0 17) (fld (wAt k.payload 0) 17 7) a)))
        ∧ (taken p 7 w s = some k → exec (.eventPacket p w) s = .next (finalize (raiseSev (fld (wAt k.payload 0) 9 2) 135 p
            (k.src + fld (wAt k.payload 0) 0 8 * 2 ^ 12 + fld (wAt k.payload 0) 9 2 * 2 ^ 20) a)))
        ∧ (∀ ty, taken p ty w s = some k → (sport a p).rxSeq = ((sport s p).rxSeq + 1) % 4096 ∧ (sport a p).ackDue = true
            ∧ (∀ q, q ≠ p.val → sport a q = sport s q) ∧ a.mem = s.mem ∧ a.rings = s.rings ∧ a.spl.tags = s.spl.tags)

/-- A taken lease record at a node whose PD_PIPE is on writes the mark it names when nothing here stands against it, and is answered. A
confirmation for a lease request of a mirrored association, matching its record, makes the partner's part of the request confirmed or
done. OPEN with fewer than eight nonces open, checks passed and the DRBG up keeps a new nonce with the target's generation and answers;
with a failed check the Dome is as it was. NONCE with a failure status for an outstanding transfer completes it with that status. BLOB
without its nonce is answered AUTH_FAIL and changes no slot. DONE OK completes SPL_KEY_SEND with the generation and KREF of the target. -/
def Obligations.LeaseAndKeyPacketsActOnTheirObject : Prop :=
  ∀ (p : Fin 3) (w : List Word) (k : Pkt) (s a : State), a = accept p (parsePkt w) s →
      (taken p 8 w s = some k → k.sub = 0 → domOn s dPIPE = true → recordResult k.payload a = 0 →
        exec (.leaseRecordReceive p w) s = .next (finalize (sendOwn
          (replyPkt (recordReceive k.src k.payload a).1 k 3 8 1 (recordReceive k.src k.payload a).2) (recordReceive k.src k.payload a).1))
        ∧ mark (recordReceive k.src k.payload a).1 (leaseSecy k.payload) (leaseAn k.payload) =
            { valid := true, sa := leaseSa k.payload
              mark := if (mark s (leaseSecy k.payload) (leaseAn k.payload)).valid
                  && (mark s (leaseSecy k.payload) (leaseAn k.payload)).sa = leaseSa k.payload then
                max (mark s (leaseSecy k.payload) (leaseAn k.payload)).mark (leaseMark k.payload) else leaseMark k.payload }
        ∧ (recordReceive k.src k.payload a).1.assocs = s.assocs ∧ (recordReceive k.src k.payload a).1.mem = s.mem)
        ∧ (taken p 8 w s = some k → k.sub = 1 →
            exec (.partnerLeaseConfirm p w) s = .next (finalize (partnerConfirm k.src k.payload a)))
        ∧ (∀ dk, taken p 9 w s = some k → k.sub = 1 → (openNonces s).length < 8 → s.dome.drbgOk = true →
            farKeyCheck a (fld (wAt k.payload 0) 0 12) (fld (wAt k.payload 0) 12 10) (fld (wAt k.payload 1) 0 10) none = .ok dk →
            ∃ u nonce o, exec (.openPkt p w) s = .next (finalize (sendOwn (replyPkt u k 4 9 2 (0 :: mkW o.gen :: bytesWords 6 nonce)) u))
              ∧ nonce = (List.range 16).map (fun j => Config.drbgByte (s.draws + j)) ∧ u.spl.nonces = openNonces s ++ [o]
              ∧ o.nonce = nonce ∧ o.target = fld (wAt k.payload 0) 0 12 ∧ o.gen = slotGen s (fld (wAt k.payload 0) 0 12) ∧ o.src = k.src
              ∧ o.tag = k.tag ∧ o.since = s.clock ∧ u.dome.slots = s.dome.slots ∧ u.mem = s.mem)
        ∧ (∀ r, taken p 9 w s = some k → k.sub = 1 → (openNonces s).length < 8 →
            farKeyCheck a (fld (wAt k.payload 0) 0 12) (fld (wAt k.payload 0) 12 10) (fld (wAt k.payload 1) 0 10) none = .error r →
            exec (.openPkt p w) s = .next (finalize (keyReply k 2 r (List.replicate 7 0) { a with draws := a.draws + 2 })))
        ∧ (∀ n i x, taken p 9 w s = some k → k.sub = 2 → tagDesc s k = some (.key, n, i, x) → fld (wAt k.payload 0) 0 8 ≠ 0 →
            exec (.nonce p w) s = .next (finalize (endTag k.tag
              { st := codeStatus (fld (wAt k.payload 0) 0 8), reason := fld (wAt k.payload 0) 8 8 } a)))
        ∧ (∀ n i x key dk u, taken p 9 w s = some k → k.sub = 2 → tagDesc s k = some (.key, n, i, x) → fld (wAt k.payload 0) 0 8 = 0 →
            keySendKeys a x = .ok (key, dk) → s.dome.upset = false →
            u = kwWrap true (transferKey dk (ownNode s) (splNode x) (fld (wAt x 6) 0 12) (wAt k.payload 1).toNat (keySendAttr s x)
              ((wordsBytes ((List.range 6).map fun j => wAt k.payload (2 + j))).take 16)) key →
            exec (.nonce p w) s = .next (finalize (sendOwn
              (replyPkt a k 4 9 3 (mkW (key.length + 8) :: bytesWords 14 (fitBytes (key.length + 8) u))) a)))
        ∧ (taken p 9 w s = some k → k.sub = 3 → s.spl.nonces = [] →
            exec (.blob p w) s = .next (finalize (keyReply k 4 (failRes .authFail 0x0D) [0] a)))
        ∧ (∀ o dk, taken p 9 w s = some k → k.sub = 3 → s.spl.nonces = [o] → o.src = k.src → o.tag = k.tag → o.alarm = false →
            farKeyCheck { a with spl := { a.spl with nonces := [] } } o.target o.expGen o.attr (some o.gen) = .ok dk →
            s.clock < o.since + 500000 → s.dome.drbgOk = true → alarmNow s = false → s.dome.upset = false →
            ∃ u r l, exec (.blob p w) s = .next (finalize (keyReply k 4 r l u)) ∧ u.spl.nonces = [] ∧ u.mem = s.mem
              ∧ (∀ j, j ≠ o.target → slot u j = slot s j) ∧ (r.st = .ok → (slot u o.target).st = .loaded
                ∧ (slot u o.target).gen = some (nextGen (slotGen s o.target)) ∧ l = [mkW (slotGen u o.target)])
              ∧ (r.st ≠ .ok → r = failRes .authFail 4 ∧ u.dome.slots = s.dome.slots))
        ∧ (∀ n i x, taken p 9 w s = some k → k.sub = 4 → tagDesc s k = some (.key, n, i, x) → fld (wAt k.payload 0) 0 8 = 0 →
            exec (.done p w) s = .next (finalize (endTag k.tag (okRes ((wAt k.payload 1).toNat
              + slotKref (fld (wAt x 6) 0 12) (wAt k.payload 1).toNat * 2 ^ 24)) a)))

/-- TIME_REQ_TIMER when due, on a port that is up, queues a REQ and sets the next due time one interval on. A taken TIME_REQ queues a RESP
with T2 of the domain named. A taken TIME_RESP that the domain asked for, from a partner with a valid domain, is a sample of the domain. A
taken TEST on a port that checks counts the packet, and an error where its words do not run on. REQUEST_TIMEOUT past the deadline
completes the descriptor with TIMEOUT and parks the tag; LOCK_TIMEOUT past its deadline does so and frees the near bus; before the
deadline they change nothing. GATHER_TIMEOUT ends its gather without the missing subtrees. -/
def Obligations.SpireTimeTestsAndLimits : Prop :=
  ∀ (p : Fin 3) (w : List Word) (x : Pkt) (s a : State), a = accept p (parsePkt w) s →
      (∀ (k : Fin 2) src, src = rfld s (rD_CTRL k) 0 2 → domOn s dTIME = true → domOn s dSPIRE = true → src ≠ 0 → portUp s (src - 1) = true →
        ((timeReqOf s k).nextAt ≤ s.clock → exec (.timeReqTimer k) s = .next (finalize (enqueue (src - 1)
          { pkt := ownPkt s 5 10 0xFFE 0 0 [mkW k.val] }
          (setTimeReq k { timeReqOf s k with sent := false, nextAt := s.clock + intervalClocks s k } s))))
        ∧ (s.clock < (timeReqOf s k).nextAt → exec (.timeReqTimer k) s = .next (finalize s)))
        ∧ (∀ d l, taken p 10 w s = some x → x.sub = 0 → d = b2n (flag (wAt x.payload 0) 0) →
            l = [mkW (d + dstCode (dom s.tmu d).st * 2)] ++ words64 (domTime s d / 256) ++ [0, 0, 0, mkW (domTime s d % 256)] →
            exec (.timeReq p w) s = .next (finalize (enqueue p { pkt := ownPkt a 5 10 0xFFE 0 1 l } a)))
        ∧ (∀ d, taken p 10 w s = some x → x.sub = 1 → d = b2n (flag (wAt x.payload 0) 0) → domOn s dTIME = true →
            rfld s (rD_CTRL d) 0 2 = p.val + 1 → (timeReqOf s d).sent = true → fld (wAt x.payload 0) 1 2 ≠ 0 → (dom s.tmu d).st ≠ .invalid →
            exec (.timeResp p w) s = .next (finalize (applySample d (exchangeOfs (timeReqOf s d).t1Dom
              (w64 x.payload 1 * 256 + fld (wAt x.payload 7) 0 8) (w64 x.payload 4 * 256 + fld (wAt x.payload 7) 8 8) (domTime s d)
              (sgn 24 (rget s (rSP_TIME p)).toNat)) (setTimeReq d { timeReqOf s d with sent := false } a))))
        ∧ (∀ want, taken p 11 w s = some x → rflag s (rSP_TEST p) 1 = true → want = (sport s p).testWant.getD (wAt x.payload 0).toNat →
            ∃ u, exec (.test p w) s = .next (finalize u) ∧ rfld u (rSP_TEST_RX p) 0 24 = satAdd 24 (rfld s (rSP_TEST_RX p) 0 24) 1
              ∧ (sport u p).testWant = testRun want x.payload
              ∧ (testRun want x.payload ≠ none → rget u (rSP_TEST_ERR p) = rget s (rSP_TEST_ERR p))
              ∧ (testRun want x.payload = none → rfld u (rSP_TEST_ERR p) 0 24 = satAdd 24 (rfld s (rSP_TEST_ERR p) 0 24) 1) ∧ u.mem = s.mem)
        ∧ (∀ t use n i e q dl, splTag s t = .used use n i e q dl → use ≠ .bcast → domOn s dSPIRE = true →
            (dl ≤ s.clock → s.spl.hold = none → exec (.requestTimeout t) s = .next (finalize
              (setTag t (.parked (s.clock + 4 * reqTimeout s)) (finishRun n i (failRes .timeout 0) (setTag t .free s)))))
            ∧ (s.clock < dl → exec (.requestTimeout t) s = .next (finalize s)))
        ∧ (∀ h n i e q dl, s.spl.hold = some h → splTag s h.tag = .used .locked n i e q dl →
            (h.deadline ≤ s.clock → ∃ u, exec (.lockTimeout) s = .next (finalize u) ∧ u.spl.hold = none
              ∧ splTag u h.tag = .parked (s.clock + 4 * reqTimeout s) ∧ u.regs = s.regs ∧ u.mem = s.mem)
            ∧ (s.clock < h.deadline → exec (.lockTimeout) s = .next (finalize s)))
        ∧ (∀ g, s.spl.gathers = [g] → domOn s dSPIRE = true →
            (g.deadline ≤ s.clock → exec (.gatherTimeout (4096 * g.src + g.tag)) s = .next (finalize (gatherEnd g (setGathers [] s))))
            ∧ (s.clock < g.deadline → exec (.gatherTimeout (4096 * g.src + g.tag)) s = .next (finalize s)))

/-- A frame presented while its port does not accept changes nothing. An accepted frame counts as received; on a DROP leaf it counts there and
is gone; an exempt EAPOL frame within MAXLEN and the reorder space becomes a whole frame with its own bytes; on a PROTECT leaf of a
protecting SecY, with an IN_USE association within its lease and no switch, launch or Belfry slot, it takes the next PN, NEXT_PN moves on
by one and one item asks for the association's key. EG_FRAME_START of a whole frame at the head of its lane without a launch starts it.
Under COUNT_ONLY a frame with a launch is not held, and a late one is counted as it starts. EG_FRAME_END of a started whole frame puts its
bytes on the MAC interface and counts it; a marked one goes with the error mark and counts as aborted too; an aborted one goes with the
mark, at full length. LAUNCH_RELEASE before the clock that contains the release instant changes nothing, in it starts a ready frame, and
after it, or of a frame late at admission, treats the frame as late. -/
def Obligations.EgressFramesAreAdmittedAndLeave : Prop :=
  ∀ (p : Fin 24) (express : Bool) (l : BitVec 14) (len : Nat) (bytes : List Byte) (launch : Option (BitVec 32)) (err : Bool) (s : State),
    len = l.toNat →
      ((dpRuns s = false ∨ portBlocked s p = true ∨ flag (rget s (rPA_EG_CTRL p)) 0 = false) →
        exec (.egFrameAdmit p express l bytes launch err) s = .next (finalize s))
        ∧ (dpRuns s = true → s.pwr.restoring = false → entering s = false → pipeLeaving s = false → flag (rget s (rPA_EG_CTRL p)) 0 = true →
          portBlocked s p = false → bytes ≠ [] →
          (∀ v, v = parseFrame bytes → v.exhausted = false → v.etype ≠ 0x888E →
            classify s p false (keyVector p (express && flag (rget s (rPA_EG_CTRL p)) 2) launch.isSome bytes v) = .drop →
            exec (.egFrameAdmit p express l bytes launch err) s = .next (finalize { s with
              arr := { s.arr with nextId := s.arr.nextId + 1 }
              plCnt := cntAdd (egKey (pplOf p) 7) 1 (cntAdd (egKey (pplOf p) 1) 1 s.plCnt) }))
          ∧ (∀ v, v = parseFrame bytes → v.exhausted = false → v.etype = 0x888E → v.vlans.length ≤ 2 → flag (rget s (rPA_EG_CTRL p)) 1 = false →
            len ≤ rfld s (rPA_EG_MAXLEN p) 0 14 → ceilDiv (len - 4) 64 ≤ unitsFor s p →
            ∃ u f, exec (.egFrameAdmit p express l bytes launch err) s = .next (finalize u) ∧ egFrame u s.arr.nextId = some f
              ∧ f.st = .whole ∧ f.act = .plain 5 ∧ f.out = fitBytes (len - 4) bytes ∧ f.port = p.val
              ∧ (∀ j, j ≠ s.arr.nextId → egFrame u j = egFrame s j) ∧ u.plCnt = cntAdd (egKey (pplOf p) 1) 1 s.plCnt
              ∧ u.assocs = s.assocs ∧ u.secys = s.secys ∧ u.items = s.items ∧ u.regs = s.regs ∧ u.mem = s.mem)
          ∧ (∀ v y sa, v = parseFrame bytes → v.exhausted = false → v.etype ≠ 0x888E → launch = none →
            classify s p false (keyVector p (express && flag (rget s (rPA_EG_CTRL p)) 2) false bytes v) = .protect y →
            (secy s y).valid = true → secyPort (secy s y) = p.val → secyProtect (secy s y) = true →
            len + tagLenOf (secy s y).settings + 16 ≤ rfld s (rPA_EG_MAXLEN p) 0 14 →
            ceilDiv (len + tagLenOf (secy s y).settings + 16 - 4) 64 ≤ unitsFor s p → armedOf s y = none → encoding s y = some sa →
            (cal s p).running = false → (assoc s sa).state = .inUse → (assoc s sa).spent = false → (assoc s sa).nextPn ≤ (assoc s sa).leaseEnd →
            (assoc s sa).nextPn < (assoc s sa).threshPn → (assoc s sa).nextPn ≠ assocTop s (assoc s sa) → (assoc s sa).belfry = none →
            needsLease s { assoc s sa with nextPn := (assoc s sa).nextPn + 1 } = false →
            ∃ u f x, exec (.egFrameAdmit p express l bytes launch err) s = .next (finalize u)
              ∧ assoc u sa = { assoc s sa with nextPn := (assoc s sa).nextPn + 1 } ∧ (∀ j, j ≠ sa → assoc u j = assoc s j)
              ∧ egFrame u s.arr.nextId = some f ∧ f.pn = (assoc s sa).nextPn ∧ f.sa = sa ∧ f.secy = y ∧ f.st = .cipher ∧ f.bytes = bytes
              ∧ item u s.arr.nextId = some x ∧ x.kind = .eg ∧ x.st = .crossbar ∧ x.hasKeys = false
              ∧ x.reqs = [linkReq (assoc s sa).kref (assoc s sa).label (secySuite (secy s y))] ∧ x.dkey = frameKey sa false
              ∧ u.marks = s.marks ∧ u.secys = s.secys ∧ u.regs = s.regs ∧ u.mem = s.mem))
        ∧ (∀ id f, egFrame s id = some f → dpRuns s = true →
          (f.started = false → egHead s id f = true → f.st = .whole → f.launch = none → ∃ u, exec (.egFrameStart id) s = .next (finalize u)
            ∧ egFrame u id = some { f with started := true } ∧ (∀ j, j ≠ id → egFrame u j = egFrame s j) ∧ u.items = s.items
            ∧ u.plCnt = s.plCnt ∧ u.macOut = s.macOut ∧ u.mem = s.mem)
          ∧ (f.started = false → egHead s id f = true → egReady s id f = true → f.launch ≠ none → f.released = false → latePolicy s f.port = 2 →
            exec (.egFrameStart id) s = .next (finalize (egStart id f (if dueOf s f = .past then noteLate f s else s))))
          ∧ (f.started = true → f.st = .whole → f.abort = none →
            (f.marked = false → exec (.egFrameEnd id) s = .next (finalize
              (egSent f (setMac f { bytes := f.out, err := false } (setItem id none (setEg id none s))))))
            ∧ (f.marked = true → exec (.egFrameEnd id) s = .next (finalize (cntEg f.port 23
              (egSent f (setMac f { bytes := markedBytes f, err := true } (setItem id none (setEg id none s))))))))
          ∧ (∀ c, f.started = true → f.st = .whole → f.abort = some c → 16 ≤ f.out.length → ∃ u l, exec (.egFrameEnd id) s = .next (finalize u)
              ∧ tabGet none u.macOut (laneKey f.port f.express) = some { bytes := l, err := true } ∧ l.length = f.out.length
              ∧ u.plCnt = cntAdd (egKey (pplOf f.port) 23) 1 (cntAdd (egKey (pplOf f.port) c) 1 s.plCnt) ∧ egFrame u id = none
              ∧ u.assocs = s.assocs ∧ u.secys = s.secys ∧ u.mem = s.mem)
          ∧ (∀ r, f.launch.isSome = true → f.started = false → f.released = false → releaseAt s f = some r →
              (wcNs s < r → exec (.launchRelease id) s = .next (finalize s))
              ∧ (r ≤ wcNs s → r ≤ s.tmu.wcWas → exec (.launchRelease id) s = .next (finalize (egLate id f s)))
              ∧ (r ≤ wcNs s → s.tmu.wcWas < r → egHead s id f = true → egReady s id f = true →
                  exec (.launchRelease id) s = .next (finalize (egStart id f s))))
          ∧ (f.launch = some .late → f.started = false → f.released = false →
              exec (.launchRelease id) s = .next (finalize (egLate id f s))))

/-- With an AT_TIME switch armed and PD_PIPE and PD_TIME on, SWITCH_FIRE fires it when the working clock has reached its time, and before that
changes nothing. AON_LEASE_CONFIRM of a lease request that needs no partner raises LEASE_END to the lease's end and records it in the
channel's mark; other associations are as before. MIRROR_CONFIRM_TIMEOUT 100 µs after a record under MIRROR_REQUIRED was sent stalls its
association and has the record resent 20 µs on, or when it already was to be; earlier it changes nothing. LEASE_RECORD_RESEND when due
sends the record again and sets the next time; a record that no link took before counts its 100 µs from here. -/
def Obligations.LeasesAreConfirmedAndSwitchesFire : Prop :=
  ∀ s : State,
      (∀ (y : Fin 512) sa t, armedOf s y = some { target := sa, trigger := .atTime t } → domOn s dPIPE = true → domOn s dTIME = true →
        (t ≤ wcNs s → exec (.switchFire y) s = .next (finalize (fireSwitch y sa 2 s)))
        ∧ (wcNs s < t → exec (.switchFire y) s = .next (finalize s)))
        ∧ (∀ (sa : Fin 8192) a q, assoc s sa = a → a.state ≠ .free → a.mirrored = false → a.req = some q → q.aon = false →
          q.partner = true →
          ∃ u, exec (.aonLeaseConfirm sa) s = .next (finalize u) ∧ (assoc u sa).leaseEnd = max a.leaseEnd q.endPn
            ∧ (assoc u sa).nextPn = a.nextPn ∧ (assoc u sa).state = a.state ∧ (assoc u sa).stalled = false
            ∧ (mark u a.channel a.an).valid = true ∧ (mark u a.channel a.an).sa = sa.val ∧ q.endPn ≤ (mark u a.channel a.an).mark
            ∧ (∀ j, j ≠ sa.val → assoc u j = assoc s j) ∧ (∀ k, k ≠ markKey a.channel a.an → tabGet {} u.marks k = tabGet {} s.marks k)
            ∧ u.secys = s.secys ∧ u.mem = s.mem)
        ∧ (∀ (sa : Fin 8192) a q, assoc s sa = a → tabGet none s.mirrorOps sa = none → a.req = some q → a.mirrored = true →
            q.partner = false → q.sent = true →
          (q.since + 50000 ≤ s.clock → a.best = false → a.stalled = false → ∃ u, exec (.mirrorConfirmTimeout sa) s = .next (finalize u)
            ∧ assoc u sa = { a with stalled := true, req := some { q with
                late := true, cause := 0, resendAt := if q.late then q.resendAt else s.clock + 10000 } }
            ∧ (∀ j, j ≠ sa.val → assoc u j = assoc s j) ∧ u.marks = s.marks ∧ u.secys = s.secys ∧ u.regs = s.regs ∧ u.mem = s.mem)
          ∧ (s.clock < q.since + 50000 → exec (.mirrorConfirmTimeout sa) s = .next (finalize s)))
        ∧ (∀ (sa : Fin 8192) a q, assoc s sa = a → domOn s dPIPE = true → a.state ≠ .free → a.req = some q → a.mirrored = true →
            q.partner = false → q.late = true → q.resendAt ≤ s.clock →
            exec (.leaseRecordResend sa) s = .next (finalize (sendRecord sa a q.endPn
              (setAssoc sa { a with req := some { q with
                resendAt := s.clock + 10000, since := if q.sent then q.since else s.clock, sent := q.sent || mirrorLinkUp s a.partner } } s))))

/-- An item at the crossbar with no higher class that can go is queued at its target tower with its keys' slots as they stand now; with no
tower it stays. A fetch whose keys all resolve gives the item its keys; one that fails records the failure of a slot and fails the item. In RUN, an
active item with keys and no parity upset ends in its tower: an egress frame is whole with its protected bytes, a storage unit, staging,
ingress frame (once the earlier ones of its lane are back) or job goes on to its own end. PARITY_MISMATCH of a healthy unit of the item's tower retires the unit and poisons the item. -/
def Obligations.ItemsPassThroughTheirTower : Prop :=
  ∀ (id : Nat) (x : Item) (s : State), item s id = some x →
      (domOn s dHOST = true → x.st = .crossbar → (s.items.all fun p => match p.2 with
          | some y => !(y.st == .crossbar && decide (y.cls < x.cls) && (target s y).isSome)
          | none => true) = true →
        (∀ t, target s x = some t → ∃ u, exec (.itemDispatch id) s = .next (finalize u)
          ∧ item u id = some { x with st := .queued, tower := t, order := s.arr.nextOrder, takes := x.reqs.map (takeOf s) }
          ∧ (∀ j, j ≠ id → item u j = item s j) ∧ u.arr.nextOrder = s.arr.nextOrder + 1 ∧ u.arr.towers = s.arr.towers
          ∧ u.dome = s.dome ∧ u.regs = s.regs ∧ u.mem = s.mem)
        ∧ (target s x = none → exec (.itemDispatch id) s = .next (finalize s)))
        ∧ (domOn s dDOME = true → s.pwr.remasking = false → x.hasKeys = false → (x.st = .active ∨ x.st = .suspended) →
          (∀ keys, fetchKeys (tower s x.tower) s x.takes = .ok keys → x.kind ≠ .ig → ∃ u, exec (.keyFetchDone id) s = .next (finalize u)
            ∧ item u id = some { x with keys := keys, hasKeys := true } ∧ (∀ j, j ≠ id → item u j = item s j)
            ∧ u.dome.slots = s.dome.slots ∧ u.egFrames = s.egFrames ∧ u.mem = s.mem)
          ∧ (∀ i r, fetchKeys (tower s x.tower) s x.takes = .error (i, r) →
            exec (.keyFetchDone id) s = .next (finalize (itemFail id r (match i with | some j => fetchFail x.tower j r s | none => s)))))
        ∧ (x.st = .active → x.hasKeys = true → s.pwr.state = .run → badKey s x.tower x = none →
          (∀ f, x.kind = .eg → egFrame s id = some f → exec (.towerItemDone id) s = .next (finalize
            (setItem id none (setEg id (some { f with st := .whole, out := egProtect f (x.keys.headD []) }) s))))
          ∧ (∀ b, x.kind = .staging b → ∃ u, exec (.towerItemDone id) s = .next (finalize u) ∧ item u id = none
            ∧ bslot u b = { bslot s b with st := .ready, gen := (x.takes.head?.map Take.gen).getD 0, key := x.keys.headD [] }
            ∧ (∀ k, k ≠ b → bslot u k = bslot s k) ∧ rfld u rBELFRY_STAGED 0 24 = satAdd 24 (rfld s rBELFRY_STAGED 0 24) 1
            ∧ u.assocs = s.assocs ∧ u.mem = s.mem)
          ∧ (∀ f, x.kind = .ig → igFrame s id = some f → (igBehind s id f = false →
            exec (.towerItemDone id) s = .next (finalize (igTowerDone id f (x.keys.headD []) (setItem id none s))))
            ∧ (igBehind s id f = true → exec (.towerItemDone id) s = .next (finalize s)))
          ∧ (x.kind = .unit → exec (.towerItemDone id) s = .next (finalize (unitDone id x.keys s)))
          ∧ (∀ n i, x.kind = .job n i → exec (.towerItemDone id) s = .next (finalize (jobDone id n i x.keys s))))
        ∧ (∀ (t : Fin 8) (u : Fin 9) f, x.st = .active → x.tower = t.val → x.hasKeys = true → s.pwr.state = .run → x.kind = .eg →
            egFrame s id = some f → f.started = false → (healthy (tower s t) false).contains u.val = true →
            ∃ v, exec (.parityMismatch t false u id) s = .next (finalize v) ∧ (tower v t).coreBad = (tower s t).coreBad + 2 ^ u.val
              ∧ (∀ k, k ≠ t.val → tower v k = tower s k) ∧ egFrame v id = none ∧ item v id = none
              ∧ v.plCnt = cntAdd (egKey (pplOf f.port) 16) 1 s.plCnt ∧ v.assocs = s.assocs ∧ v.dome = s.dome ∧ v.mem = s.mem)

/-- KNOWN_ANSWER_TEST_DONE PASS of the unit under test ends its test; FAIL retires the unit; for another unit it changes nothing. PASS of a
unit's start-up test ends that one, and with the last one the tower starts. ROLLING_TEST_STEP, PERIOD ms after the one before, puts the
next healthy unit of each kind of a tower in service out and has it tested, and leaves a tower out of service; earlier it does nothing.
STAGING_START of a slot that is due, with its tokens, makes the slot STAGING for the association's next PN with a new item; without tokens
it raises TW_STAGE_STARVED. STAGING_RAISE less than 1 µs before launch raises the item to class C0. CAL_INSTANCE_PASS once the launch time
of the first instance is reached moves on to the next and counts an unclaimed one; before, it changes nothing. RETURN_QUEUE_SEND sends the
oldest frame and counts it. -/
def Obligations.RollingTestsStagingAndCalendarInstances : Prop :=
  ∀ s : State,
      (∀ (t : Fin 8) (gh : Bool) (u : Fin 9), domOn s (twDomain t) = true → (tower s t).started = true →
        (tower s t).kat.testBit (unitBit gh u) = false →
        ((if gh then (tower s t).testGh && (tower s t).outGh == u.val else (tower s t).testCore && (tower s t).outCore == u.val) = true →
          exec (.knownAnswerTestDone t gh u true) s = .next (finalize (setTower t
            (if gh then { tower s t with testGh := false } else { tower s t with testCore := false }) s))
          ∧ (gh = false → (tower s t).coreBad.testBit u = false → ∃ v, exec (.knownAnswerTestDone t gh u false) s = .next (finalize v)
            ∧ (tower v t).coreBad = (tower s t).coreBad + 2 ^ u.val ∧ (∀ k, k ≠ t.val → tower v k = tower s k)
            ∧ v.items = s.items ∧ v.dome = s.dome ∧ v.mem = s.mem)
          ∧ (gh = true → (tower s t).ghBad.testBit u = false → ∃ v, exec (.knownAnswerTestDone t gh u false) s = .next (finalize v)
            ∧ (tower v t).ghBad = (tower s t).ghBad + 2 ^ u.val ∧ (∀ k, k ≠ t.val → tower v k = tower s k)
            ∧ v.items = s.items ∧ v.dome = s.dome ∧ v.mem = s.mem))
        ∧ (∀ pass, (if gh then (tower s t).testGh && (tower s t).outGh == u.val else (tower s t).testCore && (tower s t).outCore == u.val) = false →
          exec (.knownAnswerTestDone t gh u pass) s = .next (finalize s)))
        ∧ (∀ (t : Fin 8) (gh : Bool) (u : Fin 9), domOn s (twDomain t) = true → (tower s t).kat.testBit (unitBit gh u) = true →
          ∃ v, exec (.knownAnswerTestDone t gh u true) s = .next (finalize v) ∧ (tower v t).kat = (tower s t).kat - 2 ^ unitBit gh u
            ∧ (tower v t).started = ((tower s t).started || (tower v t).kat == 0) ∧ (tower v t).coreBad = (tower s t).coreBad
            ∧ (tower v t).ghBad = (tower s t).ghBad ∧ (∀ k, k ≠ t.val → tower v k = tower s k) ∧ v.items = s.items ∧ v.dome = s.dome
            ∧ v.mem = s.mem)
        ∧ (domOn s dHOST = true → testDue s = true → ∃ v, exec .rollingTestStep s = .next (finalize v) ∧ v.arr.testAt = s.clock ∧ v.items = s.items ∧ v.dome = s.dome ∧ v.regs = s.regs
          ∧ v.mem = s.mem ∧ ∀ t, t < 8 → tower v t = (if inService s t then
              { tower s t with outCore := nextUnit (tower s t) false (tower s t).outCore, outGh := nextUnit (tower s t) true (tower s t).outGh
                               testCore := true, testGh := true } else tower s t))
        ∧ (testDue s = false → exec .rollingTestStep s = .next (finalize s))
        ∧ (∀ (i : Fin 512) sa y, (bslot s i).sa = some sa → y = secy s (assoc s sa).channel → domOn s dPIPE = true → domOn s dHOST = true →
            (assoc s sa).state = .inUse → (bslot s i).st = .empty → (bslot s i).barred = false →
            (∀ t, nextLaunch s (secyPort y) (assoc s sa).channel = some t → t ≤ wcNs s + rfld s rBELFRY_CTRL 0 16) →
            (tokensNow s < stageCost y * 500 → exec (.stagingStart i) s = .next (finalize (raise 79 (pplOf (secyPort y)) i s)))
            ∧ (stageCost y * 500 ≤ tokensNow s → ∃ v x, exec (.stagingStart i) s = .next (finalize v)
              ∧ (bslot v i).st = .staging s.arr.nextId ∧ (bslot v i).pn = (assoc s sa).nextPn ∧ (bslot v i).sa = some sa
              ∧ item v s.arr.nextId = some x ∧ x.kind = .staging i ∧ x.cls = 1 ∧ x.reqs = [linkReq (assoc s sa).kref (assoc s sa).label (secySuite y)]
              ∧ v.arr.tokens = tokensNow s - stageCost y * 500 ∧ (∀ k, k ≠ i.val → bslot v k = bslot s k)
              ∧ v.assocs = s.assocs ∧ v.regs = s.regs ∧ v.mem = s.mem))
        ∧ (∀ (i : Fin 512) sa id x t, (bslot s i).sa = some sa → (bslot s i).st = .staging id → item s id = some x →
            nextLaunch s (secyPort (secy s (assoc s sa).channel)) (assoc s sa).channel = some t →
            exec (.stagingRaise i) s = .next (finalize (if t < wcNs s + 1000 then setItem id (some { x with cls := 0 }) s else s)))
        ∧ (∀ p : Fin 24, domOn s dTIME = true → (cal s p).running = true → (activeBank (cal s p)).entries ≠ [] →
            (launchOf s p (cal s p).seen ≤ wcNs s → ∃ v, exec (.calInstancePass p) s = .next (finalize v)
              ∧ cal v p = { cal s p with seen := (cal s p).seen + 1, claimed := (cal s p).claimed.filter fun m => m != (cal s p).seen }
              ∧ (∀ q, q ≠ p.val → cal v q = cal s q) ∧ ((cal s p).claimed.contains (cal s p).seen = true → v.regs = s.regs)
              ∧ ((cal s p).claimed.contains (cal s p).seen = false →
                  rfld v (rP_CAL_UNUSED p) 0 24 = satAdd 24 (rfld s (rP_CAL_UNUSED p) 0 24) 1)
              ∧ v.egFrames = s.egFrames ∧ v.mem = s.mem)
            ∧ (wcNs s < launchOf s p (cal s p).seen → exec (.calInstancePass p) s = .next (finalize s)))
        ∧ (∀ (k : Fin 4) f rest, (ppl s k).retQ = f :: rest → dpRuns s = true → ∃ v, exec (.returnQueueSend k) s = .next (finalize v)
            ∧ ppl v k = { ppl s k with retQ := rest } ∧ tabGet none v.retOut k = some f ∧ (∀ j, j ≠ k.val → ppl v j = ppl s j)
            ∧ v.plCnt = cntAdd (egKey (pplOf f.port) 6) 1 s.plCnt ∧ v.egFrames = s.egFrames ∧ v.mem = s.mem)

/-- While the pipelines do not run, a received frame changes nothing. On a disabled port it counts as received and disabled. On an
uncontrolled port it is decided with its bytes without the FCS. A frame without SecTAG on a controlled port, with a default SecY that is
not strict, is decided as untagged. SLT_LEARN_STEP takes the oldest frame that waits; with room and within the limits its pair becomes
PENDING and the frame is dropped as unknown. HOLD_LIMIT_EXPIRE past the limit drops a frame whose verification is missing, or aborts
it where some of it has left; up to the limit it changes nothing. IG_FRAME_RELEASE of a decided frame at the head of its lane with a good outcome puts it on the switch-core interface and
charges its counters. -/
def Obligations.IngressFramesAreCheckedHeldAndReleased : Prop :=
  ∀ (p : Fin 24) (express : Bool) (bytes : List Byte) (status : Fin 4) (ts : BitVec 40) (s : State),
      (dpRuns s = false → exec (.igFrameReceive p express bytes status ts) s = .next (finalize s))
        ∧ (dpRuns s = true → s.pwr.restoring = false → pipeLeaving s = false → bytes ≠ [] →
          (flag (rget s (rPA_IG_CTRL p)) 0 = false → exec (.igFrameReceive p express bytes status ts) s = .next (finalize
            { s with plCnt := cntAdd (igKey (pplOf p) 8) 1 (cntAdd (igKey (pplOf p) 1) 1 s.plCnt) }))
          ∧ (flag (rget s (rPA_IG_CTRL p)) 0 = true → entering s = false → 0 < cellsFor s p →
            endOutcome (cellsFor s p) (rfld s (rPA_IG_MAXLEN p) 0 14) bytes.length status = none →
            (flag (rget s (rPA_IG_CTRL p)) 1 = true → ∃ u f, exec (.igFrameReceive p express bytes status ts) s = .next (finalize u)
              ∧ igFrame u s.arr.nextId = some f ∧ f.st = .decided ∧ f.outcome = 7 ∧ f.out = bytes.take (bytes.length - 4) ∧ f.port = p.val
              ∧ (∀ j, j ≠ s.arr.nextId → igFrame u j = igFrame s j) ∧ u.plCnt = cntAdd (igKey (pplOf p) 1) 1 s.plCnt
              ∧ u.rxscs = s.rxscs ∧ u.assocs = s.assocs ∧ u.mem = s.mem)
            ∧ (∀ y l, flag (rget s (rPA_IG_CTRL p)) 1 = false → l = bytes.take (bytes.length - 4) → etypeAt l (clearTags l 2) ≠ some 0x888E →
              etypeAt l (clearTags l (portClear s p)) ≠ some 0x88E5 →
              (∀ k, k < 4 → rflag s (rPA_IG_BYPASS p k) 16 = false) → defaultSecy s p = some y → validateOf (secy s y).settings ≠ 2 →
              ∃ u f, exec (.igFrameReceive p express bytes status ts) s = .next (finalize u)
              ∧ igFrame u s.arr.nextId = some f ∧ f.st = .decided ∧ f.outcome = 4 ∧ f.out = l ∧ f.secy = some y
              ∧ (∀ j, j ≠ s.arr.nextId → igFrame u j = igFrame s j) ∧ u.rxscs = s.rxscs ∧ u.assocs = s.assocs ∧ u.mem = s.mem)))
        ∧ (∀ (k : Fin 4) id rest f t, (ppl s k).learnQ = id :: rest → dpRuns s = true → igFrame s id = some f → f.started = false →
            sltFind (ppl s k).active f.port f.sci = none → pairStaged s f.port f.sci = false → pplOf f.port = k.val → (ppl s k).shSt = .empty →
            portPending s f.port < rfld s (rPA_IG_LEARN f.port) 0 7 → pplPending s k < rfld s (rPPL_IG_LEARN k) 0 12 →
            sltInsert (ppl s k).active { port := f.port, sci := f.sci, st := .pending, epoch := (ppl s k).epoch } = some t →
            ∃ u, exec (.sltLearnStep k) s = .next (finalize u) ∧ (ppl u k).active = t ∧ (ppl u k).learnQ = rest.filter (fun j => j != id)
              ∧ igFrame u id = none ∧ u.plCnt = cntAdd (igKey k 14) 1 (cntAdd (igKey k 24) 1 s.plCnt) ∧ u.rxscs = s.rxscs ∧ u.mem = s.mem)
        ∧ (∀ id f, igFrame s id = some f → dpRuns s = true → f.st = .cipher →
            (s.clock ≤ f.since + rfld s (rPPL_IG_HOLD (pplOf f.port)) 0 8 * 500 → exec (.holdLimitExpire id) s = .next (finalize s))
            ∧ (f.since + rfld s (rPPL_IG_HOLD (pplOf f.port)) 0 8 * 500 < s.clock →
              ∃ u, exec (.holdLimitExpire id) s = .next (finalize u) ∧ igFrame u id = none ∧ item u id = none
                ∧ u.plCnt = (if f.started then cntAdd (igKey (pplOf f.port) 26) 1 (cntAdd (igKey (pplOf f.port) 22) 1 s.plCnt)
                    else cntAdd (igKey (pplOf f.port) 22) 1 s.plCnt)
                ∧ (f.started = true → (tabGet none u.coreOut (laneKey f.port f.express)).any (fun o => o.abort) = true) ∧ u.rxscs = s.rxscs ∧ u.assocs = s.assocs ∧ u.mem = s.mem))
        ∧ (∀ id f, igFrame s id = some f → dpRuns s = true → f.st = .decided → igHead s id f = true → f.outcome ≤ 7 →
            ∃ u, exec (.igFrameRelease id) s = .next (finalize u) ∧ igFrame u id = none
              ∧ tabGet none u.coreOut (laneKey f.port f.express) = some { bytes := f.out, ts := f.ts, info := igInfo f f.outcome, abort := false }
              ∧ (∀ j, j ≠ id → igFrame u j = igFrame s j) ∧ u.plCnt = cntAdd (igKey (pplOf f.port) f.outcome) 1 (if f.cut && !f.started then
                  cntAdd (igKey (pplOf f.port) 25) 1 s.plCnt else s.plCnt) ∧ u.mem = s.mem)

/-- With the pipelines running and a sweep due, SLT_AGING_SWEEP turns the pipeline's epoch over and visits the entries; with none due, or the
pipelines stopped, it changes nothing. A visit to an entry with the sweep's epoch changes nothing; to one hit in this clock it only notes
the epoch; to one that was hit before it clears its AGE; to a BOUND entry not hit, on a port that does not disable, it marks entry and
channel IDLE; to another entry not hit that no staged member binds it removes it. SLT_SCRUB's first step makes the failed entry absent,
notes its channel, counts the scrub; the end of the scrub of an entry that was not BOUND records its place in PPL_IG_PARITY; at a place
without an entry or a scrub it changes nothing. -/
def Obligations.TheSciTableAgesAndIsScrubbed : Prop :=
  ∀ (k : Fin 4) (s : State),
      (dpRuns s = true → sweepDue k s = true → exec (.sltAgingSweep k) s = .next (finalize
          (((sltList (ppl s k).active).map Prod.snd).foldl (sweepVisit k)
            (setPpl k { ppl s k with epoch := !(ppl s k).epoch, sweptAt := s.clock + 1 } s))))
        ∧ (dpRuns s = false ∨ sweepDue k s = false → exec (.sltAgingSweep k) s = .next (finalize s))
        ∧ (∀ x l e, sltFind (ppl s k).active x.port x.sci = some (l, e) →
          (e.epoch = (ppl s k).epoch → sweepVisit k s x = s) ∧ (e.epoch ≠ (ppl s k).epoch →
          (e.hitAt = s.clock + 1 → sltAt (ppl (sweepVisit k s x) k).active l = some { e with epoch := (ppl s k).epoch })
          ∧ (e.hitAt ≠ s.clock + 1 → e.age = true → sltAt (ppl (sweepVisit k s x) k).active l = some { e with age := false, epoch := (ppl s k).epoch }
            ∧ (∀ j, j ≠ l → sltAt (ppl (sweepVisit k s x) k).active j = sltAt (ppl s k).active j)
            ∧ (sweepVisit k s x).rxscs = s.rxscs ∧ (sweepVisit k s x).mem = s.mem)
          ∧ (e.hitAt ≠ s.clock + 1 → e.age = false → e.st = .bound → rflag s (rPA_IG_CTRL e.port) 4 = false →
            sltAt (ppl (sweepVisit k s x) k).active l = some { e with idle := true, epoch := (ppl s k).epoch }
            ∧ rxsc (sweepVisit k s x) e.rxsc = { rxsc s e.rxsc with idle := true }
            ∧ (∀ c, c ≠ e.rxsc → rxsc (sweepVisit k s x) c = rxsc s c) ∧ (sweepVisit k s x).mem = s.mem)
          ∧ (e.hitAt ≠ s.clock + 1 → e.age = false → e.st ≠ .bound → pairStaged s e.port e.sci = false →
            sweepVisit k s x = bothSlt k (sltDrop e.port e.sci) s)))
        ∧ (∀ loc e, sltAt (ppl s k).active loc = some e → loc < 2 ^ 13 → dpRuns s = true → e.st ≠ .reserved →
            (∃ u, exec (.sltScrub k ⟨false, false⟩ loc) s = .next (finalize u)
              ∧ ppl u k = { ppl s k with active := sltRemove loc (ppl s k).active
                                         shadow := if mirrors (ppl s k) then sltDrop e.port e.sci (ppl s k).shadow else (ppl s k).shadow
                                         scrubs := (ppl s k).scrubs ++ [{ shadow := false, loc := loc, rxsc :=
                                           if e.st = .bound && (rxsc s e.rxsc).valid then some e.rxsc else none }] }
              ∧ (∀ j, j ≠ k.val → ppl u j = ppl s j) ∧ u.plCnt = cntAdd (igKey k 27) 1 s.plCnt ∧ u.regs = s.regs ∧ u.rxscs = s.rxscs
              ∧ u.mem = s.mem)
            ∧ (e.st ≠ .bound → ((ppl s k).scrubs.any fun b => b.shadow == false && b.loc == loc) = false →
              ∃ u, exec (.sltScrub k ⟨false, true⟩ loc) s = .next (finalize u)
                ∧ ppl u k = { ppl s k with active := sltRemove loc (ppl s k).active
                                           shadow := if mirrors (ppl s k) then sltDrop e.port e.sci (ppl s k).shadow else (ppl s k).shadow }
                ∧ (∀ j, j ≠ k.val → ppl u j = ppl s j) ∧ u.plCnt = cntAdd (igKey k 27) 1 s.plCnt ∧ rfld u (rPPL_IG_PARITY k) 0 13 = loc
                ∧ rfld u (rPPL_IG_PARITY k) 16 8 = satAdd 8 (rfld s (rPPL_IG_PARITY k) 16 8) 1 ∧ u.rxscs = s.rxscs ∧ u.mem = s.mem))
        ∧ (∀ loc shadow done, sltAt (if shadow then (ppl s k).shadow else (ppl s k).active) loc = none →
            ((ppl s k).scrubs.any fun b => b.shadow == shadow && b.loc == loc) = false →
            exec (.sltScrub k ⟨shadow, done⟩ loc) s = .next (finalize s))

/-- On a ready channel with no request held: a STC_REQUEST whose TAG is outstanding is held; one that passes every check appends its transfer
with the entry it took; one that fails appends it as failed from its first data unit on. While the channels do not run STC_DATA_IN changes
nothing; of a plain transfer it keeps the bytes up to LEN and counts them; of an encrypted one, exactly one data unit of bytes becomes one
new item. STC_TRANSFER_COMPLETE of a plain transfer whose data is all in returns its bytes with status OK, counts it and removes it;
before its last beat it changes nothing. -/
def Obligations.StorageTransfersAreAcceptedCutAndReturned : Prop :=
  ∀ (c : Fin 2) (s : State),
      (∀ (tag : Fin 32) fromDev ce (cfg : Fin 128) (dun : BitVec 64) (len : Word) q, stcReady s c = true → (stc s c).tagWait = none →
        q = { tag := tag.val, fromDev := fromDev, ce := ce, cfg := cfg.val, dun := dun.toNat, len := len.toNat : StcReq } →
        (tagBusy s c tag = true → exec (.stcRequest c tag fromDev ce cfg dun len) s = .next (finalize (setStc c { stc s c with tagWait := some q } s)))
        ∧ (∀ x, tagBusy s c tag = false → ce = false → stcCheck s c q {} = none →
            x = { tag := tag.val, fromDev := fromDev, ce := false, cfg := cfg.val, dun := dun.toNat, len := len.toNat : StcXfer } →
            exec (.stcRequest c tag fromDev ce cfg dun len) s = .next (finalize (setStc c { stc s c with xfers := (stc s c).xfers ++ [x] } s)))
        ∧ (tagBusy s c tag = false → ce = true → stcCheck s c q (stcCfg s c cfg) = none → stcKeys s (stcCfg s c cfg) = none →
            ∃ u x, exec (.stcRequest c tag fromDev ce cfg dun len) s = .next (finalize u) ∧ (stc u c).xfers = (stc s c).xfers ++ [x]
              ∧ x.tag = tag.val ∧ x.ce = true ∧ x.entry = stcCfg s c cfg ∧ x.len = len.toNat ∧ x.dun = dun.toNat ∧ x.fail = none
              ∧ stcCfg u c cfg = { stcCfg s c cfg with lost := false } ∧ (∀ d, d ≠ c.val → stc u d = stc s d)
              ∧ u.dome.slots = s.dome.slots ∧ u.mem = s.mem)
        ∧ (∀ r, tagBusy s c tag = false → stcCheck s c q (if ce then stcCfg s c cfg else {}) = some r →
            ∃ x, exec (.stcRequest c tag fromDev ce cfg dun len) s = .next (finalize (setStc c { stc s c with xfers := (stc s c).xfers ++ [x] } s))
              ∧ x.tag = tag.val ∧ x.fail = some (r, 0)))
        ∧ (∀ fromDev bytes last, stcRuns s = false → exec (.stcDataIn c fromDev bytes last) s = .next (finalize s))
        ∧ (∀ fromDev bytes x, stcRuns s = true → (stc s c).xfers = [x] → x.fromDev = fromDev → x.last = false → x.ce = false →
            exec (.stcDataIn c fromDev bytes false) s = .next (finalize (setStc c { stc s c with xfers :=
              [{ x with buf := x.buf ++ bytes.take (x.len - x.got), got := x.got + bytes.length
                        since := if x.buf.length < 16 then s.clock else x.since }] } s)))
        ∧ (∀ fromDev bytes x, stcRuns s = true → (stc s c).xfers = [x] → x.fromDev = fromDev → x.last = false → x.ce = true → x.fail = none →
            x.buf = [] → bytes.length = dusOf x.entry → x.got + bytes.length ≤ x.len →
            ∃ u, exec (.stcDataIn c fromDev bytes false) s = .next (finalize u) ∧ item u s.arr.nextId = some (unitItem c x)
              ∧ (stc u c).xfers = [{ x with units := x.units ++ [{ id := s.arr.nextId, data := bytes, since := s.clock }]
                                            got := x.got + bytes.length, since := s.clock }]
              ∧ (∀ j, j ≠ s.arr.nextId → item u j = item s j) ∧ u.dome = s.dome ∧ u.mem = s.mem)
        ∧ (∀ fromDev x, stcRuns s = true → (stc s c).xfers = [x] → x.fromDev = fromDev → x.ce = false → x.fail = none → x.units = [] →
            (stc s c).tagWait = none →
            (x.last = true → ∃ u, exec (.stcTransferComplete c fromDev) s = .next (finalize u) ∧ (stc u c).xfers = []
              ∧ (if fromDev then (stc u c).out1 else (stc u c).out0) = some { tag := x.tag, status := 0, bytes := fitBytes x.len x.buf }
              ∧ rfld u (rSTC_XFER_OK c) 0 24 = satAdd 24 (rfld s (rSTC_XFER_OK c) 0 24) 1 ∧ u.items = s.items ∧ u.dome = s.dome ∧ u.mem = s.mem)
            ∧ (x.last = false → exec (.stcTransferComplete c fromDev) s = .next (finalize s)))

/-- With PD_DOME on: DRBG_HEALTH_FAIL of an instantiated DRBG takes it down for a restart (which test failed is free: assumption log 5);
DRBG_RESTART_DONE PASS brings it back, FAIL counts, and the fourth in a row leaves it down; DRBG_STARTUP_DONE PASS instantiates it.
REMASK_DONE after a wake, with the DRBG up and no disturbance, ends the re-masking. PRECEDING_KEY_RELEASE drops the first held key that no
item awaits; with none it changes nothing. Slots and host memory are as before throughout. -/
def Obligations.TheDomesGeneratorAndHeldKeys : Prop :=
  ∀ s : State, domOn s dDOME = true →
      (s.dome.drbgOk = true → ∃ u, exec .drbgHealthFail s = .next (finalize u) ∧ u.dome = { s.dome with drbgOk := false, drbgRetry := true, drbgFails := 0 }
          ∧ rfld u rDOM_DRBG 16 8 = satAdd 8 (rfld s rDOM_DRBG 16 8) 1 ∧ u.mem = s.mem ∧ u.tmu = s.tmu)
        ∧ (s.dome.drbgOk = false → exec .drbgHealthFail s = .next (finalize s))
        ∧ (s.dome.drbgRetry = true →
          exec (.drbgRestartDone true) s = .next (finalize (raise 98 0 (s.dome.drbgFails + 1)
            { s with dome := { s.dome with drbgOk := true, drbgRetry := false, drbgFails := 0 } }))
          ∧ ∃ u, exec (.drbgRestartDone false) s = .next (finalize u) ∧ u.dome = { s.dome with
              drbgFails := s.dome.drbgFails + 1, drbgRetry := decide (s.dome.drbgFails < 3), drbgDown := decide (3 ≤ s.dome.drbgFails) }
            ∧ u.mem = s.mem ∧ u.tmu = s.tmu)
        ∧ (s.dome.drbgOk = false → s.dome.drbgRetry = false → s.dome.drbgDown = false → s.pwr.remasking = false →
            exec (.drbgStartupDone true) s = .next (finalize (drbgCountFree { s with dome := { s.dome with drbgOk := true, drbgFails := 0, drbgCalls := 0 } })))
        ∧ (s.pwr.remasking = true → s.dome.drbgOk = true → s.dome.upset = false →
            exec .remaskDone s = .next (finalize (remaskSlots { s with pwr := { s.pwr with remasking := false } })))
        ∧ (tabWf {} s.dome.slots = true → ∀ i, slot (remaskSlots s) i = { slot s i with share := (slot (remaskSlots s) i).share })
        ∧ (s.pwr.remasking = false → exec .remaskDone s = .next (finalize s))
        ∧ (∀ h rest, s.dome.held = h :: rest → holdNeeded s h.slot h.gen = false → ∃ u, exec .precedingKeyRelease s = .next (finalize u)
            ∧ u.dome.held = s.dome.held.filter (fun g => g != h) ∧ u.dome.slots = s.dome.slots ∧ u.items = s.items ∧ u.rings = s.rings ∧ u.mem = s.mem)
        ∧ (s.dome.held = [] → exec .precedingKeyRelease s = .next (finalize s))

/-- With PD_TIME on: LC_HALFWRAP when due raises TM_HALFWRAP and is due no more. SAMPLE_LOSS_EXPIRE of a LOCKED domain whose limit has passed
makes it HOLDOVER with its time and rate kept, and before the limit changes nothing. SLEW_DONE once the working clock equals its source
ends the slew. CYC_SYNC_EDGE of the other edge, or with cycle sync off, changes nothing; a second one in one interval does not count.
CYC_PULL_APPLY applies the first waiting pull at its boundary and not before. CYC_SYNC_LOST after eight cycles without an edge is reported
once. SYNC CLEAR puts a pull to zero in the queue for 4 µs on. LC and the calendars are as before. The timestamp bus carries LC plus TX_DELAY and
LC minus RX_DELAY for each port, and 0 while PD_TIME is off. -/
def Obligations.TimeEventsActOnTheTimeUnit : Prop :=
  ∀ s : State, domOn s dTIME = true →
      (s.tmu.halfDue = true → exec .lcHalfwrap s = .next (finalize (raise 122 0 (bitsN (lcNs s) 31 24)
          { s with tmu := { s.tmu with halfDue := false } })))
        ∧ (s.tmu.halfDue = false → exec .lcHalfwrap s = .next (finalize s))
        ∧ (∀ k : Fin 2, (dom s.tmu k).st = .locked →
          ((dom s.tmu k).lossAt < s.clock → ∃ u, exec (.sampleLossExpire k) s = .next (finalize u)
            ∧ dom u.tmu k = { dom s.tmu k with st := .holdover } ∧ dom u.tmu (1 - k.val) = dom s.tmu (1 - k.val) ∧ u.tmu.lc = s.tmu.lc
            ∧ u.tmu.cals = s.tmu.cals ∧ (s.tmu.sel ≠ k.val → u.tmu.wc = s.tmu.wc ∧ u.tmu.src = s.tmu.src) ∧ u.regs = s.regs ∧ u.mem = s.mem)
          ∧ (s.clock ≤ (dom s.tmu k).lossAt → exec (.sampleLossExpire k) s = .next (finalize s)))
        ∧ (s.tmu.slewing = true → s.tmu.wc = srcTime s.tmu s.tmu.src →
            exec .slewDone s = .next (finalize (raise 126 0 0 { s with tmu := { s.tmu with slewing := false } })))
        ∧ (s.tmu.wc ≠ srcTime s.tmu s.tmu.src → exec .slewDone s = .next (finalize s))
        ∧ (∀ falling, (rflag s rSYNC_CTRL 0 = false ∨ rflag s rSYNC_CTRL 1 ≠ falling ∨ refPort s = none) →
            exec (.cycSyncEdge falling) s = .next (finalize s))
        ∧ (∀ falling r b k e0 e, rflag s rSYNC_CTRL 0 = true → rflag s rSYNC_CTRL 1 = falling → refPort s = some r → b = activeBank (cal s r) →
            k = intervalAt s r (wcNs s) → e0 = (wcNs s : Int) - boundary b (portPull s r) k →
            e = (if 2 * e0 < b.cycle then e0 else e0 - b.cycle) →
            (s.tmu.lastEdge.map (intervalAt s r) = some k → exec (.cycSyncEdge falling) s = .next (finalize s))
            ∧ (s.tmu.lastEdge.map (intervalAt s r) ≠ some k → ∃ u, exec (.cycSyncEdge falling) s = .next (finalize u)
                ∧ u.tmu.lastEdge = some (wcNs s : Int) ∧ u.tmu.edgeAt = some k
                ∧ u.tmu.lost = false ∧ u.tmu.syncErr = clampI (-8388608) 8388607 e
                ∧ (∃ d, u.tmu.pulls = s.tmu.pulls ++ [(some d, wcNs s + 4000)] ∧ d = clampI (-2000) 2000
                    (clampI (-pullLimit s) (pullLimit s) (pullAfter s.tmu + clampI (-2000) 2000 e) - pullAfter s.tmu))
                ∧ u.tmu.lc = s.tmu.lc ∧ u.tmu.wc = s.tmu.wc ∧ u.tmu.cals = s.tmu.cals ∧ u.tmu.pull = s.tmu.pull ∧ u.mem = s.mem))
        ∧ (∀ d t rest r k, s.tmu.pulls = (d, t) :: rest → refPort s = some r → k = cycleFrom (activeBank (cal s r)) (portPull s r) t →
            (boundary (activeBank (cal s r)) (portPull s r) k ≤ wcNs s → ∃ u, exec .cycPullApply s = .next (finalize u)
              ∧ u.tmu.pull = (match d with | some x => s.tmu.pull + x | none => 0) ∧ u.tmu.pulls = rest
              ∧ u.tmu.lc = s.tmu.lc ∧ u.tmu.wc = s.tmu.wc ∧ u.tmu.cals = s.tmu.cals ∧ u.regs = s.regs ∧ u.mem = s.mem)
            ∧ (wcNs s < boundary (activeBank (cal s r)) (portPull s r) k → exec .cycPullApply s = .next (finalize s)))
        ∧ (∀ k e, refCycle s = some k → s.tmu.edgeAt = some e → rflag s rSYNC_CTRL 0 = true →
            exec .cycSyncLost s = .next (finalize (if !s.tmu.lost && decide (e + 9 ≤ k) then
              raise 128 0 0 { s with tmu := { s.tmu with lost := true } } else s)))
        ∧ (busFree s → exec .tmuSyncClear s =
            .next (finalize { hostTurn s with tmu := { s.tmu with pulls := s.tmu.pulls ++ [(none, wcNs s + 4000)] } }))
        ∧ (∀ n : Fin 24, tsBus s / 2 ^ (80 * n.val) % 2 ^ 40 = unsgn 40 ((s.tmu.lc / 2 ^ 24 : Nat) + sgn 24 (rget s (rP_TX_DELAY n)).toNat)
            ∧ tsBus s / 2 ^ (80 * n.val + 40) % 2 ^ 40 = unsgn 40 ((s.tmu.lc / 2 ^ 24 : Nat) - sgn 24 (rget s (rP_RX_DELAY n)).toNat))
        ∧ ∀ t : State, domOn t dTIME = false → tsBus t = 0

/-- A sample is the level where the wiring holds the pad, elsewhere the weak pull. With an evaluation due, shield samples equal to the drive
with no fault before clear STATUS's bit and detect nothing, different ones set the fault and detect source 4. With PD_DOME on, CLOCK_GLITCH sets the fault at the current clock and detects source 5; with it off it
changes nothing. CLOCK_FAULT_CLEAR 1 µs after the last error clears the fault, earlier it changes nothing. TEMPERATURE_SAMPLE when due
shows the code and sets when the next is due; within the limits with no fault it clears the run of bad samples; outside them before the
debounce is full it counts, at the debounce it sets the fault and detects source 6. LOOP_WINDOW_END after the 16 ticks of a window, with
every loop disabled, shows DISABLED for each, steps the pattern and detects nothing. What is not due changes nothing. -/
def Obligations.SensorsAndLoopsDetect : Prop :=
  ∀ s : State,
      (∀ held level : BitVec 16, (shieldDue s = false → exec (.shieldEvaluate held level) s = .next (finalize s)) ∧ (shieldDue s = true →
        (pulled (shieldDrv s) held level = shieldDrv s → s.tmp.shieldFault = false → exec (.shieldEvaluate held level) s = .next (finalize
            (rsetFld rTMP_STATUS 12 1 0 { s with tmp := { s.tmp with shieldAt := shieldTick s } })))
        ∧ (pulled (shieldDrv s) held level ≠ shieldDrv s → s.tmp.shieldFault = false → exec (.shieldEvaluate held level) s = .next (finalize (sensorDetect 4 0
            (rsetFld rTMP_STATUS 12 1 1 { s with tmp := { s.tmp with shieldFault := true, shieldAt := shieldTick s } }))))
        ∧ (pulled (shieldDrv s) held level = shieldDrv s → s.tmp.shieldFault = true → exec (.shieldEvaluate held level) s = .next (finalize (raise 113 4 0
            (rsetFld rTMP_STATUS 12 1 0 { s with tmp := { s.tmp with shieldFault := false, shieldAt := shieldTick s } }))))))
        ∧ (∀ freq, (domOn s dDOME = false → exec (.clockGlitch freq) s = .next (finalize s))
          ∧ (domOn s dDOME = true → exec (.clockGlitch freq) s = .next (finalize (sensorDetect 5 (if freq then 2 else 1)
              (rsetFld rTMP_STATUS 13 1 1 { s with tmp := { s.tmp with clockFault := true, clockAt := s.clock } })))))
        ∧ (s.tmp.clockFault = true → (s.tmp.clockAt + 500 ≤ s.clock → exec .clockFaultClear s = .next (finalize (raise 113 5 0
            (rsetFld rTMP_STATUS 13 1 0 { s with tmp := { s.tmp with clockFault := false } }))))
          ∧ (s.clock < s.tmp.clockAt + 500 → exec .clockFaultClear s = .next (finalize s)))
        ∧ (∀ code : Byte, s.clock < s.tmp.tempAt → exec (.temperatureSample code) s = .next (finalize s))
        ∧ (∀ code : Byte, s.tmp.tempAt ≤ s.clock → s.tmp.tempFault = false →
          (rfld s rTMP_TEMP_LIMIT 0 8 ≤ code.toNat → code.toNat ≤ rfld s rTMP_TEMP_LIMIT 8 8 →
            exec (.temperatureSample code) s = .next (finalize
              { rset rTMP_TEMP (mkW (code.toNat + 2 ^ 8)) s with tmp := { s.tmp with tempBad := 0, tempAt := s.clock + tempPeriod s } }))
          ∧ ((code.toNat < rfld s rTMP_TEMP_LIMIT 0 8 ∨ rfld s rTMP_TEMP_LIMIT 8 8 < code.toNat) →
            (s.tmp.tempBad + 1 < rfld s rTMP_DEBOUNCE 4 4 → exec (.temperatureSample code) s = .next (finalize
              { rset rTMP_TEMP (mkW (code.toNat + 2 ^ 8)) s with tmp := { s.tmp with
                  tempBad := s.tmp.tempBad + 1, tempAt := s.clock + tempPeriod s } }))
            ∧ (rfld s rTMP_DEBOUNCE 4 4 ≤ s.tmp.tempBad + 1 → ∃ u, exec (.temperatureSample code) s =
                .next (finalize (sensorDetect 6 code.toNat u)) ∧ u.tmp = { s.tmp with
                  tempFault := true, tempBad := 0, tempGood := 0, tempAt := s.clock + tempPeriod s }
                ∧ rfld u rTMP_TEMP 0 8 = code.toNat ∧ rflag u rTMP_STATUS 14 = true ∧ u.raised = s.raised ∧ u.dome = s.dome ∧ u.mem = s.mem)))
        ∧ (∀ held level : Vector (BitVec 16) 4, windowDue s = false → exec (.loopWindowEnd held level) s = .next (finalize s))
        ∧ (∀ held level : Vector (BitVec 16) 4, windowDue s = true → (∀ k, k < 4 → rflag s rTMP_CTRL k = false) → s.tmp.reseed = false →
            ∃ u, exec (.loopWindowEnd held level) s = .next (finalize u) ∧ u.tmp.pattern = patSteps 16 s.tmp.pattern
              ∧ u.tmp.prevPattern = s.tmp.pattern ∧ u.tmp.windows = s.tmp.windows + 1
              ∧ (∀ k, k < 4 → rfld u rTMP_STATUS (3 * k) 3 = 6) ∧ u.raised = s.raised ∧ u.tmp.pendMask = s.tmp.pendMask ∧ u.dome = s.dome
              ∧ u.pwr = s.pwr ∧ u.mem = s.mem)
        ∧ (∀ src d, tmpLevel s src ≠ 0 → domOn s dDOME = true → s.pwr.state = .run →
            ∃ u, sensorDetect src d s = u ∧ u.tmp.pendMask = s.tmp.pendMask ||| 2 ^ src ∧ u.tmp.pendLevel = max s.tmp.pendLevel (tmpLevel s src)
              ∧ u.dome = s.dome ∧ u.pwr = s.pwr ∧ u.mem = s.mem)

/-- With a detection pending, PD_DOME on and outside IDLE, with no erasure under way: TAMPER_RESPONSE answers a state in which every slot is
EMPTY with no key, no preceding or derived key is held, no commit is pending, no tower caches a key, RESET_REQUIRED is set, the erasure
runs at the response's level, the Dome is ALARMED at TL2 or when it was latched and COLD otherwise, and nothing waits any more; fuses,
lease marks, the time base and the queue are as before. With none pending it changes nothing. This is the alarm clock. TAMPER_ERASE_DONE ends the erasure
and draws a new scrambling permutation, and changes nothing else but its event; with none under way it changes nothing. -/
def Obligations.TheTamperResponseErasesTheDome : Prop :=
  ∀ s : State,
      (s.tmp.pendMask ≠ 0 → domOn s dDOME = true → s.pwr.state ≠ .idle → s.tmp.erasing = false → tabWf {} s.dome.slots = true →
        tabWf {} s.arr.towers = true → ∃ u, exec .tamperResponse s = .next (finalize u)
          ∧ (∀ i, (slot u i).st = .empty ∧ (slot u i).key = [] ∧ slotGen u i = slotGen s i) ∧ u.dome.held = [] ∧ u.dome.dcache = []
          ∧ u.dome.commit = none ∧ (∀ t, (tower u t).cache = []) ∧ resetRequired u = true ∧ u.tmp.erasing = true
          ∧ u.tmp.eraseLevel = s.tmp.pendLevel ∧ u.tmp.pendMask = 0 ∧ alarmNow u = true
          ∧ u.dome.st = (if s.tmp.pendLevel = 2 ∨ alarmLatch s = true then .alarmed else .cold) ∧ u.pwr.ctxKey = none
          ∧ u.fuses = s.fuses ∧ u.marks = s.marks ∧ u.pending = s.pending ∧ u.clock = s.clock)
        ∧ (s.tmp.pendMask = 0 → exec .tamperResponse s = .next (finalize s))
        ∧ (s.tmp.erasing = true → exec .tamperEraseDone s = .next (finalize (raise 114 0 (rget s rPWR_RETCNT).toNat
            { s with tmp := { s.tmp with erasing := false, eraseLevel := 0 }, dome := { s.dome with permBase := s.draws }, draws := s.draws + 1 })))
        ∧ (s.tmp.erasing = false → exec .tamperEraseDone s = .next (finalize s))

/-- With PD_HOST on and, for the host's writes, the near bus free: EVT_RING_ENABLE of a disabled ring with a good size and base enables it empty; with a bad one it sets CFG_ERR; ENABLE = 0
of an enabled ring drops its queue. EVENT_RING_WRITE writes the oldest queued entry at TAIL, where the ring has space and host memory
takes it, and TAIL moves on, the phase turning at the wrap; on a full ring it waits. An event routed to a full ring is lost and LOST counts; once the
ring has space, one HR_EVR_OVERFLOW entry with the number lost comes first. EVT_RING_HEAD stores the
head. EVT_PEND_CLEAR clears exactly the bits written as 1. With PD_HOST off none of them changes anything. -/
def Obligations.EventRingsAndPendingBits : Prop :=
  ∀ (m : Fin 8) (v : Word) (s : State),
      (domOn s dHOST = false → exec (.eventRingWrite m) s = .next (finalize s) ∧ (busFree s → exec (.evtRingEnable m v) s = .next (finalize (hostTurn s))
          ∧ exec (.evtRingHead m v) s = .next (finalize (hostTurn s)) ∧ ∀ b : Fin 6, exec (.evtPendClear b v) s = .next (finalize (hostTurn s))))
        ∧ (domOn s dHOST = true →
          (busFree s → exec (.evtRingHead m v) s = .next (finalize (setEvRing m { evRing s m with head := fld v 0 12 } (hostTurn s)))
          ∧ (∀ b : Fin 6, exec (.evtPendClear b v) s = .next (finalize (rset (rEVT_PEND b) (rget s (rEVT_PEND b) &&& ~~~v) (hostTurn s))))
          ∧ ((evRing s m).enable = false → flag v 0 = true →
            (4 ≤ fld v 8 4 → fld v 8 4 ≤ 12 → evBase s m % 2 ^ (fld v 8 4 + 4) = 0 →
              exec (.evtRingEnable m v) s = .next (finalize (setEvRing m { enable := true, log2 := fld v 8 4 } (hostTurn s))))
            ∧ ((fld v 8 4 < 4 ∨ 12 < fld v 8 4 ∨ evBase s m % 2 ^ (fld v 8 4 + 4) ≠ 0) →
              exec (.evtRingEnable m v) s = .next (finalize (setEvRing m { evRing s m with log2 := fld v 8 4, cfgErr := true } (hostTurn s)))))
          ∧ ((evRing s m).enable = true → flag v 0 = false →
            exec (.evtRingEnable m v) s = .next (finalize (setEvRing m { evRing s m with enable := false, queue := [], lost := 0 } (hostTurn s)))))
          ∧ (∀ e rest, (evRing s m).enable = true → (evRing s m).lost = 0 → (evRing s m).queue = e :: rest →
            (evFull (evRing s m) = false → memWrBad s (evBase s m + 12 * (evRing s m).tail) 12 = false →
              ∃ u, exec (.eventRingWrite m) s = .next (finalize u) ∧ (evRing u m).queue = rest
                ∧ (evRing u m).tail = ((evRing s m).tail + 1) % 2 ^ (evRing s m).log2
                ∧ (evRing u m).phase = (if ((evRing s m).tail + 1) % 2 ^ (evRing s m).log2 = 0 then !(evRing s m).phase else (evRing s m).phase)
                ∧ (∀ j, j < 12 → memByte u (evBase s m + 12 * (evRing s m).tail + j)
                    = (wordsBytes (evWords (evRing s m).phase e)).getD j 0)
                ∧ (∀ a, (a < evBase s m + 12 * (evRing s m).tail ∨ evBase s m + 12 * (evRing s m).tail + 12 ≤ a) → memByte u a = memByte s a)
                ∧ (∀ k, k ≠ m.val → evRing u k = evRing s k) ∧ u.regs = s.regs ∧ u.rings = s.rings)
            ∧ (evFull (evRing s m) = true → exec (.eventRingWrite m) s = .next (finalize s)))
          ∧ ((evRing s m).enable = true → 0 < (evRing s m).lost → evFull (evRing s m) = false →
              memWrBad s (evBase s m + 12 * (evRing s m).tail) 12 = false → ∃ u, exec (.eventRingWrite m) s = .next (finalize u)
                ∧ (evRing u m).lost = 0 ∧ (evRing u m).queue = (evRing s m).queue
                ∧ (evRing u m).tail = ((evRing s m).tail + 1) % 2 ^ (evRing s m).log2
                ∧ u.raised = s.raised ++ [{ src := 10, inst := m.val, detail := (evRing s m).lost, sev := sevOf 10, skip := some m.val }]
                ∧ (∀ k, k ≠ m.val → evRing u k = evRing s k) ∧ u.regs = s.regs ∧ u.rings = s.rings)
          ∧ (∀ e, (evRing s m).enable = true → evFull (evRing s m) = true → (evRing (evQueue m e s) m).queue = (evRing s m).queue
              ∧ (evRing (evQueue m e s) m).lost = satAdd 24 (evRing s m).lost 1
              ∧ rfld (evQueue m e s) (rEVT_RING_LOST m) 0 24 = satAdd 24 (rfld s (rEVT_RING_LOST m) 0 24) 1 ∧ (evQueue m e s).mem = s.mem))

/-- The near bus free: while the life cycle in force is SEALED, EVT_FORCE of any bank changes nothing. While it is not, with PD_HOST on, it answers the state in
which one event for each source named by a 1 bit has been raised, in ascending order, with INSTANCE 0, DETAIL 0xFFFFFF and the source's
severity, and nothing else has changed: the delivery of R529, in finalize, follows. SP_REMOTE_EVENT, source 135, is forced with INFO. In SEALED the debug slave port reads zero
and its writes are ignored. -/
def Obligations.ForcedEventsOnlyWhereDebugIsOpen : Prop :=
  ∀ (b : Fin 6) (v : Word) (s : State),
      (busFree s → lifeNow s = .sealed → exec (.evtForce b v) s = .next (finalize (hostTurn s)))
        ∧ (busFree s → lifeNow s ≠ .sealed → domOn s dHOST = true → exec (.evtForce b v) s = .next (finalize { hostTurn s with
            raised := s.raised ++ ((List.range 24).filter fun i => flag v i && isSource (24 * b + i)).map fun i =>
              { src := 24 * b + i, inst := 0, detail := 0xFFFFFF, sev := sevOf (24 * b + i) } }))
        ∧ sevOf 135 = 0
        ∧ (lifeNow s = .sealed → ∀ a x full, dbgRead a full s = (s, 0) ∧ dbgWrite a x full s = s)

/-- LOG_WRITE of a queued entry stores it at NEXT and counts LOG_UNREAD up to 1,024; it raises LG_THRESH when a THRESH not zero is reached and
LG_THRESH has not been raised since the last ACK, and otherwise raises nothing; no register changes, so words latched before stay.
LOG_CTRL ACK makes LOG_UNREAD 0 and rearms LG_THRESH. LOG_RD_IDX latches the four words of the entry named into LOG_RD_W0 to LOG_RD_W3 and
leaves the log and every other register. -/
def Obligations.TheLogCountsUnreadEntriesAndLatchesReads : Prop :=
  ∀ s : State,
      (∀ e rest, s.log.queue = e :: rest → ∃ u, exec .logWrite s = .next (finalize u) ∧ u.log.queue = rest
          ∧ tabGet {} u.log.entries s.log.next = e ∧ (∀ k, k ≠ s.log.next → tabGet {} u.log.entries k = tabGet {} s.log.entries k)
          ∧ u.log.next = (s.log.next + 1) % 1024 ∧ u.log.unread = min 1024 (s.log.unread + 1) ∧ u.regs = s.regs ∧ u.mem = s.mem
          ∧ (if rfld s rLOG_CTRL 0 11 ≠ 0 ∧ rfld s rLOG_CTRL 0 11 ≤ u.log.unread ∧ s.log.threshed = false then
              u.log.threshed = true ∧ u.raised = s.raised ++ [{ src := 116, inst := 0, detail := u.log.unread, sev := 0 }]
            else u.log.threshed = s.log.threshed ∧ u.raised = s.raised))
        ∧ (busFree s → exec .logCtrlAck s = .next (finalize { hostTurn s with log := { s.log with unread := 0, threshed := false } }))
        ∧ ∀ v : Word, busFree s → ∃ u, exec (.logRdIdx v) s = .next (finalize u) ∧ u.log = s.log
          ∧ (∀ k, k < 4 → rget u (rLOG_RD_W k) = wAt (logWords s (fld v 0 10)) k)
          ∧ (∀ o, o ≠ rLOG_RD_IDX → (∀ k, k < 4 → o ≠ rLOG_RD_W k) → rget u o = rget s o) ∧ u.mem = s.mem

/-- The near bus free: PWR_REQ RUN in RUN changes only the request register. While a transition is in progress, IDLE, RETAIN and OFF are refused with cause 5. In
RUN: IDLE is entered where its conditions hold and refused with cause 1 where not; RETAIN and OFF that pass their checks stop every ring
and start the entry; PWR_DOMAIN that changes no domain only stores the mask, another one starts the switching. In OFF a request for OFF is
refused; PWR_REQ RUN starts the cold start with the switches of R489 in order. VCH_WAKE low only stores the level, high in OFF starts the cold start too. A refusal leaves state,
switches and domains. -/
def Obligations.PowerRequestsStartTheirTransition : Prop :=
  ∀ s : State,
      (busFree s → s.pwr.state = .run → entering s = false → exec .pwrReqRun s = .next (finalize (rset rPWR_REQ 0 (hostTurn s))))
        ∧ (busFree s → pwrBusy s = true → exec .pwrReqIdle s = .next (finalize (pwrRefuse 1 5 (hostTurn s)))
            ∧ exec .pwrReqRetain s = .next (finalize (pwrRefuse 2 5 (hostTurn s)))
            ∧ exec .pwrReqOff s = .next (finalize (pwrRefuse 3 5 (hostTurn s))))
        ∧ (busFree s → pwrBusy s = false → s.pwr.state = .run →
          (idleOk s = true → s.tmp.pendMask = 0 → s.pwr.wakePin = false → exec .pwrReqIdle s = .next (finalize (raiseState .run
              { rset rPWR_REQ 1 (hostTurn s) with pwr := { s.pwr with state := .idle, stage := 0 } })))
          ∧ (idleOk s = false → exec .pwrReqIdle s = .next (finalize (pwrRefuse 1 1 (hostTurn s))))
          ∧ (entryCause false s = none → ∃ u, exec .pwrReqRetain s = .next (finalize u) ∧ u.pwr.trans = .entry false ∧ u.pwr.entryAt = s.clock
              ∧ u.pwr.on = s.pwr.on ∧ (∀ n, n < 64 → (ring u n).state ≠ .running) ∧ rget u rPWR_REQ = 2 ∧ u.mem = s.mem ∧ u.dome = s.dome)
          ∧ (entryCause true s = none → ∃ u, exec .pwrReqOff s = .next (finalize u) ∧ u.pwr.trans = .entry true ∧ u.pwr.entryAt = s.clock
              ∧ u.pwr.on = s.pwr.on ∧ (∀ n, n < 64 → (ring u n).state ≠ .running) ∧ rget u rPWR_REQ = 3 ∧ u.mem = s.mem ∧ u.dome = s.dome)
          ∧ (∀ c, entryCause false s = some c → exec .pwrReqRetain s = .next (finalize (pwrRefuse 2 c (hostTurn s))))
          ∧ (∀ v : Word, (∀ d, 3 ≤ d → d < 8 → ((v.toNat % 2 ^ 8) ||| 7).testBit d = domOn s d) →
              exec (.pwrDomainWrite v) s = .next (finalize (rset rPWR_DOMAIN (mkW ((v.toNat % 2 ^ 8) ||| 7)) (hostTurn s))))
          ∧ (∀ v : Word, (∃ d, 3 ≤ d ∧ d < 8 ∧ ((v.toNat % 2 ^ 8) ||| 7).testBit d ≠ domOn s d) →
              ∃ u, exec (.pwrDomainWrite v) s = .next (finalize u) ∧ u.pwr.trans = .domains ∧ u.pwr.on = s.pwr.on ∧ u.pwr.state = .run
                ∧ rget u rPWR_DOMAIN = mkW ((v.toNat % 2 ^ 8) ||| 7) ∧ u.rings = s.rings ∧ u.dome = s.dome ∧ u.mem = s.mem))
        ∧ (busFree s → s.pwr.state = .off → s.pwr.trans = .none → exec .pwrReqOff s = .next (finalize (pwrRefuse 3 7 (hostTurn s)))
            ∧ ∃ u, exec .pwrReqRun s = .next (finalize u) ∧ u.pwr.trans = .wake true ∧ u.pwr.todo.take 2 = [(dDOME, true), (dHOST, true)]
              ∧ u.pwr.wakeO = true ∧ u.pwr.on = s.pwr.on ∧ u.fuses = s.fuses ∧ u.mem = s.mem)
        ∧ exec (.vchWake false) s = .next (finalize { s with pwr := { s.pwr with wakePin := false } })
        ∧ (s.pwr.state = .off → s.pwr.trans = .none → ∃ u, exec (.vchWake true) s = .next (finalize u) ∧ u.pwr.wakePin = true
            ∧ u.pwr.trans = .wake true ∧ u.pwr.todo.take 2 = [(dDOME, true), (dHOST, true)] ∧ u.pwr.on = s.pwr.on ∧ u.mem = s.mem)
        ∧ (∀ req c, (pwrRefuse req c s).pwr = { s.pwr with refuse := c } ∧ (pwrRefuse req c s).regs = s.regs ∧ (pwrRefuse req c s).rings = s.rings)

/-- PWR_SW_ACK of the domain whose switch closed ends the wait and brings the domain up; of another it changes nothing. PWR_SWITCH_STAGGER
after the stagger time lets the next switch move, before it does not. PWR_ACK_TIMEOUT of a domain other than PD_DOME and PD_HOST more than
100 µs after the close opens its switch again and is a refusal with cause 3. CLOCK_OK stores its bits. IDLE_EXIT ends the exit from IDLE
in RUN with PW_STATE. DOMAIN_DRAIN_DONE while the domain has work changes nothing. ENTRY_DRAIN_DONE stops every running ring; while anything is in flight it does
nothing more; drained, for OFF, it counts the entry, clears VALID and goes on to the switches of every domain that is on. Bringing up a domain
sets its bit alone. -/
def Obligations.SwitchesMoveAndDomainsComeUp : Prop :=
  ∀ s : State,
      (∀ (d e : Fin 8) t, s.pwr.closing = some (e.val, t) →
        exec (.pwrSwAck e) s = .next (finalize (domainUp e { s with pwr := staggerOver s { s.pwr with closing := none } }))
        ∧ (d ≠ e → exec (.pwrSwAck d) s = .next (finalize s) ∧ exec (.pwrAckTimeout d) s = .next (finalize s))
        ∧ (e.val ≠ dDOME → e.val ≠ dHOST → t + 50000 < s.clock → exec (.pwrAckTimeout e) s = .next (finalize (pwrRefuse (pstCode s.pwr.state) 3
            { s with pwr := staggerOver s { s.pwr with closing := none, sw := clearBit1 s.pwr.sw e } })))
        ∧ (s.clock ≤ t + 50000 → exec (.pwrAckTimeout e) s = .next (finalize s)))
        ∧ (∀ t, s.pwr.nextAt = some t → (t ≤ s.clock → exec .pwrSwitchStagger s = .next (finalize { s with pwr := { s.pwr with nextAt := none } }))
            ∧ (s.clock < t → exec .pwrSwitchStagger s = .next (finalize s)))
        ∧ (∀ bits : BitVec 5, exec (.clockOk bits) s = .next (finalize { s with pwr := { s.pwr with ckOk := bits.toNat } }))
        ∧ (s.pwr.state = .idle → s.pwr.trans = .idleExit → exec .idleExit s = .next (finalize (raiseState .idle
            { s with pwr := { s.pwr with state := .run, trans := .none, prev := .idle } })))
        ∧ (s.pwr.trans = .none → exec .idleExit s = .next (finalize s) ∧ exec .domainDrainDone s = .next (finalize s)
            ∧ exec .entryDrainDone s = .next (finalize s))
        ∧ (∀ d rest, s.pwr.trans = .domains → s.pwr.todo = (d, false) :: rest → s.pwr.nextAt = none → s.pwr.closing = none → d ≠ dSPIRE →
            (domDrained s d = false → exec .domainDrainDone s = .next (finalize s))
            ∧ (domDrained s d = true → ∃ u, exec .domainDrainDone s = .next (finalize u) ∧ u.pwr = { s.pwr with drained := true }))
        ∧ (∀ toOff, s.pwr.trans = .entry toOff → s.pwr.stage < 3 → (entryDrained (stopRings s) = false → exec .entryDrainDone s = .next (finalize (stopRings s)))
            ∧ (entryDrained (stopRings s) = true → toOff = true → ∃ u, exec .entryDrainDone s = .next (finalize u) ∧ u.pwr.stage = 4 ∧ imgValid u = false
                ∧ u.pwr.ctxKey = none ∧ u.pwr.todo = (([dSPIRE, dTIME, dPIPE, dTWB, dTWA, dHOST, dDOME].filter fun d => domOn s d).map fun d => (d, false))
                ∧ u.pwr.on = s.pwr.on ∧ rget u rPWR_RETCNT = rget s rPWR_RETCNT + 1))
        ∧ (∀ d, d < 8 → domOn (domainUp d s) d = true ∧ (∀ e, e ≠ d → domOn (domainUp d s) e = domOn s e) ∧ (domainUp d s).mem = s.mem
            ∧ (domainUp d s).fuses = s.fuses ∧ (domainUp d s).marks = s.marks)

/-- PWR_CTX_CTRL RESTORE in RUN records the request; DISCARD clears VALID and nothing else. CONTEXT_RESTORE_START with a request and
everything ready, where the image's checks pass, starts the restore; where one fails, CTX_STATUS holds its code, PW_CTX_FAIL is raised,
and no object of the pipelines changes; without a request it changes nothing. CONTEXT_RESTORE_DONE of a running restore loads the saved
SecYs and channels, with no switch armed, and ends with CTX_STATUS OK; with none running it changes nothing. -/
def Obligations.ContextsAreRequestedRestoredAndDiscarded : Prop :=
  ∀ s : State,
      (busFree s → s.pwr.state = .run → entering s = false →
          exec .pwrCtxRestore s = .next (finalize { hostTurn s with pwr := { s.pwr with restoreReq := true } }))
        ∧ (busFree s → exec .pwrCtxDiscard s = .next (finalize (rsetFld rPWR_CTX_STATUS 0 1 0 (hostTurn s))))
        ∧ (s.pwr.restoreReq = false → exec .contextRestoreStart s = .next (finalize s))
        ∧ (∀ v, s.pwr.restoreReq = true → s.pwr.restoring = false → domOn s dPIPE = true → domOn s dDOME = true → s.pwr.remasking = false →
            towerReady s = true → s.pwr.state ≠ .idle → pipeWork s = false →
            v = rsetFld rPWR_CTX_STATUS 0 1 0 { s with pwr := { s.pwr with restoreReq := false } } →
            match restoreCheck v (imgValid s) with
            | some r => exec .contextRestoreStart s = .next (finalize (raise 142 0 r (rsetFld rPWR_CTX_STATUS 1 3 r v)))
            | none => exec .contextRestoreStart s = .next (finalize { v with pwr := { v.pwr with restoring := true, restoreAt := s.clock } }))
        ∧ (imgValid s = false → restoreCheck s (imgValid s) = some 6)
        ∧ (∀ v, s.pwr.restoring = true → s.saved = some v → ∃ u, exec .contextRestoreDone s = .next (finalize u) ∧ u.secys = v.secys
            ∧ u.rxscs = v.rxscs ∧ u.armed = [] ∧ u.ppls = v.ppls ∧ u.plCnt = v.cnt ∧ u.pwr.restoring = false
            ∧ rfld u rPWR_CTX_STATUS 1 3 = 1 ∧ u.dome = s.dome ∧ u.fuses = s.fuses ∧ u.mem = s.mem)
        ∧ (s.pwr.restoring = false → exec .contextRestoreDone s = .next (finalize s))

/-- With the wake pin low: BLOCK_RESET with no detection waiting answers a state with every domain but PD_AON off, the state OFF, no
transition, ring pairs DISABLED, every slot EMPTY, no SecY, channel, association, frame, item or transfer, the latch as it was,
RESET_REQUIRED and the image's VALID cleared; event log, lease marks, fuses, host memory, the queue of commands, the loops and every TMP,
LOG and PWR register but those two bits are kept, and every register outside these ranges has its reset value. AON_POWER_UP answers
State.reset but for the fuses, host memory and its error ranges, the queue, the draws and the levels of the inputs. -/
def Obligations.ResetsLeaveWhatTheyKeep : Prop :=
  ∀ s : State, s.pwr.wakePin = false →
      (s.tmp.pendMask = 0 → ∃ u, exec .blockReset s = .next (finalize u) ∧ u.pwr.on = 1 ∧ u.pwr.state = .off ∧ u.pwr.trans = .none
          ∧ (∀ n, (ring u n).state = .disabled) ∧ (∀ i, (slot u i).st = .empty) ∧ u.secys = [] ∧ u.rxscs = [] ∧ u.assocs = []
          ∧ u.egFrames = [] ∧ u.igFrames = [] ∧ u.items = [] ∧ u.stcs = [] ∧ u.tmp.loops = s.tmp.loops ∧ u.tmp.loadedMark = s.tmp.loadedMark
          ∧ alarmLatch u = alarmLatch s ∧ resetRequired u = false ∧ imgValid u = false ∧ u.log = s.log ∧ u.marks = s.marks
          ∧ u.fuses = s.fuses ∧ u.mem = s.mem ∧ u.pending = s.pending ∧ u.clock = s.clock ∧ u.raised = []
          ∧ (∀ o, keptByReset o = true → o ≠ rTMP_LATCH → o ≠ rPWR_CTX_STATUS → rget u o = rget s o)
          ∧ ∀ o, keptByReset o = false → rget u o = regReset o)
        ∧ exec .aonPowerUp s = .next (finalize { State.reset with
            mem := s.mem, memRdErr := s.memRdErr, memWrErr := s.memWrErr, fuses := s.fuses, pending := s.pending, draws := s.draws
            pwr := { wakePin := s.pwr.wakePin, ckOk := s.pwr.ckOk } })

/-- In every state TAMPER_RESPONSE answers a next state, finalize of a state with exactly the Time Unit it had: LC, both domains, the working
clock and its source, every calendar, PULL and the waiting pulls. The Time Unit runs on: while PD_TIME is on, a clock that passes after it
advances LC by the configured increment. -/
def Obligations.TamperLeavesTheTimeUnit : Prop :=
  ∀ s : State, ∃ u, exec .tamperResponse s = .next (finalize u) ∧ u.tmu = s.tmu
        ∧ (domOn s dTIME = true → (tick u).tmu.lc = timeAdd s.tmu.lc (lcIncr s))
end

