-- ==== Sys2Proof/Laws/Crypto.lean ====
section
/-! SUPPORT. Sys2Proof/Laws/Crypto.lean: the lengths that the published algorithms answer with, and GCM's keystream undone by
itself, so that no later proof opens them. -/

namespace Sys2Proof.Machine

@[simp] theorem toBytesLE_length (n v : Nat) : (toBytesLE n v).length = n := by
  induction n generalizing v with
  | zero => rfl
  | succ n ih => simp [toBytesLE, ih]

@[simp] theorem toBytesBE_length (n v : Nat) : (toBytesBE n v).length = n := by simp [toBytesBE]

@[simp] theorem fitBytes_length (n : Nat) (l : List Byte) : (fitBytes n l).length = n := by
  simp [fitBytes, zeroBytes]; omega

@[simp] theorem gcmStream_length (ks : List Nat) (iv : List Byte) (n : Nat) : (gcmStream ks iv n).length = 16 * n := by
  simp [gcmStream, List.length_flatMap, Nat.mul_comm]

theorem le_ceilDiv_mul (n : Nat) : n ≤ 16 * ceilDiv n 16 := by unfold ceilDiv; omega

@[simp] theorem gcmCrypt_length (key iv data : List Byte) : (gcmCrypt key iv data).length = data.length := by
  simp [gcmCrypt, xorBytes, le_ceilDiv_mul]

theorem xorBytes_twice (a b : List Byte) (h : a.length ≤ b.length) : xorBytes (xorBytes a b) b = a := by
  induction a generalizing b with
  | nil => rfl
  | cons x a ih =>
    cases b with
    | nil => simp at h
    | cons y b =>
      have hx : x ^^^ y ^^^ y = x := by rw [BitVec.xor_assoc, BitVec.xor_self, BitVec.xor_zero]
      have ih := ih b (by simpa using h)
      simp only [xorBytes, List.zipWith_cons_cons] at ih ⊢
      rw [ih, hx]

/-- Decryption undoes encryption under one key and IV. -/
theorem gcmCrypt_twice (key iv data : List Byte) : gcmCrypt key iv (gcmCrypt key iv data) = data := by
  have h := xorBytes_twice data (gcmStream (aesKeys key) iv (ceilDiv data.length 16)) (by simp [le_ceilDiv_mul])
  rw [gcmCrypt, gcmCrypt_length]; exact h

@[simp] theorem gcmTag_length (key iv aad ct : List Byte) : (gcmTag key iv aad ct).length = 16 := by
  unfold gcmTag; exact toBytesBE_length _ _

@[simp] theorem cmac_length (key msg : List Byte) : (cmac key msg).length = 16 := by
  unfold cmac; exact toBytesBE_length _ _

@[simp] theorem pointBytes_length (p : JPoint) : (pointBytes p).length = 96 := by
  unfold pointBytes; split <;> simp [zeroBytes]

@[simp] theorem ecdsaPub_length (d : Nat) : (ecdsaPub d).length = 96 := by
  unfold ecdsaPub; exact pointBytes_length _

@[simp] theorem ecdsaSign_length (d : Nat) (digest : List Byte) (nonce : Nat) : (ecdsaSign d digest nonce).length = 96 := by
  unfold ecdsaSign; simp

end Sys2Proof.Machine
end

