-- ==== Sys2Proof/Laws/Tab.lean ====
section
/-! SUPPORT. Sys2Proof/Laws/Tab.lean: the laws of the sparse tables: read after write, deletion, a change of every value, and that each
operation keeps the canonical form; with them, that every operation over host memory keeps its canonical form. -/

namespace Sys2Proof.Machine

variable {α : Type}

/-! ### Reading -/

@[simp] theorem tabGet_nil (d : α) (k : Nat) : tabGet d [] k = d := rfl

theorem tabGet_del_self (d : α) (t : Tab α) (k : Nat) : tabGet d (tabDel t k) k = d := by
  induction t with
  | nil => rfl
  | cons p r ih =>
    obtain ⟨j, v⟩ := p
    by_cases h : j = k <;> simp [tabDel, tabGet, h, ih]

theorem tabGet_del_ne (d : α) (t : Tab α) {j k : Nat} (h : j ≠ k) : tabGet d (tabDel t k) j = tabGet d t j := by
  induction t with
  | nil => rfl
  | cons p r ih =>
    obtain ⟨i, v⟩ := p
    by_cases hi : i = k
    · subst hi; simp [tabDel, tabGet, ih, h.symm]
    · by_cases hj : i = j
      · subst hj; simp [tabDel, tabGet, hi]
      · simp [tabDel, tabGet, hi, hj, ih]

theorem tabGet_ins_self (d : α) (t : Tab α) (k : Nat) (v : α) : tabGet d (tabIns t k v) k = v := by
  induction t with
  | nil => simp [tabIns, tabGet]
  | cons p r ih =>
    obtain ⟨i, w⟩ := p
    unfold tabIns
    split
    · simp [tabGet]
    · split
      · simp [tabGet]
      · next h _ => simp [tabGet, h, ih]

theorem tabGet_ins_ne (d : α) (t : Tab α) {j k : Nat} (v : α) (h : j ≠ k) : tabGet d (tabIns t k v) j = tabGet d t j := by
  induction t with
  | nil => simp [tabIns, tabGet, h.symm]
  | cons p r ih =>
    obtain ⟨i, w⟩ := p
    unfold tabIns
    split
    · next hi => subst hi; simp [tabGet, h.symm]
    · split
      · simp [tabGet, h.symm]
      · simp [tabGet, ih]

/-- A read of the key just written gives the value written. -/
@[simp] theorem tabGet_put_self [DecidableEq α] (d : α) (t : Tab α) (k : Nat) (v : α) : tabGet d (tabPut d t k v) k = v := by
  unfold tabPut; split
  · next h => rw [h, tabGet_del_self]
  · exact tabGet_ins_self d t k v

/-- A write leaves every other key alone. -/
theorem tabGet_put_ne [DecidableEq α] (d : α) (t : Tab α) {j k : Nat} (v : α) (h : j ≠ k) :
    tabGet d (tabPut d t k v) j = tabGet d t j := by
  unfold tabPut; split
  · exact tabGet_del_ne d t h
  · exact tabGet_ins_ne d t v h

/-- Both at once. -/
theorem tabGet_put [DecidableEq α] (d : α) (t : Tab α) (j k : Nat) (v : α) :
    tabGet d (tabPut d t k v) j = if j = k then v else tabGet d t j := by
  split
  · next h => subst h; simp
  · next h => exact tabGet_put_ne d t v h

/-- A key that is dropped reads as the default, the others as before. -/
theorem tabGet_drop (d : α) (p : Nat → Bool) (t : Tab α) (k : Nat) :
    tabGet d (tabDrop p t) k = if p k then d else tabGet d t k := by
  unfold tabDrop
  induction t with
  | nil => simp
  | cons q r ih =>
    obtain ⟨i, v⟩ := q
    by_cases hp : p i
    · simp only [hp, List.filter_cons, Bool.not_true, Bool.false_eq_true, if_false, ih, tabGet]
      by_cases hk : i = k
      · subst hk; simp [hp]
      · simp [hk]
    · simp only [hp, List.filter_cons, Bool.not_false, if_true, tabGet, ih]
      by_cases hk : i = k
      · subst hk; simp [hp]
      · simp [hk]

/-! ### The canonical form -/

theorem tabRising_mono {b c : Nat} (h : c ≤ b) : ∀ {t : Tab α}, tabRising b t = true → tabRising c t = true
  | [], _ => rfl
  | (j, _) :: r, ht => by
    simp only [tabRising, Bool.and_eq_true, decide_eq_true_eq] at ht ⊢
    exact ⟨Nat.le_trans h ht.1, ht.2⟩

/-- A key below the bound of a rising table is not listed. -/
theorem tabGet_below (d : α) : ∀ {t : Tab α} {b k : Nat}, tabRising b t = true → k < b → tabGet d t k = d
  | [], _, _, _, _ => rfl
  | (j, _) :: r, b, k, ht, hk => by
    simp only [tabRising, Bool.and_eq_true, decide_eq_true_eq] at ht
    have hj : j ≠ k := by omega
    simp only [tabGet, hj, if_false]
    exact tabGet_below d ht.2 (by omega)

theorem tabRising_del {k : Nat} : ∀ {t : Tab α} {b : Nat}, tabRising b t = true → tabRising b (tabDel t k) = true
  | [], _, _ => rfl
  | (j, v) :: r, b, ht => by
    simp only [tabRising, Bool.and_eq_true, decide_eq_true_eq] at ht
    by_cases h : j = k
    · simp only [tabDel, h, if_true]
      exact tabRising_mono (by omega) (tabRising_del ht.2)
    · simp only [tabDel, h, if_false, tabRising, Bool.and_eq_true, decide_eq_true_eq]
      exact ⟨ht.1, tabRising_del ht.2⟩

theorem tabRising_ins {k : Nat} {v : α} :
    ∀ {t : Tab α} {b : Nat}, tabRising b t = true → b ≤ k → tabRising b (tabIns t k v) = true
  | [], b, _, hb => by simp [tabIns, tabRising, hb]
  | (j, w) :: r, b, ht, hb => by
    simp only [tabRising, Bool.and_eq_true, decide_eq_true_eq] at ht
    unfold tabIns
    split
    · next h => subst h; simp [tabRising, hb, ht.2]
    · split
      · simp [tabRising, hb, ht.2]; omega
      · simp only [tabRising, Bool.and_eq_true, decide_eq_true_eq]
        exact ⟨ht.1, tabRising_ins ht.2 (by omega)⟩

theorem tabIns_all {p : Nat × α → Bool} {k : Nat} {v : α} (hv : p (k, v) = true) :
    ∀ {t : Tab α}, t.all p = true → (tabIns t k v).all p = true
  | [], _ => by simp [tabIns, hv]
  | (j, w) :: r, ht => by
    simp only [List.all_cons, Bool.and_eq_true] at ht
    unfold tabIns
    split
    · simp only [List.all_cons, hv, Bool.true_and]; exact ht.2
    · split
      · simp only [List.all_cons, hv, ht.1, Bool.true_and]; exact ht.2
      · simp only [List.all_cons, ht.1, Bool.true_and]; exact tabIns_all hv ht.2

theorem tabDel_all {p : Nat × α → Bool} {k : Nat} : ∀ {t : Tab α}, t.all p = true → (tabDel t k).all p = true
  | [], _ => rfl
  | (j, w) :: r, ht => by
    simp only [List.all_cons, Bool.and_eq_true] at ht
    unfold tabDel
    split
    · exact tabDel_all ht.2
    · simp only [List.all_cons, ht.1, Bool.true_and]; exact tabDel_all ht.2

/-- A write keeps the canonical form. -/
theorem tabWf_put [DecidableEq α] {d : α} {t : Tab α} (k : Nat) (v : α) (h : tabWf d t = true) : tabWf d (tabPut d t k v) = true := by
  simp only [tabWf, Bool.and_eq_true] at h ⊢
  unfold tabPut; split
  · exact ⟨tabRising_del h.1, tabDel_all h.2⟩
  · next hv => exact ⟨tabRising_ins h.1 (Nat.zero_le _), tabIns_all (by simpa using hv) h.2⟩

theorem tabRising_filter {p : Nat × α → Bool} : ∀ {t : Tab α} {b : Nat}, tabRising b t = true → tabRising b (t.filter p) = true
  | [], _, _ => rfl
  | (j, v) :: r, b, ht => by
    simp only [tabRising, Bool.and_eq_true, decide_eq_true_eq] at ht
    simp only [List.filter_cons]
    split
    · simp only [tabRising, Bool.and_eq_true, decide_eq_true_eq]; exact ⟨ht.1, tabRising_filter ht.2⟩
    · exact tabRising_mono (by omega) (tabRising_filter ht.2)

/-- Dropping keys keeps the canonical form. -/
theorem tabWf_drop [DecidableEq α] {d : α} {t : Tab α} (p : Nat → Bool) (h : tabWf d t = true) : tabWf d (tabDrop p t) = true := by
  simp only [tabWf, tabDrop, Bool.and_eq_true] at h ⊢
  exact ⟨tabRising_filter h.1, List.all_eq_true.2 fun x hx => List.all_eq_true.1 h.2 x (List.mem_of_mem_filter hx)⟩

theorem tabRising_map (f : Nat → α → α) : ∀ (t : Tab α) (b : Nat), tabRising b (t.map fun p => (p.1, f p.1 p.2)) = tabRising b t
  | [], _ => rfl
  | (j, v) :: r, b => by simp only [List.map_cons, tabRising, tabRising_map f r]

/-- A change of every value keeps the canonical form. -/
theorem tabWf_map [DecidableEq α] {d : α} {t : Tab α} (f : Nat → α → α) (h : tabWf d t = true) : tabWf d (tabMap d f t) = true := by
  simp only [tabWf, tabMap, Bool.and_eq_true] at h ⊢
  refine ⟨tabRising_filter (by rw [tabRising_map]; exact h.1), List.all_eq_true.2 fun x hx => ?_⟩
  exact (List.mem_filter.1 hx).2

/-- In a rising table, the value at a key of a changed table is the changed value. -/
theorem tabGet_map [DecidableEq α] {d : α} (f : Nat → α → α) (k : Nat) (hd : f k d = d) :
    ∀ {t : Tab α} {b : Nat}, tabRising b t = true → tabGet d (tabMap d f t) k = f k (tabGet d t k)
  | [], _, _ => by simp [tabMap, hd]
  | (j, v) :: r, b, ht => by
    simp only [tabRising, Bool.and_eq_true, decide_eq_true_eq] at ht
    have ih := tabGet_map f k hd ht.2
    simp only [tabMap] at ih
    simp only [tabMap, List.map_cons, List.filter_cons]
    by_cases hj : j = k
    · subst hj
      split
      · simp [tabGet]
      · next h =>
        simp only [bne_iff_ne, ne_eq, Decidable.not_not] at h
        rw [ih, tabGet_below d ht.2 (Nat.lt_succ_self _), hd]
        simp [tabGet, h]
    · split
      · simp [tabGet, hj, ih]
      · simp [tabGet, hj, ih]

/-! ### Host memory -/

/-- Storing bytes keeps the canonical form. -/
theorem storeBytes_wf : ∀ (l : List Byte) (a : Nat) {t : Tab Byte}, Memory.wf t → Memory.wf (storeBytes a l t)
  | [], _, _, h => h
  | b :: r, a, _, h => storeBytes_wf r (a + 1) (tabWf_put a b h)

/-- Every write of host memory keeps its canonical form, refused ones included. -/
theorem memWrite_wf (a : Nat) (l : List Byte) {s : State} (h : Memory.wf s.mem) : Memory.wf (memWrite a l s).1.mem := by
  unfold memWrite; split <;> exact storeBytes_wf _ _ h

theorem memWriteWords_wf (a : Nat) (l : List Word) {s : State} (h : Memory.wf s.mem) : Memory.wf (memWriteWords a l s).1.mem :=
  memWrite_wf a _ h

/-- Undefined contents are stored in the canonical form too. -/
theorem havoc_wf (a n : Nat) {s : State} (h : Memory.wf s.mem) : Memory.wf (havoc a n s).mem := by
  unfold havoc; exact memWrite_wf _ _ h

theorem reset_mem_wf : Memory.wf State.reset.mem := rfl

/-- What a stored byte string reads as: the new bytes inside, the old ones outside. -/
theorem storeBytes_get : ∀ (l : List Byte) (a : Nat) (t : Tab Byte) (k : Nat),
    tabGet 0 (storeBytes a l t) k = if a ≤ k ∧ k < a + l.length then l.getD (k - a) 0 else tabGet 0 t k
  | [], a, t, k => by simp [storeBytes]
  | b :: r, a, t, k => by
    rw [storeBytes, storeBytes_get r (a + 1), tabGet_put]
    by_cases h : k = a
    · subst h; simp
    · by_cases h1 : a + 1 ≤ k ∧ k < a + 1 + r.length
      · have e : k - a = (k - (a + 1)) + 1 := by omega
        have h2 : a ≤ k ∧ k < a + (b :: r).length := by simp; omega
        rw [if_pos h1, if_pos h2, e]; simp
      · have h2 : ¬(a ≤ k ∧ k < a + (b :: r).length) := by simp; omega
        rw [if_neg h1, if_neg h, if_neg h2]

/-- A write that host memory takes: it answers true and stores exactly its bytes. -/
theorem memWrite_good {a : Nat} {l : List Byte} {s : State} (h : memWrBad s a l.length = false) :
    memWrite a l s = ({ s with mem := storeBytes a l s.mem }, true) := by simp [memWrite, h]

end Sys2Proof.Machine
end

