-- ==== Sys2Proof/Laws/State.lean ====
section
/-! SUPPORT. Sys2Proof/Laws/State.lean: what every update of one part of the state leaves: one equation for each other field (simp takes the
conjunctions apart), and, below, what the part that it writes reads as. All are true by computation, so no later proof unfolds an update. -/

namespace Sys2Proof.Machine

/-! ### The fields an update leaves -/

@[simp] theorem rset_leaves {s : State} {off} {v} :
    (rset off v s).mem = s.mem ∧ (rset off v s).memRdErr = s.memRdErr ∧ (rset off v s).memWrErr = s.memWrErr
    ∧ (rset off v s).rings = s.rings ∧ (rset off v s).dbSeq = s.dbSeq ∧ (rset off v s).endSeq = s.endSeq
    ∧ (rset off v s).groupStaged = s.groupStaged ∧ (rset off v s).secys = s.secys ∧ (rset off v s).rxscs = s.rxscs
    ∧ (rset off v s).assocs = s.assocs ∧ (rset off v s).installSeq = s.installSeq ∧ (rset off v s).armed = s.armed
    ∧ (rset off v s).marks = s.marks ∧ (rset off v s).mirrorOps = s.mirrorOps ∧ (rset off v s).ppls = s.ppls
    ∧ (rset off v s).plCnt = s.plCnt ∧ (rset off v s).egFrames = s.egFrames ∧ (rset off v s).igFrames = s.igFrames
    ∧ (rset off v s).macOut = s.macOut ∧ (rset off v s).coreOut = s.coreOut ∧ (rset off v s).retOut = s.retOut
    ∧ (rset off v s).arr = s.arr ∧ (rset off v s).items = s.items ∧ (rset off v s).stcs = s.stcs ∧ (rset off v s).spl = s.spl
    ∧ (rset off v s).evRings = s.evRings ∧ (rset off v s).raised = s.raised ∧ (rset off v s).limits = s.limits
    ∧ (rset off v s).log = s.log ∧ (rset off v s).pwr = s.pwr ∧ (rset off v s).saved = s.saved ∧ (rset off v s).tmp = s.tmp
    ∧ (rset off v s).tmu = s.tmu ∧ (rset off v s).dome = s.dome ∧ (rset off v s).fuses = s.fuses ∧ (rset off v s).pending = s.pending
    ∧ (rset off v s).clock = s.clock ∧ (rset off v s).draws = s.draws ∧ (rset off v s).lastFetch = s.lastFetch
    ∧ (rset off v s).rdata = s.rdata ∧ (rset off v s).hostWait = s.hostWait :=
  ⟨rfl, rfl, rfl, rfl, rfl, rfl, rfl, rfl, rfl, rfl, rfl, rfl, rfl, rfl, rfl, rfl, rfl, rfl, rfl, rfl, rfl, rfl, rfl, rfl, rfl, rfl, rfl, rfl, rfl, rfl, rfl, rfl, rfl, rfl, rfl, rfl, rfl, rfl, rfl, rfl, rfl⟩

@[simp] theorem rsetFld_leaves {s : State} {off} {lo} {len} {v} :
    (rsetFld off lo len v s).mem = s.mem ∧ (rsetFld off lo len v s).memRdErr = s.memRdErr
    ∧ (rsetFld off lo len v s).memWrErr = s.memWrErr ∧ (rsetFld off lo len v s).rings = s.rings
    ∧ (rsetFld off lo len v s).dbSeq = s.dbSeq ∧ (rsetFld off lo len v s).endSeq = s.endSeq
    ∧ (rsetFld off lo len v s).groupStaged = s.groupStaged ∧ (rsetFld off lo len v s).secys = s.secys
    ∧ (rsetFld off lo len v s).rxscs = s.rxscs ∧ (rsetFld off lo len v s).assocs = s.assocs
    ∧ (rsetFld off lo len v s).installSeq = s.installSeq ∧ (rsetFld off lo len v s).armed = s.armed
    ∧ (rsetFld off lo len v s).marks = s.marks ∧ (rsetFld off lo len v s).mirrorOps = s.mirrorOps
    ∧ (rsetFld off lo len v s).ppls = s.ppls ∧ (rsetFld off lo len v s).plCnt = s.plCnt
    ∧ (rsetFld off lo len v s).egFrames = s.egFrames ∧ (rsetFld off lo len v s).igFrames = s.igFrames
    ∧ (rsetFld off lo len v s).macOut = s.macOut ∧ (rsetFld off lo len v s).coreOut = s.coreOut
    ∧ (rsetFld off lo len v s).retOut = s.retOut ∧ (rsetFld off lo len v s).arr = s.arr ∧ (rsetFld off lo len v s).items = s.items
    ∧ (rsetFld off lo len v s).stcs = s.stcs ∧ (rsetFld off lo len v s).spl = s.spl ∧ (rsetFld off lo len v s).evRings = s.evRings
    ∧ (rsetFld off lo len v s).raised = s.raised ∧ (rsetFld off lo len v s).limits = s.limits ∧ (rsetFld off lo len v s).log = s.log
    ∧ (rsetFld off lo len v s).pwr = s.pwr ∧ (rsetFld off lo len v s).saved = s.saved ∧ (rsetFld off lo len v s).tmp = s.tmp
    ∧ (rsetFld off lo len v s).tmu = s.tmu ∧ (rsetFld off lo len v s).dome = s.dome ∧ (rsetFld off lo len v s).fuses = s.fuses
    ∧ (rsetFld off lo len v s).pending = s.pending ∧ (rsetFld off lo len v s).clock = s.clock
    ∧ (rsetFld off lo len v s).draws = s.draws ∧ (rsetFld off lo len v s).lastFetch = s.lastFetch
    ∧ (rsetFld off lo len v s).rdata = s.rdata ∧ (rsetFld off lo len v s).hostWait = s.hostWait := rset_leaves

@[simp] theorem rsat_leaves {s : State} {off} {lo} {len} {inc} :
    (rsat off lo len inc s).mem = s.mem ∧ (rsat off lo len inc s).memRdErr = s.memRdErr
    ∧ (rsat off lo len inc s).memWrErr = s.memWrErr ∧ (rsat off lo len inc s).rings = s.rings
    ∧ (rsat off lo len inc s).dbSeq = s.dbSeq ∧ (rsat off lo len inc s).endSeq = s.endSeq
    ∧ (rsat off lo len inc s).groupStaged = s.groupStaged ∧ (rsat off lo len inc s).secys = s.secys
    ∧ (rsat off lo len inc s).rxscs = s.rxscs ∧ (rsat off lo len inc s).assocs = s.assocs
    ∧ (rsat off lo len inc s).installSeq = s.installSeq ∧ (rsat off lo len inc s).armed = s.armed
    ∧ (rsat off lo len inc s).marks = s.marks ∧ (rsat off lo len inc s).mirrorOps = s.mirrorOps
    ∧ (rsat off lo len inc s).ppls = s.ppls ∧ (rsat off lo len inc s).plCnt = s.plCnt ∧ (rsat off lo len inc s).egFrames = s.egFrames
    ∧ (rsat off lo len inc s).igFrames = s.igFrames ∧ (rsat off lo len inc s).macOut = s.macOut
    ∧ (rsat off lo len inc s).coreOut = s.coreOut ∧ (rsat off lo len inc s).retOut = s.retOut ∧ (rsat off lo len inc s).arr = s.arr
    ∧ (rsat off lo len inc s).items = s.items ∧ (rsat off lo len inc s).stcs = s.stcs ∧ (rsat off lo len inc s).spl = s.spl
    ∧ (rsat off lo len inc s).evRings = s.evRings ∧ (rsat off lo len inc s).raised = s.raised
    ∧ (rsat off lo len inc s).limits = s.limits ∧ (rsat off lo len inc s).log = s.log ∧ (rsat off lo len inc s).pwr = s.pwr
    ∧ (rsat off lo len inc s).saved = s.saved ∧ (rsat off lo len inc s).tmp = s.tmp ∧ (rsat off lo len inc s).tmu = s.tmu
    ∧ (rsat off lo len inc s).dome = s.dome ∧ (rsat off lo len inc s).fuses = s.fuses ∧ (rsat off lo len inc s).pending = s.pending
    ∧ (rsat off lo len inc s).clock = s.clock ∧ (rsat off lo len inc s).draws = s.draws
    ∧ (rsat off lo len inc s).lastFetch = s.lastFetch ∧ (rsat off lo len inc s).rdata = s.rdata
    ∧ (rsat off lo len inc s).hostWait = s.hostWait := rset_leaves

@[simp] theorem rmax_leaves {s : State} {off} {lo} {len} {v} :
    (rmax off lo len v s).mem = s.mem ∧ (rmax off lo len v s).memRdErr = s.memRdErr ∧ (rmax off lo len v s).memWrErr = s.memWrErr
    ∧ (rmax off lo len v s).rings = s.rings ∧ (rmax off lo len v s).dbSeq = s.dbSeq ∧ (rmax off lo len v s).endSeq = s.endSeq
    ∧ (rmax off lo len v s).groupStaged = s.groupStaged ∧ (rmax off lo len v s).secys = s.secys
    ∧ (rmax off lo len v s).rxscs = s.rxscs ∧ (rmax off lo len v s).assocs = s.assocs
    ∧ (rmax off lo len v s).installSeq = s.installSeq ∧ (rmax off lo len v s).armed = s.armed ∧ (rmax off lo len v s).marks = s.marks
    ∧ (rmax off lo len v s).mirrorOps = s.mirrorOps ∧ (rmax off lo len v s).ppls = s.ppls ∧ (rmax off lo len v s).plCnt = s.plCnt
    ∧ (rmax off lo len v s).egFrames = s.egFrames ∧ (rmax off lo len v s).igFrames = s.igFrames
    ∧ (rmax off lo len v s).macOut = s.macOut ∧ (rmax off lo len v s).coreOut = s.coreOut ∧ (rmax off lo len v s).retOut = s.retOut
    ∧ (rmax off lo len v s).arr = s.arr ∧ (rmax off lo len v s).items = s.items ∧ (rmax off lo len v s).stcs = s.stcs
    ∧ (rmax off lo len v s).spl = s.spl ∧ (rmax off lo len v s).evRings = s.evRings ∧ (rmax off lo len v s).raised = s.raised
    ∧ (rmax off lo len v s).limits = s.limits ∧ (rmax off lo len v s).log = s.log ∧ (rmax off lo len v s).pwr = s.pwr
    ∧ (rmax off lo len v s).saved = s.saved ∧ (rmax off lo len v s).tmp = s.tmp ∧ (rmax off lo len v s).tmu = s.tmu
    ∧ (rmax off lo len v s).dome = s.dome ∧ (rmax off lo len v s).fuses = s.fuses ∧ (rmax off lo len v s).pending = s.pending
    ∧ (rmax off lo len v s).clock = s.clock ∧ (rmax off lo len v s).draws = s.draws ∧ (rmax off lo len v s).lastFetch = s.lastFetch
    ∧ (rmax off lo len v s).rdata = s.rdata ∧ (rmax off lo len v s).hostWait = s.hostWait := rset_leaves

@[simp] theorem radd48_leaves {s : State} {lo} {hi} {inc} :
    (radd48 lo hi inc s).mem = s.mem
    ∧ (radd48 lo hi inc s).memRdErr = s.memRdErr ∧ (radd48 lo hi inc s).memWrErr = s.memWrErr ∧ (radd48 lo hi inc s).rings = s.rings
    ∧ (radd48 lo hi inc s).dbSeq = s.dbSeq ∧ (radd48 lo hi inc s).endSeq = s.endSeq ∧ (radd48 lo hi inc s).groupStaged = s.groupStaged
    ∧ (radd48 lo hi inc s).secys = s.secys ∧ (radd48 lo hi inc s).rxscs = s.rxscs ∧ (radd48 lo hi inc s).assocs = s.assocs
    ∧ (radd48 lo hi inc s).installSeq = s.installSeq ∧ (radd48 lo hi inc s).armed = s.armed ∧ (radd48 lo hi inc s).marks = s.marks
    ∧ (radd48 lo hi inc s).mirrorOps = s.mirrorOps ∧ (radd48 lo hi inc s).ppls = s.ppls ∧ (radd48 lo hi inc s).plCnt = s.plCnt
    ∧ (radd48 lo hi inc s).egFrames = s.egFrames ∧ (radd48 lo hi inc s).igFrames = s.igFrames ∧ (radd48 lo hi inc s).macOut = s.macOut
    ∧ (radd48 lo hi inc s).coreOut = s.coreOut ∧ (radd48 lo hi inc s).retOut = s.retOut ∧ (radd48 lo hi inc s).arr = s.arr
    ∧ (radd48 lo hi inc s).items = s.items ∧ (radd48 lo hi inc s).stcs = s.stcs ∧ (radd48 lo hi inc s).spl = s.spl
    ∧ (radd48 lo hi inc s).evRings = s.evRings ∧ (radd48 lo hi inc s).raised = s.raised ∧ (radd48 lo hi inc s).limits = s.limits
    ∧ (radd48 lo hi inc s).log = s.log ∧ (radd48 lo hi inc s).pwr = s.pwr ∧ (radd48 lo hi inc s).saved = s.saved
    ∧ (radd48 lo hi inc s).tmp = s.tmp ∧ (radd48 lo hi inc s).tmu = s.tmu ∧ (radd48 lo hi inc s).dome = s.dome
    ∧ (radd48 lo hi inc s).fuses = s.fuses ∧ (radd48 lo hi inc s).pending = s.pending ∧ (radd48 lo hi inc s).clock = s.clock
    ∧ (radd48 lo hi inc s).draws = s.draws ∧ (radd48 lo hi inc s).lastFetch = s.lastFetch ∧ (radd48 lo hi inc s).rdata = s.rdata
    ∧ (radd48 lo hi inc s).hostWait = s.hostWait := by
  simp [radd48]

@[simp] theorem dropRegs_leaves {s : State} {d} :
    (dropRegs d s).mem = s.mem ∧ (dropRegs d s).memRdErr = s.memRdErr ∧ (dropRegs d s).memWrErr = s.memWrErr
    ∧ (dropRegs d s).rings = s.rings ∧ (dropRegs d s).dbSeq = s.dbSeq ∧ (dropRegs d s).endSeq = s.endSeq
    ∧ (dropRegs d s).groupStaged = s.groupStaged ∧ (dropRegs d s).secys = s.secys ∧ (dropRegs d s).rxscs = s.rxscs
    ∧ (dropRegs d s).assocs = s.assocs ∧ (dropRegs d s).installSeq = s.installSeq ∧ (dropRegs d s).armed = s.armed
    ∧ (dropRegs d s).marks = s.marks ∧ (dropRegs d s).mirrorOps = s.mirrorOps ∧ (dropRegs d s).ppls = s.ppls
    ∧ (dropRegs d s).plCnt = s.plCnt ∧ (dropRegs d s).egFrames = s.egFrames ∧ (dropRegs d s).igFrames = s.igFrames
    ∧ (dropRegs d s).macOut = s.macOut ∧ (dropRegs d s).coreOut = s.coreOut ∧ (dropRegs d s).retOut = s.retOut
    ∧ (dropRegs d s).arr = s.arr ∧ (dropRegs d s).items = s.items ∧ (dropRegs d s).stcs = s.stcs ∧ (dropRegs d s).spl = s.spl
    ∧ (dropRegs d s).evRings = s.evRings ∧ (dropRegs d s).raised = s.raised ∧ (dropRegs d s).limits = s.limits
    ∧ (dropRegs d s).log = s.log ∧ (dropRegs d s).pwr = s.pwr ∧ (dropRegs d s).saved = s.saved ∧ (dropRegs d s).tmp = s.tmp
    ∧ (dropRegs d s).tmu = s.tmu ∧ (dropRegs d s).dome = s.dome ∧ (dropRegs d s).fuses = s.fuses ∧ (dropRegs d s).pending = s.pending
    ∧ (dropRegs d s).clock = s.clock ∧ (dropRegs d s).draws = s.draws ∧ (dropRegs d s).lastFetch = s.lastFetch
    ∧ (dropRegs d s).rdata = s.rdata ∧ (dropRegs d s).hostWait = s.hostWait :=
  ⟨rfl, rfl, rfl, rfl, rfl, rfl, rfl, rfl, rfl, rfl, rfl, rfl, rfl, rfl, rfl, rfl, rfl, rfl, rfl, rfl, rfl, rfl, rfl, rfl, rfl, rfl, rfl, rfl, rfl, rfl, rfl, rfl, rfl, rfl, rfl, rfl, rfl, rfl, rfl, rfl, rfl⟩

@[simp] theorem setPend_leaves {s : State} {src} :
    (setPend src s).mem = s.mem ∧ (setPend src s).memRdErr = s.memRdErr ∧ (setPend src s).memWrErr = s.memWrErr
    ∧ (setPend src s).rings = s.rings ∧ (setPend src s).dbSeq = s.dbSeq ∧ (setPend src s).endSeq = s.endSeq
    ∧ (setPend src s).groupStaged = s.groupStaged ∧ (setPend src s).secys = s.secys ∧ (setPend src s).rxscs = s.rxscs
    ∧ (setPend src s).assocs = s.assocs ∧ (setPend src s).installSeq = s.installSeq ∧ (setPend src s).armed = s.armed
    ∧ (setPend src s).marks = s.marks ∧ (setPend src s).mirrorOps = s.mirrorOps ∧ (setPend src s).ppls = s.ppls
    ∧ (setPend src s).plCnt = s.plCnt ∧ (setPend src s).egFrames = s.egFrames ∧ (setPend src s).igFrames = s.igFrames
    ∧ (setPend src s).macOut = s.macOut ∧ (setPend src s).coreOut = s.coreOut ∧ (setPend src s).retOut = s.retOut
    ∧ (setPend src s).arr = s.arr ∧ (setPend src s).items = s.items ∧ (setPend src s).stcs = s.stcs ∧ (setPend src s).spl = s.spl
    ∧ (setPend src s).evRings = s.evRings ∧ (setPend src s).raised = s.raised ∧ (setPend src s).limits = s.limits
    ∧ (setPend src s).log = s.log ∧ (setPend src s).pwr = s.pwr ∧ (setPend src s).saved = s.saved ∧ (setPend src s).tmp = s.tmp
    ∧ (setPend src s).tmu = s.tmu ∧ (setPend src s).dome = s.dome ∧ (setPend src s).fuses = s.fuses
    ∧ (setPend src s).pending = s.pending ∧ (setPend src s).clock = s.clock ∧ (setPend src s).draws = s.draws
    ∧ (setPend src s).lastFetch = s.lastFetch ∧ (setPend src s).rdata = s.rdata ∧ (setPend src s).hostWait = s.hostWait := rset_leaves

@[simp] theorem setRing_leaves {s : State} {n} {r} :
    (setRing n r s).regs = s.regs ∧ (setRing n r s).mem = s.mem ∧ (setRing n r s).memRdErr = s.memRdErr
    ∧ (setRing n r s).memWrErr = s.memWrErr ∧ (setRing n r s).dbSeq = s.dbSeq ∧ (setRing n r s).endSeq = s.endSeq
    ∧ (setRing n r s).groupStaged = s.groupStaged ∧ (setRing n r s).secys = s.secys ∧ (setRing n r s).rxscs = s.rxscs
    ∧ (setRing n r s).assocs = s.assocs ∧ (setRing n r s).installSeq = s.installSeq ∧ (setRing n r s).armed = s.armed
    ∧ (setRing n r s).marks = s.marks ∧ (setRing n r s).mirrorOps = s.mirrorOps ∧ (setRing n r s).ppls = s.ppls
    ∧ (setRing n r s).plCnt = s.plCnt ∧ (setRing n r s).egFrames = s.egFrames ∧ (setRing n r s).igFrames = s.igFrames
    ∧ (setRing n r s).macOut = s.macOut ∧ (setRing n r s).coreOut = s.coreOut ∧ (setRing n r s).retOut = s.retOut
    ∧ (setRing n r s).arr = s.arr ∧ (setRing n r s).items = s.items ∧ (setRing n r s).stcs = s.stcs ∧ (setRing n r s).spl = s.spl
    ∧ (setRing n r s).evRings = s.evRings ∧ (setRing n r s).raised = s.raised ∧ (setRing n r s).limits = s.limits
    ∧ (setRing n r s).log = s.log ∧ (setRing n r s).pwr = s.pwr ∧ (setRing n r s).saved = s.saved ∧ (setRing n r s).tmp = s.tmp
    ∧ (setRing n r s).tmu = s.tmu ∧ (setRing n r s).dome = s.dome ∧ (setRing n r s).fuses = s.fuses
    ∧ (setRing n r s).pending = s.pending ∧ (setRing n r s).clock = s.clock ∧ (setRing n r s).draws = s.draws
    ∧ (setRing n r s).lastFetch = s.lastFetch ∧ (setRing n r s).rdata = s.rdata ∧ (setRing n r s).hostWait = s.hostWait :=
  ⟨rfl, rfl, rfl, rfl, rfl, rfl, rfl, rfl, rfl, rfl, rfl, rfl, rfl, rfl, rfl, rfl, rfl, rfl, rfl, rfl, rfl, rfl, rfl, rfl, rfl, rfl, rfl, rfl, rfl, rfl, rfl, rfl, rfl, rfl, rfl, rfl, rfl, rfl, rfl, rfl, rfl⟩

@[simp] theorem modRing_leaves {s : State} {n} {f} :
    (modRing n f s).regs = s.regs ∧ (modRing n f s).mem = s.mem ∧ (modRing n f s).memRdErr = s.memRdErr
    ∧ (modRing n f s).memWrErr = s.memWrErr ∧ (modRing n f s).dbSeq = s.dbSeq ∧ (modRing n f s).endSeq = s.endSeq
    ∧ (modRing n f s).groupStaged = s.groupStaged ∧ (modRing n f s).secys = s.secys ∧ (modRing n f s).rxscs = s.rxscs
    ∧ (modRing n f s).assocs = s.assocs ∧ (modRing n f s).installSeq = s.installSeq ∧ (modRing n f s).armed = s.armed
    ∧ (modRing n f s).marks = s.marks ∧ (modRing n f s).mirrorOps = s.mirrorOps ∧ (modRing n f s).ppls = s.ppls
    ∧ (modRing n f s).plCnt = s.plCnt ∧ (modRing n f s).egFrames = s.egFrames ∧ (modRing n f s).igFrames = s.igFrames
    ∧ (modRing n f s).macOut = s.macOut ∧ (modRing n f s).coreOut = s.coreOut ∧ (modRing n f s).retOut = s.retOut
    ∧ (modRing n f s).arr = s.arr ∧ (modRing n f s).items = s.items ∧ (modRing n f s).stcs = s.stcs ∧ (modRing n f s).spl = s.spl
    ∧ (modRing n f s).evRings = s.evRings ∧ (modRing n f s).raised = s.raised ∧ (modRing n f s).limits = s.limits
    ∧ (modRing n f s).log = s.log ∧ (modRing n f s).pwr = s.pwr ∧ (modRing n f s).saved = s.saved ∧ (modRing n f s).tmp = s.tmp
    ∧ (modRing n f s).tmu = s.tmu ∧ (modRing n f s).dome = s.dome ∧ (modRing n f s).fuses = s.fuses
    ∧ (modRing n f s).pending = s.pending ∧ (modRing n f s).clock = s.clock ∧ (modRing n f s).draws = s.draws
    ∧ (modRing n f s).lastFetch = s.lastFetch ∧ (modRing n f s).rdata = s.rdata ∧ (modRing n f s).hostWait = s.hostWait := setRing_leaves

@[simp] theorem modEnt_leaves {s : State} {n} {i} {f} :
    (modEnt n i f s).regs = s.regs ∧ (modEnt n i f s).mem = s.mem ∧ (modEnt n i f s).memRdErr = s.memRdErr
    ∧ (modEnt n i f s).memWrErr = s.memWrErr ∧ (modEnt n i f s).dbSeq = s.dbSeq ∧ (modEnt n i f s).endSeq = s.endSeq
    ∧ (modEnt n i f s).groupStaged = s.groupStaged ∧ (modEnt n i f s).secys = s.secys ∧ (modEnt n i f s).rxscs = s.rxscs
    ∧ (modEnt n i f s).assocs = s.assocs ∧ (modEnt n i f s).installSeq = s.installSeq ∧ (modEnt n i f s).armed = s.armed
    ∧ (modEnt n i f s).marks = s.marks ∧ (modEnt n i f s).mirrorOps = s.mirrorOps ∧ (modEnt n i f s).ppls = s.ppls
    ∧ (modEnt n i f s).plCnt = s.plCnt ∧ (modEnt n i f s).egFrames = s.egFrames ∧ (modEnt n i f s).igFrames = s.igFrames
    ∧ (modEnt n i f s).macOut = s.macOut ∧ (modEnt n i f s).coreOut = s.coreOut ∧ (modEnt n i f s).retOut = s.retOut
    ∧ (modEnt n i f s).arr = s.arr ∧ (modEnt n i f s).items = s.items ∧ (modEnt n i f s).stcs = s.stcs ∧ (modEnt n i f s).spl = s.spl
    ∧ (modEnt n i f s).evRings = s.evRings ∧ (modEnt n i f s).raised = s.raised ∧ (modEnt n i f s).limits = s.limits
    ∧ (modEnt n i f s).log = s.log ∧ (modEnt n i f s).pwr = s.pwr ∧ (modEnt n i f s).saved = s.saved ∧ (modEnt n i f s).tmp = s.tmp
    ∧ (modEnt n i f s).tmu = s.tmu ∧ (modEnt n i f s).dome = s.dome ∧ (modEnt n i f s).fuses = s.fuses
    ∧ (modEnt n i f s).pending = s.pending ∧ (modEnt n i f s).clock = s.clock ∧ (modEnt n i f s).draws = s.draws
    ∧ (modEnt n i f s).lastFetch = s.lastFetch ∧ (modEnt n i f s).rdata = s.rdata ∧ (modEnt n i f s).hostWait = s.hostWait := setRing_leaves

@[simp] theorem setEvRing_leaves {s : State} {m} {r} :
    (setEvRing m r s).regs = s.regs ∧ (setEvRing m r s).mem = s.mem ∧ (setEvRing m r s).memRdErr = s.memRdErr
    ∧ (setEvRing m r s).memWrErr = s.memWrErr ∧ (setEvRing m r s).rings = s.rings ∧ (setEvRing m r s).dbSeq = s.dbSeq
    ∧ (setEvRing m r s).endSeq = s.endSeq ∧ (setEvRing m r s).groupStaged = s.groupStaged ∧ (setEvRing m r s).secys = s.secys
    ∧ (setEvRing m r s).rxscs = s.rxscs ∧ (setEvRing m r s).assocs = s.assocs ∧ (setEvRing m r s).installSeq = s.installSeq
    ∧ (setEvRing m r s).armed = s.armed ∧ (setEvRing m r s).marks = s.marks ∧ (setEvRing m r s).mirrorOps = s.mirrorOps
    ∧ (setEvRing m r s).ppls = s.ppls ∧ (setEvRing m r s).plCnt = s.plCnt ∧ (setEvRing m r s).egFrames = s.egFrames
    ∧ (setEvRing m r s).igFrames = s.igFrames ∧ (setEvRing m r s).macOut = s.macOut ∧ (setEvRing m r s).coreOut = s.coreOut
    ∧ (setEvRing m r s).retOut = s.retOut ∧ (setEvRing m r s).arr = s.arr ∧ (setEvRing m r s).items = s.items
    ∧ (setEvRing m r s).stcs = s.stcs ∧ (setEvRing m r s).spl = s.spl ∧ (setEvRing m r s).raised = s.raised
    ∧ (setEvRing m r s).limits = s.limits ∧ (setEvRing m r s).log = s.log ∧ (setEvRing m r s).pwr = s.pwr
    ∧ (setEvRing m r s).saved = s.saved ∧ (setEvRing m r s).tmp = s.tmp ∧ (setEvRing m r s).tmu = s.tmu
    ∧ (setEvRing m r s).dome = s.dome ∧ (setEvRing m r s).fuses = s.fuses ∧ (setEvRing m r s).pending = s.pending
    ∧ (setEvRing m r s).clock = s.clock ∧ (setEvRing m r s).draws = s.draws ∧ (setEvRing m r s).lastFetch = s.lastFetch
    ∧ (setEvRing m r s).rdata = s.rdata ∧ (setEvRing m r s).hostWait = s.hostWait :=
  ⟨rfl, rfl, rfl, rfl, rfl, rfl, rfl, rfl, rfl, rfl, rfl, rfl, rfl, rfl, rfl, rfl, rfl, rfl, rfl, rfl, rfl, rfl, rfl, rfl, rfl, rfl, rfl, rfl, rfl, rfl, rfl, rfl, rfl, rfl, rfl, rfl, rfl, rfl, rfl, rfl, rfl⟩

@[simp] theorem setTower_leaves {s : State} {t} {v} :
    (setTower t v s).regs = s.regs ∧ (setTower t v s).mem = s.mem ∧ (setTower t v s).memRdErr = s.memRdErr
    ∧ (setTower t v s).memWrErr = s.memWrErr ∧ (setTower t v s).rings = s.rings ∧ (setTower t v s).dbSeq = s.dbSeq
    ∧ (setTower t v s).endSeq = s.endSeq ∧ (setTower t v s).groupStaged = s.groupStaged ∧ (setTower t v s).secys = s.secys
    ∧ (setTower t v s).rxscs = s.rxscs ∧ (setTower t v s).assocs = s.assocs ∧ (setTower t v s).installSeq = s.installSeq
    ∧ (setTower t v s).armed = s.armed ∧ (setTower t v s).marks = s.marks ∧ (setTower t v s).mirrorOps = s.mirrorOps
    ∧ (setTower t v s).ppls = s.ppls ∧ (setTower t v s).plCnt = s.plCnt ∧ (setTower t v s).egFrames = s.egFrames
    ∧ (setTower t v s).igFrames = s.igFrames ∧ (setTower t v s).macOut = s.macOut ∧ (setTower t v s).coreOut = s.coreOut
    ∧ (setTower t v s).retOut = s.retOut ∧ (setTower t v s).items = s.items ∧ (setTower t v s).stcs = s.stcs
    ∧ (setTower t v s).spl = s.spl ∧ (setTower t v s).evRings = s.evRings ∧ (setTower t v s).raised = s.raised
    ∧ (setTower t v s).limits = s.limits ∧ (setTower t v s).log = s.log ∧ (setTower t v s).pwr = s.pwr
    ∧ (setTower t v s).saved = s.saved ∧ (setTower t v s).tmp = s.tmp ∧ (setTower t v s).tmu = s.tmu ∧ (setTower t v s).dome = s.dome
    ∧ (setTower t v s).fuses = s.fuses ∧ (setTower t v s).pending = s.pending ∧ (setTower t v s).clock = s.clock
    ∧ (setTower t v s).draws = s.draws ∧ (setTower t v s).lastFetch = s.lastFetch ∧ (setTower t v s).rdata = s.rdata
    ∧ (setTower t v s).hostWait = s.hostWait :=
  ⟨rfl, rfl, rfl, rfl, rfl, rfl, rfl, rfl, rfl, rfl, rfl, rfl, rfl, rfl, rfl, rfl, rfl, rfl, rfl, rfl, rfl, rfl, rfl, rfl, rfl, rfl, rfl, rfl, rfl, rfl, rfl, rfl, rfl, rfl, rfl, rfl, rfl, rfl, rfl, rfl, rfl⟩

@[simp] theorem setBslot_leaves {s : State} {i} {b} :
    (setBslot i b s).regs = s.regs ∧ (setBslot i b s).mem = s.mem ∧ (setBslot i b s).memRdErr = s.memRdErr
    ∧ (setBslot i b s).memWrErr = s.memWrErr ∧ (setBslot i b s).rings = s.rings ∧ (setBslot i b s).dbSeq = s.dbSeq
    ∧ (setBslot i b s).endSeq = s.endSeq ∧ (setBslot i b s).groupStaged = s.groupStaged ∧ (setBslot i b s).secys = s.secys
    ∧ (setBslot i b s).rxscs = s.rxscs ∧ (setBslot i b s).assocs = s.assocs ∧ (setBslot i b s).installSeq = s.installSeq
    ∧ (setBslot i b s).armed = s.armed ∧ (setBslot i b s).marks = s.marks ∧ (setBslot i b s).mirrorOps = s.mirrorOps
    ∧ (setBslot i b s).ppls = s.ppls ∧ (setBslot i b s).plCnt = s.plCnt ∧ (setBslot i b s).egFrames = s.egFrames
    ∧ (setBslot i b s).igFrames = s.igFrames ∧ (setBslot i b s).macOut = s.macOut ∧ (setBslot i b s).coreOut = s.coreOut
    ∧ (setBslot i b s).retOut = s.retOut ∧ (setBslot i b s).items = s.items ∧ (setBslot i b s).stcs = s.stcs
    ∧ (setBslot i b s).spl = s.spl ∧ (setBslot i b s).evRings = s.evRings ∧ (setBslot i b s).raised = s.raised
    ∧ (setBslot i b s).limits = s.limits ∧ (setBslot i b s).log = s.log ∧ (setBslot i b s).pwr = s.pwr
    ∧ (setBslot i b s).saved = s.saved ∧ (setBslot i b s).tmp = s.tmp ∧ (setBslot i b s).tmu = s.tmu ∧ (setBslot i b s).dome = s.dome
    ∧ (setBslot i b s).fuses = s.fuses ∧ (setBslot i b s).pending = s.pending ∧ (setBslot i b s).clock = s.clock
    ∧ (setBslot i b s).draws = s.draws ∧ (setBslot i b s).lastFetch = s.lastFetch ∧ (setBslot i b s).rdata = s.rdata
    ∧ (setBslot i b s).hostWait = s.hostWait :=
  ⟨rfl, rfl, rfl, rfl, rfl, rfl, rfl, rfl, rfl, rfl, rfl, rfl, rfl, rfl, rfl, rfl, rfl, rfl, rfl, rfl, rfl, rfl, rfl, rfl, rfl, rfl, rfl, rfl, rfl, rfl, rfl, rfl, rfl, rfl, rfl, rfl, rfl, rfl, rfl, rfl, rfl⟩

@[simp] theorem setSlot_leaves {s : State} {i} {v} :
    (setSlot i v s).regs = s.regs ∧ (setSlot i v s).mem = s.mem ∧ (setSlot i v s).memRdErr = s.memRdErr
    ∧ (setSlot i v s).memWrErr = s.memWrErr ∧ (setSlot i v s).rings = s.rings ∧ (setSlot i v s).dbSeq = s.dbSeq
    ∧ (setSlot i v s).endSeq = s.endSeq ∧ (setSlot i v s).groupStaged = s.groupStaged ∧ (setSlot i v s).secys = s.secys
    ∧ (setSlot i v s).rxscs = s.rxscs ∧ (setSlot i v s).assocs = s.assocs ∧ (setSlot i v s).installSeq = s.installSeq
    ∧ (setSlot i v s).armed = s.armed ∧ (setSlot i v s).marks = s.marks ∧ (setSlot i v s).mirrorOps = s.mirrorOps
    ∧ (setSlot i v s).ppls = s.ppls ∧ (setSlot i v s).plCnt = s.plCnt ∧ (setSlot i v s).egFrames = s.egFrames
    ∧ (setSlot i v s).igFrames = s.igFrames ∧ (setSlot i v s).macOut = s.macOut ∧ (setSlot i v s).coreOut = s.coreOut
    ∧ (setSlot i v s).retOut = s.retOut ∧ (setSlot i v s).arr = s.arr ∧ (setSlot i v s).items = s.items
    ∧ (setSlot i v s).stcs = s.stcs ∧ (setSlot i v s).spl = s.spl ∧ (setSlot i v s).evRings = s.evRings
    ∧ (setSlot i v s).raised = s.raised ∧ (setSlot i v s).limits = s.limits ∧ (setSlot i v s).log = s.log
    ∧ (setSlot i v s).pwr = s.pwr ∧ (setSlot i v s).saved = s.saved ∧ (setSlot i v s).tmp = s.tmp ∧ (setSlot i v s).tmu = s.tmu
    ∧ (setSlot i v s).fuses = s.fuses ∧ (setSlot i v s).pending = s.pending ∧ (setSlot i v s).clock = s.clock
    ∧ (setSlot i v s).draws = s.draws ∧ (setSlot i v s).lastFetch = s.lastFetch ∧ (setSlot i v s).rdata = s.rdata
    ∧ (setSlot i v s).hostWait = s.hostWait :=
  ⟨rfl, rfl, rfl, rfl, rfl, rfl, rfl, rfl, rfl, rfl, rfl, rfl, rfl, rfl, rfl, rfl, rfl, rfl, rfl, rfl, rfl, rfl, rfl, rfl, rfl, rfl, rfl, rfl, rfl, rfl, rfl, rfl, rfl, rfl, rfl, rfl, rfl, rfl, rfl, rfl, rfl⟩

@[simp] theorem setSecy_leaves {s : State} {i} {y} :
    (setSecy i y s).regs = s.regs ∧ (setSecy i y s).mem = s.mem ∧ (setSecy i y s).memRdErr = s.memRdErr
    ∧ (setSecy i y s).memWrErr = s.memWrErr ∧ (setSecy i y s).rings = s.rings ∧ (setSecy i y s).dbSeq = s.dbSeq
    ∧ (setSecy i y s).endSeq = s.endSeq ∧ (setSecy i y s).groupStaged = s.groupStaged ∧ (setSecy i y s).rxscs = s.rxscs
    ∧ (setSecy i y s).assocs = s.assocs ∧ (setSecy i y s).installSeq = s.installSeq ∧ (setSecy i y s).armed = s.armed
    ∧ (setSecy i y s).marks = s.marks ∧ (setSecy i y s).mirrorOps = s.mirrorOps ∧ (setSecy i y s).ppls = s.ppls
    ∧ (setSecy i y s).plCnt = s.plCnt ∧ (setSecy i y s).egFrames = s.egFrames ∧ (setSecy i y s).igFrames = s.igFrames
    ∧ (setSecy i y s).macOut = s.macOut ∧ (setSecy i y s).coreOut = s.coreOut ∧ (setSecy i y s).retOut = s.retOut
    ∧ (setSecy i y s).arr = s.arr ∧ (setSecy i y s).items = s.items ∧ (setSecy i y s).stcs = s.stcs ∧ (setSecy i y s).spl = s.spl
    ∧ (setSecy i y s).evRings = s.evRings ∧ (setSecy i y s).raised = s.raised ∧ (setSecy i y s).limits = s.limits
    ∧ (setSecy i y s).log = s.log ∧ (setSecy i y s).pwr = s.pwr ∧ (setSecy i y s).saved = s.saved ∧ (setSecy i y s).tmp = s.tmp
    ∧ (setSecy i y s).tmu = s.tmu ∧ (setSecy i y s).dome = s.dome ∧ (setSecy i y s).fuses = s.fuses
    ∧ (setSecy i y s).pending = s.pending ∧ (setSecy i y s).clock = s.clock ∧ (setSecy i y s).draws = s.draws
    ∧ (setSecy i y s).lastFetch = s.lastFetch ∧ (setSecy i y s).rdata = s.rdata ∧ (setSecy i y s).hostWait = s.hostWait :=
  ⟨rfl, rfl, rfl, rfl, rfl, rfl, rfl, rfl, rfl, rfl, rfl, rfl, rfl, rfl, rfl, rfl, rfl, rfl, rfl, rfl, rfl, rfl, rfl, rfl, rfl, rfl, rfl, rfl, rfl, rfl, rfl, rfl, rfl, rfl, rfl, rfl, rfl, rfl, rfl, rfl, rfl⟩

@[simp] theorem setRxsc_leaves {s : State} {i} {c} :
    (setRxsc i c s).regs = s.regs ∧ (setRxsc i c s).mem = s.mem ∧ (setRxsc i c s).memRdErr = s.memRdErr
    ∧ (setRxsc i c s).memWrErr = s.memWrErr ∧ (setRxsc i c s).rings = s.rings ∧ (setRxsc i c s).dbSeq = s.dbSeq
    ∧ (setRxsc i c s).endSeq = s.endSeq ∧ (setRxsc i c s).groupStaged = s.groupStaged ∧ (setRxsc i c s).secys = s.secys
    ∧ (setRxsc i c s).assocs = s.assocs ∧ (setRxsc i c s).installSeq = s.installSeq ∧ (setRxsc i c s).armed = s.armed
    ∧ (setRxsc i c s).marks = s.marks ∧ (setRxsc i c s).mirrorOps = s.mirrorOps ∧ (setRxsc i c s).ppls = s.ppls
    ∧ (setRxsc i c s).plCnt = s.plCnt ∧ (setRxsc i c s).egFrames = s.egFrames ∧ (setRxsc i c s).igFrames = s.igFrames
    ∧ (setRxsc i c s).macOut = s.macOut ∧ (setRxsc i c s).coreOut = s.coreOut ∧ (setRxsc i c s).retOut = s.retOut
    ∧ (setRxsc i c s).arr = s.arr ∧ (setRxsc i c s).items = s.items ∧ (setRxsc i c s).stcs = s.stcs ∧ (setRxsc i c s).spl = s.spl
    ∧ (setRxsc i c s).evRings = s.evRings ∧ (setRxsc i c s).raised = s.raised ∧ (setRxsc i c s).limits = s.limits
    ∧ (setRxsc i c s).log = s.log ∧ (setRxsc i c s).pwr = s.pwr ∧ (setRxsc i c s).saved = s.saved ∧ (setRxsc i c s).tmp = s.tmp
    ∧ (setRxsc i c s).tmu = s.tmu ∧ (setRxsc i c s).dome = s.dome ∧ (setRxsc i c s).fuses = s.fuses
    ∧ (setRxsc i c s).pending = s.pending ∧ (setRxsc i c s).clock = s.clock ∧ (setRxsc i c s).draws = s.draws
    ∧ (setRxsc i c s).lastFetch = s.lastFetch ∧ (setRxsc i c s).rdata = s.rdata ∧ (setRxsc i c s).hostWait = s.hostWait :=
  ⟨rfl, rfl, rfl, rfl, rfl, rfl, rfl, rfl, rfl, rfl, rfl, rfl, rfl, rfl, rfl, rfl, rfl, rfl, rfl, rfl, rfl, rfl, rfl, rfl, rfl, rfl, rfl, rfl, rfl, rfl, rfl, rfl, rfl, rfl, rfl, rfl, rfl, rfl, rfl, rfl, rfl⟩

@[simp] theorem setAssoc_leaves {s : State} {i} {a} :
    (setAssoc i a s).regs = s.regs ∧ (setAssoc i a s).mem = s.mem ∧ (setAssoc i a s).memRdErr = s.memRdErr
    ∧ (setAssoc i a s).memWrErr = s.memWrErr ∧ (setAssoc i a s).rings = s.rings ∧ (setAssoc i a s).dbSeq = s.dbSeq
    ∧ (setAssoc i a s).endSeq = s.endSeq ∧ (setAssoc i a s).groupStaged = s.groupStaged ∧ (setAssoc i a s).secys = s.secys
    ∧ (setAssoc i a s).rxscs = s.rxscs ∧ (setAssoc i a s).installSeq = s.installSeq ∧ (setAssoc i a s).armed = s.armed
    ∧ (setAssoc i a s).marks = s.marks ∧ (setAssoc i a s).mirrorOps = s.mirrorOps ∧ (setAssoc i a s).ppls = s.ppls
    ∧ (setAssoc i a s).plCnt = s.plCnt ∧ (setAssoc i a s).egFrames = s.egFrames ∧ (setAssoc i a s).igFrames = s.igFrames
    ∧ (setAssoc i a s).macOut = s.macOut ∧ (setAssoc i a s).coreOut = s.coreOut ∧ (setAssoc i a s).retOut = s.retOut
    ∧ (setAssoc i a s).arr = s.arr ∧ (setAssoc i a s).items = s.items ∧ (setAssoc i a s).stcs = s.stcs ∧ (setAssoc i a s).spl = s.spl
    ∧ (setAssoc i a s).evRings = s.evRings ∧ (setAssoc i a s).raised = s.raised ∧ (setAssoc i a s).limits = s.limits
    ∧ (setAssoc i a s).log = s.log ∧ (setAssoc i a s).pwr = s.pwr ∧ (setAssoc i a s).saved = s.saved ∧ (setAssoc i a s).tmp = s.tmp
    ∧ (setAssoc i a s).tmu = s.tmu ∧ (setAssoc i a s).dome = s.dome ∧ (setAssoc i a s).fuses = s.fuses
    ∧ (setAssoc i a s).pending = s.pending ∧ (setAssoc i a s).clock = s.clock ∧ (setAssoc i a s).draws = s.draws
    ∧ (setAssoc i a s).lastFetch = s.lastFetch ∧ (setAssoc i a s).rdata = s.rdata ∧ (setAssoc i a s).hostWait = s.hostWait :=
  ⟨rfl, rfl, rfl, rfl, rfl, rfl, rfl, rfl, rfl, rfl, rfl, rfl, rfl, rfl, rfl, rfl, rfl, rfl, rfl, rfl, rfl, rfl, rfl, rfl, rfl, rfl, rfl, rfl, rfl, rfl, rfl, rfl, rfl, rfl, rfl, rfl, rfl, rfl, rfl, rfl, rfl⟩

@[simp] theorem modAssoc_leaves {s : State} {i} {f} :
    (modAssoc i f s).regs = s.regs ∧ (modAssoc i f s).mem = s.mem ∧ (modAssoc i f s).memRdErr = s.memRdErr
    ∧ (modAssoc i f s).memWrErr = s.memWrErr ∧ (modAssoc i f s).rings = s.rings ∧ (modAssoc i f s).dbSeq = s.dbSeq
    ∧ (modAssoc i f s).endSeq = s.endSeq ∧ (modAssoc i f s).groupStaged = s.groupStaged ∧ (modAssoc i f s).secys = s.secys
    ∧ (modAssoc i f s).rxscs = s.rxscs ∧ (modAssoc i f s).installSeq = s.installSeq ∧ (modAssoc i f s).armed = s.armed
    ∧ (modAssoc i f s).marks = s.marks ∧ (modAssoc i f s).mirrorOps = s.mirrorOps ∧ (modAssoc i f s).ppls = s.ppls
    ∧ (modAssoc i f s).plCnt = s.plCnt ∧ (modAssoc i f s).egFrames = s.egFrames ∧ (modAssoc i f s).igFrames = s.igFrames
    ∧ (modAssoc i f s).macOut = s.macOut ∧ (modAssoc i f s).coreOut = s.coreOut ∧ (modAssoc i f s).retOut = s.retOut
    ∧ (modAssoc i f s).arr = s.arr ∧ (modAssoc i f s).items = s.items ∧ (modAssoc i f s).stcs = s.stcs ∧ (modAssoc i f s).spl = s.spl
    ∧ (modAssoc i f s).evRings = s.evRings ∧ (modAssoc i f s).raised = s.raised ∧ (modAssoc i f s).limits = s.limits
    ∧ (modAssoc i f s).log = s.log ∧ (modAssoc i f s).pwr = s.pwr ∧ (modAssoc i f s).saved = s.saved ∧ (modAssoc i f s).tmp = s.tmp
    ∧ (modAssoc i f s).tmu = s.tmu ∧ (modAssoc i f s).dome = s.dome ∧ (modAssoc i f s).fuses = s.fuses
    ∧ (modAssoc i f s).pending = s.pending ∧ (modAssoc i f s).clock = s.clock ∧ (modAssoc i f s).draws = s.draws
    ∧ (modAssoc i f s).lastFetch = s.lastFetch ∧ (modAssoc i f s).rdata = s.rdata ∧ (modAssoc i f s).hostWait = s.hostWait := setAssoc_leaves

@[simp] theorem setArmed_leaves {s : State} {y} {x} :
    (setArmed y x s).regs = s.regs ∧ (setArmed y x s).mem = s.mem ∧ (setArmed y x s).memRdErr = s.memRdErr
    ∧ (setArmed y x s).memWrErr = s.memWrErr ∧ (setArmed y x s).rings = s.rings ∧ (setArmed y x s).dbSeq = s.dbSeq
    ∧ (setArmed y x s).endSeq = s.endSeq ∧ (setArmed y x s).groupStaged = s.groupStaged ∧ (setArmed y x s).secys = s.secys
    ∧ (setArmed y x s).rxscs = s.rxscs ∧ (setArmed y x s).assocs = s.assocs ∧ (setArmed y x s).installSeq = s.installSeq
    ∧ (setArmed y x s).marks = s.marks ∧ (setArmed y x s).mirrorOps = s.mirrorOps ∧ (setArmed y x s).ppls = s.ppls
    ∧ (setArmed y x s).plCnt = s.plCnt ∧ (setArmed y x s).egFrames = s.egFrames ∧ (setArmed y x s).igFrames = s.igFrames
    ∧ (setArmed y x s).macOut = s.macOut ∧ (setArmed y x s).coreOut = s.coreOut ∧ (setArmed y x s).retOut = s.retOut
    ∧ (setArmed y x s).arr = s.arr ∧ (setArmed y x s).items = s.items ∧ (setArmed y x s).stcs = s.stcs ∧ (setArmed y x s).spl = s.spl
    ∧ (setArmed y x s).evRings = s.evRings ∧ (setArmed y x s).raised = s.raised ∧ (setArmed y x s).limits = s.limits
    ∧ (setArmed y x s).log = s.log ∧ (setArmed y x s).pwr = s.pwr ∧ (setArmed y x s).saved = s.saved ∧ (setArmed y x s).tmp = s.tmp
    ∧ (setArmed y x s).tmu = s.tmu ∧ (setArmed y x s).dome = s.dome ∧ (setArmed y x s).fuses = s.fuses
    ∧ (setArmed y x s).pending = s.pending ∧ (setArmed y x s).clock = s.clock ∧ (setArmed y x s).draws = s.draws
    ∧ (setArmed y x s).lastFetch = s.lastFetch ∧ (setArmed y x s).rdata = s.rdata ∧ (setArmed y x s).hostWait = s.hostWait :=
  ⟨rfl, rfl, rfl, rfl, rfl, rfl, rfl, rfl, rfl, rfl, rfl, rfl, rfl, rfl, rfl, rfl, rfl, rfl, rfl, rfl, rfl, rfl, rfl, rfl, rfl, rfl, rfl, rfl, rfl, rfl, rfl, rfl, rfl, rfl, rfl, rfl, rfl, rfl, rfl, rfl, rfl⟩

@[simp] theorem setMirrorOp_leaves {s : State} {sa} {o} :
    (setMirrorOp sa o s).regs = s.regs ∧ (setMirrorOp sa o s).mem = s.mem ∧ (setMirrorOp sa o s).memRdErr = s.memRdErr
    ∧ (setMirrorOp sa o s).memWrErr = s.memWrErr ∧ (setMirrorOp sa o s).rings = s.rings ∧ (setMirrorOp sa o s).dbSeq = s.dbSeq
    ∧ (setMirrorOp sa o s).endSeq = s.endSeq ∧ (setMirrorOp sa o s).groupStaged = s.groupStaged ∧ (setMirrorOp sa o s).secys = s.secys
    ∧ (setMirrorOp sa o s).rxscs = s.rxscs ∧ (setMirrorOp sa o s).assocs = s.assocs ∧ (setMirrorOp sa o s).installSeq = s.installSeq
    ∧ (setMirrorOp sa o s).armed = s.armed ∧ (setMirrorOp sa o s).marks = s.marks ∧ (setMirrorOp sa o s).ppls = s.ppls
    ∧ (setMirrorOp sa o s).plCnt = s.plCnt ∧ (setMirrorOp sa o s).egFrames = s.egFrames ∧ (setMirrorOp sa o s).igFrames = s.igFrames
    ∧ (setMirrorOp sa o s).macOut = s.macOut ∧ (setMirrorOp sa o s).coreOut = s.coreOut ∧ (setMirrorOp sa o s).retOut = s.retOut
    ∧ (setMirrorOp sa o s).arr = s.arr ∧ (setMirrorOp sa o s).items = s.items ∧ (setMirrorOp sa o s).stcs = s.stcs
    ∧ (setMirrorOp sa o s).spl = s.spl ∧ (setMirrorOp sa o s).evRings = s.evRings ∧ (setMirrorOp sa o s).raised = s.raised
    ∧ (setMirrorOp sa o s).limits = s.limits ∧ (setMirrorOp sa o s).log = s.log ∧ (setMirrorOp sa o s).pwr = s.pwr
    ∧ (setMirrorOp sa o s).saved = s.saved ∧ (setMirrorOp sa o s).tmp = s.tmp ∧ (setMirrorOp sa o s).tmu = s.tmu
    ∧ (setMirrorOp sa o s).dome = s.dome ∧ (setMirrorOp sa o s).fuses = s.fuses ∧ (setMirrorOp sa o s).pending = s.pending
    ∧ (setMirrorOp sa o s).clock = s.clock ∧ (setMirrorOp sa o s).draws = s.draws ∧ (setMirrorOp sa o s).lastFetch = s.lastFetch
    ∧ (setMirrorOp sa o s).rdata = s.rdata ∧ (setMirrorOp sa o s).hostWait = s.hostWait :=
  ⟨rfl, rfl, rfl, rfl, rfl, rfl, rfl, rfl, rfl, rfl, rfl, rfl, rfl, rfl, rfl, rfl, rfl, rfl, rfl, rfl, rfl, rfl, rfl, rfl, rfl, rfl, rfl, rfl, rfl, rfl, rfl, rfl, rfl, rfl, rfl, rfl, rfl, rfl, rfl, rfl, rfl⟩

@[simp] theorem writeMark_leaves {s : State} {y} {an} {sa} {endPn} :
    (writeMark y an sa endPn s).regs = s.regs ∧ (writeMark y an sa endPn s).mem = s.mem
    ∧ (writeMark y an sa endPn s).memRdErr = s.memRdErr ∧ (writeMark y an sa endPn s).memWrErr = s.memWrErr
    ∧ (writeMark y an sa endPn s).rings = s.rings ∧ (writeMark y an sa endPn s).dbSeq = s.dbSeq
    ∧ (writeMark y an sa endPn s).endSeq = s.endSeq ∧ (writeMark y an sa endPn s).groupStaged = s.groupStaged
    ∧ (writeMark y an sa endPn s).secys = s.secys ∧ (writeMark y an sa endPn s).rxscs = s.rxscs
    ∧ (writeMark y an sa endPn s).assocs = s.assocs ∧ (writeMark y an sa endPn s).installSeq = s.installSeq
    ∧ (writeMark y an sa endPn s).armed = s.armed ∧ (writeMark y an sa endPn s).mirrorOps = s.mirrorOps
    ∧ (writeMark y an sa endPn s).ppls = s.ppls ∧ (writeMark y an sa endPn s).plCnt = s.plCnt
    ∧ (writeMark y an sa endPn s).egFrames = s.egFrames ∧ (writeMark y an sa endPn s).igFrames = s.igFrames
    ∧ (writeMark y an sa endPn s).macOut = s.macOut ∧ (writeMark y an sa endPn s).coreOut = s.coreOut
    ∧ (writeMark y an sa endPn s).retOut = s.retOut ∧ (writeMark y an sa endPn s).arr = s.arr
    ∧ (writeMark y an sa endPn s).items = s.items ∧ (writeMark y an sa endPn s).stcs = s.stcs
    ∧ (writeMark y an sa endPn s).spl = s.spl ∧ (writeMark y an sa endPn s).evRings = s.evRings
    ∧ (writeMark y an sa endPn s).raised = s.raised ∧ (writeMark y an sa endPn s).limits = s.limits
    ∧ (writeMark y an sa endPn s).log = s.log ∧ (writeMark y an sa endPn s).pwr = s.pwr ∧ (writeMark y an sa endPn s).saved = s.saved
    ∧ (writeMark y an sa endPn s).tmp = s.tmp ∧ (writeMark y an sa endPn s).tmu = s.tmu ∧ (writeMark y an sa endPn s).dome = s.dome
    ∧ (writeMark y an sa endPn s).fuses = s.fuses ∧ (writeMark y an sa endPn s).pending = s.pending
    ∧ (writeMark y an sa endPn s).clock = s.clock ∧ (writeMark y an sa endPn s).draws = s.draws
    ∧ (writeMark y an sa endPn s).lastFetch = s.lastFetch ∧ (writeMark y an sa endPn s).rdata = s.rdata
    ∧ (writeMark y an sa endPn s).hostWait = s.hostWait :=
  ⟨rfl, rfl, rfl, rfl, rfl, rfl, rfl, rfl, rfl, rfl, rfl, rfl, rfl, rfl, rfl, rfl, rfl, rfl, rfl, rfl, rfl, rfl, rfl, rfl, rfl, rfl, rfl, rfl, rfl, rfl, rfl, rfl, rfl, rfl, rfl, rfl, rfl, rfl, rfl, rfl, rfl⟩

@[simp] theorem setPpl_leaves {s : State} {k} {v} :
    (setPpl k v s).regs = s.regs ∧ (setPpl k v s).mem = s.mem ∧ (setPpl k v s).memRdErr = s.memRdErr
    ∧ (setPpl k v s).memWrErr = s.memWrErr ∧ (setPpl k v s).rings = s.rings ∧ (setPpl k v s).dbSeq = s.dbSeq
    ∧ (setPpl k v s).endSeq = s.endSeq ∧ (setPpl k v s).groupStaged = s.groupStaged ∧ (setPpl k v s).secys = s.secys
    ∧ (setPpl k v s).rxscs = s.rxscs ∧ (setPpl k v s).assocs = s.assocs ∧ (setPpl k v s).installSeq = s.installSeq
    ∧ (setPpl k v s).armed = s.armed ∧ (setPpl k v s).marks = s.marks ∧ (setPpl k v s).mirrorOps = s.mirrorOps
    ∧ (setPpl k v s).plCnt = s.plCnt ∧ (setPpl k v s).egFrames = s.egFrames ∧ (setPpl k v s).igFrames = s.igFrames
    ∧ (setPpl k v s).macOut = s.macOut ∧ (setPpl k v s).coreOut = s.coreOut ∧ (setPpl k v s).retOut = s.retOut
    ∧ (setPpl k v s).arr = s.arr ∧ (setPpl k v s).items = s.items ∧ (setPpl k v s).stcs = s.stcs ∧ (setPpl k v s).spl = s.spl
    ∧ (setPpl k v s).evRings = s.evRings ∧ (setPpl k v s).raised = s.raised ∧ (setPpl k v s).limits = s.limits
    ∧ (setPpl k v s).log = s.log ∧ (setPpl k v s).pwr = s.pwr ∧ (setPpl k v s).saved = s.saved ∧ (setPpl k v s).tmp = s.tmp
    ∧ (setPpl k v s).tmu = s.tmu ∧ (setPpl k v s).dome = s.dome ∧ (setPpl k v s).fuses = s.fuses ∧ (setPpl k v s).pending = s.pending
    ∧ (setPpl k v s).clock = s.clock ∧ (setPpl k v s).draws = s.draws ∧ (setPpl k v s).lastFetch = s.lastFetch
    ∧ (setPpl k v s).rdata = s.rdata ∧ (setPpl k v s).hostWait = s.hostWait :=
  ⟨rfl, rfl, rfl, rfl, rfl, rfl, rfl, rfl, rfl, rfl, rfl, rfl, rfl, rfl, rfl, rfl, rfl, rfl, rfl, rfl, rfl, rfl, rfl, rfl, rfl, rfl, rfl, rfl, rfl, rfl, rfl, rfl, rfl, rfl, rfl, rfl, rfl, rfl, rfl, rfl, rfl⟩

@[simp] theorem modPpl_leaves {s : State} {k} {f} :
    (modPpl k f s).regs = s.regs ∧ (modPpl k f s).mem = s.mem ∧ (modPpl k f s).memRdErr = s.memRdErr
    ∧ (modPpl k f s).memWrErr = s.memWrErr ∧ (modPpl k f s).rings = s.rings ∧ (modPpl k f s).dbSeq = s.dbSeq
    ∧ (modPpl k f s).endSeq = s.endSeq ∧ (modPpl k f s).groupStaged = s.groupStaged ∧ (modPpl k f s).secys = s.secys
    ∧ (modPpl k f s).rxscs = s.rxscs ∧ (modPpl k f s).assocs = s.assocs ∧ (modPpl k f s).installSeq = s.installSeq
    ∧ (modPpl k f s).armed = s.armed ∧ (modPpl k f s).marks = s.marks ∧ (modPpl k f s).mirrorOps = s.mirrorOps
    ∧ (modPpl k f s).plCnt = s.plCnt ∧ (modPpl k f s).egFrames = s.egFrames ∧ (modPpl k f s).igFrames = s.igFrames
    ∧ (modPpl k f s).macOut = s.macOut ∧ (modPpl k f s).coreOut = s.coreOut ∧ (modPpl k f s).retOut = s.retOut
    ∧ (modPpl k f s).arr = s.arr ∧ (modPpl k f s).items = s.items ∧ (modPpl k f s).stcs = s.stcs ∧ (modPpl k f s).spl = s.spl
    ∧ (modPpl k f s).evRings = s.evRings ∧ (modPpl k f s).raised = s.raised ∧ (modPpl k f s).limits = s.limits
    ∧ (modPpl k f s).log = s.log ∧ (modPpl k f s).pwr = s.pwr ∧ (modPpl k f s).saved = s.saved ∧ (modPpl k f s).tmp = s.tmp
    ∧ (modPpl k f s).tmu = s.tmu ∧ (modPpl k f s).dome = s.dome ∧ (modPpl k f s).fuses = s.fuses ∧ (modPpl k f s).pending = s.pending
    ∧ (modPpl k f s).clock = s.clock ∧ (modPpl k f s).draws = s.draws ∧ (modPpl k f s).lastFetch = s.lastFetch
    ∧ (modPpl k f s).rdata = s.rdata ∧ (modPpl k f s).hostWait = s.hostWait := setPpl_leaves

@[simp] theorem cntEg_leaves {s : State} {port} {c} :
    (cntEg port c s).regs = s.regs ∧ (cntEg port c s).mem = s.mem ∧ (cntEg port c s).memRdErr = s.memRdErr
    ∧ (cntEg port c s).memWrErr = s.memWrErr ∧ (cntEg port c s).rings = s.rings ∧ (cntEg port c s).dbSeq = s.dbSeq
    ∧ (cntEg port c s).endSeq = s.endSeq ∧ (cntEg port c s).groupStaged = s.groupStaged ∧ (cntEg port c s).secys = s.secys
    ∧ (cntEg port c s).rxscs = s.rxscs ∧ (cntEg port c s).assocs = s.assocs ∧ (cntEg port c s).installSeq = s.installSeq
    ∧ (cntEg port c s).armed = s.armed ∧ (cntEg port c s).marks = s.marks ∧ (cntEg port c s).mirrorOps = s.mirrorOps
    ∧ (cntEg port c s).ppls = s.ppls ∧ (cntEg port c s).egFrames = s.egFrames ∧ (cntEg port c s).igFrames = s.igFrames
    ∧ (cntEg port c s).macOut = s.macOut ∧ (cntEg port c s).coreOut = s.coreOut ∧ (cntEg port c s).retOut = s.retOut
    ∧ (cntEg port c s).arr = s.arr ∧ (cntEg port c s).items = s.items ∧ (cntEg port c s).stcs = s.stcs ∧ (cntEg port c s).spl = s.spl
    ∧ (cntEg port c s).evRings = s.evRings ∧ (cntEg port c s).raised = s.raised ∧ (cntEg port c s).limits = s.limits
    ∧ (cntEg port c s).log = s.log ∧ (cntEg port c s).pwr = s.pwr ∧ (cntEg port c s).saved = s.saved ∧ (cntEg port c s).tmp = s.tmp
    ∧ (cntEg port c s).tmu = s.tmu ∧ (cntEg port c s).dome = s.dome ∧ (cntEg port c s).fuses = s.fuses
    ∧ (cntEg port c s).pending = s.pending ∧ (cntEg port c s).clock = s.clock ∧ (cntEg port c s).draws = s.draws
    ∧ (cntEg port c s).lastFetch = s.lastFetch ∧ (cntEg port c s).rdata = s.rdata ∧ (cntEg port c s).hostWait = s.hostWait :=
  ⟨rfl, rfl, rfl, rfl, rfl, rfl, rfl, rfl, rfl, rfl, rfl, rfl, rfl, rfl, rfl, rfl, rfl, rfl, rfl, rfl, rfl, rfl, rfl, rfl, rfl, rfl, rfl, rfl, rfl, rfl, rfl, rfl, rfl, rfl, rfl, rfl, rfl, rfl, rfl, rfl, rfl⟩

@[simp] theorem cntIg_leaves {s : State} {port} {c} :
    (cntIg port c s).regs = s.regs ∧ (cntIg port c s).mem = s.mem ∧ (cntIg port c s).memRdErr = s.memRdErr
    ∧ (cntIg port c s).memWrErr = s.memWrErr ∧ (cntIg port c s).rings = s.rings ∧ (cntIg port c s).dbSeq = s.dbSeq
    ∧ (cntIg port c s).endSeq = s.endSeq ∧ (cntIg port c s).groupStaged = s.groupStaged ∧ (cntIg port c s).secys = s.secys
    ∧ (cntIg port c s).rxscs = s.rxscs ∧ (cntIg port c s).assocs = s.assocs ∧ (cntIg port c s).installSeq = s.installSeq
    ∧ (cntIg port c s).armed = s.armed ∧ (cntIg port c s).marks = s.marks ∧ (cntIg port c s).mirrorOps = s.mirrorOps
    ∧ (cntIg port c s).ppls = s.ppls ∧ (cntIg port c s).egFrames = s.egFrames ∧ (cntIg port c s).igFrames = s.igFrames
    ∧ (cntIg port c s).macOut = s.macOut ∧ (cntIg port c s).coreOut = s.coreOut ∧ (cntIg port c s).retOut = s.retOut
    ∧ (cntIg port c s).arr = s.arr ∧ (cntIg port c s).items = s.items ∧ (cntIg port c s).stcs = s.stcs ∧ (cntIg port c s).spl = s.spl
    ∧ (cntIg port c s).evRings = s.evRings ∧ (cntIg port c s).raised = s.raised ∧ (cntIg port c s).limits = s.limits
    ∧ (cntIg port c s).log = s.log ∧ (cntIg port c s).pwr = s.pwr ∧ (cntIg port c s).saved = s.saved ∧ (cntIg port c s).tmp = s.tmp
    ∧ (cntIg port c s).tmu = s.tmu ∧ (cntIg port c s).dome = s.dome ∧ (cntIg port c s).fuses = s.fuses
    ∧ (cntIg port c s).pending = s.pending ∧ (cntIg port c s).clock = s.clock ∧ (cntIg port c s).draws = s.draws
    ∧ (cntIg port c s).lastFetch = s.lastFetch ∧ (cntIg port c s).rdata = s.rdata ∧ (cntIg port c s).hostWait = s.hostWait :=
  ⟨rfl, rfl, rfl, rfl, rfl, rfl, rfl, rfl, rfl, rfl, rfl, rfl, rfl, rfl, rfl, rfl, rfl, rfl, rfl, rfl, rfl, rfl, rfl, rfl, rfl, rfl, rfl, rfl, rfl, rfl, rfl, rfl, rfl, rfl, rfl, rfl, rfl, rfl, rfl, rfl, rfl⟩

@[simp] theorem cntSecy_leaves {s : State} {y} {i} {inc} :
    (cntSecy y i inc s).regs = s.regs ∧ (cntSecy y i inc s).mem = s.mem ∧ (cntSecy y i inc s).memRdErr = s.memRdErr
    ∧ (cntSecy y i inc s).memWrErr = s.memWrErr ∧ (cntSecy y i inc s).rings = s.rings ∧ (cntSecy y i inc s).dbSeq = s.dbSeq
    ∧ (cntSecy y i inc s).endSeq = s.endSeq ∧ (cntSecy y i inc s).groupStaged = s.groupStaged ∧ (cntSecy y i inc s).rxscs = s.rxscs
    ∧ (cntSecy y i inc s).assocs = s.assocs ∧ (cntSecy y i inc s).installSeq = s.installSeq ∧ (cntSecy y i inc s).armed = s.armed
    ∧ (cntSecy y i inc s).marks = s.marks ∧ (cntSecy y i inc s).mirrorOps = s.mirrorOps ∧ (cntSecy y i inc s).ppls = s.ppls
    ∧ (cntSecy y i inc s).plCnt = s.plCnt ∧ (cntSecy y i inc s).egFrames = s.egFrames ∧ (cntSecy y i inc s).igFrames = s.igFrames
    ∧ (cntSecy y i inc s).macOut = s.macOut ∧ (cntSecy y i inc s).coreOut = s.coreOut ∧ (cntSecy y i inc s).retOut = s.retOut
    ∧ (cntSecy y i inc s).arr = s.arr ∧ (cntSecy y i inc s).items = s.items ∧ (cntSecy y i inc s).stcs = s.stcs
    ∧ (cntSecy y i inc s).spl = s.spl ∧ (cntSecy y i inc s).evRings = s.evRings ∧ (cntSecy y i inc s).raised = s.raised
    ∧ (cntSecy y i inc s).limits = s.limits ∧ (cntSecy y i inc s).log = s.log ∧ (cntSecy y i inc s).pwr = s.pwr
    ∧ (cntSecy y i inc s).saved = s.saved ∧ (cntSecy y i inc s).tmp = s.tmp ∧ (cntSecy y i inc s).tmu = s.tmu
    ∧ (cntSecy y i inc s).dome = s.dome ∧ (cntSecy y i inc s).fuses = s.fuses ∧ (cntSecy y i inc s).pending = s.pending
    ∧ (cntSecy y i inc s).clock = s.clock ∧ (cntSecy y i inc s).draws = s.draws ∧ (cntSecy y i inc s).lastFetch = s.lastFetch
    ∧ (cntSecy y i inc s).rdata = s.rdata ∧ (cntSecy y i inc s).hostWait = s.hostWait := by
  unfold cntSecy; split <;> simp

@[simp] theorem cntTx_leaves {s : State} {y} {i} {inc} :
    (cntTx y i inc s).regs = s.regs ∧ (cntTx y i inc s).mem = s.mem ∧ (cntTx y i inc s).memRdErr = s.memRdErr
    ∧ (cntTx y i inc s).memWrErr = s.memWrErr ∧ (cntTx y i inc s).rings = s.rings ∧ (cntTx y i inc s).dbSeq = s.dbSeq
    ∧ (cntTx y i inc s).endSeq = s.endSeq ∧ (cntTx y i inc s).groupStaged = s.groupStaged ∧ (cntTx y i inc s).rxscs = s.rxscs
    ∧ (cntTx y i inc s).assocs = s.assocs ∧ (cntTx y i inc s).installSeq = s.installSeq ∧ (cntTx y i inc s).armed = s.armed
    ∧ (cntTx y i inc s).marks = s.marks ∧ (cntTx y i inc s).mirrorOps = s.mirrorOps ∧ (cntTx y i inc s).ppls = s.ppls
    ∧ (cntTx y i inc s).plCnt = s.plCnt ∧ (cntTx y i inc s).egFrames = s.egFrames ∧ (cntTx y i inc s).igFrames = s.igFrames
    ∧ (cntTx y i inc s).macOut = s.macOut ∧ (cntTx y i inc s).coreOut = s.coreOut ∧ (cntTx y i inc s).retOut = s.retOut
    ∧ (cntTx y i inc s).arr = s.arr ∧ (cntTx y i inc s).items = s.items ∧ (cntTx y i inc s).stcs = s.stcs
    ∧ (cntTx y i inc s).spl = s.spl ∧ (cntTx y i inc s).evRings = s.evRings ∧ (cntTx y i inc s).raised = s.raised
    ∧ (cntTx y i inc s).limits = s.limits ∧ (cntTx y i inc s).log = s.log ∧ (cntTx y i inc s).pwr = s.pwr
    ∧ (cntTx y i inc s).saved = s.saved ∧ (cntTx y i inc s).tmp = s.tmp ∧ (cntTx y i inc s).tmu = s.tmu
    ∧ (cntTx y i inc s).dome = s.dome ∧ (cntTx y i inc s).fuses = s.fuses ∧ (cntTx y i inc s).pending = s.pending
    ∧ (cntTx y i inc s).clock = s.clock ∧ (cntTx y i inc s).draws = s.draws ∧ (cntTx y i inc s).lastFetch = s.lastFetch
    ∧ (cntTx y i inc s).rdata = s.rdata ∧ (cntTx y i inc s).hostWait = s.hostWait := by
  unfold cntTx; split <;> simp

@[simp] theorem cntRx_leaves {s : State} {c} {i} {inc} :
    (cntRx c i inc s).regs = s.regs ∧ (cntRx c i inc s).mem = s.mem ∧ (cntRx c i inc s).memRdErr = s.memRdErr
    ∧ (cntRx c i inc s).memWrErr = s.memWrErr ∧ (cntRx c i inc s).rings = s.rings ∧ (cntRx c i inc s).dbSeq = s.dbSeq
    ∧ (cntRx c i inc s).endSeq = s.endSeq ∧ (cntRx c i inc s).groupStaged = s.groupStaged ∧ (cntRx c i inc s).secys = s.secys
    ∧ (cntRx c i inc s).assocs = s.assocs ∧ (cntRx c i inc s).installSeq = s.installSeq ∧ (cntRx c i inc s).armed = s.armed
    ∧ (cntRx c i inc s).marks = s.marks ∧ (cntRx c i inc s).mirrorOps = s.mirrorOps ∧ (cntRx c i inc s).ppls = s.ppls
    ∧ (cntRx c i inc s).plCnt = s.plCnt ∧ (cntRx c i inc s).egFrames = s.egFrames ∧ (cntRx c i inc s).igFrames = s.igFrames
    ∧ (cntRx c i inc s).macOut = s.macOut ∧ (cntRx c i inc s).coreOut = s.coreOut ∧ (cntRx c i inc s).retOut = s.retOut
    ∧ (cntRx c i inc s).arr = s.arr ∧ (cntRx c i inc s).items = s.items ∧ (cntRx c i inc s).stcs = s.stcs
    ∧ (cntRx c i inc s).spl = s.spl ∧ (cntRx c i inc s).evRings = s.evRings ∧ (cntRx c i inc s).raised = s.raised
    ∧ (cntRx c i inc s).limits = s.limits ∧ (cntRx c i inc s).log = s.log ∧ (cntRx c i inc s).pwr = s.pwr
    ∧ (cntRx c i inc s).saved = s.saved ∧ (cntRx c i inc s).tmp = s.tmp ∧ (cntRx c i inc s).tmu = s.tmu
    ∧ (cntRx c i inc s).dome = s.dome ∧ (cntRx c i inc s).fuses = s.fuses ∧ (cntRx c i inc s).pending = s.pending
    ∧ (cntRx c i inc s).clock = s.clock ∧ (cntRx c i inc s).draws = s.draws ∧ (cntRx c i inc s).lastFetch = s.lastFetch
    ∧ (cntRx c i inc s).rdata = s.rdata ∧ (cntRx c i inc s).hostWait = s.hostWait := by
  unfold cntRx; split <;> simp

@[simp] theorem cntSa_leaves {s : State} {a} {i} {inc} :
    (cntSa a i inc s).regs = s.regs ∧ (cntSa a i inc s).mem = s.mem ∧ (cntSa a i inc s).memRdErr = s.memRdErr
    ∧ (cntSa a i inc s).memWrErr = s.memWrErr ∧ (cntSa a i inc s).rings = s.rings ∧ (cntSa a i inc s).dbSeq = s.dbSeq
    ∧ (cntSa a i inc s).endSeq = s.endSeq ∧ (cntSa a i inc s).groupStaged = s.groupStaged ∧ (cntSa a i inc s).secys = s.secys
    ∧ (cntSa a i inc s).rxscs = s.rxscs ∧ (cntSa a i inc s).installSeq = s.installSeq ∧ (cntSa a i inc s).armed = s.armed
    ∧ (cntSa a i inc s).marks = s.marks ∧ (cntSa a i inc s).mirrorOps = s.mirrorOps ∧ (cntSa a i inc s).ppls = s.ppls
    ∧ (cntSa a i inc s).plCnt = s.plCnt ∧ (cntSa a i inc s).egFrames = s.egFrames ∧ (cntSa a i inc s).igFrames = s.igFrames
    ∧ (cntSa a i inc s).macOut = s.macOut ∧ (cntSa a i inc s).coreOut = s.coreOut ∧ (cntSa a i inc s).retOut = s.retOut
    ∧ (cntSa a i inc s).arr = s.arr ∧ (cntSa a i inc s).items = s.items ∧ (cntSa a i inc s).stcs = s.stcs
    ∧ (cntSa a i inc s).spl = s.spl ∧ (cntSa a i inc s).evRings = s.evRings ∧ (cntSa a i inc s).raised = s.raised
    ∧ (cntSa a i inc s).limits = s.limits ∧ (cntSa a i inc s).log = s.log ∧ (cntSa a i inc s).pwr = s.pwr
    ∧ (cntSa a i inc s).saved = s.saved ∧ (cntSa a i inc s).tmp = s.tmp ∧ (cntSa a i inc s).tmu = s.tmu
    ∧ (cntSa a i inc s).dome = s.dome ∧ (cntSa a i inc s).fuses = s.fuses ∧ (cntSa a i inc s).pending = s.pending
    ∧ (cntSa a i inc s).clock = s.clock ∧ (cntSa a i inc s).draws = s.draws ∧ (cntSa a i inc s).lastFetch = s.lastFetch
    ∧ (cntSa a i inc s).rdata = s.rdata ∧ (cntSa a i inc s).hostWait = s.hostWait := by
  unfold cntSa; split <;> simp

@[simp] theorem setItem_leaves {s : State} {id} {x} :
    (setItem id x s).regs = s.regs ∧ (setItem id x s).mem = s.mem ∧ (setItem id x s).memRdErr = s.memRdErr
    ∧ (setItem id x s).memWrErr = s.memWrErr ∧ (setItem id x s).rings = s.rings ∧ (setItem id x s).dbSeq = s.dbSeq
    ∧ (setItem id x s).endSeq = s.endSeq ∧ (setItem id x s).groupStaged = s.groupStaged ∧ (setItem id x s).secys = s.secys
    ∧ (setItem id x s).rxscs = s.rxscs ∧ (setItem id x s).assocs = s.assocs ∧ (setItem id x s).installSeq = s.installSeq
    ∧ (setItem id x s).armed = s.armed ∧ (setItem id x s).marks = s.marks ∧ (setItem id x s).mirrorOps = s.mirrorOps
    ∧ (setItem id x s).ppls = s.ppls ∧ (setItem id x s).plCnt = s.plCnt ∧ (setItem id x s).egFrames = s.egFrames
    ∧ (setItem id x s).igFrames = s.igFrames ∧ (setItem id x s).macOut = s.macOut ∧ (setItem id x s).coreOut = s.coreOut
    ∧ (setItem id x s).retOut = s.retOut ∧ (setItem id x s).arr = s.arr ∧ (setItem id x s).stcs = s.stcs
    ∧ (setItem id x s).spl = s.spl ∧ (setItem id x s).evRings = s.evRings ∧ (setItem id x s).raised = s.raised
    ∧ (setItem id x s).limits = s.limits ∧ (setItem id x s).log = s.log ∧ (setItem id x s).pwr = s.pwr
    ∧ (setItem id x s).saved = s.saved ∧ (setItem id x s).tmp = s.tmp ∧ (setItem id x s).tmu = s.tmu ∧ (setItem id x s).dome = s.dome
    ∧ (setItem id x s).fuses = s.fuses ∧ (setItem id x s).pending = s.pending ∧ (setItem id x s).clock = s.clock
    ∧ (setItem id x s).draws = s.draws ∧ (setItem id x s).lastFetch = s.lastFetch ∧ (setItem id x s).rdata = s.rdata
    ∧ (setItem id x s).hostWait = s.hostWait :=
  ⟨rfl, rfl, rfl, rfl, rfl, rfl, rfl, rfl, rfl, rfl, rfl, rfl, rfl, rfl, rfl, rfl, rfl, rfl, rfl, rfl, rfl, rfl, rfl, rfl, rfl, rfl, rfl, rfl, rfl, rfl, rfl, rfl, rfl, rfl, rfl, rfl, rfl, rfl, rfl, rfl, rfl⟩

@[simp] theorem setEg_leaves {s : State} {id} {f} :
    (setEg id f s).regs = s.regs ∧ (setEg id f s).mem = s.mem ∧ (setEg id f s).memRdErr = s.memRdErr
    ∧ (setEg id f s).memWrErr = s.memWrErr ∧ (setEg id f s).rings = s.rings ∧ (setEg id f s).dbSeq = s.dbSeq
    ∧ (setEg id f s).endSeq = s.endSeq ∧ (setEg id f s).groupStaged = s.groupStaged ∧ (setEg id f s).secys = s.secys
    ∧ (setEg id f s).rxscs = s.rxscs ∧ (setEg id f s).assocs = s.assocs ∧ (setEg id f s).installSeq = s.installSeq
    ∧ (setEg id f s).armed = s.armed ∧ (setEg id f s).marks = s.marks ∧ (setEg id f s).mirrorOps = s.mirrorOps
    ∧ (setEg id f s).ppls = s.ppls ∧ (setEg id f s).plCnt = s.plCnt ∧ (setEg id f s).igFrames = s.igFrames
    ∧ (setEg id f s).macOut = s.macOut ∧ (setEg id f s).coreOut = s.coreOut ∧ (setEg id f s).retOut = s.retOut
    ∧ (setEg id f s).arr = s.arr ∧ (setEg id f s).items = s.items ∧ (setEg id f s).stcs = s.stcs ∧ (setEg id f s).spl = s.spl
    ∧ (setEg id f s).evRings = s.evRings ∧ (setEg id f s).raised = s.raised ∧ (setEg id f s).limits = s.limits
    ∧ (setEg id f s).log = s.log ∧ (setEg id f s).pwr = s.pwr ∧ (setEg id f s).saved = s.saved ∧ (setEg id f s).tmp = s.tmp
    ∧ (setEg id f s).tmu = s.tmu ∧ (setEg id f s).dome = s.dome ∧ (setEg id f s).fuses = s.fuses ∧ (setEg id f s).pending = s.pending
    ∧ (setEg id f s).clock = s.clock ∧ (setEg id f s).draws = s.draws ∧ (setEg id f s).lastFetch = s.lastFetch
    ∧ (setEg id f s).rdata = s.rdata ∧ (setEg id f s).hostWait = s.hostWait :=
  ⟨rfl, rfl, rfl, rfl, rfl, rfl, rfl, rfl, rfl, rfl, rfl, rfl, rfl, rfl, rfl, rfl, rfl, rfl, rfl, rfl, rfl, rfl, rfl, rfl, rfl, rfl, rfl, rfl, rfl, rfl, rfl, rfl, rfl, rfl, rfl, rfl, rfl, rfl, rfl, rfl, rfl⟩

@[simp] theorem setIg_leaves {s : State} {id} {f} :
    (setIg id f s).regs = s.regs ∧ (setIg id f s).mem = s.mem ∧ (setIg id f s).memRdErr = s.memRdErr
    ∧ (setIg id f s).memWrErr = s.memWrErr ∧ (setIg id f s).rings = s.rings ∧ (setIg id f s).dbSeq = s.dbSeq
    ∧ (setIg id f s).endSeq = s.endSeq ∧ (setIg id f s).groupStaged = s.groupStaged ∧ (setIg id f s).secys = s.secys
    ∧ (setIg id f s).rxscs = s.rxscs ∧ (setIg id f s).assocs = s.assocs ∧ (setIg id f s).installSeq = s.installSeq
    ∧ (setIg id f s).armed = s.armed ∧ (setIg id f s).marks = s.marks ∧ (setIg id f s).mirrorOps = s.mirrorOps
    ∧ (setIg id f s).ppls = s.ppls ∧ (setIg id f s).plCnt = s.plCnt ∧ (setIg id f s).egFrames = s.egFrames
    ∧ (setIg id f s).macOut = s.macOut ∧ (setIg id f s).coreOut = s.coreOut ∧ (setIg id f s).retOut = s.retOut
    ∧ (setIg id f s).arr = s.arr ∧ (setIg id f s).items = s.items ∧ (setIg id f s).stcs = s.stcs ∧ (setIg id f s).spl = s.spl
    ∧ (setIg id f s).evRings = s.evRings ∧ (setIg id f s).raised = s.raised ∧ (setIg id f s).limits = s.limits
    ∧ (setIg id f s).log = s.log ∧ (setIg id f s).pwr = s.pwr ∧ (setIg id f s).saved = s.saved ∧ (setIg id f s).tmp = s.tmp
    ∧ (setIg id f s).tmu = s.tmu ∧ (setIg id f s).dome = s.dome ∧ (setIg id f s).fuses = s.fuses ∧ (setIg id f s).pending = s.pending
    ∧ (setIg id f s).clock = s.clock ∧ (setIg id f s).draws = s.draws ∧ (setIg id f s).lastFetch = s.lastFetch
    ∧ (setIg id f s).rdata = s.rdata ∧ (setIg id f s).hostWait = s.hostWait :=
  ⟨rfl, rfl, rfl, rfl, rfl, rfl, rfl, rfl, rfl, rfl, rfl, rfl, rfl, rfl, rfl, rfl, rfl, rfl, rfl, rfl, rfl, rfl, rfl, rfl, rfl, rfl, rfl, rfl, rfl, rfl, rfl, rfl, rfl, rfl, rfl, rfl, rfl, rfl, rfl, rfl, rfl⟩

@[simp] theorem setMac_leaves {s : State} {f} {o} :
    (setMac f o s).regs = s.regs ∧ (setMac f o s).mem = s.mem ∧ (setMac f o s).memRdErr = s.memRdErr
    ∧ (setMac f o s).memWrErr = s.memWrErr ∧ (setMac f o s).rings = s.rings ∧ (setMac f o s).dbSeq = s.dbSeq
    ∧ (setMac f o s).endSeq = s.endSeq ∧ (setMac f o s).groupStaged = s.groupStaged ∧ (setMac f o s).secys = s.secys
    ∧ (setMac f o s).rxscs = s.rxscs ∧ (setMac f o s).assocs = s.assocs ∧ (setMac f o s).installSeq = s.installSeq
    ∧ (setMac f o s).armed = s.armed ∧ (setMac f o s).marks = s.marks ∧ (setMac f o s).mirrorOps = s.mirrorOps
    ∧ (setMac f o s).ppls = s.ppls ∧ (setMac f o s).plCnt = s.plCnt ∧ (setMac f o s).egFrames = s.egFrames
    ∧ (setMac f o s).igFrames = s.igFrames ∧ (setMac f o s).coreOut = s.coreOut ∧ (setMac f o s).retOut = s.retOut
    ∧ (setMac f o s).arr = s.arr ∧ (setMac f o s).items = s.items ∧ (setMac f o s).stcs = s.stcs ∧ (setMac f o s).spl = s.spl
    ∧ (setMac f o s).evRings = s.evRings ∧ (setMac f o s).raised = s.raised ∧ (setMac f o s).limits = s.limits
    ∧ (setMac f o s).log = s.log ∧ (setMac f o s).pwr = s.pwr ∧ (setMac f o s).saved = s.saved ∧ (setMac f o s).tmp = s.tmp
    ∧ (setMac f o s).tmu = s.tmu ∧ (setMac f o s).dome = s.dome ∧ (setMac f o s).fuses = s.fuses ∧ (setMac f o s).pending = s.pending
    ∧ (setMac f o s).clock = s.clock ∧ (setMac f o s).draws = s.draws ∧ (setMac f o s).lastFetch = s.lastFetch
    ∧ (setMac f o s).rdata = s.rdata ∧ (setMac f o s).hostWait = s.hostWait :=
  ⟨rfl, rfl, rfl, rfl, rfl, rfl, rfl, rfl, rfl, rfl, rfl, rfl, rfl, rfl, rfl, rfl, rfl, rfl, rfl, rfl, rfl, rfl, rfl, rfl, rfl, rfl, rfl, rfl, rfl, rfl, rfl, rfl, rfl, rfl, rfl, rfl, rfl, rfl, rfl, rfl, rfl⟩

@[simp] theorem setCore_leaves {s : State} {f} {o} :
    (setCore f o s).regs = s.regs ∧ (setCore f o s).mem = s.mem ∧ (setCore f o s).memRdErr = s.memRdErr
    ∧ (setCore f o s).memWrErr = s.memWrErr ∧ (setCore f o s).rings = s.rings ∧ (setCore f o s).dbSeq = s.dbSeq
    ∧ (setCore f o s).endSeq = s.endSeq ∧ (setCore f o s).groupStaged = s.groupStaged ∧ (setCore f o s).secys = s.secys
    ∧ (setCore f o s).rxscs = s.rxscs ∧ (setCore f o s).assocs = s.assocs ∧ (setCore f o s).installSeq = s.installSeq
    ∧ (setCore f o s).armed = s.armed ∧ (setCore f o s).marks = s.marks ∧ (setCore f o s).mirrorOps = s.mirrorOps
    ∧ (setCore f o s).ppls = s.ppls ∧ (setCore f o s).plCnt = s.plCnt ∧ (setCore f o s).egFrames = s.egFrames
    ∧ (setCore f o s).igFrames = s.igFrames ∧ (setCore f o s).macOut = s.macOut ∧ (setCore f o s).retOut = s.retOut
    ∧ (setCore f o s).arr = s.arr ∧ (setCore f o s).items = s.items ∧ (setCore f o s).stcs = s.stcs ∧ (setCore f o s).spl = s.spl
    ∧ (setCore f o s).evRings = s.evRings ∧ (setCore f o s).raised = s.raised ∧ (setCore f o s).limits = s.limits
    ∧ (setCore f o s).log = s.log ∧ (setCore f o s).pwr = s.pwr ∧ (setCore f o s).saved = s.saved ∧ (setCore f o s).tmp = s.tmp
    ∧ (setCore f o s).tmu = s.tmu ∧ (setCore f o s).dome = s.dome ∧ (setCore f o s).fuses = s.fuses
    ∧ (setCore f o s).pending = s.pending ∧ (setCore f o s).clock = s.clock ∧ (setCore f o s).draws = s.draws
    ∧ (setCore f o s).lastFetch = s.lastFetch ∧ (setCore f o s).rdata = s.rdata ∧ (setCore f o s).hostWait = s.hostWait :=
  ⟨rfl, rfl, rfl, rfl, rfl, rfl, rfl, rfl, rfl, rfl, rfl, rfl, rfl, rfl, rfl, rfl, rfl, rfl, rfl, rfl, rfl, rfl, rfl, rfl, rfl, rfl, rfl, rfl, rfl, rfl, rfl, rfl, rfl, rfl, rfl, rfl, rfl, rfl, rfl, rfl, rfl⟩

@[simp] theorem setStc_leaves {s : State} {c} {v} :
    (setStc c v s).regs = s.regs ∧ (setStc c v s).mem = s.mem ∧ (setStc c v s).memRdErr = s.memRdErr
    ∧ (setStc c v s).memWrErr = s.memWrErr ∧ (setStc c v s).rings = s.rings ∧ (setStc c v s).dbSeq = s.dbSeq
    ∧ (setStc c v s).endSeq = s.endSeq ∧ (setStc c v s).groupStaged = s.groupStaged ∧ (setStc c v s).secys = s.secys
    ∧ (setStc c v s).rxscs = s.rxscs ∧ (setStc c v s).assocs = s.assocs ∧ (setStc c v s).installSeq = s.installSeq
    ∧ (setStc c v s).armed = s.armed ∧ (setStc c v s).marks = s.marks ∧ (setStc c v s).mirrorOps = s.mirrorOps
    ∧ (setStc c v s).ppls = s.ppls ∧ (setStc c v s).plCnt = s.plCnt ∧ (setStc c v s).egFrames = s.egFrames
    ∧ (setStc c v s).igFrames = s.igFrames ∧ (setStc c v s).macOut = s.macOut ∧ (setStc c v s).coreOut = s.coreOut
    ∧ (setStc c v s).retOut = s.retOut ∧ (setStc c v s).arr = s.arr ∧ (setStc c v s).items = s.items ∧ (setStc c v s).spl = s.spl
    ∧ (setStc c v s).evRings = s.evRings ∧ (setStc c v s).raised = s.raised ∧ (setStc c v s).limits = s.limits
    ∧ (setStc c v s).log = s.log ∧ (setStc c v s).pwr = s.pwr ∧ (setStc c v s).saved = s.saved ∧ (setStc c v s).tmp = s.tmp
    ∧ (setStc c v s).tmu = s.tmu ∧ (setStc c v s).dome = s.dome ∧ (setStc c v s).fuses = s.fuses ∧ (setStc c v s).pending = s.pending
    ∧ (setStc c v s).clock = s.clock ∧ (setStc c v s).draws = s.draws ∧ (setStc c v s).lastFetch = s.lastFetch
    ∧ (setStc c v s).rdata = s.rdata ∧ (setStc c v s).hostWait = s.hostWait :=
  ⟨rfl, rfl, rfl, rfl, rfl, rfl, rfl, rfl, rfl, rfl, rfl, rfl, rfl, rfl, rfl, rfl, rfl, rfl, rfl, rfl, rfl, rfl, rfl, rfl, rfl, rfl, rfl, rfl, rfl, rfl, rfl, rfl, rfl, rfl, rfl, rfl, rfl, rfl, rfl, rfl, rfl⟩

@[simp] theorem modXfers_leaves {s : State} {f} {c} :
    (modXfers f c s).regs = s.regs ∧ (modXfers f c s).mem = s.mem ∧ (modXfers f c s).memRdErr = s.memRdErr
    ∧ (modXfers f c s).memWrErr = s.memWrErr ∧ (modXfers f c s).rings = s.rings ∧ (modXfers f c s).dbSeq = s.dbSeq
    ∧ (modXfers f c s).endSeq = s.endSeq ∧ (modXfers f c s).groupStaged = s.groupStaged ∧ (modXfers f c s).secys = s.secys
    ∧ (modXfers f c s).rxscs = s.rxscs ∧ (modXfers f c s).assocs = s.assocs ∧ (modXfers f c s).installSeq = s.installSeq
    ∧ (modXfers f c s).armed = s.armed ∧ (modXfers f c s).marks = s.marks ∧ (modXfers f c s).mirrorOps = s.mirrorOps
    ∧ (modXfers f c s).ppls = s.ppls ∧ (modXfers f c s).plCnt = s.plCnt ∧ (modXfers f c s).egFrames = s.egFrames
    ∧ (modXfers f c s).igFrames = s.igFrames ∧ (modXfers f c s).macOut = s.macOut ∧ (modXfers f c s).coreOut = s.coreOut
    ∧ (modXfers f c s).retOut = s.retOut ∧ (modXfers f c s).arr = s.arr ∧ (modXfers f c s).items = s.items
    ∧ (modXfers f c s).spl = s.spl ∧ (modXfers f c s).evRings = s.evRings ∧ (modXfers f c s).raised = s.raised
    ∧ (modXfers f c s).limits = s.limits ∧ (modXfers f c s).log = s.log ∧ (modXfers f c s).pwr = s.pwr
    ∧ (modXfers f c s).saved = s.saved ∧ (modXfers f c s).tmp = s.tmp ∧ (modXfers f c s).tmu = s.tmu ∧ (modXfers f c s).dome = s.dome
    ∧ (modXfers f c s).fuses = s.fuses ∧ (modXfers f c s).pending = s.pending ∧ (modXfers f c s).clock = s.clock
    ∧ (modXfers f c s).draws = s.draws ∧ (modXfers f c s).lastFetch = s.lastFetch ∧ (modXfers f c s).rdata = s.rdata
    ∧ (modXfers f c s).hostWait = s.hostWait := setStc_leaves

@[simp] theorem setStcCfg_leaves {s : State} {c} {i} {e} :
    (setStcCfg c i e s).regs = s.regs ∧ (setStcCfg c i e s).mem = s.mem ∧ (setStcCfg c i e s).memRdErr = s.memRdErr
    ∧ (setStcCfg c i e s).memWrErr = s.memWrErr ∧ (setStcCfg c i e s).rings = s.rings ∧ (setStcCfg c i e s).dbSeq = s.dbSeq
    ∧ (setStcCfg c i e s).endSeq = s.endSeq ∧ (setStcCfg c i e s).groupStaged = s.groupStaged ∧ (setStcCfg c i e s).secys = s.secys
    ∧ (setStcCfg c i e s).rxscs = s.rxscs ∧ (setStcCfg c i e s).assocs = s.assocs ∧ (setStcCfg c i e s).installSeq = s.installSeq
    ∧ (setStcCfg c i e s).armed = s.armed ∧ (setStcCfg c i e s).marks = s.marks ∧ (setStcCfg c i e s).mirrorOps = s.mirrorOps
    ∧ (setStcCfg c i e s).ppls = s.ppls ∧ (setStcCfg c i e s).plCnt = s.plCnt ∧ (setStcCfg c i e s).egFrames = s.egFrames
    ∧ (setStcCfg c i e s).igFrames = s.igFrames ∧ (setStcCfg c i e s).macOut = s.macOut ∧ (setStcCfg c i e s).coreOut = s.coreOut
    ∧ (setStcCfg c i e s).retOut = s.retOut ∧ (setStcCfg c i e s).arr = s.arr ∧ (setStcCfg c i e s).items = s.items
    ∧ (setStcCfg c i e s).spl = s.spl ∧ (setStcCfg c i e s).evRings = s.evRings ∧ (setStcCfg c i e s).raised = s.raised
    ∧ (setStcCfg c i e s).limits = s.limits ∧ (setStcCfg c i e s).log = s.log ∧ (setStcCfg c i e s).pwr = s.pwr
    ∧ (setStcCfg c i e s).saved = s.saved ∧ (setStcCfg c i e s).tmp = s.tmp ∧ (setStcCfg c i e s).tmu = s.tmu
    ∧ (setStcCfg c i e s).dome = s.dome ∧ (setStcCfg c i e s).fuses = s.fuses ∧ (setStcCfg c i e s).pending = s.pending
    ∧ (setStcCfg c i e s).clock = s.clock ∧ (setStcCfg c i e s).draws = s.draws ∧ (setStcCfg c i e s).lastFetch = s.lastFetch
    ∧ (setStcCfg c i e s).rdata = s.rdata ∧ (setStcCfg c i e s).hostWait = s.hostWait := setStc_leaves

@[simp] theorem modXfer_leaves {s : State} {c} {k} {f} :
    (modXfer c k f s).regs = s.regs ∧ (modXfer c k f s).mem = s.mem ∧ (modXfer c k f s).memRdErr = s.memRdErr
    ∧ (modXfer c k f s).memWrErr = s.memWrErr ∧ (modXfer c k f s).rings = s.rings ∧ (modXfer c k f s).dbSeq = s.dbSeq
    ∧ (modXfer c k f s).endSeq = s.endSeq ∧ (modXfer c k f s).groupStaged = s.groupStaged ∧ (modXfer c k f s).secys = s.secys
    ∧ (modXfer c k f s).rxscs = s.rxscs ∧ (modXfer c k f s).assocs = s.assocs ∧ (modXfer c k f s).installSeq = s.installSeq
    ∧ (modXfer c k f s).armed = s.armed ∧ (modXfer c k f s).marks = s.marks ∧ (modXfer c k f s).mirrorOps = s.mirrorOps
    ∧ (modXfer c k f s).ppls = s.ppls ∧ (modXfer c k f s).plCnt = s.plCnt ∧ (modXfer c k f s).egFrames = s.egFrames
    ∧ (modXfer c k f s).igFrames = s.igFrames ∧ (modXfer c k f s).macOut = s.macOut ∧ (modXfer c k f s).coreOut = s.coreOut
    ∧ (modXfer c k f s).retOut = s.retOut ∧ (modXfer c k f s).arr = s.arr ∧ (modXfer c k f s).items = s.items
    ∧ (modXfer c k f s).spl = s.spl ∧ (modXfer c k f s).evRings = s.evRings ∧ (modXfer c k f s).raised = s.raised
    ∧ (modXfer c k f s).limits = s.limits ∧ (modXfer c k f s).log = s.log ∧ (modXfer c k f s).pwr = s.pwr
    ∧ (modXfer c k f s).saved = s.saved ∧ (modXfer c k f s).tmp = s.tmp ∧ (modXfer c k f s).tmu = s.tmu
    ∧ (modXfer c k f s).dome = s.dome ∧ (modXfer c k f s).fuses = s.fuses ∧ (modXfer c k f s).pending = s.pending
    ∧ (modXfer c k f s).clock = s.clock ∧ (modXfer c k f s).draws = s.draws ∧ (modXfer c k f s).lastFetch = s.lastFetch
    ∧ (modXfer c k f s).rdata = s.rdata ∧ (modXfer c k f s).hostWait = s.hostWait := setStc_leaves

@[simp] theorem setSport_leaves {s : State} {p} {v} :
    (setSport p v s).regs = s.regs ∧ (setSport p v s).mem = s.mem ∧ (setSport p v s).memRdErr = s.memRdErr
    ∧ (setSport p v s).memWrErr = s.memWrErr ∧ (setSport p v s).rings = s.rings ∧ (setSport p v s).dbSeq = s.dbSeq
    ∧ (setSport p v s).endSeq = s.endSeq ∧ (setSport p v s).groupStaged = s.groupStaged ∧ (setSport p v s).secys = s.secys
    ∧ (setSport p v s).rxscs = s.rxscs ∧ (setSport p v s).assocs = s.assocs ∧ (setSport p v s).installSeq = s.installSeq
    ∧ (setSport p v s).armed = s.armed ∧ (setSport p v s).marks = s.marks ∧ (setSport p v s).mirrorOps = s.mirrorOps
    ∧ (setSport p v s).ppls = s.ppls ∧ (setSport p v s).plCnt = s.plCnt ∧ (setSport p v s).egFrames = s.egFrames
    ∧ (setSport p v s).igFrames = s.igFrames ∧ (setSport p v s).macOut = s.macOut ∧ (setSport p v s).coreOut = s.coreOut
    ∧ (setSport p v s).retOut = s.retOut ∧ (setSport p v s).arr = s.arr ∧ (setSport p v s).items = s.items
    ∧ (setSport p v s).stcs = s.stcs ∧ (setSport p v s).evRings = s.evRings ∧ (setSport p v s).raised = s.raised
    ∧ (setSport p v s).limits = s.limits ∧ (setSport p v s).log = s.log ∧ (setSport p v s).pwr = s.pwr
    ∧ (setSport p v s).saved = s.saved ∧ (setSport p v s).tmp = s.tmp ∧ (setSport p v s).tmu = s.tmu ∧ (setSport p v s).dome = s.dome
    ∧ (setSport p v s).fuses = s.fuses ∧ (setSport p v s).pending = s.pending ∧ (setSport p v s).clock = s.clock
    ∧ (setSport p v s).draws = s.draws ∧ (setSport p v s).lastFetch = s.lastFetch ∧ (setSport p v s).rdata = s.rdata
    ∧ (setSport p v s).hostWait = s.hostWait :=
  ⟨rfl, rfl, rfl, rfl, rfl, rfl, rfl, rfl, rfl, rfl, rfl, rfl, rfl, rfl, rfl, rfl, rfl, rfl, rfl, rfl, rfl, rfl, rfl, rfl, rfl, rfl, rfl, rfl, rfl, rfl, rfl, rfl, rfl, rfl, rfl, rfl, rfl, rfl, rfl, rfl, rfl⟩

@[simp] theorem modSport_leaves {s : State} {p} {f} :
    (modSport p f s).regs = s.regs ∧ (modSport p f s).mem = s.mem ∧ (modSport p f s).memRdErr = s.memRdErr
    ∧ (modSport p f s).memWrErr = s.memWrErr ∧ (modSport p f s).rings = s.rings ∧ (modSport p f s).dbSeq = s.dbSeq
    ∧ (modSport p f s).endSeq = s.endSeq ∧ (modSport p f s).groupStaged = s.groupStaged ∧ (modSport p f s).secys = s.secys
    ∧ (modSport p f s).rxscs = s.rxscs ∧ (modSport p f s).assocs = s.assocs ∧ (modSport p f s).installSeq = s.installSeq
    ∧ (modSport p f s).armed = s.armed ∧ (modSport p f s).marks = s.marks ∧ (modSport p f s).mirrorOps = s.mirrorOps
    ∧ (modSport p f s).ppls = s.ppls ∧ (modSport p f s).plCnt = s.plCnt ∧ (modSport p f s).egFrames = s.egFrames
    ∧ (modSport p f s).igFrames = s.igFrames ∧ (modSport p f s).macOut = s.macOut ∧ (modSport p f s).coreOut = s.coreOut
    ∧ (modSport p f s).retOut = s.retOut ∧ (modSport p f s).arr = s.arr ∧ (modSport p f s).items = s.items
    ∧ (modSport p f s).stcs = s.stcs ∧ (modSport p f s).evRings = s.evRings ∧ (modSport p f s).raised = s.raised
    ∧ (modSport p f s).limits = s.limits ∧ (modSport p f s).log = s.log ∧ (modSport p f s).pwr = s.pwr
    ∧ (modSport p f s).saved = s.saved ∧ (modSport p f s).tmp = s.tmp ∧ (modSport p f s).tmu = s.tmu ∧ (modSport p f s).dome = s.dome
    ∧ (modSport p f s).fuses = s.fuses ∧ (modSport p f s).pending = s.pending ∧ (modSport p f s).clock = s.clock
    ∧ (modSport p f s).draws = s.draws ∧ (modSport p f s).lastFetch = s.lastFetch ∧ (modSport p f s).rdata = s.rdata
    ∧ (modSport p f s).hostWait = s.hostWait := setSport_leaves

@[simp] theorem setTag_leaves {s : State} {t} {v} :
    (setTag t v s).regs = s.regs ∧ (setTag t v s).mem = s.mem ∧ (setTag t v s).memRdErr = s.memRdErr
    ∧ (setTag t v s).memWrErr = s.memWrErr ∧ (setTag t v s).rings = s.rings ∧ (setTag t v s).dbSeq = s.dbSeq
    ∧ (setTag t v s).endSeq = s.endSeq ∧ (setTag t v s).groupStaged = s.groupStaged ∧ (setTag t v s).secys = s.secys
    ∧ (setTag t v s).rxscs = s.rxscs ∧ (setTag t v s).assocs = s.assocs ∧ (setTag t v s).installSeq = s.installSeq
    ∧ (setTag t v s).armed = s.armed ∧ (setTag t v s).marks = s.marks ∧ (setTag t v s).mirrorOps = s.mirrorOps
    ∧ (setTag t v s).ppls = s.ppls ∧ (setTag t v s).plCnt = s.plCnt ∧ (setTag t v s).egFrames = s.egFrames
    ∧ (setTag t v s).igFrames = s.igFrames ∧ (setTag t v s).macOut = s.macOut ∧ (setTag t v s).coreOut = s.coreOut
    ∧ (setTag t v s).retOut = s.retOut ∧ (setTag t v s).arr = s.arr ∧ (setTag t v s).items = s.items ∧ (setTag t v s).stcs = s.stcs
    ∧ (setTag t v s).evRings = s.evRings ∧ (setTag t v s).raised = s.raised ∧ (setTag t v s).limits = s.limits
    ∧ (setTag t v s).log = s.log ∧ (setTag t v s).pwr = s.pwr ∧ (setTag t v s).saved = s.saved ∧ (setTag t v s).tmp = s.tmp
    ∧ (setTag t v s).tmu = s.tmu ∧ (setTag t v s).dome = s.dome ∧ (setTag t v s).fuses = s.fuses ∧ (setTag t v s).pending = s.pending
    ∧ (setTag t v s).clock = s.clock ∧ (setTag t v s).draws = s.draws ∧ (setTag t v s).lastFetch = s.lastFetch
    ∧ (setTag t v s).rdata = s.rdata ∧ (setTag t v s).hostWait = s.hostWait :=
  ⟨rfl, rfl, rfl, rfl, rfl, rfl, rfl, rfl, rfl, rfl, rfl, rfl, rfl, rfl, rfl, rfl, rfl, rfl, rfl, rfl, rfl, rfl, rfl, rfl, rfl, rfl, rfl, rfl, rfl, rfl, rfl, rfl, rfl, rfl, rfl, rfl, rfl, rfl, rfl, rfl, rfl⟩

@[simp] theorem setCal_leaves {s : State} {p} {c} :
    (setCal p c s).regs = s.regs ∧ (setCal p c s).mem = s.mem ∧ (setCal p c s).memRdErr = s.memRdErr
    ∧ (setCal p c s).memWrErr = s.memWrErr ∧ (setCal p c s).rings = s.rings ∧ (setCal p c s).dbSeq = s.dbSeq
    ∧ (setCal p c s).endSeq = s.endSeq ∧ (setCal p c s).groupStaged = s.groupStaged ∧ (setCal p c s).secys = s.secys
    ∧ (setCal p c s).rxscs = s.rxscs ∧ (setCal p c s).assocs = s.assocs ∧ (setCal p c s).installSeq = s.installSeq
    ∧ (setCal p c s).armed = s.armed ∧ (setCal p c s).marks = s.marks ∧ (setCal p c s).mirrorOps = s.mirrorOps
    ∧ (setCal p c s).ppls = s.ppls ∧ (setCal p c s).plCnt = s.plCnt ∧ (setCal p c s).egFrames = s.egFrames
    ∧ (setCal p c s).igFrames = s.igFrames ∧ (setCal p c s).macOut = s.macOut ∧ (setCal p c s).coreOut = s.coreOut
    ∧ (setCal p c s).retOut = s.retOut ∧ (setCal p c s).arr = s.arr ∧ (setCal p c s).items = s.items ∧ (setCal p c s).stcs = s.stcs
    ∧ (setCal p c s).spl = s.spl ∧ (setCal p c s).evRings = s.evRings ∧ (setCal p c s).raised = s.raised
    ∧ (setCal p c s).limits = s.limits ∧ (setCal p c s).log = s.log ∧ (setCal p c s).pwr = s.pwr ∧ (setCal p c s).saved = s.saved
    ∧ (setCal p c s).tmp = s.tmp ∧ (setCal p c s).dome = s.dome ∧ (setCal p c s).fuses = s.fuses ∧ (setCal p c s).pending = s.pending
    ∧ (setCal p c s).clock = s.clock ∧ (setCal p c s).draws = s.draws ∧ (setCal p c s).lastFetch = s.lastFetch
    ∧ (setCal p c s).rdata = s.rdata ∧ (setCal p c s).hostWait = s.hostWait :=
  ⟨rfl, rfl, rfl, rfl, rfl, rfl, rfl, rfl, rfl, rfl, rfl, rfl, rfl, rfl, rfl, rfl, rfl, rfl, rfl, rfl, rfl, rfl, rfl, rfl, rfl, rfl, rfl, rfl, rfl, rfl, rfl, rfl, rfl, rfl, rfl, rfl, rfl, rfl, rfl, rfl, rfl⟩

@[simp] theorem setLoop_leaves {s : State} {k} {v} :
    (setLoop k v s).regs = s.regs ∧ (setLoop k v s).mem = s.mem ∧ (setLoop k v s).memRdErr = s.memRdErr
    ∧ (setLoop k v s).memWrErr = s.memWrErr ∧ (setLoop k v s).rings = s.rings ∧ (setLoop k v s).dbSeq = s.dbSeq
    ∧ (setLoop k v s).endSeq = s.endSeq ∧ (setLoop k v s).groupStaged = s.groupStaged ∧ (setLoop k v s).secys = s.secys
    ∧ (setLoop k v s).rxscs = s.rxscs ∧ (setLoop k v s).assocs = s.assocs ∧ (setLoop k v s).installSeq = s.installSeq
    ∧ (setLoop k v s).armed = s.armed ∧ (setLoop k v s).marks = s.marks ∧ (setLoop k v s).mirrorOps = s.mirrorOps
    ∧ (setLoop k v s).ppls = s.ppls ∧ (setLoop k v s).plCnt = s.plCnt ∧ (setLoop k v s).egFrames = s.egFrames
    ∧ (setLoop k v s).igFrames = s.igFrames ∧ (setLoop k v s).macOut = s.macOut ∧ (setLoop k v s).coreOut = s.coreOut
    ∧ (setLoop k v s).retOut = s.retOut ∧ (setLoop k v s).arr = s.arr ∧ (setLoop k v s).items = s.items
    ∧ (setLoop k v s).stcs = s.stcs ∧ (setLoop k v s).spl = s.spl ∧ (setLoop k v s).evRings = s.evRings
    ∧ (setLoop k v s).raised = s.raised ∧ (setLoop k v s).limits = s.limits ∧ (setLoop k v s).log = s.log
    ∧ (setLoop k v s).pwr = s.pwr ∧ (setLoop k v s).saved = s.saved ∧ (setLoop k v s).tmu = s.tmu ∧ (setLoop k v s).dome = s.dome
    ∧ (setLoop k v s).fuses = s.fuses ∧ (setLoop k v s).pending = s.pending ∧ (setLoop k v s).clock = s.clock
    ∧ (setLoop k v s).draws = s.draws ∧ (setLoop k v s).lastFetch = s.lastFetch ∧ (setLoop k v s).rdata = s.rdata
    ∧ (setLoop k v s).hostWait = s.hostWait :=
  ⟨rfl, rfl, rfl, rfl, rfl, rfl, rfl, rfl, rfl, rfl, rfl, rfl, rfl, rfl, rfl, rfl, rfl, rfl, rfl, rfl, rfl, rfl, rfl, rfl, rfl, rfl, rfl, rfl, rfl, rfl, rfl, rfl, rfl, rfl, rfl, rfl, rfl, rfl, rfl, rfl, rfl⟩

@[simp] theorem modPwr_leaves {s : State} {f} :
    (modPwr f s).regs = s.regs ∧ (modPwr f s).mem = s.mem ∧ (modPwr f s).memRdErr = s.memRdErr ∧ (modPwr f s).memWrErr = s.memWrErr
    ∧ (modPwr f s).rings = s.rings ∧ (modPwr f s).dbSeq = s.dbSeq ∧ (modPwr f s).endSeq = s.endSeq
    ∧ (modPwr f s).groupStaged = s.groupStaged ∧ (modPwr f s).secys = s.secys ∧ (modPwr f s).rxscs = s.rxscs
    ∧ (modPwr f s).assocs = s.assocs ∧ (modPwr f s).installSeq = s.installSeq ∧ (modPwr f s).armed = s.armed
    ∧ (modPwr f s).marks = s.marks ∧ (modPwr f s).mirrorOps = s.mirrorOps ∧ (modPwr f s).ppls = s.ppls ∧ (modPwr f s).plCnt = s.plCnt
    ∧ (modPwr f s).egFrames = s.egFrames ∧ (modPwr f s).igFrames = s.igFrames ∧ (modPwr f s).macOut = s.macOut
    ∧ (modPwr f s).coreOut = s.coreOut ∧ (modPwr f s).retOut = s.retOut ∧ (modPwr f s).arr = s.arr ∧ (modPwr f s).items = s.items
    ∧ (modPwr f s).stcs = s.stcs ∧ (modPwr f s).spl = s.spl ∧ (modPwr f s).evRings = s.evRings ∧ (modPwr f s).raised = s.raised
    ∧ (modPwr f s).limits = s.limits ∧ (modPwr f s).log = s.log ∧ (modPwr f s).saved = s.saved ∧ (modPwr f s).tmp = s.tmp
    ∧ (modPwr f s).tmu = s.tmu ∧ (modPwr f s).dome = s.dome ∧ (modPwr f s).fuses = s.fuses ∧ (modPwr f s).pending = s.pending
    ∧ (modPwr f s).clock = s.clock ∧ (modPwr f s).draws = s.draws ∧ (modPwr f s).lastFetch = s.lastFetch
    ∧ (modPwr f s).rdata = s.rdata ∧ (modPwr f s).hostWait = s.hostWait :=
  ⟨rfl, rfl, rfl, rfl, rfl, rfl, rfl, rfl, rfl, rfl, rfl, rfl, rfl, rfl, rfl, rfl, rfl, rfl, rfl, rfl, rfl, rfl, rfl, rfl, rfl, rfl, rfl, rfl, rfl, rfl, rfl, rfl, rfl, rfl, rfl, rfl, rfl, rfl, rfl, rfl, rfl⟩

@[simp] theorem bumpRetcnt_leaves {s : State} :
    (bumpRetcnt s).mem = s.mem ∧ (bumpRetcnt s).memRdErr = s.memRdErr ∧ (bumpRetcnt s).memWrErr = s.memWrErr
    ∧ (bumpRetcnt s).rings = s.rings ∧ (bumpRetcnt s).dbSeq = s.dbSeq ∧ (bumpRetcnt s).endSeq = s.endSeq
    ∧ (bumpRetcnt s).groupStaged = s.groupStaged ∧ (bumpRetcnt s).secys = s.secys ∧ (bumpRetcnt s).rxscs = s.rxscs
    ∧ (bumpRetcnt s).assocs = s.assocs ∧ (bumpRetcnt s).installSeq = s.installSeq ∧ (bumpRetcnt s).armed = s.armed
    ∧ (bumpRetcnt s).marks = s.marks ∧ (bumpRetcnt s).mirrorOps = s.mirrorOps ∧ (bumpRetcnt s).ppls = s.ppls
    ∧ (bumpRetcnt s).plCnt = s.plCnt ∧ (bumpRetcnt s).egFrames = s.egFrames ∧ (bumpRetcnt s).igFrames = s.igFrames
    ∧ (bumpRetcnt s).macOut = s.macOut ∧ (bumpRetcnt s).coreOut = s.coreOut ∧ (bumpRetcnt s).retOut = s.retOut
    ∧ (bumpRetcnt s).arr = s.arr ∧ (bumpRetcnt s).items = s.items ∧ (bumpRetcnt s).stcs = s.stcs ∧ (bumpRetcnt s).spl = s.spl
    ∧ (bumpRetcnt s).evRings = s.evRings ∧ (bumpRetcnt s).raised = s.raised ∧ (bumpRetcnt s).limits = s.limits
    ∧ (bumpRetcnt s).log = s.log ∧ (bumpRetcnt s).pwr = s.pwr ∧ (bumpRetcnt s).saved = s.saved ∧ (bumpRetcnt s).tmp = s.tmp
    ∧ (bumpRetcnt s).tmu = s.tmu ∧ (bumpRetcnt s).dome = s.dome ∧ (bumpRetcnt s).fuses = s.fuses ∧ (bumpRetcnt s).pending = s.pending
    ∧ (bumpRetcnt s).clock = s.clock ∧ (bumpRetcnt s).draws = s.draws ∧ (bumpRetcnt s).lastFetch = s.lastFetch
    ∧ (bumpRetcnt s).rdata = s.rdata ∧ (bumpRetcnt s).hostWait = s.hostWait := rset_leaves

@[simp] theorem hostTurn_leaves {s : State} :
    (hostTurn s).regs = s.regs ∧ (hostTurn s).mem = s.mem ∧ (hostTurn s).memRdErr = s.memRdErr ∧ (hostTurn s).memWrErr = s.memWrErr
    ∧ (hostTurn s).rings = s.rings ∧ (hostTurn s).dbSeq = s.dbSeq ∧ (hostTurn s).endSeq = s.endSeq
    ∧ (hostTurn s).groupStaged = s.groupStaged ∧ (hostTurn s).secys = s.secys ∧ (hostTurn s).rxscs = s.rxscs
    ∧ (hostTurn s).assocs = s.assocs ∧ (hostTurn s).installSeq = s.installSeq ∧ (hostTurn s).armed = s.armed
    ∧ (hostTurn s).marks = s.marks ∧ (hostTurn s).mirrorOps = s.mirrorOps ∧ (hostTurn s).ppls = s.ppls ∧ (hostTurn s).plCnt = s.plCnt
    ∧ (hostTurn s).egFrames = s.egFrames ∧ (hostTurn s).igFrames = s.igFrames ∧ (hostTurn s).macOut = s.macOut
    ∧ (hostTurn s).coreOut = s.coreOut ∧ (hostTurn s).retOut = s.retOut ∧ (hostTurn s).arr = s.arr ∧ (hostTurn s).items = s.items
    ∧ (hostTurn s).stcs = s.stcs ∧ (hostTurn s).evRings = s.evRings ∧ (hostTurn s).raised = s.raised ∧ (hostTurn s).limits = s.limits
    ∧ (hostTurn s).log = s.log ∧ (hostTurn s).pwr = s.pwr ∧ (hostTurn s).saved = s.saved ∧ (hostTurn s).tmp = s.tmp
    ∧ (hostTurn s).tmu = s.tmu ∧ (hostTurn s).dome = s.dome ∧ (hostTurn s).fuses = s.fuses ∧ (hostTurn s).pending = s.pending
    ∧ (hostTurn s).clock = s.clock ∧ (hostTurn s).draws = s.draws ∧ (hostTurn s).lastFetch = s.lastFetch
    ∧ (hostTurn s).rdata = s.rdata ∧ (hostTurn s).hostWait = s.hostWait :=
  ⟨rfl, rfl, rfl, rfl, rfl, rfl, rfl, rfl, rfl, rfl, rfl, rfl, rfl, rfl, rfl, rfl, rfl, rfl, rfl, rfl, rfl, rfl, rfl, rfl, rfl, rfl, rfl, rfl, rfl, rfl, rfl, rfl, rfl, rfl, rfl, rfl, rfl, rfl, rfl, rfl, rfl⟩

@[simp] theorem served_leaves {s : State} {n} :
    (served n s).regs = s.regs ∧ (served n s).mem = s.mem ∧ (served n s).memRdErr = s.memRdErr ∧ (served n s).memWrErr = s.memWrErr
    ∧ (served n s).rings = s.rings ∧ (served n s).dbSeq = s.dbSeq ∧ (served n s).endSeq = s.endSeq
    ∧ (served n s).groupStaged = s.groupStaged ∧ (served n s).secys = s.secys ∧ (served n s).rxscs = s.rxscs
    ∧ (served n s).assocs = s.assocs ∧ (served n s).installSeq = s.installSeq ∧ (served n s).armed = s.armed
    ∧ (served n s).marks = s.marks ∧ (served n s).mirrorOps = s.mirrorOps ∧ (served n s).ppls = s.ppls ∧ (served n s).plCnt = s.plCnt
    ∧ (served n s).egFrames = s.egFrames ∧ (served n s).igFrames = s.igFrames ∧ (served n s).macOut = s.macOut
    ∧ (served n s).coreOut = s.coreOut ∧ (served n s).retOut = s.retOut ∧ (served n s).arr = s.arr ∧ (served n s).items = s.items
    ∧ (served n s).stcs = s.stcs ∧ (served n s).spl = s.spl ∧ (served n s).evRings = s.evRings ∧ (served n s).raised = s.raised
    ∧ (served n s).limits = s.limits ∧ (served n s).log = s.log ∧ (served n s).pwr = s.pwr ∧ (served n s).saved = s.saved
    ∧ (served n s).tmp = s.tmp ∧ (served n s).tmu = s.tmu ∧ (served n s).dome = s.dome ∧ (served n s).fuses = s.fuses
    ∧ (served n s).pending = s.pending ∧ (served n s).clock = s.clock ∧ (served n s).draws = s.draws ∧ (served n s).rdata = s.rdata
    ∧ (served n s).hostWait = s.hostWait :=
  ⟨rfl, rfl, rfl, rfl, rfl, rfl, rfl, rfl, rfl, rfl, rfl, rfl, rfl, rfl, rfl, rfl, rfl, rfl, rfl, rfl, rfl, rfl, rfl, rfl, rfl, rfl, rfl, rfl, rfl, rfl, rfl, rfl, rfl, rfl, rfl, rfl, rfl, rfl, rfl, rfl, rfl⟩

/-! ### What the part that an update writes reads as -/

@[simp] theorem rget_rset_self (off : Nat) (v : Word) (s : State) : rget (rset off v s) off = v := by simp [rget, rset]

theorem rget_rset_ne {o off : Nat} (v : Word) (s : State) (h : o ≠ off) : rget (rset off v s) o = rget s o := by
  simp only [rget, rset]
  generalize ht : s.regs = t
  by_cases hv : v = regReset off
  · simp [tabPut, hv, tabGet_del_ne _ _ h]
  · simp [tabPut, hv, tabGet_ins_ne _ _ _ h]

theorem rget_rsetFld_ne {o off : Nat} (lo len v : Nat) (s : State) (h : o ≠ off) : rget (rsetFld off lo len v s) o = rget s o :=
  rget_rset_ne _ _ h

theorem rget_rsat_ne {o off : Nat} (lo len inc : Nat) (s : State) (h : o ≠ off) : rget (rsat off lo len inc s) o = rget s o :=
  rget_rset_ne _ _ h

@[simp] theorem ring_setRing_self {s : State} {n r} : ring (setRing n r s) n = r := by simp [ring, setRing]

theorem ring_setRing_ne {s : State} {j n r} (h : j ≠ n) : ring (setRing n r s) j = ring s j := by simp [ring, setRing, tabGet_put_ne _ _ _ h]

@[simp] theorem evRing_setEvRing_self {s : State} {m r} : evRing (setEvRing m r s) m = r := by simp [evRing, setEvRing]

theorem evRing_setEvRing_ne {s : State} {j m r} (h : j ≠ m) : evRing (setEvRing m r s) j = evRing s j := by simp [evRing, setEvRing, tabGet_put_ne _ _ _ h]

@[simp] theorem tower_setTower_self {s : State} {t v} : tower (setTower t v s) t = v := by simp [tower, setTower]

theorem tower_setTower_ne {s : State} {j t v} (h : j ≠ t) : tower (setTower t v s) j = tower s j := by simp [tower, setTower, tabGet_put_ne _ _ _ h]

@[simp] theorem bslot_setBslot_self {s : State} {i b} : bslot (setBslot i b s) i = b := by simp [bslot, setBslot]

theorem bslot_setBslot_ne {s : State} {j i b} (h : j ≠ i) : bslot (setBslot i b s) j = bslot s j := by simp [bslot, setBslot, tabGet_put_ne _ _ _ h]

@[simp] theorem slot_setSlot_self {s : State} {i v} : slot (setSlot i v s) i = v := by simp [slot, setSlot]

theorem slot_setSlot_ne {s : State} {j i v} (h : j ≠ i) : slot (setSlot i v s) j = slot s j := by simp [slot, setSlot, tabGet_put_ne _ _ _ h]

@[simp] theorem secy_setSecy_self {s : State} {i y} : secy (setSecy i y s) i = y := by simp [secy, setSecy]

theorem secy_setSecy_ne {s : State} {j i y} (h : j ≠ i) : secy (setSecy i y s) j = secy s j := by simp [secy, setSecy, tabGet_put_ne _ _ _ h]

@[simp] theorem rxsc_setRxsc_self {s : State} {i c} : rxsc (setRxsc i c s) i = c := by simp [rxsc, setRxsc]

theorem rxsc_setRxsc_ne {s : State} {j i c} (h : j ≠ i) : rxsc (setRxsc i c s) j = rxsc s j := by simp [rxsc, setRxsc, tabGet_put_ne _ _ _ h]

@[simp] theorem assoc_setAssoc_self {s : State} {i a} : assoc (setAssoc i a s) i = a := by simp [assoc, setAssoc]

theorem assoc_setAssoc_ne {s : State} {j i a} (h : j ≠ i) : assoc (setAssoc i a s) j = assoc s j := by simp [assoc, setAssoc, tabGet_put_ne _ _ _ h]

@[simp] theorem ppl_setPpl_self {s : State} {k v} : ppl (setPpl k v s) k = v := by simp [ppl, setPpl]

theorem ppl_setPpl_ne {s : State} {j k v} (h : j ≠ k) : ppl (setPpl k v s) j = ppl s j := by simp [ppl, setPpl, tabGet_put_ne _ _ _ h]

@[simp] theorem item_setItem_self {s : State} {id x} : item (setItem id x s) id = x := by simp [item, setItem]

theorem item_setItem_ne {s : State} {j id x} (h : j ≠ id) : item (setItem id x s) j = item s j := by simp [item, setItem, tabGet_put_ne _ _ _ h]

@[simp] theorem egFrame_setEg_self {s : State} {id f} : egFrame (setEg id f s) id = f := by simp [egFrame, setEg]

theorem egFrame_setEg_ne {s : State} {j id f} (h : j ≠ id) : egFrame (setEg id f s) j = egFrame s j := by simp [egFrame, setEg, tabGet_put_ne _ _ _ h]

@[simp] theorem igFrame_setIg_self {s : State} {id f} : igFrame (setIg id f s) id = f := by simp [igFrame, setIg]

theorem igFrame_setIg_ne {s : State} {j id f} (h : j ≠ id) : igFrame (setIg id f s) j = igFrame s j := by simp [igFrame, setIg, tabGet_put_ne _ _ _ h]

@[simp] theorem stc_setStc_self {s : State} {c v} : stc (setStc c v s) c = v := by simp [stc, setStc]

theorem stc_setStc_ne {s : State} {j c v} (h : j ≠ c) : stc (setStc c v s) j = stc s j := by simp [stc, setStc, tabGet_put_ne _ _ _ h]

@[simp] theorem sport_setSport_self {s : State} {p v} : sport (setSport p v s) p = v := by simp [sport, setSport]

theorem sport_setSport_ne {s : State} {j p v} (h : j ≠ p) : sport (setSport p v s) j = sport s j := by simp [sport, setSport, tabGet_put_ne _ _ _ h]

@[simp] theorem cal_setCal_self {s : State} {p c} : cal (setCal p c s) p = c := by simp [cal, setCal]

theorem cal_setCal_ne {s : State} {j p c} (h : j ≠ p) : cal (setCal p c s) j = cal s j := by simp [cal, setCal, tabGet_put_ne _ _ _ h]

@[simp] theorem ring_modRing_self {s : State} {n f} : ring (modRing n f s) n = f (ring s n) := by simp [modRing]

theorem ring_modRing_ne {s : State} {m n f} (h : m ≠ n) : ring (modRing n f s) m = ring s m := ring_setRing_ne h

@[simp] theorem assoc_modAssoc_self {s : State} {i f} : assoc (modAssoc i f s) i = f (assoc s i) := by simp [modAssoc]

theorem assoc_modAssoc_ne {s : State} {j i f} (h : j ≠ i) : assoc (modAssoc i f s) j = assoc s j := assoc_setAssoc_ne h

@[simp] theorem hostTurn_spl {s : State} : (hostTurn s).spl = { s.spl with lastFar := false } := rfl

/-- On a near bus that the host was served last nothing changes. -/
theorem hostTurn_id {s : State} (h : s.spl.lastFar = false) : hostTurn s = s := by
  rcases s with ⟨⟩
  simp only [hostTurn] at h ⊢
  rw [← h]

@[simp] theorem served_lastFetch {s : State} {n} : (served n s).lastFetch = n := rfl

@[simp] theorem modPwr_pwr {s : State} {f} : (modPwr f s).pwr = f s.pwr := rfl

end Sys2Proof.Machine
end

