-- ==== Sys2Proof/Laws/Ops.lean ====
section
/-! SUPPORT. Sys2Proof/Laws/Ops.lean: what the shared operations do, each said once: register fields, raised events, a completion, a
write of host memory, draws, the start of a descriptor. -/

namespace Sys2Proof.Machine

/-! ### Fields of registers -/

theorem bitsN_setBitsN_self {v lo len x : Nat} (hx : x < 2 ^ len) : bitsN (setBitsN v lo len x) lo len = x := by
  simp only [bitsN, setBitsN, Nat.shiftRight_eq_div_pow]
  have h1 : v / 2 ^ lo % 2 ^ len * 2 ^ lo ≤ v :=
    Nat.le_trans (Nat.mul_le_mul_right _ (Nat.mod_le _ _)) (Nat.div_mul_le_self v _)
  have hp : 0 < 2 ^ lo := Nat.two_pow_pos lo
  rw [Nat.mod_eq_of_lt hx, Nat.add_mul_div_right _ _ hp, Nat.mul_comm (v / 2 ^ lo % 2 ^ len), Nat.sub_mul_div_of_le _ _ _ (by rw [Nat.mul_comm]; exact h1)]
  have h2 : v / 2 ^ lo - v / 2 ^ lo % 2 ^ len = 2 ^ len * (v / 2 ^ lo / 2 ^ len) := by
    have := Nat.div_add_mod (v / 2 ^ lo) (2 ^ len); omega
  rw [h2, Nat.mul_add_mod, Nat.mod_eq_of_lt hx]

/-- A field that lies in the register reads as the value put there. -/
theorem rfld_rsetFld_self {off lo len v : Nat} {s : State} (hl : lo + len ≤ 24) (hv : v < 2 ^ len) :
    rfld (rsetFld off lo len v s) off lo len = v := by
  simp only [rfld, rsetFld, rget_rset_self, fld, mkW, BitVec.toNat_ofNat]
  have e : (2 : Nat) ^ 24 = 2 ^ lo * 2 ^ len * 2 ^ (24 - (lo + len)) := by
    rw [← Nat.pow_add, ← Nat.pow_add]; congr 1; omega
  have h : ∀ n : Nat, bitsN (n % 2 ^ 24) lo len = bitsN n lo len := by
    intro n
    simp only [bitsN, Nat.shiftRight_eq_div_pow]
    rw [e, Nat.mul_assoc, Nat.mod_mul_right_div_self, Nat.mod_mul_right_mod]
  rw [h, bitsN_setBitsN_self hv]

/-- A counter field that saturates. -/
theorem rfld_rsat_self {off lo len inc : Nat} {s : State} (hl : lo + len ≤ 24) :
    rfld (rsat off lo len inc s) off lo len = satAdd len (rfld s off lo len) inc :=
  rfld_rsetFld_self hl (by have := Nat.two_pow_pos len; simp only [satAdd]; omega)

/-- Registers other than the one written keep every field. -/
theorem rfld_rset_ne {o off lo len : Nat} (v : Word) (s : State) (h : o ≠ off) : rfld (rset off v s) o lo len = rfld s o lo len := by
  simp [rfld, rget_rset_ne v s h]

/-! ### Raised events (R527, R529) -/

/-- Raising adds at most one event, and nothing else changes but the source's own limit. -/
theorem raiseSev_cases (sev src inst detail : Nat) (s : State) :
    raiseSev sev src inst detail s = s ∨ ∃ l, raiseSev sev src inst detail s = { s with
      raised := s.raised ++ [{ src, inst := inst % 256, detail := detail % 2 ^ 24, sev }], limits := l } := by
  unfold raiseSev
  split
  · dsimp only; split
    · exact .inr ⟨_, rfl⟩
    · exact .inl rfl
  · exact .inr ⟨s.limits, rfl⟩

/-- A source without the 1 ms limit is raised each time. -/
theorem raise_unlimited {src : Nat} (h : isLimited src = false) (inst detail : Nat) (s : State) :
    raise src inst detail s = { s with
      raised := s.raised ++ [{ src, inst := inst % 256, detail := detail % 2 ^ 24, sev := sevOf src }] } := by
  simp [raise, raiseSev, h]

@[simp] theorem raise_leaves {src inst detail : Nat} {s : State} :
    (raise src inst detail s).regs = s.regs ∧ (raise src inst detail s).mem = s.mem ∧ (raise src inst detail s).memRdErr = s.memRdErr
    ∧ (raise src inst detail s).memWrErr = s.memWrErr ∧ (raise src inst detail s).rings = s.rings
    ∧ (raise src inst detail s).dbSeq = s.dbSeq ∧ (raise src inst detail s).endSeq = s.endSeq
    ∧ (raise src inst detail s).groupStaged = s.groupStaged ∧ (raise src inst detail s).secys = s.secys
    ∧ (raise src inst detail s).rxscs = s.rxscs ∧ (raise src inst detail s).assocs = s.assocs
    ∧ (raise src inst detail s).installSeq = s.installSeq ∧ (raise src inst detail s).armed = s.armed
    ∧ (raise src inst detail s).marks = s.marks ∧ (raise src inst detail s).mirrorOps = s.mirrorOps
    ∧ (raise src inst detail s).ppls = s.ppls ∧ (raise src inst detail s).plCnt = s.plCnt
    ∧ (raise src inst detail s).egFrames = s.egFrames ∧ (raise src inst detail s).igFrames = s.igFrames
    ∧ (raise src inst detail s).macOut = s.macOut ∧ (raise src inst detail s).coreOut = s.coreOut
    ∧ (raise src inst detail s).retOut = s.retOut ∧ (raise src inst detail s).arr = s.arr ∧ (raise src inst detail s).items = s.items
    ∧ (raise src inst detail s).stcs = s.stcs ∧ (raise src inst detail s).spl = s.spl ∧ (raise src inst detail s).evRings = s.evRings
    ∧ (raise src inst detail s).log = s.log ∧ (raise src inst detail s).pwr = s.pwr ∧ (raise src inst detail s).saved = s.saved
    ∧ (raise src inst detail s).tmp = s.tmp ∧ (raise src inst detail s).tmu = s.tmu ∧ (raise src inst detail s).dome = s.dome
    ∧ (raise src inst detail s).fuses = s.fuses ∧ (raise src inst detail s).pending = s.pending
    ∧ (raise src inst detail s).clock = s.clock ∧ (raise src inst detail s).draws = s.draws
    ∧ (raise src inst detail s).lastFetch = s.lastFetch ∧ (raise src inst detail s).rdata = s.rdata
    ∧ (raise src inst detail s).hostWait = s.hostWait := by
  rcases raiseSev_cases (sevOf src) src inst detail s with h | ⟨l, h⟩ <;> simp [raise, h]

/-! ### Completions (R46, R48) -/

theorem find_modFirst {α : Type} {p : α → Bool} {f : α → α} {l : List α} {x : α} (h : l.find? p = some x) (hp : p (f x) = true) :
    (modFirst p f l).find? p = some (f x) := by
  induction l with
  | nil => simp at h
  | cons y r ih =>
    cases hy : p y with
    | true => simp only [List.find?_cons, hy, Option.some.injEq] at h; subst h; simp [modFirst, hy, hp]
    | false => simp only [List.find?_cons, hy] at h; simp [modFirst, hy, ih h]

/-- What a change of the first element that has a property leaves as it was: where none has it, everything. -/
theorem modFirst_none {α : Type} {p : α → Bool} {f : α → α} {l : List α} (h : l.find? p = none) : modFirst p f l = l := by
  induction l with
  | nil => rfl
  | cons y r ih =>
    cases hy : p y with
    | true => simp [hy] at h
    | false => simp only [List.find?_cons, hy] at h; simp [modFirst, hy, ih h]

/-- The first element that has a property is the one changed, where it stands. -/
theorem modFirst_append {α : Type} {p : α → Bool} {f : α → α} {a b : List α} {x : α} (ha : ∀ y ∈ a, p y = false) (hx : p x = true) :
    modFirst p f (a ++ x :: b) = a ++ f x :: b := by
  induction a with
  | nil => simp [modFirst, hx]
  | cons y r ih =>
    simp only [List.mem_cons, forall_eq_or_imp] at ha
    simp [modFirst, ha.1, ih ha.2]

/-- A change of an open descriptor that leaves it open at its index is found there. -/
theorem entAt_modEnt_self {n i : Nat} {f : Ent → Ent} {s : State} {e : Ent} (h : entAt s n i = some e) (hi : (f e).idx = i)
    (ho : (f e).isOpen = true) : entAt (modEnt n i f s) n i = some (f e) := by
  simp only [entAt, modEnt, ring_modRing_self] at h ⊢
  exact find_modFirst h (by simp [hi, ho])

/-- A completion changes only its own window entry: queue pointers, other rings and every other part of the state stay. -/
theorem finish_leaves {n i : Nat} {r : Res} {s : State} :
    (finish n i r s).mem = s.mem ∧ (finish n i r s).regs = s.regs ∧ (finish n i r s).pending = s.pending
      ∧ (finish n i r s).dome = s.dome ∧ (finish n i r s).pwr = s.pwr ∧ (finish n i r s).assocs = s.assocs
      ∧ (finish n i r s).secys = s.secys ∧ (finish n i r s).spl = s.spl ∧ (finish n i r s).tmu = s.tmu
      ∧ (finish n i r s).clock = s.clock := by
  unfold finish raisePerm; split <;> simp

/-! ### Host memory and draws -/

/-- A write of host memory changes memory and, when refused, the number of free values taken. -/
theorem memWrite_cases (a : Nat) (l : List Byte) (s : State) :
    (memWrite a l s = ({ s with mem := storeBytes a l s.mem }, true) ∧ memWrBad s a l.length = false)
      ∨ ∃ k, memWrite a l s = ({ s with mem := storeBytes a (l.take k) s.mem, draws := s.draws + 1 }, false) := by
  unfold memWrite
  split
  · exact .inr ⟨_, rfl⟩
  · next h => exact .inl ⟨rfl, by simpa using h⟩

/-- A byte after a store: the stored one inside the range, the old one outside it. -/
theorem tabGet_storeBytes (l : List Byte) (a : Nat) (t : Tab Byte) (k : Nat) :
    tabGet 0 (storeBytes a l t) k = if a ≤ k ∧ k < a + l.length then l.getD (k - a) 0 else tabGet 0 t k := by
  induction l generalizing a t with
  | nil => simp [storeBytes]
  | cons b r ih =>
    rw [storeBytes, ih, List.length_cons, tabGet_put]
    rcases Nat.lt_trichotomy k a with h | rfl | h
    · simp [Nat.not_le_of_lt h, Nat.ne_of_lt h, show ¬ a + 1 ≤ k by omega]
    · simp
    · obtain ⟨d, rfl⟩ : ∃ d, k = a + 1 + d := ⟨k - (a + 1), by omega⟩
      simp [show a + 1 + d - a = d + 1 by omega, show a ≤ a + 1 + d by omega, show a + 1 + d ≠ a by omega,
        show (a + 1 + d < a + 1 + r.length) ↔ (a + 1 + d < a + (r.length + 1)) by omega]

/-- Host memory reads back what was stored. -/
theorem memRead_stored {s : State} {a : Nat} {l : List Byte} (t : Tab Byte) (h : memRdBad s a l.length = false) (hm : s.mem = storeBytes a l t) :
    memRead s a l.length = some l := by
  rw [memRead, h]
  simp only [Bool.false_eq_true, if_false, Option.some.injEq, memByte, hm, tabGet_storeBytes]
  apply List.ext_getElem (by simp)
  intro i h1 h2
  simp [h2]

/-- What is stored elsewhere is not seen. -/
theorem memRead_stored_ne {s : State} {a b n : Nat} {l : List Byte} {t : Tab Byte} (h : memRdBad s b n = false) (hm : s.mem = storeBytes a l t)
    (hd : b + n ≤ a ∨ a + l.length ≤ b) : memRead s b n = memRead { s with mem := t } b n := by
  have h' : memRdBad { s with mem := t } b n = false := h
  rw [memRead, memRead, h, h']
  simp only [Bool.false_eq_true, if_false, Option.some.injEq, memByte, hm, tabGet_storeBytes]
  apply List.map_congr_left
  intro i hi
  rw [if_neg (by have := List.mem_range.1 hi; omega)]
theorem drawBytes_eq (n : Nat) (s : State) : (drawBytes n s).1 = { s with draws := s.draws + n } := rfl

@[simp] theorem drawBytes_length (n : Nat) (s : State) : (drawBytes n s).2.length = n := by simp [drawBytes]

/-! ### The start of a descriptor (R46, R53 to R56) -/

/-- Outside the alarm clock an executed descriptor completes with its answer. -/
theorem effect_noAlarm {n i : Nat} {r : Res} {s' s : State} (h : alarmNow s = false) : effect n i r s' s = finish n i r s' := by
  simp [effect, h]

/-- In the alarm clock it has no effect (R75). -/
theorem effect_alarm {n i : Nat} {r : Res} {s' s : State} (h : alarmNow s = true) : effect n i r s' s = finish n i r s := by
  simp [effect, h]

/-- What a command on a descriptor that may start does: the admission checks, then its body. -/
theorem runDesc_startable {s : State} {op n i : Nat} {w : List Word} (b : Body) (h : startable s op n i w = true) :
    runDesc op b n i s = match admitNow s n w with
      | some r => finish n i r s
      | none => afterBody n i (b n i w s) s := by
  unfold startable at h
  split at h
  · next e he =>
    simp only [Bool.and_eq_true, decide_eq_true_eq, Bool.not_eq_true'] at h
    obtain ⟨⟨⟨⟨⟨⟨h1, h2⟩, h3⟩, h4⟩, h5⟩, h6⟩, h7⟩ := h
    subst h4
    simp only [runDesc, he, h1, h2, h3, h5, h6, h7]
    cases admitNow s n e.words <;> simp
  · simp at h

/-- A descriptor that starts now runs its body: it completes with the body's answer, or is left running. -/
theorem runDesc_starts {s : State} {op n i : Nat} {w : List Word} (b : Body) (h : starts s op n i w = true) :
    runDesc op b n i s = match b n i w s with
      | (s', some r) => finish n i r s'
      | (s', none) => running n i s' := by
  simp only [starts, Bool.and_eq_true, Bool.not_eq_true', Option.isNone_iff_eq_none] at h
  obtain ⟨⟨h1, h2⟩, h3⟩ := h
  rw [runDesc_startable b h1, h2]
  rcases b n i w s with ⟨s', _ | r⟩ <;> simp [afterBody, running, effect, h3]

/-! ### The host at the register slave port (R426, R429) -/

/-- With the near bus free an access of the host is served at once. -/
theorem hostBus_free {c : Instr} {s : State} (h : busFree s) : hostBus c s = hostAccess c (hostTurn s) := by
  simp only [busFree] at h
  simp [hostBus, serveHost, hostTurn, h]

/-- While a locked sequence holds the near bus it waits, and changes nothing else. -/
theorem hostBus_held {c : Instr} {s : State} (h : ¬busFree s) : hostBus c s = { s with hostWait := s.hostWait ++ [c] } := by
  simp only [busFree] at h
  cases hh : s.spl.hold with
  | none => exact absurd hh h
  | some x => simp [hostBus, hh]

/-- Nothing waits for the near bus: nothing is served. -/
theorem serveWaiting_nil {n : Nat} {s : State} (h : s.hostWait = []) (hb : s.spl.busWait = []) : serveWaiting n s = s := by
  cases n with
  | zero => rfl
  | succ k => unfold serveWaiting; rw [h, hb]; cases s.spl.hold <;> rfl

/-- Power domains are read from one field. -/
theorem domOn_congr {s t : State} (h : t.pwr.on = s.pwr.on) (d : Nat) : domOn t d = domOn s d := by simp [domOn, h]

/-! ### Samples of a driven pad (R449) -/

@[simp] theorem pulled_open (drv level : BitVec 16) : pulled drv 0#16 level = ~~~drv := by
  simp only [pulled, BitVec.and_zero, BitVec.zero_or, BitVec.not_zero, BitVec.and_allOnes]
@[simp] theorem pulled_held (drv level : BitVec 16) : pulled drv (BitVec.allOnes 16) level = level := by
  simp only [pulled, BitVec.and_zero, BitVec.or_zero, BitVec.not_allOnes, BitVec.and_allOnes]

/-- A broken conductor is classed OPEN, whatever the wiring beyond the break does (R450). -/
theorem windowClass_open (s : State) (drv : Nat → BitVec 16) (k : Nat) (level : BitVec 16) :
    windowClass s drv k (pulled (drv k) 0#16 level) = (1, 0) := by
  have h : ~~~drv k ≠ drv k := fun h => by
    have := congrArg (·.getLsbD 0) h
    simp at this
  rw [pulled_open]; simp [windowClass, h]

end Sys2Proof.Machine
end

