-- ==== Sys2Proof/Laws/PerInstr.lean ====
section
/-! SUPPORT. Sys2Proof/Laws/PerInstr.lean: the family WellOperands: the check of WellFormed.lean passes exactly the commands whose operands
are in the ranges that the spec gives them, said here as plain inequalities. One lemma for each constructor. -/

namespace Sys2Proof.Laws.WellOperands

/-- The ranges of a command's operands (R35, R185, R217, R412, R424, R443, R537). -/
def operandsIn : Instr → Prop
  | .registerWrite off _ _ => 4 ∣ off.toNat
  | .glbPgLock => True
  | .ringEnable _ => True
  | .ringDisable _ => True
  | .resumeCq _ => True
  | .dblSqTail _ _ => True
  | .dblCqHead _ _ => True
  | .descriptorFetch _ => True
  | .completionWrite _ => True
  | .notifyTimer _ => True
  | .commitGroupStaging _ => True
  | .commitPoint _ => True
  | .nop _ i => i < 16384
  | .barrier _ i => i < 16384
  | .ringStop _ i => i < 16384
  | .swEvent _ i => i < 16384
  | .secySet _ i => i < 16384
  | .secyDelete _ i => i < 16384
  | .rxscSet _ i => i < 16384
  | .rxscDelete _ i => i < 16384
  | .ltRead _ i => i < 16384
  | .cntSnapshot _ i => i < 16384
  | .saInstall _ i => i < 16384
  | .saSwitch _ i => i < 16384
  | .saRetire _ i => i < 16384
  | .saAdjust _ i => i < 16384
  | .treeLoad _ i => i < 16384
  | .treeSwitch _ i => i < 16384
  | .treeRead _ i => i < 16384
  | .sltSeed _ i => i < 16384
  | .sltRebuild _ i => i < 16384
  | .sltEntry _ i => i < 16384
  | .slotUnwrap _ i => i < 16384
  | .slotGenerate _ i => i < 16384
  | .slotWrap _ i => i < 16384
  | .slotErase _ i => i < 16384
  | .slotAttr _ i => i < 16384
  | .slotRead _ i => i < 16384
  | .mkaDerive _ i => i < 16384
  | .signDigest _ i => i < 16384
  | .kumApply _ i => i < 16384
  | .kumCommit _ i => i < 16384
  | .imageNonce _ i => i < 16384
  | .imageLoad _ i => i < 16384
  | .lcChange _ i => i < 16384
  | .rpmbProvision _ i => i < 16384
  | .repairExport _ i => i < 16384
  | .repairLoad _ i => i < 16384
  | .attest _ i => i < 16384
  | .measExtend _ i => i < 16384
  | .measRead _ i => i < 16384
  | .logDump _ i => i < 16384
  | .jobGcm _ i => i < 16384
  | .jobXts _ i => i < 16384
  | .jobSecoc _ i => i < 16384
  | .jobMkpduIcv _ i => i < 16384
  | .jobRandom _ i => i < 16384
  | .stcCfgSet _ i => i < 16384
  | .stcCfgRead _ i => i < 16384
  | .timeSample _ i => i < 16384
  | .timeDomain _ i => i < 16384
  | .timeSelect _ i => i < 16384
  | .timeRead _ i => i < 16384
  | .calLoad _ i => i < 16384
  | .calSwitch _ i => i < 16384
  | .calRead _ i => i < 16384
  | .splRead _ i => i < 16384
  | .splWrite _ i => i < 16384
  | .splLocked _ i => i < 16384
  | .splKeySend _ i => i < 16384
  | .splBcast _ i => i < 16384
  | .egFrameAdmit _ _ _ bytes _ _ => bytes.length ≠ 0
  | .switchFire _ => True
  | .aonLeaseConfirm _ => True
  | .mirrorConfirmTimeout _ => True
  | .leaseRecordResend _ => True
  | .itemDispatch _ => True
  | .keyFetchDone _ => True
  | .towerItemDone _ => True
  | .parityMismatch _ ghash unit _ => ghash = true → unit.val < 3
  | .rollingTestStep => True
  | .knownAnswerTestDone _ ghash unit _ => ghash = true → unit.val < 3
  | .stagingStart _ => True
  | .stagingRaise _ => True
  | .egFrameStart _ => True
  | .launchRelease _ => True
  | .egFrameEnd _ => True
  | .calInstancePass _ => True
  | .returnQueueSend _ => True
  | .igFrameReceive _ _ bytes _ _ => bytes.length ≠ 0
  | .sltLearnStep _ => True
  | .holdLimitExpire _ => True
  | .igFrameRelease _ => True
  | .sltAgingSweep _ => True
  | .sltScrub _ _ loc => loc < 2048 ∨ 4096 ≤ loc ∧ loc < 4160
  | .stcRequest _ _ _ _ _ _ _ => True
  | .stcDataIn _ _ _ _ => True
  | .stcTransferComplete _ _ => True
  | .precedingKeyRelease => True
  | .drbgHealthFail => True
  | .drbgRestartDone _ => True
  | .drbgStartupDone _ => True
  | .remaskDone => True
  | .lcHalfwrap => True
  | .sampleLossExpire _ => True
  | .slewDone => True
  | .cycSyncEdge _ => True
  | .cycPullApply => True
  | .cycSyncLost => True
  | .calChangeover _ => True
  | .tmuSyncClear => True
  | .splPortEnable _ => True
  | .splPortDisable _ => True
  | .splRetrainRequest _ => True
  | .receiverDetectDone _ _ _ => True
  | .trainingSetReceive _ _ => True
  | .splRateAck _ => True
  | .trainingTimeout _ => True
  | .laneLockChange _ _ => True
  | .lockLossTimeout _ => True
  | .retrainTimeout _ => True
  | .gen2FramingError _ => True
  | .splPacketSend _ => True
  | .replayTimeout _ => True
  | .ackTimer _ => True
  | .ack _ words => 3 ≤ words.length ∧ words.length ≤ 344
  | .splForward _ words => 3 ≤ words.length ∧ words.length ≤ 344
  | .rdReq _ words => 3 ≤ words.length ∧ words.length ≤ 344
  | .wr _ words => 3 ≤ words.length ∧ words.length ≤ 344
  | .lockReq _ words => 3 ≤ words.length ∧ words.length ≤ 344
  | .bcast _ words => 3 ≤ words.length ∧ words.length ≤ 344
  | .cpl _ words => 3 ≤ words.length ∧ words.length ≤ 344
  | .errNotice _ words => 3 ≤ words.length ∧ words.length ≤ 344
  | .eventPacket _ words => 3 ≤ words.length ∧ words.length ≤ 344
  | .leaseRecordReceive _ words => 3 ≤ words.length ∧ words.length ≤ 344
  | .partnerLeaseConfirm _ words => 3 ≤ words.length ∧ words.length ≤ 344
  | .openPkt _ words => 3 ≤ words.length ∧ words.length ≤ 344
  | .nonce _ words => 3 ≤ words.length ∧ words.length ≤ 344
  | .blob _ words => 3 ≤ words.length ∧ words.length ≤ 344
  | .done _ words => 3 ≤ words.length ∧ words.length ≤ 344
  | .timeReqTimer _ => True
  | .timeReq _ words => 3 ≤ words.length ∧ words.length ≤ 344
  | .timeResp _ words => 3 ≤ words.length ∧ words.length ≤ 344
  | .test _ words => 3 ≤ words.length ∧ words.length ≤ 344
  | .requestTimeout tag => tag < 4096
  | .lockTimeout => True
  | .gatherTimeout tag => tag < 16777216
  | .splNodeLock => True
  | .splAccessLock => True
  | .splKtCtrlLock => True
  | .domRpmbAddrLock => True
  | .tmpCtrlLock => True
  | .loopWindowEnd _ _ => True
  | .shieldEvaluate _ _ => True
  | .clockGlitch _ => True
  | .temperatureSample _ => True
  | .tamperResponse => True
  | .tamperEraseDone => True
  | .eventRingWrite _ => True
  | .logWrite => True
  | .evtRingEnable _ _ => True
  | .evtRingHead _ _ => True
  | .evtPendClear _ _ => True
  | .evtForce _ _ => True
  | .logCtrlAck => True
  | .logRdIdx _ => True
  | .readClear rd => 4 ∣ rd.off.toNat
  | .latchingLoRead rd => 4 ∣ rd.off.toNat
  | .vchWake _ => True
  | .pwrReqRun => True
  | .pwrReqIdle => True
  | .pwrReqRetain => True
  | .pwrReqOff => True
  | .pwrDomainWrite _ => True
  | .domainDrainDone => True
  | .entryDrainDone => True
  | .pwrSwAck _ => True
  | .pwrSwitchStagger => True
  | .pwrAckTimeout _ => True
  | .clockOk _ => True
  | .idleExit => True
  | .pwrCtxRestore => True
  | .pwrCtxDiscard => True
  | .contextRestoreStart => True
  | .contextRestoreDone => True
  | .blockReset => True
  | .aonPowerUp => True
  | .shadowBuildDone _ => True
  | .packetDiscard _ words => 3 ≤ words.length ∧ words.length ≤ 344
  | .gen1FramingResync _ => True
  | .clockFaultClear => True
  | .idleRangeAccess off => 4 ∣ off.toNat

/-- The check passes a command exactly when its operands are in range. -/
def Statement (c : Instr) : Prop := illFormed c = none ↔ operandsIn c

theorem of_index {i : Nat} : chkIndex i = none ↔ i < 16384 := by unfold chkIndex; split <;> simp_all
theorem of_offset {o : BitVec 17} : chkOffset o = none ↔ 4 ∣ o.toNat := by unfold chkOffset; split <;> simp_all <;> omega
theorem of_packet {w : List Word} : chkPacket w = none ↔ 3 ≤ w.length ∧ w.length ≤ 344 := by unfold chkPacket; split <;> simp_all
theorem of_unit {g : Bool} {u : Fin 9} : chkUnit g u = none ↔ (g = true → u.val < 3) := by unfold chkUnit; split <;> simp_all
theorem of_loc {l : Nat} : chkLoc l = none ↔ l < 2048 ∨ 4096 ≤ l ∧ l < 4160 := by unfold chkLoc; split <;> simp_all
theorem of_tag {t : Nat} : chkTag t = none ↔ t < 4096 := by unfold chkTag; split <;> simp_all
theorem of_gather {k : Nat} : chkGather k = none ↔ k < 16777216 := by unfold chkGather; split <;> simp_all
theorem of_frame {b : List Byte} : chkFrame b = none ↔ b.length ≠ 0 := by unfold chkFrame; split <;> simp_all

theorem registerWrite (off : BitVec 17) (val : BitVec 32) (full : Bool) : Statement (.registerWrite off val full) := of_offset
theorem glbPgLock : Statement (.glbPgLock) := iff_of_true rfl trivial
theorem ringEnable (n : Fin 64) : Statement (.ringEnable n) := iff_of_true rfl trivial
theorem ringDisable (n : Fin 64) : Statement (.ringDisable n) := iff_of_true rfl trivial
theorem resumeCq (n : Fin 64) : Statement (.resumeCq n) := iff_of_true rfl trivial
theorem dblSqTail (n : Fin 64) (v : Word) : Statement (.dblSqTail n v) := iff_of_true rfl trivial
theorem dblCqHead (n : Fin 64) (v : Word) : Statement (.dblCqHead n v) := iff_of_true rfl trivial
theorem descriptorFetch (n : Fin 64) : Statement (.descriptorFetch n) := iff_of_true rfl trivial
theorem completionWrite (n : Fin 64) : Statement (.completionWrite n) := iff_of_true rfl trivial
theorem notifyTimer (n : Fin 64) : Statement (.notifyTimer n) := iff_of_true rfl trivial
theorem commitGroupStaging (n : Fin 64) : Statement (.commitGroupStaging n) := iff_of_true rfl trivial
theorem commitPoint (n : Fin 64) : Statement (.commitPoint n) := iff_of_true rfl trivial
theorem nop (n : Fin 64) (i : Nat) : Statement (.nop n i) := of_index
theorem barrier (n : Fin 64) (i : Nat) : Statement (.barrier n i) := of_index
theorem ringStop (n : Fin 64) (i : Nat) : Statement (.ringStop n i) := of_index
theorem swEvent (n : Fin 64) (i : Nat) : Statement (.swEvent n i) := of_index
theorem secySet (n : Fin 64) (i : Nat) : Statement (.secySet n i) := of_index
theorem secyDelete (n : Fin 64) (i : Nat) : Statement (.secyDelete n i) := of_index
theorem rxscSet (n : Fin 64) (i : Nat) : Statement (.rxscSet n i) := of_index
theorem rxscDelete (n : Fin 64) (i : Nat) : Statement (.rxscDelete n i) := of_index
theorem ltRead (n : Fin 64) (i : Nat) : Statement (.ltRead n i) := of_index
theorem cntSnapshot (n : Fin 64) (i : Nat) : Statement (.cntSnapshot n i) := of_index
theorem saInstall (n : Fin 64) (i : Nat) : Statement (.saInstall n i) := of_index
theorem saSwitch (n : Fin 64) (i : Nat) : Statement (.saSwitch n i) := of_index
theorem saRetire (n : Fin 64) (i : Nat) : Statement (.saRetire n i) := of_index
theorem saAdjust (n : Fin 64) (i : Nat) : Statement (.saAdjust n i) := of_index
theorem treeLoad (n : Fin 64) (i : Nat) : Statement (.treeLoad n i) := of_index
theorem treeSwitch (n : Fin 64) (i : Nat) : Statement (.treeSwitch n i) := of_index
theorem treeRead (n : Fin 64) (i : Nat) : Statement (.treeRead n i) := of_index
theorem sltSeed (n : Fin 64) (i : Nat) : Statement (.sltSeed n i) := of_index
theorem sltRebuild (n : Fin 64) (i : Nat) : Statement (.sltRebuild n i) := of_index
theorem sltEntry (n : Fin 64) (i : Nat) : Statement (.sltEntry n i) := of_index
theorem slotUnwrap (n : Fin 64) (i : Nat) : Statement (.slotUnwrap n i) := of_index
theorem slotGenerate (n : Fin 64) (i : Nat) : Statement (.slotGenerate n i) := of_index
theorem slotWrap (n : Fin 64) (i : Nat) : Statement (.slotWrap n i) := of_index
theorem slotErase (n : Fin 64) (i : Nat) : Statement (.slotErase n i) := of_index
theorem slotAttr (n : Fin 64) (i : Nat) : Statement (.slotAttr n i) := of_index
theorem slotRead (n : Fin 64) (i : Nat) : Statement (.slotRead n i) := of_index
theorem mkaDerive (n : Fin 64) (i : Nat) : Statement (.mkaDerive n i) := of_index
theorem signDigest (n : Fin 64) (i : Nat) : Statement (.signDigest n i) := of_index
theorem kumApply (n : Fin 64) (i : Nat) : Statement (.kumApply n i) := of_index
theorem kumCommit (n : Fin 64) (i : Nat) : Statement (.kumCommit n i) := of_index
theorem imageNonce (n : Fin 64) (i : Nat) : Statement (.imageNonce n i) := of_index
theorem imageLoad (n : Fin 64) (i : Nat) : Statement (.imageLoad n i) := of_index
theorem lcChange (n : Fin 64) (i : Nat) : Statement (.lcChange n i) := of_index
theorem rpmbProvision (n : Fin 64) (i : Nat) : Statement (.rpmbProvision n i) := of_index
theorem repairExport (n : Fin 64) (i : Nat) : Statement (.repairExport n i) := of_index
theorem repairLoad (n : Fin 64) (i : Nat) : Statement (.repairLoad n i) := of_index
theorem attest (n : Fin 64) (i : Nat) : Statement (.attest n i) := of_index
theorem measExtend (n : Fin 64) (i : Nat) : Statement (.measExtend n i) := of_index
theorem measRead (n : Fin 64) (i : Nat) : Statement (.measRead n i) := of_index
theorem logDump (n : Fin 64) (i : Nat) : Statement (.logDump n i) := of_index
theorem jobGcm (n : Fin 64) (i : Nat) : Statement (.jobGcm n i) := of_index
theorem jobXts (n : Fin 64) (i : Nat) : Statement (.jobXts n i) := of_index
theorem jobSecoc (n : Fin 64) (i : Nat) : Statement (.jobSecoc n i) := of_index
theorem jobMkpduIcv (n : Fin 64) (i : Nat) : Statement (.jobMkpduIcv n i) := of_index
theorem jobRandom (n : Fin 64) (i : Nat) : Statement (.jobRandom n i) := of_index
theorem stcCfgSet (n : Fin 64) (i : Nat) : Statement (.stcCfgSet n i) := of_index
theorem stcCfgRead (n : Fin 64) (i : Nat) : Statement (.stcCfgRead n i) := of_index
theorem timeSample (n : Fin 64) (i : Nat) : Statement (.timeSample n i) := of_index
theorem timeDomain (n : Fin 64) (i : Nat) : Statement (.timeDomain n i) := of_index
theorem timeSelect (n : Fin 64) (i : Nat) : Statement (.timeSelect n i) := of_index
theorem timeRead (n : Fin 64) (i : Nat) : Statement (.timeRead n i) := of_index
theorem calLoad (n : Fin 64) (i : Nat) : Statement (.calLoad n i) := of_index
theorem calSwitch (n : Fin 64) (i : Nat) : Statement (.calSwitch n i) := of_index
theorem calRead (n : Fin 64) (i : Nat) : Statement (.calRead n i) := of_index
theorem splRead (n : Fin 64) (i : Nat) : Statement (.splRead n i) := of_index
theorem splWrite (n : Fin 64) (i : Nat) : Statement (.splWrite n i) := of_index
theorem splLocked (n : Fin 64) (i : Nat) : Statement (.splLocked n i) := of_index
theorem splKeySend (n : Fin 64) (i : Nat) : Statement (.splKeySend n i) := of_index
theorem splBcast (n : Fin 64) (i : Nat) : Statement (.splBcast n i) := of_index
theorem egFrameAdmit (port : Fin 24) (express : Bool) (len : BitVec 14) (bytes : List Byte) (launch : Option (BitVec 32)) (err : Bool) : Statement (.egFrameAdmit port express len bytes launch err) := of_frame
theorem switchFire (secy : Fin 512) : Statement (.switchFire secy) := iff_of_true rfl trivial
theorem aonLeaseConfirm (sa : Fin 8192) : Statement (.aonLeaseConfirm sa) := iff_of_true rfl trivial
theorem mirrorConfirmTimeout (sa : Fin 8192) : Statement (.mirrorConfirmTimeout sa) := iff_of_true rfl trivial
theorem leaseRecordResend (sa : Fin 8192) : Statement (.leaseRecordResend sa) := iff_of_true rfl trivial
theorem itemDispatch (id : Nat) : Statement (.itemDispatch id) := iff_of_true rfl trivial
theorem keyFetchDone (id : Nat) : Statement (.keyFetchDone id) := iff_of_true rfl trivial
theorem towerItemDone (id : Nat) : Statement (.towerItemDone id) := iff_of_true rfl trivial
theorem parityMismatch (tower : Fin 8) (ghash : Bool) (unit : Fin 9) (id : Nat) : Statement (.parityMismatch tower ghash unit id) := of_unit
theorem rollingTestStep : Statement (.rollingTestStep) := iff_of_true rfl trivial
theorem knownAnswerTestDone (tower : Fin 8) (ghash : Bool) (unit : Fin 9) (pass : Bool) : Statement (.knownAnswerTestDone tower ghash unit pass) := of_unit
theorem stagingStart (slot : Fin 512) : Statement (.stagingStart slot) := iff_of_true rfl trivial
theorem stagingRaise (slot : Fin 512) : Statement (.stagingRaise slot) := iff_of_true rfl trivial
theorem egFrameStart (id : Nat) : Statement (.egFrameStart id) := iff_of_true rfl trivial
theorem launchRelease (id : Nat) : Statement (.launchRelease id) := iff_of_true rfl trivial
theorem egFrameEnd (id : Nat) : Statement (.egFrameEnd id) := iff_of_true rfl trivial
theorem calInstancePass (port : Fin 24) : Statement (.calInstancePass port) := iff_of_true rfl trivial
theorem returnQueueSend (k : Fin 4) : Statement (.returnQueueSend k) := iff_of_true rfl trivial
theorem igFrameReceive (port : Fin 24) (express : Bool) (bytes : List Byte) (status : Fin 4) (ts : BitVec 40) : Statement (.igFrameReceive port express bytes status ts) := of_frame
theorem sltLearnStep (k : Fin 4) : Statement (.sltLearnStep k) := iff_of_true rfl trivial
theorem holdLimitExpire (id : Nat) : Statement (.holdLimitExpire id) := iff_of_true rfl trivial
theorem igFrameRelease (id : Nat) : Statement (.igFrameRelease id) := iff_of_true rfl trivial
theorem sltAgingSweep (k : Fin 4) : Statement (.sltAgingSweep k) := iff_of_true rfl trivial
theorem sltScrub (k : Fin 4) (st : ScrubStep) (loc : Nat) : Statement (.sltScrub k st loc) := of_loc
theorem stcRequest (c : Fin 2) (tag : Fin 32) (fromDev : Bool) (ce : Bool) (cfg : Fin 128) (dun : BitVec 64) (len : Word) : Statement (.stcRequest c tag fromDev ce cfg dun len) := iff_of_true rfl trivial
theorem stcDataIn (c : Fin 2) (fromDev : Bool) (bytes : List Byte) (last : Bool) : Statement (.stcDataIn c fromDev bytes last) := iff_of_true rfl trivial
theorem stcTransferComplete (c : Fin 2) (fromDev : Bool) : Statement (.stcTransferComplete c fromDev) := iff_of_true rfl trivial
theorem precedingKeyRelease : Statement (.precedingKeyRelease) := iff_of_true rfl trivial
theorem drbgHealthFail : Statement (.drbgHealthFail) := iff_of_true rfl trivial
theorem drbgRestartDone (pass : Bool) : Statement (.drbgRestartDone pass) := iff_of_true rfl trivial
theorem drbgStartupDone (pass : Bool) : Statement (.drbgStartupDone pass) := iff_of_true rfl trivial
theorem remaskDone : Statement (.remaskDone) := iff_of_true rfl trivial
theorem lcHalfwrap : Statement (.lcHalfwrap) := iff_of_true rfl trivial
theorem sampleLossExpire (k : Fin 2) : Statement (.sampleLossExpire k) := iff_of_true rfl trivial
theorem slewDone : Statement (.slewDone) := iff_of_true rfl trivial
theorem cycSyncEdge (falling : Bool) : Statement (.cycSyncEdge falling) := iff_of_true rfl trivial
theorem cycPullApply : Statement (.cycPullApply) := iff_of_true rfl trivial
theorem cycSyncLost : Statement (.cycSyncLost) := iff_of_true rfl trivial
theorem calChangeover (port : Fin 24) : Statement (.calChangeover port) := iff_of_true rfl trivial
theorem tmuSyncClear : Statement (.tmuSyncClear) := iff_of_true rfl trivial
theorem splPortEnable (p : Fin 3) : Statement (.splPortEnable p) := iff_of_true rfl trivial
theorem splPortDisable (p : Fin 3) : Statement (.splPortDisable p) := iff_of_true rfl trivial
theorem splRetrainRequest (p : Fin 3) : Statement (.splRetrainRequest p) := iff_of_true rfl trivial
theorem receiverDetectDone (p : Fin 3) (lane : Fin 4) (present : Bool) : Statement (.receiverDetectDone p lane present) := iff_of_true rfl trivial
theorem trainingSetReceive (p : Fin 3) (words : List Word) : Statement (.trainingSetReceive p words) := iff_of_true rfl trivial
theorem splRateAck (p : Fin 3) : Statement (.splRateAck p) := iff_of_true rfl trivial
theorem trainingTimeout (p : Fin 3) : Statement (.trainingTimeout p) := iff_of_true rfl trivial
theorem laneLockChange (p : Fin 3) (locked : BitVec 4) : Statement (.laneLockChange p locked) := iff_of_true rfl trivial
theorem lockLossTimeout (p : Fin 3) : Statement (.lockLossTimeout p) := iff_of_true rfl trivial
theorem retrainTimeout (p : Fin 3) : Statement (.retrainTimeout p) := iff_of_true rfl trivial
theorem gen2FramingError (p : Fin 3) : Statement (.gen2FramingError p) := iff_of_true rfl trivial
theorem splPacketSend (p : Fin 3) : Statement (.splPacketSend p) := iff_of_true rfl trivial
theorem replayTimeout (p : Fin 3) : Statement (.replayTimeout p) := iff_of_true rfl trivial
theorem ackTimer (p : Fin 3) : Statement (.ackTimer p) := iff_of_true rfl trivial
theorem ack (p : Fin 3) (words : List Word) : Statement (.ack p words) := of_packet
theorem splForward (p : Fin 3) (words : List Word) : Statement (.splForward p words) := of_packet
theorem rdReq (p : Fin 3) (words : List Word) : Statement (.rdReq p words) := of_packet
theorem wr (p : Fin 3) (words : List Word) : Statement (.wr p words) := of_packet
theorem lockReq (p : Fin 3) (words : List Word) : Statement (.lockReq p words) := of_packet
theorem bcast (p : Fin 3) (words : List Word) : Statement (.bcast p words) := of_packet
theorem cpl (p : Fin 3) (words : List Word) : Statement (.cpl p words) := of_packet
theorem errNotice (p : Fin 3) (words : List Word) : Statement (.errNotice p words) := of_packet
theorem eventPacket (p : Fin 3) (words : List Word) : Statement (.eventPacket p words) := of_packet
theorem leaseRecordReceive (p : Fin 3) (words : List Word) : Statement (.leaseRecordReceive p words) := of_packet
theorem partnerLeaseConfirm (p : Fin 3) (words : List Word) : Statement (.partnerLeaseConfirm p words) := of_packet
theorem openPkt (p : Fin 3) (words : List Word) : Statement (.openPkt p words) := of_packet
theorem nonce (p : Fin 3) (words : List Word) : Statement (.nonce p words) := of_packet
theorem blob (p : Fin 3) (words : List Word) : Statement (.blob p words) := of_packet
theorem done (p : Fin 3) (words : List Word) : Statement (.done p words) := of_packet
theorem timeReqTimer (k : Fin 2) : Statement (.timeReqTimer k) := iff_of_true rfl trivial
theorem timeReq (p : Fin 3) (words : List Word) : Statement (.timeReq p words) := of_packet
theorem timeResp (p : Fin 3) (words : List Word) : Statement (.timeResp p words) := of_packet
theorem test (p : Fin 3) (words : List Word) : Statement (.test p words) := of_packet
theorem requestTimeout (tag : Nat) : Statement (.requestTimeout tag) := of_tag
theorem lockTimeout : Statement (.lockTimeout) := iff_of_true rfl trivial
theorem gatherTimeout (tag : Nat) : Statement (.gatherTimeout tag) := of_gather
theorem splNodeLock : Statement (.splNodeLock) := iff_of_true rfl trivial
theorem splAccessLock : Statement (.splAccessLock) := iff_of_true rfl trivial
theorem splKtCtrlLock : Statement (.splKtCtrlLock) := iff_of_true rfl trivial
theorem domRpmbAddrLock : Statement (.domRpmbAddrLock) := iff_of_true rfl trivial
theorem tmpCtrlLock : Statement (.tmpCtrlLock) := iff_of_true rfl trivial
theorem loopWindowEnd (held level : Vector (BitVec 16) 4) : Statement (.loopWindowEnd held level) := iff_of_true rfl trivial
theorem shieldEvaluate (held level : BitVec 16) : Statement (.shieldEvaluate held level) := iff_of_true rfl trivial
theorem clockGlitch (freq : Bool) : Statement (.clockGlitch freq) := iff_of_true rfl trivial
theorem temperatureSample (code : Byte) : Statement (.temperatureSample code) := iff_of_true rfl trivial
theorem tamperResponse : Statement (.tamperResponse) := iff_of_true rfl trivial
theorem tamperEraseDone : Statement (.tamperEraseDone) := iff_of_true rfl trivial
theorem eventRingWrite (m : Fin 8) : Statement (.eventRingWrite m) := iff_of_true rfl trivial
theorem logWrite : Statement (.logWrite) := iff_of_true rfl trivial
theorem evtRingEnable (m : Fin 8) (v : Word) : Statement (.evtRingEnable m v) := iff_of_true rfl trivial
theorem evtRingHead (m : Fin 8) (v : Word) : Statement (.evtRingHead m v) := iff_of_true rfl trivial
theorem evtPendClear (b : Fin 6) (v : Word) : Statement (.evtPendClear b v) := iff_of_true rfl trivial
theorem evtForce (b : Fin 6) (v : Word) : Statement (.evtForce b v) := iff_of_true rfl trivial
theorem logCtrlAck : Statement (.logCtrlAck) := iff_of_true rfl trivial
theorem logRdIdx (v : Word) : Statement (.logRdIdx v) := iff_of_true rfl trivial
theorem readClear (rd : RegRead) : Statement (.readClear rd) := of_offset
theorem latchingLoRead (rd : RegRead) : Statement (.latchingLoRead rd) := of_offset
theorem vchWake (level : Bool) : Statement (.vchWake level) := iff_of_true rfl trivial
theorem pwrReqRun : Statement (.pwrReqRun) := iff_of_true rfl trivial
theorem pwrReqIdle : Statement (.pwrReqIdle) := iff_of_true rfl trivial
theorem pwrReqRetain : Statement (.pwrReqRetain) := iff_of_true rfl trivial
theorem pwrReqOff : Statement (.pwrReqOff) := iff_of_true rfl trivial
theorem pwrDomainWrite (v : Word) : Statement (.pwrDomainWrite v) := iff_of_true rfl trivial
theorem domainDrainDone : Statement (.domainDrainDone) := iff_of_true rfl trivial
theorem entryDrainDone : Statement (.entryDrainDone) := iff_of_true rfl trivial
theorem pwrSwAck (d : Fin 8) : Statement (.pwrSwAck d) := iff_of_true rfl trivial
theorem pwrSwitchStagger : Statement (.pwrSwitchStagger) := iff_of_true rfl trivial
theorem pwrAckTimeout (d : Fin 8) : Statement (.pwrAckTimeout d) := iff_of_true rfl trivial
theorem clockOk (bits : BitVec 5) : Statement (.clockOk bits) := iff_of_true rfl trivial
theorem idleExit : Statement (.idleExit) := iff_of_true rfl trivial
theorem pwrCtxRestore : Statement (.pwrCtxRestore) := iff_of_true rfl trivial
theorem pwrCtxDiscard : Statement (.pwrCtxDiscard) := iff_of_true rfl trivial
theorem contextRestoreStart : Statement (.contextRestoreStart) := iff_of_true rfl trivial
theorem contextRestoreDone : Statement (.contextRestoreDone) := iff_of_true rfl trivial
theorem blockReset : Statement (.blockReset) := iff_of_true rfl trivial
theorem aonPowerUp : Statement (.aonPowerUp) := iff_of_true rfl trivial
theorem shadowBuildDone (k : Fin 4) : Statement (.shadowBuildDone k) := iff_of_true rfl trivial
theorem packetDiscard (p : Fin 3) (words : List Word) : Statement (.packetDiscard p words) := of_packet
theorem gen1FramingResync (p : Fin 3) : Statement (.gen1FramingResync p) := iff_of_true rfl trivial
theorem clockFaultClear : Statement (.clockFaultClear) := iff_of_true rfl trivial
theorem idleRangeAccess (off : BitVec 17) : Statement (.idleRangeAccess off) := of_offset

end Sys2Proof.Laws.WellOperands
end

