-- ==== Sys2Proof/Tests/Slice0.lean ====
section
/-! SUPPORT. Sys2Proof/Tests/Slice0.lean: the author's tests: the checks of WellFormed.lean refuse ill-formed terms; single steps on small
states; and, for every statement with hypotheses, a state and operands that meet them (`wit_…`), clause by clause. -/

namespace Sys2Proof.Tests

open Sys2Proof Sys2Proof.Machine

set_option Elab.async false

/-! ### Small states -/

/-- Permission group 0 may do everything. -/
def permOpen (s : State) : State :=
  rset (rPG_PORTS 0) 0xFFFFFF (rset (rPG_KEYGRP 0) 0xFF (rset (rPG_OPS 0) 0x1FF (rset rPG_LOCK 1 s)))

/-- Everything is on, in RUN, the Dome READY with its DRBG, eight towers in service. -/
def base : State := permOpen
  { pwr := { on := 255, sw := 255, state := .run, ckOk := 31 }, dome := { st := .ready, drbgOk := true }
    arr := { towers := (List.range 8).map fun t => (t, { started := true }) } }

/-- The 16 words of a descriptor from its words that are not zero. -/
def wd (l : List (Nat × Nat)) : List Word := (List.range 16).map fun k => mkW (((l.find? fun p => p.1 == k).map Prod.snd).getD 0)

/-- Ring 0 runs with one descriptor, fetched and waiting at index 0. -/
def dsc (w : List Word) (s : State) : State :=
  setRing 0 { state := .running, en := true, window := [{ idx := 0, seq := 1, words := w, slot := true }] } s

/-- The same with the descriptor running. -/
def rung (w : List Word) (s : State) : State :=
  setRing 0 { state := .running, en := true, window := [{ idx := 0, seq := 1, words := w, slot := true, st := .running }] } s

/-- The state that a command answers. -/
def after (c : Instr) (s : State) : State := match exec c s with | .next t => t | _ => s

/-- The alarm clock. -/
def alarmed (s : State) : State := { s with tmp := { s.tmp with alarmAt := some s.clock } }
/-- A locked sequence of node 9 holds the near bus. -/
def nearHeld (s : State) : State := { s with spl := { s.spl with hold := some { tag := 3, node := 9, deadline := 5 } } }

/-! ### Well-formed commands -/

theorem test_wf_index : illFormed (.nop 0 16384) = some .index ∧ illFormed (.nop 0 16383) = none := by decide
theorem test_wf_offset : illFormed (.readClear ⟨0x1002, true⟩) = some .offset ∧ illFormed (.readClear ⟨0x1004, true⟩) = none := by decide
theorem test_wf_packet : illFormed (.ack 0 [0, 0]) = some .packet ∧ illFormed (.ack 0 [0, 0, 0]) = none := by decide
theorem test_wf_unit : illFormed (.parityMismatch 0 true 3 0) = some .unit ∧ illFormed (.parityMismatch 0 true 2 0) = none := by decide
theorem test_wf_location : illFormed (.sltScrub 0 ⟨false, false⟩ 4160) = some .location ∧ illFormed (.sltScrub 0 ⟨false, true⟩ 4159) = none := by decide
theorem test_wf_tag : illFormed (.requestTimeout 4096) = some .tag ∧ illFormed (.requestTimeout 4095) = none := by decide
theorem test_wf_gather : illFormed (.gatherTimeout (2 ^ 24)) = some .gather ∧ illFormed (.gatherTimeout (2 ^ 24 - 1)) = none := by decide
theorem test_wf_frame :
    illFormed (.igFrameReceive 0 false [] 0 0) = some .frame ∧ illFormed (.igFrameReceive 0 false [1] 0 0) = none := by decide

/-! ### The queue, reset -/

/-- From reset, AON_POWER_UP put in front is taken (R498). -/
theorem test_step_takes_front : (match step { State.reset with pending := [.aonPowerUp] } with
    | .next t => decide (t.pending = []) | _ => false) = true := by decide
/-- One clock of CK_TS on an empty queue (R373). -/
theorem test_step_idles : (match step State.reset with | .next t => decide (t.clock = 1) | _ => false) = true := by decide
/-- No word spells a command: the table gives no row any bits. -/
theorem test_no_word : decodeTableWord 24 0x123456 = none ∧ (State.reset.withFetchWord 24 0x123456).pending = [] := by decide

/-! ### Witnesses for the statements about the queue, registers and rings -/

theorem wit_StepRunsTheFrontCommand : ({ State.reset with pending := [.logCtrlAck] } : State).pending = .logCtrlAck :: [] := by decide
theorem wit_EmptyQueueLetsOneClockPass : State.reset.pending = [] ∧ domOn State.reset dTIME = false := by decide
theorem wit_CommandsLeaveTheQueueAlone : ∃ t u, exec .logCtrlAck State.reset = .next t ∧ step State.reset = .next u := ⟨_, _, rfl, rfl⟩
theorem wit_HostMemoryStaysCanonical : Memory.wf base.mem ∧ ∃ t, step base = .next t := ⟨by decide, _, rfl⟩
theorem wit_CalmStateOnlyDeliversItsEvents : calm base = true ∧ base.raised = [] := by decide
theorem wit_DeliveredEventsReachOnlyTheEventUnit : domOn State.reset dSPIRE = false := by decide
theorem wit_CompletionIsRecordedOnceAndAlone : (entAt (dsc (wd []) base) 0 0).isSome = true ∧ (1 : Nat) ≠ 0 := by decide

theorem wit_RegisterWriteStoresItsFields : base.pwr.state ≠ .idle ∧ rangeOn base rPWR_CTX_LEN = true ∧ rPWR_CTX_LEN % 4 = 0
    ∧ opReg rPWR_CTX_LEN = false ∧ lockBit rPWR_CTX_LEN = 0 ∧ rPWR_CTX_LEN ≠ rTMP_LEVEL ∧ rPWR_CTX_LEN < 2 ^ 17
    ∧ State.reset.pwr.state ≠ .idle ∧ rangeOn State.reset (rRING_SIZE 0) = false ∧ busFree State.reset ∧ busFree base
    ∧ ¬busFree (nearHeld base) ∧ hostRow (.resumeCq 0) = true := by decide
theorem wit_LockBitsStayAndHoldTheirRegisters : busFree base ∧ rangeOn base rPG_LOCK = true ∧ rangeOn base rSPL_NODE = true
    ∧ rangeOn base rSPL_ACCESS = true ∧ rangeOn base rSPL_KT_CTRL = true ∧ rangeOn base rDOM_RPMB_ADDR = true
    ∧ rangeOn base rTMP_CTRL = true ∧ regLocked base (rPG_PORTS 0) = true ∧ lockBit (rPG_PORTS 0) = 0 ∧ rPG_PORTS 0 < 0x20000 := by
  decide
theorem wit_ReadsClearAndLatch : base.pwr.state ≠ .idle ∧ busFree base ∧ rangeOn base rPWR_TIMING = true ∧ regRc rPWR_TIMING ≠ 0
    ∧ rPWR_TIMING < 2 ^ 17 ∧ rangeOn base rLC_LO = true ∧ rangeOn base rLOG_TICK_LO = true
    ∧ ({ base with pwr := { base.pwr with state := .idle } } : State).pwr.trans = .none := by decide

/-- Ring 0 set up for enabling: sizes 4 and 4, bases 1,024 and 2,048. -/
def sEnable : State := rset (rRING_SIZE 0) 0x404 (rset (rSQ_BASE_LO 0) 1024 (rset (rCQ_BASE_LO 0) 2048 base))
/-- The same ring running. -/
def sRun (r : Ring) : State := setRing 0 { r with state := .running, en := true } sEnable

theorem wit_RingPairsStartAndStop : domOn sEnable dHOST = true ∧ busFree sEnable ∧ busFree base ∧ (ring sEnable 0).state = .disabled ∧ rflag sEnable rPG_LOCK 0 = true
    ∧ 4 ≤ rfld sEnable (rRING_SIZE 0) 0 4 ∧ rfld sEnable (rRING_SIZE 0) 0 4 ≤ 14 ∧ 4 ≤ rfld sEnable (rRING_SIZE 0) 8 4
    ∧ rfld sEnable (rRING_SIZE 0) 8 4 ≤ 14 ∧ sqBase sEnable 0 % 2 ^ (rfld sEnable (rRING_SIZE 0) 0 4 + 6) = 0
    ∧ cqBase sEnable 0 % 2 ^ (rfld sEnable (rRING_SIZE 0) 8 4 + 5) = 0
    ∧ domOn base dHOST = true ∧ (ring base 0).state = .disabled ∧ enableErr (rset (rRING_SIZE 0) 0 base) 0 = some 2
    ∧ (ring (dsc (wd []) base) 0).state = .running
    ∧ (ring (setRing 0 { state := .stopping, held := true } base) 0).state = .stopping
    ∧ (ring (setRing 0 { state := .stopping, held := true } base) 0).held = true := by decide
theorem wit_DoorbellsMoveTheirPointer : base.pwr.state ≠ .idle ∧ busFree (sRun {}) ∧ domOn (sRun {}) dHOST = true ∧ (ring (sRun {}) 0).state = .running
    ∧ (15 : Nat) < sqSize (sRun {}) 0 ∧ (15 : Nat) ≠ (ring (sRun {}) 0).sqTail ∧ (ring (sRun {}) 0).sqTail < sqSize (sRun {}) 0
    ∧ sqSize (sRun {}) 0 ≤ 16 ∧ cqSize (sRun {}) 0 ≤ 16
    ∧ (ring (sRun { cqTail := 3 }) 0).state = .running ∧ (3 : Nat) < cqSize (sRun { cqTail := 3 }) 0
    ∧ (3 + cqSize (sRun { cqTail := 3 }) 0 - (ring (sRun { cqTail := 3 }) 0).cqHead) % cqSize (sRun { cqTail := 3 }) 0
        ≤ ((ring (sRun { cqTail := 3 }) 0).cqTail + cqSize (sRun { cqTail := 3 }) 0 - (ring (sRun { cqTail := 3 }) 0).cqHead)
            % cqSize (sRun { cqTail := 3 }) 0
    ∧ ((ring (sRun { cqTail := 3 }) 0).cqTail + cqSize (sRun { cqTail := 3 }) 0 - (ring (sRun { cqTail := 3 }) 0).cqHead)
            % cqSize (sRun { cqTail := 3 }) 0
        < (4 + cqSize (sRun { cqTail := 3 }) 0 - (ring (sRun { cqTail := 3 }) 0).cqHead) % cqSize (sRun { cqTail := 3 }) 0
    ∧ (ring base 0).state = .disabled := by decide

/-- Ring 0 with one posted descriptor, whose first word is `l` in host memory. -/
def sPosted (l : List Byte) : State := { sRun { posted := [(1, 1)] } with mem := storeBytes 1024 l [] }
/-- The words of that descriptor. -/
def wPosted (op : Nat) : List Word := wd [(0, op)]
/-- Its window entry while it waits outside a group. -/
def wEnt1 (op : Nat) : Ent := { idx := 0, seq := 1, words := wPosted op, slot := true }
def doneEnt : Ent := { idx := 0, seq := 1, words := wd [(0, 0x70)], slot := true, st := .done { res := okRes 0, time := 0, notime := false } }

theorem wit_DescriptorsAreFetchedAndCompletionsWritten : domOn (sPosted [0x70]) dHOST = true ∧ (ring (sPosted [0x70]) 0).state = .running
    ∧ (ring (sPosted [0x70]) 0).posted = (1, 1) :: [] ∧ nextServed (sPosted [0x70]) = some 0
    ∧ memReadWords (sPosted [0x70]) (sqBase (sPosted [0x70]) 0 + 48 * (ring (sPosted [0x70]) 0).sqHead) 16 = some (wPosted 0x70)
    ∧ (ring (sPosted [0x70]) 0).grp ≠ .opened ∧ wBEGIN (wPosted 0x70) = false
    ∧ (ring (sPosted [0x11, 1]) 0).posted = (1, 1) :: [] ∧ nextServed (sPosted [0x11, 1]) = some 0
    ∧ memReadWords (sPosted [0x11, 1]) (sqBase (sPosted [0x11, 1]) 0 + 48 * (ring (sPosted [0x11, 1]) 0).sqHead) 16 = some (wPosted 0x111)
    ∧ (ring (sPosted [0x11, 1]) 0).grp ≠ .opened ∧ wBEGIN (wPosted 0x111) = true ∧ wEND (wPosted 0x111) = false
    ∧ nextServed (sRun {}) ≠ some 0
    ∧ wEnt1 0x70 ∈ (ring (dsc (wPosted 0x70) base) 0).window ∧ entAt (dsc (wPosted 0x70) base) 0 0 = some (wEnt1 0x70)
    ∧ mayStart (dsc (wPosted 0x70) base) 0 (wEnt1 0x70) = true ∧ admitNow (dsc (wPosted 0x70) base) 0 (wPosted 0x70) = none
    ∧ wEnt1 0x01 ∈ (ring (dsc (wPosted 0x01) base) 0).window ∧ entAt (dsc (wPosted 0x01) base) 0 0 = some (wEnt1 0x01)
    ∧ mayStart (dsc (wPosted 0x01) base) 0 (wEnt1 0x01) = true ∧ admitNow (dsc (wPosted 0x01) base) 0 (wPosted 0x01) = some (badRes 2 0)
    ∧ (wEnt1 0x70).st = .waiting ∧ (wEnt1 0x70).readable = true ∧ (wEnt1 0x70).member = false
    ∧ (sRun { timer := some 5 }).clock < 5
    ∧ (ring (sRun { window := [doneEnt] }) 0).window = doneEnt :: [] ∧ (ring (sRun { window := [doneEnt] }) 0).held = false
    ∧ memWrBad (sRun { window := [doneEnt] }) (cqBase (sRun { window := [doneEnt] }) 0 + 24 * 0) 24 = false
    ∧ (ring (sRun { timer := some 5 }) 0).timer = some 5 ∧ (5 : Nat) ≤ ({ sRun { timer := some 5 } with clock := 5 } : State).clock := by
  decide

/-- An ended group of one SECY_DELETE; `i` names the SecY. -/
def sGroup (i : Nat) : State := setSecy 3 { valid := true }
  (sRun { grp := .ended 1, window := [{ idx := 0, seq := 1, words := wd [(0, 0x311), (2, i)], member := true, slot := true }] })
/-- An ended group of one SECY_SET. -/
def eSet : Ent := { idx := 0, seq := 1, words := wd [(0, 0x310), (2, 3), (4, 0x120)], member := true, slot := true }
def sGrSet : State := sRun { grp := .ended 1, window := [eSet] }
def isOkLeaseless : Except (Nat × Res × State) Stage → Bool | .ok g => g.leases.isEmpty | .error _ => false
def isError : Except (Nat × Res × State) Stage → Bool | .ok _ => false | .error _ => true

theorem wit_CommitGroupsApplyWholeOrNotAtAll : (sGroup 3).pwr.state = .run ∧ domOn (sGroup 3) dHOST = true ∧ (sGroup 3).groupStaged = none
    ∧ groupReady (sGroup 3) 0 = true ∧ otherFirst (sGroup 3) 0 = false
    ∧ isOkLeaseless (stageAll 0 0 (members (ring (sGroup 3) 0)) { real := sGroup 3, work := sGroup 3 }) = true
    ∧ groupReady (sGroup 4) 0 = true ∧ otherFirst (sGroup 4) 0 = false
    ∧ isError (stageAll 0 0 (members (ring (sGroup 4) 0)) { real := sGroup 4, work := sGroup 4 }) = true
    ∧ ({ sGroup 3 with groupStaged := some { ring := 0, creates := [], holds := [.secy 3], plans := [], waits := [] } } : State).groupStaged
        = some { ring := 0, creates := [], holds := [.secy 3], plans := [], waits := [] }
    ∧ alarmNow (sGroup 3) = false ∧ alarmNow (sGroup 4) = false ∧ sGrSet.pwr.state = .run ∧ domOn sGrSet dHOST = true
    ∧ sGrSet.groupStaged = none ∧ groupReady sGrSet 0 = true ∧ otherFirst sGrSet 0 = false ∧ alarmNow sGrSet = false
    ∧ members (ring sGrSet 0) = [eSet] ∧ wOp eSet.words = 0x10 ∧ stageChk 0 eSet.words sGrSet = none
    ∧ (alarmed (sGroup 3)).pwr.state = .run ∧ domOn (alarmed (sGroup 3)) dHOST = true ∧ (alarmed (sGroup 3)).groupStaged = none
    ∧ groupReady (alarmed (sGroup 3)) 0 = true ∧ otherFirst (alarmed (sGroup 3)) 0 = false ∧ alarmNow (alarmed (sGroup 3)) = true := by decide
/-- The words of an opcode with a reserved bit set. -/
def wResv (op : Nat) : List Word := wd [(0, op), (15, 1)]
theorem wit_RingControlOpcodesComplete : (∀ op ∈ ([0x70, 0x71, 0x72, 0x73] : List Nat), startable (dsc (wResv op) base) op 0 0 (wResv op) = true
      ∧ (admitNow (dsc (wResv op) base) 0 (wResv op)).isSome = true)
    ∧ (∀ op ∈ ([0x70, 0x71, 0x72, 0x73] : List Nat), startable (alarmed (dsc (wPosted op) base)) op 0 0 (wPosted op) = true
      ∧ admitNow (alarmed (dsc (wPosted op) base)) 0 (wPosted op) = none ∧ alarmNow (alarmed (dsc (wPosted op) base)) = true)
    ∧ starts (dsc (wd [(0, 0x70)]) base) 0x70 0 0 (wd [(0, 0x70)]) = true
    ∧ starts (dsc (wd [(0, 0x71), (4, 1)]) base) 0x71 0 0 (wd [(0, 0x71), (4, 1)]) = true
    ∧ starts (dsc (wd [(0, 0x72)]) base) 0x72 0 0 (wd [(0, 0x72)]) = true
    ∧ starts (dsc (wd [(0, 0x73)]) base) 0x73 0 0 (wd [(0, 0x73)]) = true := by decide

/-! ### Witnesses for the statements about SecYs, channels, associations and tables -/

def wSecySet : List Word := wd [(0, 0x10), (2, 3), (4, 0x120)]
def wSecyDel : List Word := wd [(0, 0x11), (2, 3)]
/-- SecY 3 on port 0, protecting. -/
def withSecy (s : State) : State := setSecy 3 { valid := true, settings := 0x100 } s
theorem wit_SecyCommandsChangeTheirSecy : starts (dsc wSecySet base) 0x10 0 0 wSecySet = true
    ∧ chkSecySet 0 wSecySet (dsc wSecySet base) = none ∧ flag (wAt wSecySet 4) 20 = false
    ∧ starts (dsc wSecyDel (withSecy base)) 0x11 0 0 wSecyDel = true
    ∧ chkSecyDelete 0 wSecyDel (dsc wSecyDel (withSecy base)) = none := by decide

def wRxscSet : List Word := wd [(0, 0x12), (2, 7), (4, 0xA03), (5, 9)]
def wRxscDel : List Word := wd [(0, 0x13), (2, 7)]
def wRxscMod : List Word := wd [(0, 0x12), (2, 7), (4, 0x803), (5, 9)]
def sRxsc : State := setRxsc 7 { valid := true, secy := 3, sci := 9 } (withSecy base)
/-- The same with its entry BOUND. -/
def sRxscB : State := setPpl 0 { active := { ents := [(3, some { port := 0, sci := 9, st := .bound, rxsc := 7 })] } } sRxsc
theorem wit_ReceiveChannelCommandsChangeTheirChannel : starts (dsc wRxscSet (withSecy base)) 0x12 0 0 wRxscSet = true
    ∧ chkRxscSet 0 wRxscSet (dsc wRxscSet (withSecy base)) = none ∧ rsCreate wRxscSet = true
    ∧ (bindEntry (rsIdx wRxscSet) (setRxsc (rsIdx wRxscSet) (rxscOf wRxscSet (rxsc (dsc wRxscSet (withSecy base)) (rsIdx wRxscSet)))
        (dsc wRxscSet (withSecy base)))).2 < 2
    ∧ starts (dsc wRxscDel sRxsc) 0x13 0 0 wRxscDel = true ∧ chkRxscDelete 0 wRxscDel (dsc wRxscDel sRxsc) = none := by decide
/-- The pair (port 0, SCI 9) is PENDING in the SLT. -/
def sPair : State := setPpl 0 { active := { ents := [(3, some { port := 0, sci := 9, st := .pending })] } } (withSecy base)
theorem wit_ReceiveChannelCommandsChangeTheirChannel_entry : starts (dsc wRxscSet sPair) 0x12 0 0 wRxscSet = true
    ∧ chkRxscSet 0 wRxscSet (dsc wRxscSet sPair) = none ∧ secyPort (secy (dsc wRxscSet sPair) (rsSecy wRxscSet)) = 0 ∧ pplOf 0 = 0
    ∧ ((sltFind (ppl sPair 0).active 0 (w64 wRxscSet 5)).map fun p => (p.1, p.2.st)) = some (3, .pending)
    ∧ sltKept (ppl sPair 0).active 0 (w64 wRxscSet 5) = none
    ∧ sltFind (ppl (withSecy base) 0).active 0 (w64 wRxscSet 5) = none ∧ sltKept (ppl (withSecy base) 0).active 0 (w64 wRxscSet 5) = none
    ∧ (ppl (withSecy base) 0).shSt = .empty
    ∧ (freeWay (ppl (withSecy base) 0).active (sltBuckets (ppl (withSecy base) 0).active.seed 0 (w64 wRxscSet 5)).1).isSome = true
    ∧ starts (dsc wRxscMod sRxscB) 0x12 0 0 wRxscMod = true ∧ chkRxscSet 0 wRxscMod (dsc wRxscMod sRxscB) = none
    ∧ rsInserts (dsc wRxscMod sRxscB) wRxscMod = false := by decide

/-- A link key in slot 5. -/
def withKey (dest : Nat) (s : State) : State :=
  setSlot 5 { st := .loaded, attr := dest, gen := some 2, key := List.replicate (if dest.testBit 7 then 32 else 16) 7 } s
def wInstRx : List Word := wd [(0, 0x16), (2, 5), (4, 0x2000 + 11), (5, 7), (6, 1)]
def wInstTx : List Word := wd [(0, 0x16), (2, 5), (4, 11), (5, 3), (6, 1)]
/-- A transmit association of SecY 3, index 11. -/
def aTx : Assoc := { state := .installed, channel := 3, kref := 5, nextPn := 1, leaseEnd := 1000000, threshPn := 0xC0000000 }
def withTx (a : Assoc) (s : State) : State := setAssoc 11 a s
def wRetire : List Word := wd [(0, 0x18), (2, 11)]
theorem wit_InstallAndRetireChangeTheirAssociation : starts (dsc wInstRx (withKey 1 sRxsc)) 0x16 0 0 wInstRx = true
    ∧ chkInstall 0 wInstRx (dsc wInstRx (withKey 1 sRxsc)) = none ∧ flag (wAt wInstRx 4) 13 = true ∧ flag (wAt wInstRx 4) 16 = false
    ∧ starts (dsc wInstTx (withKey 1 (withSecy base))) 0x16 0 0 wInstTx = true
    ∧ chkInstall 0 wInstTx (dsc wInstTx (withKey 1 (withSecy base))) = none ∧ flag (wAt wInstTx 4) 13 = false
    ∧ flag (wAt wInstTx 4) 17 = false ∧ flag (wAt wInstTx 4) 16 = false
    ∧ starts (dsc wRetire (withTx aTx (withSecy base))) 0x18 0 0 wRetire = true
    ∧ chkRetire 0 wRetire (dsc wRetire (withTx aTx (withSecy base))) = none := by decide

def atT (t : Nat) (s : State) : State := { s with tmu := { s.tmu with wc := t * 2 ^ 32 } }
def wSw (trig : Nat) : List Word := wd [(0, 0x17), (2, 11), (4, trig), (5, if trig = 1 then 5 else 0), (8, if trig = 2 then 5 else 0)]
/-- The same with an encoding association 12, and with a switch armed to association 11. -/
def sEnc : State := setAssoc 12 { aTx with state := .inUse, an := 1 } (withTx aTx (withSecy base))
def sArmed : State := setArmed 3 (some { target := 11, trigger := .atPn 5 }) sEnc
def wAdj (w4 pn thr : Nat) : List Word := wd [(0, 0x19), (2, 11), (4, w4), (5, pn), (8, thr)]
def sAdjRx : State := setAssoc 11 { state := .inUse, rx := true, channel := 7, nextPn := 4, lowestPn := 2, leaseEnd := 2 ^ 40 } sRxsc
theorem wit_SwitchAndAdjustChangeTheirAssociation : starts (dsc (wSw 0) sEnc) 0x17 0 0 (wSw 0) = true ∧ chkSwitch 0 (wSw 0) (dsc (wSw 0) sEnc) = none
    ∧ fld (wAt (wSw 0) 4) 0 2 = 0 ∧ starts (dsc (wSw 1) sEnc) 0x17 0 0 (wSw 1) = true ∧ chkSwitch 0 (wSw 1) (dsc (wSw 1) sEnc) = none
    ∧ fld (wAt (wSw 1) 4) 0 2 = 1 ∧ (encoding sEnc (assoc sEnc (fld (wAt (wSw 1) 2) 0 13)).channel).isSome = true
    ∧ starts (dsc (wSw 2) (atT 3 sEnc)) 0x17 0 0 (wSw 2) = true ∧ chkSwitch 0 (wSw 2) (dsc (wSw 2) (atT 3 sEnc)) = none
    ∧ fld (wAt (wSw 2) 4) 0 2 = 2 ∧ domOn (atT 3 sEnc) dTIME = true ∧ atTimePast (wSw 2) (dsc (wSw 2) (atT 3 sEnc)) = false
    ∧ starts (dsc (wSw 3) sArmed) 0x17 0 0 (wSw 3) = true ∧ chkSwitch 0 (wSw 3) (dsc (wSw 3) sArmed) = none ∧ fld (wAt (wSw 3) 4) 0 2 = 3
    ∧ liftPn sEnc 3 (assoc sEnc 11).an 11 (assoc sEnc 11).nextPn ≤ assocTop sEnc (assoc sEnc 11)
    ∧ needsLease sEnc { assoc sEnc 11 with state := .inUse, nextPn := liftPn sEnc 3 (assoc sEnc 11).an 11 (assoc sEnc 11).nextPn } = false
    ∧ encoding sEnc 3 = some 12
    ∧ starts (dsc (wAdj 1 6 0) sAdjRx) 0x19 0 0 (wAdj 1 6 0) = true ∧ chkAdjust 0 (wAdj 1 6 0) (dsc (wAdj 1 6 0) sAdjRx) = none
    ∧ (assoc sAdjRx 11).req = none ∧ (assoc sAdjRx 11).rx = true ∧ flag (wAt (wAdj 1 6 0) 4) 0 = true ∧ flag (wAt (wAdj 1 6 0) 4) 4 = false
    ∧ needsLease (dsc (wAdj 1 6 0) sAdjRx) { assoc sAdjRx 11 with lowestPn := w64 (wAdj 1 6 0) 5, nextPn := max 4 (w64 (wAdj 1 6 0) 5) } = false
    ∧ starts (dsc (wAdj 2 0 99) sEnc) 0x19 0 0 (wAdj 2 0 99) = true ∧ chkAdjust 0 (wAdj 2 0 99) (dsc (wAdj 2 0 99) sEnc) = none
    ∧ (assoc sEnc 11).req = none ∧ (assoc sEnc 11).rx = false ∧ flag (wAt (wAdj 2 0 99) 4) 0 = false ∧ flag (wAt (wAdj 2 0 99) 4) 1 = true
    ∧ flag (wAt (wAdj 2 0 99) 4) 2 = false ∧ needsLease (dsc (wAdj 2 0 99) sEnc) (assoc sEnc 11) = false := by decide

def wLoad : List Word := wd [(0, 0x1A), (2, 1), (7, 6), (8, 1)]
def wTSw : List Word := wd [(0, 0x1B), (2, 1), (4, 1)]
def wTRd : List Word := wd [(0, 0x1C), (2, 1), (8, 2), (9, 24)]
def sBank : State := setPpl 1 { bank1 := { valid := true, nodes := 6 } } base
theorem wit_ClassifierTreeCommandsActOnTheirBank : starts (dsc wLoad base) 0x1A 0 0 wLoad = true ∧ pplPortsOk (dsc wLoad base) 0 1 = true
    ∧ heldBy (dsc wLoad base) (.tree 1) = false ∧ (memReadWords (dsc wLoad base) 0 24).isSome = true ∧ flag (wAt wLoad 8) 0 = true
    ∧ starts (dsc wTSw sBank) 0x1B 0 0 wTSw = true ∧ chkTreeSwitch 0 wTSw (dsc wTSw sBank) = none
    ∧ starts (dsc wTRd base) 0x1C 0 0 wTRd = true ∧ pplPortsOk (dsc wTRd base) 0 1 = true
    ∧ memWrBad (dsc wTRd base) (join48 (wAt wTRd 5) (wAt wTRd 6)) (12 * fld (wAt wTRd 8) 0 14) = false := by decide

def wSeed : List Word := wd [(0, 0x1D), (2, 1), (4, 77)]
def wReb : List Word := wd [(0, 0x1E), (2, 1), (4, 77)]
def wEntRd : List Word := wd [(0, 0x1F), (7, 30)]
def wEnt (op : Nat) : List Word := wd [(0, 0x1F), (2, 0), (4, op), (9, 9)]
def sBuild : State := setPpl 1 { shSt := .building, seedCmd := some (0, 0) } (rung wSeed base)
def sReady : State := setPpl 1 { shSt := .ready, shadow := { seed := 77 } } base
def sPend : State := setPpl 0 { active := { ents := [(3, some { port := 0, sci := 9, st := .pending })] } } base
/-- A full shadow, to which the one entry of the active table is to be copied. -/
def sFull : State := setPpl 1 { shSt := .building, seedCmd := some (0, 0)
                                active := { ents := [(3, some { port := 6, sci := 9, st := .bound })] }
                                shadow := { ents := (List.range 4160).map fun l => (l, some { port := 7, sci := 1, st := .bound }) } } (rung wSeed base)
def copied : Slt × Nat := sltCopy ((sltList (ppl sBuild 1).active).map Prod.snd) (ppl sBuild 1).shadow 0
theorem wit_SciTableCommandsActOnTheirPipeline : starts (dsc wSeed base) 0x1D 0 0 wSeed = true ∧ pplPortsOk (dsc wSeed base) 0 1 = true
    ∧ heldBy (dsc wSeed base) (.shadow 1) = false ∧ (ppl (dsc wSeed base) 1).shSt ≠ .building
    ∧ dpRuns sBuild = true ∧ (ppl sBuild 1).shSt = .building ∧ (ppl sBuild 1).seedCmd = some (0, 0)
    ∧ ((entAt sBuild 0 0).map Ent.st) = some .running ∧ copied.2 = (sltList (ppl sBuild 1).active).length
    ∧ sltCopyFail ((sltList (ppl sBuild 1).active).map Prod.snd) (ppl sBuild 1).shadow = none
    ∧ starts (dsc wReb sReady) 0x1E 0 0 wReb = true ∧ chkSltRebuild 0 wReb (dsc wReb sReady) = none
    ∧ starts (dsc (wEnt 1) sPend) 0x1F 0 0 (wEnt 1) = true ∧ starts (dsc (wEnt 2) sPend) 0x1F 0 0 (wEnt 2) = true
    ∧ pplPortsOk (dsc (wEnt 1) sPend) 0 0 = true ∧ (portsOf 0).contains (fld (wAt (wEnt 1) 8) 0 5) = true
    ∧ pairStaged (dsc (wEnt 1) sPend) 0 9 = false ∧ fld (wAt (wEnt 1) 4) 0 2 = 1 ∧ fld (wAt (wEnt 2) 4) 0 2 = 2
    ∧ ((sltFind (ppl sPend 0).active 0 9).map fun p => p.2.st) = some .pending ∧ alarmNow sBuild = false
    ∧ starts (dsc wEntRd sPend) 0x1F 0 0 wEntRd = true ∧ pplPortsOk (dsc wEntRd sPend) 0 0 = true ∧ fld (wAt wEntRd 4) 0 4 = 0
    ∧ memWrBad (dsc wEntRd sPend) 0 (3 * (((sltList (ppl sPend 0).active).take ((wAt wEntRd 7).toNat / 15)).flatMap sltRecord).length) = false := by
  decide
theorem wit_SciTableCommandsActOnTheirPipeline_full : dpRuns sFull = true ∧ alarmNow sFull = false ∧ (ppl sFull 1).shSt = .building
    ∧ (ppl sFull 1).seedCmd = some (0, 0) ∧ ((entAt sFull 0 0).map Ent.st) = some .running
    ∧ (sltCopyFail ((sltList (ppl sFull 1).active).map Prod.snd) (ppl sFull 1).shadow).isSome = true := by decide +kernel

def wLt : List Word := wd [(0, 0x14), (2, 3), (7, 36)]
def wSnap : List Word := wd [(0, 0x15), (2, 3), (5, 1), (8, 75)]
theorem wit_RecordsAndCountersAreWrittenToTheBuffer : starts (dsc wLt base) 0x14 0 0 wLt = true
    ∧ memWrBad (dsc wLt base) 0 (3 * (ltRecord (dsc wLt base) 0 0 3).length) = false
    ∧ starts (dsc wSnap base) 0x15 0 0 wSnap = true ∧ memWrBad (dsc wSnap base) 0 75 = false := by decide

/-! ### Witnesses for the statements about the Dome, trust, repair and jobs -/

def key16 : List Byte := List.replicate 16 7
def key32 : List Byte := List.replicate 32 7
/-- Slots: 8 a link key, 9 a wrap parent, 10 a CAK, 13 a signing key, 14 a job key, 15 a storage key, 16 an ICK. -/
def keys (s : State) : State :=
  setSlot 8 { st := .loaded, attr := 1, gen := some 2, key := key16 } (setSlot 9 { st := .loaded, attr := 9, gen := some 2, key := key16 }
    (setSlot 10 { st := .loaded, attr := 64, gen := some 2, key := key16 } (setSlot 13 { st := .loaded, attr := 32 + 128, gen := some 2, key := key32 }
      (setSlot 14 { st := .loaded, attr := 4, gen := some 2, key := key16 } (setSlot 15 { st := .loaded, attr := 2, gen := some 2, key := key16 }
        (setSlot 16 { st := .loaded, attr := 64, ick := true, gen := some 2, key := key16 } s))))))
def sKeys : State := keys base
/-- The key that a resolution gives. -/
def got : Except Res (List Byte) → Option (List Byte) | .ok k => some k | .error _ => none

def wUnw (k dest : Nat) : List Word := wd [(0, 0x20), (2, k), (4, 9), (6, dest), (9, 24)]
def wGenr (k dest : Nat) : List Word := wd [(0, 0x21), (2, k), (6, dest)]
def wMka : List Word := wd [(0, 0x26), (2, 10), (4, 11), (5, 12)]
/-- The same with the DRBG down. -/
def sDown : State := { sKeys with dome := { sKeys.dome with drbgOk := false } }
/-- A preceding key of slot 8 is held. -/
def sHeld : State := { sKeys with dome := { sKeys.dome with held := [{ slot := 8, gen := 1, body := {} }] } }
theorem wit_SlotWritesLoadTheirSlot : atWork (dsc (wUnw 7 1) sKeys) 0x20 0 0 (wUnw 7 1) = true
    ∧ slotWriteWaits (dsc (wUnw 7 1) sKeys) (wUnw 7 1) = false ∧ chkSlotWrite (dsc (wUnw 7 1) sKeys) (wUnw 7 1) = none
    ∧ got (resolve (dsc (wUnw 7 1) sKeys) 9 0 .wrap 0) = some key16
    ∧ setOf (fld (wAt (wUnw 7 1) 6) 0 7) &&& setOf (slotDest (slot sKeys 9)) = setOf (fld (wAt (wUnw 7 1) 6) 0 7)
    ∧ (memRead (dsc (wUnw 7 1) sKeys) 0 24).isSome = true ∧ sKeys.dome.upset = false
    ∧ atWork (dsc (wGenr 7 1) sKeys) 0x21 0 0 (wGenr 7 1) = true ∧ slotWriteWaits (dsc (wGenr 7 1) sKeys) (wGenr 7 1) = false
    ∧ chkSlotWrite (dsc (wGenr 7 1) sKeys) (wGenr 7 1) = none ∧ sKeys.dome.drbgOk = true
    ∧ starts (dsc (wUnw 8 0x201) sHeld) 0x20 0 0 (wUnw 8 0x201) = true ∧ slotWriteWaits (dsc (wUnw 8 0x201) sHeld) (wUnw 8 0x201) = true
    ∧ starts (dsc (wGenr 8 0x201) sHeld) 0x21 0 0 (wGenr 8 0x201) = true
    ∧ slotWriteWaits (dsc (wGenr 8 0x201) sHeld) (wGenr 8 0x201) = true
    ∧ starts (dsc wMka sKeys) 0x26 0 0 wMka = true ∧ sKeys.dome.st = .ready ∧ chkFill (dsc wMka sKeys) 11 4 = none
    ∧ chkFill (dsc wMka sKeys) 12 5 = none ∧ got (resolve (dsc wMka sKeys) 10 0 .mkaCak 0) = some key16 := by decide
theorem wit_SlotWritesLoadTheirSlot_down : sDown.dome.drbgOk = false ∧ sDown.dome.st = .ready
    ∧ starts (dsc (wGenr 7 1) sDown) 0x21 0 0 (wGenr 7 1) = true ∧ slotWriteWaits (dsc (wGenr 7 1) sDown) (wGenr 7 1) = false
    ∧ chkSlotWrite (dsc (wGenr 7 1) sDown) (wGenr 7 1) = none ∧ starts (dsc (wUnw 7 1) sDown) 0x20 0 0 (wUnw 7 1) = true
    ∧ slotWriteWaits (dsc (wUnw 7 1) sDown) (wUnw 7 1) = false ∧ chkSlotWrite (dsc (wUnw 7 1) sDown) (wUnw 7 1) = none
    ∧ got (resolve (dsc (wUnw 7 1) sDown) 9 0 .wrap 0) = some key16
    ∧ setOf (fld (wAt (wUnw 7 1) 6) 0 7) &&& setOf (slotDest (slot sDown 9)) = setOf (fld (wAt (wUnw 7 1) 6) 0 7)
    ∧ starts (dsc wMka sDown) 0x26 0 0 wMka = true ∧ (wAt wMka 4).toNat % 4096 ≠ (wAt wMka 5).toNat % 4096
    ∧ chkFill (dsc wMka sDown) 11 4 = none ∧ chkFill (dsc wMka sDown) 12 5 = none
    ∧ got (resolve (dsc wMka sDown) 10 0 .mkaCak 0) = some key16 := by decide

def wWrap : List Word := wd [(0, 0x22), (2, 8), (4, 9), (9, 24)]
def wErase (k : Nat) : List Word := wd [(0, 0x23), (2, k)]
/-- Slot 9 with two target bits, of which one is cleared. -/
def wAttr : List Word := wd [(0, 0x24), (2, 17), (4, 0x81)]
def sAttr : State := setSlot 17 { st := .loaded, attr := 11, gen := some 2, key := key16 } sKeys
def wSRd : List Word := wd [(0, 0x25), (2, 4095), (4, 1), (7, 6)]
theorem wit_SlotCommandsChangeOnlyTheirSlot : sKeys.dome.st = .ready ∧ sAttr.dome.st = .ready ∧ starts (dsc wWrap sKeys) 0x22 0 0 wWrap = true
    ∧ chkSlotRows (dsc wWrap sKeys) 8 true = none ∧ (slot sKeys 8).st = .loaded
    ∧ formOf (slotDest (slot sKeys 8)) ((slot sKeys 8).attr.testBit 7) = some .direct ∧ slotDest (slot sKeys 8) ≠ 0x40
    ∧ got (resolve (dsc wWrap sKeys) 9 0 .wrap 0) = some key16
    ∧ slotDest (slot sKeys 8) &&& setOf (slotDest (slot sKeys 9)) ≠ 0 ∧ slotLen (slot sKeys 8) + 8 ≤ (wAt wWrap 9).toNat
    ∧ memWrBad (dsc wWrap sKeys) 0 24 = false
    ∧ starts (dsc (wErase 8) sKeys) 0x23 0 0 (wErase 8) = true ∧ chkSlotRows (dsc (wErase 8) sKeys) 8 true = none
    ∧ starts (dsc (wErase 7) sKeys) 0x23 0 0 (wErase 7) = true ∧ chkSlotRows (dsc (wErase 7) sKeys) 7 true = none ∧ (slot sKeys 7).st ≠ .loaded
    ∧ starts (dsc wAttr sAttr) 0x24 0 0 wAttr = true ∧ chkSlotRows (dsc wAttr sAttr) 17 false = none ∧ (slot sAttr 17).st = .loaded
    ∧ fld (wAt wAttr 4) 0 7 &&& 0x58 = 0 ∧ formOf (slotDest (slot sAttr 17)) ((slot sAttr 17).attr.testBit 7) ≠ none
    ∧ formOf (slotDest (slot sAttr 17) - (slotDest (slot sAttr 17) &&& fld (wAt wAttr 4) 0 7)) ((slot sAttr 17).attr.testBit 7)
        = formOf (slotDest (slot sAttr 17)) ((slot sAttr 17).attr.testBit 7)
    ∧ starts (dsc wSRd sKeys) 0x25 0 0 wSRd = true ∧ memWrBad (dsc wSRd sKeys) 0 6 = false := by decide

def wSign (pub : Nat) : List Word := wd [(0, 0x27), (2, 13), (4, pub), (9, 96)]
def wAtt (w4 : Nat) : List Word := wd [(0, 0x60), (4, w4), (9, 5000)]
def wMx : List Word := wd [(0, 0x61), (4, 15)]
def wMr : List Word := wd [(0, 0x62), (6, 768)]
theorem wit_SignaturesAndMeasurementsAreWritten : starts (dsc (wSign 1) sKeys) 0x27 0 0 (wSign 1) = true
    ∧ got (resolve (dsc (wSign 1) sKeys) 13 0 .sign 32) = some key32 ∧ memWrBad (dsc (wSign 1) sKeys) 0 96 = false
    ∧ starts (dsc (wSign 0) sKeys) 0x27 0 0 (wSign 0) = true ∧ sKeys.dome.drbgOk = true ∧ (memRead (dsc (wSign 0) sKeys) 0 48).isSome = true
    ∧ starts (dsc (wAtt 1) sKeys) 0x60 0 0 (wAtt 1) = true ∧ sKeys.dome.st = .ready ∧ memWrBad (dsc (wAtt 1) sKeys) 0 2144 = false
    ∧ starts (dsc (wAtt 0x82) sKeys) 0x60 0 0 (wAtt 0x82) = true ∧ 4269 ≤ (wAt (wAtt 0x82) 9).toNat
    ∧ (memRead (dsc (wAtt 0x82) sKeys) 0 32).isSome = true ∧ fld (wAt (wAtt 0x82) 4) 2 6 = 32 ∧ memWrBad (dsc (wAtt 0x82) sKeys) 0 4269 = false
    ∧ starts (dsc wMx sKeys) 0x61 0 0 wMx = true ∧ (memRead (dsc wMx sKeys) 0 48).isSome = true
    ∧ starts (dsc wMr sKeys) 0x62 0 0 wMr = true ∧ memWrBad (dsc wMr sKeys) 0 768 = false := by decide

/-- A SEALED part whose DOM_RPMB_ADDR is locked; the Dome in state `d`. -/
def sealed (d : DomeSt) (s : State) : State :=
  rset rDOM_RPMB_ADDR 0x10000 { s with fuses := { s.fuses with life := .sealed }, dome := { s.dome with st := d } }
/-- The next dual computation is disturbed. -/
def upset (s : State) : State := { s with dome := { s.dome with upset := true } }
def wKa : List Word := wd [(0, 0x28), (9, 96), (15, 12880)]
def wKc : List Word := wd [(0, 0x29)]
def aCommit : PendingCommit := { record := { counter := 1 }, keys := [], ops := [], kumHash := [], rearm := true }
def sCommit : State := let s := sealed .alarmed base; { s with dome := { s.dome with commit := some aCommit } }
theorem wit_KeyUpdatesPrepareAndCommit : atWork (dsc wKa (sealed .ready base)) 0x28 0 0 wKa = true
    ∧ kumApplyWaits wKa (dsc wKa (sealed .ready base)) = false ∧ (kumInputs (dsc wKa (sealed .ready base)) wKa).isSome = true
    ∧ (sealed .ready base).dome.upset = false ∧ (sealed .ready base).dome.drbgOk = true ∧ (sealed .ready base).fuses.life = .sealed
    ∧ memWrBad (dsc wKa (sealed .ready base)) 0 (512 + (80 + 48 * 256)) = false
    ∧ atWork (dsc wKc sCommit) 0x29 0 0 wKc = true ∧ kumCommitWaits wKc (dsc wKc sCommit) = false ∧ chkKumCommit (dsc wKc sCommit) = none
    ∧ (dsc wKc sCommit).dome.commit = some aCommit ∧ (memRead (dsc wKc sCommit) 0 512).isSome = true
    ∧ sCommit.dome.st = .alarmed ∧ aCommit.rearm = true ∧ (dsc wKc sCommit).dome.drbgOk = true
    ∧ atWork (dsc wKa (upset (sealed .ready base))) 0x28 0 0 wKa = true ∧ kumApplyWaits wKa (dsc wKa (upset (sealed .ready base))) = false
    ∧ (kumInputs (dsc wKa (upset (sealed .ready base))) wKa).isSome = true ∧ (upset (sealed .ready base)).dome.upset = true := by decide

/-- A KUM of one RE_ARM record for a part of UID 0, under the authority whose private key is 1; its signature (hand calculation: nonce 1). -/
def kumG : List Byte := toBytesBE 48 p384G.x ++ toBytesBE 48 p384G.y
def kumMsg : List Byte := [0x56, 0x4B, 0x55, 0x4D, 1, 0, 1, 0] ++ List.replicate 17 0 ++ [1, 0, 0] ++ kumG ++ 5 :: List.replicate 63 0
def kumSig : List Byte := toBytesBE 48 p384G.x
  ++ toBytesBE 48 0x48CC97C102518F3CECB4FC8AB48FD3B557208186094BF69FD3706941AF045539C2813184243DC6AA33483C6BBA228111
def sKumOf (t : Tab Byte) : State := let s := sealed .ready base
  { s with dome := { s.dome with recordValid := true, recordBlank := true }
           fuses := { s.fuses with eccHash := [(0, toBytesBE 48
             0xA19D4DB171B582EB8052B0CFE555E17894AA22D1C8A9770950697DD8F796D2FA4BF0A56AD80006B7EA08E1191F814B65)] }
           mem := t }
def sKum : State := sKumOf (storeBytes 4096 (kumMsg ++ kumSig) (storeBytes 8192 kumG []))
def wKa2 : List Word := wd [(0, 0x28), (4, 4096), (6, 284), (7, 8192), (9, 96), (15, 12880)]
def isWork : Except (Res × Nat) Work → Bool | .ok w => w.rearm | .error _ => false
theorem wit_KeyUpdatesPrepareAndCommit_message : atWork (dsc wKa2 sKum) 0x28 0 0 wKa2 = true
    ∧ kumEarly (dsc wKa2 (upset sKum)) (kumMsg ++ kumSig) kumG = none := by
  decide +kernel
/-- A message and a key block in host memory are the inputs. -/
theorem kumInputs_stored {s : State} {m k : List Byte} (h : s.mem = storeBytes 4096 m (storeBytes 8192 k [])) (he : s.memRdErr = [])
    (lm : m.length = 284) (lk : k.length = 96) : kumInputs s wKa2 = some (m, k, []) := by
  have bad : ∀ (u : State) a n, u.memRdErr = [] → a + n ≤ 2 ^ 48 → memRdBad u a n = false := fun u a n e k => by
    simpa [memRdBad, e, meets] using k
  have m1 := memRead_stored _ (bad s 4096 m.length he (by omega)) h
  have m2 := memRead_stored_ne (bad s 8192 96 he (by omega)) h (.inr (by omega))
  have m2' := memRead_stored (s := { s with mem := storeBytes 8192 k [] }) [] (bad _ 8192 k.length he (by omega)) rfl
  rw [lm] at m1
  rw [lk, ← m2] at m2'
  have m3 : memRead s 0 0 = some [] := by rw [memRead, bad s 0 0 he (by omega)]; rfl
  obtain ⟨e1, e2, e3, e4, e5, e6⟩ : join48 (wAt wKa2 4) (wAt wKa2 5) = 4096 ∧ fld (wAt wKa2 6) 0 13 = 284
    ∧ join48 (wAt wKa2 7) (wAt wKa2 8) = 8192 ∧ fld (wAt wKa2 9) 0 12 = 96 ∧ join48 (wAt wKa2 10) (wAt wKa2 11) = 0
    ∧ fld (wAt wKa2 12) 0 14 = 0 := by decide
  rw [kumInputs, e1, e2, e3, e4, e5, e6, m1, m2', m3]
theorem kumInputs_ready (m k : List Byte) (lm : m.length = 284) (lk : k.length = 96) :
    kumInputs (dsc wKa2 (sKumOf (storeBytes 4096 m (storeBytes 8192 k [])))) wKa2 = some (m, k, [])
      ∧ kumInputs (dsc wKa2 (upset (sKumOf (storeBytes 4096 m (storeBytes 8192 k []))))) wKa2 = some (m, k, []) :=
  ⟨kumInputs_stored rfl rfl lm lk, kumInputs_stored rfl rfl lm lk⟩
theorem wit_KeyUpdatesPrepareAndCommit_inputs : kumInputs (dsc wKa2 sKum) wKa2 = some (kumMsg ++ kumSig, kumG, [])
    ∧ kumInputs (dsc wKa2 (upset sKum)) wKa2 = some (kumMsg ++ kumSig, kumG, []) :=
  kumInputs_ready _ _ (by decide +kernel) (by decide +kernel)
theorem wit_KeyUpdatesPrepareAndCommit_passes : isWork (kumCheck (dsc wKa2 sKum) (kumMsg ++ kumSig) kumG []) = true ∧ sKum.dome.drbgOk = true
    ∧ sKum.fuses.life = .sealed ∧ memWrBad (dsc wKa2 sKum) 0 (512 + 80) = false := by decide +kernel

def wNonce : List Word := wd [(0, 0x2A), (6, 1024)]
def wLoadImg (f : Nat) : List Word := wd [(0, 0x2B), (12, f)]
def wLc : List Word := wd [(0, 0x2C)]
def wProv : List Word := wd [(0, 0x2D), (6, 512)]
def cold (s : State) : State := { s with dome := { s.dome with st := .cold } }
theorem wit_ImagesFusesAndLifeCycle : starts (dsc wNonce (sealed .cold base)) 0x2A 0 0 wNonce = true
    ∧ resetNeeded (dsc wNonce (sealed .cold base)) = false ∧ lifeNow (dsc wNonce (sealed .cold base)) = .sealed
    ∧ rpmbLocked (dsc wNonce (sealed .cold base)) = true ∧ (sealed .cold base).dome.drbgOk = true
    ∧ memWrBad (dsc wNonce (sealed .cold base)) 0 1024 = false
    ∧ starts (dsc (wLoadImg 1) (cold base)) 0x2B 0 0 (wLoadImg 1) = true ∧ resetNeeded (dsc (wLoadImg 1) (cold base)) = false
    ∧ lifeNow (cold base) ≠ .sealed ∧ flag (wAt (wLoadImg 1) 12) 0 = true
    ∧ starts (dsc (wLoadImg 0) (sealed .loading base)) 0x2B 0 0 (wLoadImg 0) = true
    ∧ resetNeeded (dsc (wLoadImg 0) (sealed .loading base)) = false ∧ lifeNow (sealed .loading base) = .sealed
    ∧ (memRead (dsc (wLoadImg 0) (sealed .loading base)) 0 1024).isSome = true ∧ flag (wAt (wLoadImg 0) 12) 0 = false
    ∧ (memRead (dsc (wLoadImg 0) (sealed .loading base)) 0 0).isSome = true
    ∧ starts (dsc wLc base) 0x2C 0 0 wLc = true ∧ lifeNow base = .manufacture ∧ fld (wAt wLc 4) 0 2 = 0 ∧ fld (wAt wLc 7) 0 12 = 0
    ∧ base.dome.drbgOk = true ∧ base.dome.st ≠ .loading ∧ tabWf {} base.dome.slots = true
    ∧ starts (dsc wProv (sealed .cold base)) 0x2D 0 0 wProv = true ∧ (sealed .cold base).dome.st = .cold
    ∧ (sealed .cold base).fuses.prov = false ∧ memWrBad (dsc wProv (sealed .cold base)) 0 512 = false := by decide

def wRx : List Word := wd [(0, 0x2E), (6, 48)]
def wRl : List Word := wd [(0, 0x2F)]
def wLd : List Word := wd [(0, 0x63), (4, 1023 + 2 * 1024), (7, 24)]
theorem wit_RepairRecordsAndLogDump : starts (dsc wRx base) 0x2E 0 0 wRx = true ∧ base.dome.st = .ready
    ∧ memWrBad (dsc wRx base) 0 48 = false ∧ starts (dsc wRl base) 0x2F 0 0 wRl = true ∧ (memRead (dsc wRl base) 0 48).isSome = true
    ∧ starts (dsc wLd base) 0x63 0 0 wLd = true ∧ memWrBad (dsc wLd base) 0 24 = false := by decide

def wGcm : List Word := wd [(0, 0x30030), (2, 14), (4, 20 * 64), (12, 500), (14, 600)]
def wXts : List Word := wd [(0, 0x30031), (2, 14), (4, 18), (6, 4 * 16), (10, 500), (12, 600)]
def wSecoc : List Word := wd [(0, 0x30032), (2, 14), (4, 2), (5, 1000), (7, 2000), (9, 18)]
/-- One entry of JOB_SECOC: no PDU, a MAC of 24 bits. -/
def sSecoc : State := { rung wSecoc sKeys with mem := storeBytes 1004 [0x80, 0x01] [] }
def wIcv (v : Nat) : List Word := wd [(0, 0x30033), (2, 16), (4, v), (5, 500), (7, 40), (8, 700)]
def wRnd : List Word := wd [(0, 0x30034), (4, 65536)]
def tSecoc : List Word := bytesWords 13 ((memRead sSecoc 1000 39).getD [])
theorem wit_TowerJobsRunAndTheDomesJobsComplete : starts (dsc wGcm sKeys) 0x30 0 0 wGcm = true ∧ starts (dsc wXts sKeys) 0x31 0 0 wXts = true
    ∧ starts (dsc wSecoc sKeys) 0x32 0 0 wSecoc = true ∧ ((entAt (rung wGcm sKeys) 0 0).map Ent.st) = some .running
    ∧ (memRead (rung wGcm sKeys) 500 20).isSome = true ∧ (memRead (rung wGcm sKeys) 0 0).isSome = true
    ∧ badOverlap 500 20 600 36 = false ∧ overlaps 0 0 600 36 = false ∧ memWrBad (rung wGcm sKeys) 600 36 = false
    ∧ (memRead (rung wXts sKeys) 500 16).isSome = true ∧ badOverlap 500 16 600 16 = false ∧ memWrBad (rung wXts sKeys) 600 16 = false
    ∧ ((entAt sSecoc 0 0).map Ent.st) = some .running ∧ flag (wAt wSecoc 4) 0 = false ∧ fld (wAt wSecoc 4) 1 7 = 1
    ∧ secocBad tSecoc = false ∧ (memRead sSecoc (secocPdu tSecoc).1 (secocPdu tSecoc).2).isSome = true ∧ overlaps 1000 39 2000 18 = false
    ∧ overlaps (secocPdu tSecoc).1 (secocPdu tSecoc).2 2000 18 = false ∧ memWrBad sSecoc 2000 18 = false
    ∧ starts (dsc (wIcv 0) sKeys) 0x33 0 0 (wIcv 0) = true ∧ got (resolve (dsc (wIcv 0) sKeys) 16 0 .mkaIck 0) = some key16
    ∧ (memRead (dsc (wIcv 0) sKeys) 500 40).isSome = true ∧ memWrBad (dsc (wIcv 0) sKeys) 700 16 = false
    ∧ starts (dsc (wIcv 1) sKeys) 0x33 0 0 (wIcv 1) = true ∧ (memRead (dsc (wIcv 1) sKeys) 700 16).isSome = true
    ∧ starts (dsc wRnd sKeys) 0x34 0 0 wRnd = true ∧ sKeys.dome.drbgOk = true ∧ fld (wAt wRnd 4) 0 17 ≤ 65536
    ∧ memWrBad (dsc wRnd sKeys) 0 65536 = false := by decide

/-- Storage keys of slots 15 and 19, with expected generation 2. -/
def sStor : State := setSlot 19 { st := .loaded, attr := 2, gen := some 2, key := key16 } sKeys
def wCfg (a b v : Nat) : List Word := wd [(0, 0x3003C), (2, a), (4, b), (6, v)]
def wCfgRd : List Word := wd [(0, 0x3003D), (4, 254 + 256), (7, 15)]
def eStor (a b : Nat) : StcCfg :=
  { valid := true, alg := false, dus := false, dataKref := a, dataLabel := 0, tweakKref := b, tweakLabel := 0 }
theorem wit_StorageEntriesAreSetAndRead :
    starts (dsc (wCfg 0x200F 0x2013 0x100) sStor) 0x3C 0 0 (wCfg 0x200F 0x2013 0x100) = true ∧ sStor.dome.st = .ready
    ∧ flag (wAt (wCfg 0x200F 0x2013 0x100) 6) 8 = true ∧ stcKeys (dsc (wCfg 0x200F 0x2013 0x100) sStor) (eStor 0x200F 0x2013) = none
    ∧ starts (dsc (wCfg 0x200F 0x3013 0x100) sStor) 0x3C 0 0 (wCfg 0x200F 0x3013 0x100) = true
    ∧ stcKeys (dsc (wCfg 0x200F 0x3013 0x100) sStor) (eStor 0x200F 0x3013) ≠ none
    ∧ starts (dsc (wCfg 0 0 0xFF) sStor) 0x3C 0 0 (wCfg 0 0 0xFF) = true ∧ flag (wAt (wCfg 0 0 0xFF) 6) 8 = false
    ∧ starts (dsc wCfgRd sStor) 0x3D 0 0 wCfgRd = true ∧ memWrBad (dsc wCfgRd sStor) 0 15 = false := by decide

def wSmp : List Word := wd [(0, 0x40), (2, 1), (4, 5)]
def wDm (r : Nat) : List Word := wd [(0, 0x41), (2, 1), (4, r), (5, r)]
def wSel (k : Nat) : List Word := wd [(0, 0x42), (2, k)]
def wTr : List Word := wd [(0, 0x43), (6, 48)]
/-- Domain 1 is LOCKED. -/
def sLocked : State := { base with tmu := { base.tmu with d1 := { st := .locked } } }
theorem wit_TimeCommandsChangeTheTimeUnit : starts (dsc wSmp base) 0x40 0 0 wSmp = true ∧ rfld (dsc wSmp base) (rD_CTRL 1) 0 2 = 0
    ∧ sampleSteps (dsc wSmp sLocked) 1 (5 * 256) = false ∧ sampleSteps (dsc wSmp sLocked) 1 (20000 * 256) = true
    ∧ starts (dsc (wDm 1) base) 0x41 0 0 (wDm 1) = true ∧ flag (wAt (wDm 1) 4) 0 = true
    ∧ starts (dsc (wDm 0) base) 0x41 0 0 (wDm 0) = true ∧ flag (wAt (wDm 0) 4) 0 = false
    ∧ starts (dsc (wSel 1) base) 0x42 0 0 (wSel 1) = true ∧ (dom base.tmu 1).st = .invalid
    ∧ starts (dsc (wSel 1) sLocked) 0x42 0 0 (wSel 1) = true ∧ (dom sLocked.tmu 1).st ≠ .invalid ∧ sLocked.tmu.sel ≠ 1
    ∧ ({ sLocked with tmu := { sLocked.tmu with sel := 1 } } : State).tmu.sel = 1 ∧ WcSrc.d1 ≠ sLocked.tmu.src
    ∧ starts (dsc wTr base) 0x43 0 0 wTr = true ∧ memWrBad (dsc wTr base) 0 (3 * (timeRecord (dsc wTr base)).length) = false := by decide

def wCl : List Word := wd [(0, 0x44), (2, 4), (4, 3000), (6, 1), (10, 1000)]
def wCs (stop : Nat) : List Word := wd [(0, 0x45), (2, 4), (4, stop)]
def wCr : List Word := wd [(0, 0x46), (2, 4), (7, 1554)]
def aBank : CalBank := { valid := true, base := 0, cycle := 1000, entries := [(0, 3)] }
/-- The calendar of port 4: running bank 0, or stopped with a valid bank 0; with a pending STOP. -/
def sCal (run : Bool) (p : Option CalPend) : State := setCal 4 { bank0 := aBank, running := run, pend := p } base
theorem wit_CalendarCommandsActOnTheirPort : starts (dsc wCl base) 0x44 0 0 wCl = true ∧ portOk (dsc wCl base) 0 4 = true
    ∧ heldBy (dsc wCl base) (.cal 4) = false ∧ 1 ≤ fld (wAt wCl 6) 0 9 ∧ 1000 ≤ (wAt wCl 10).toNat + fld (wAt wCl 11) 0 6 * 2 ^ 24
    ∧ (wAt wCl 10).toNat + fld (wAt wCl 11) 0 6 * 2 ^ 24 ≤ 1000000000
    ∧ memReadWords (dsc wCl base) 3000 2 = some [0, 0] ∧ calEntries [0, 0] = some [(0, 0)] ∧ offsetsOk 1000 [(0, 0)] = true
    ∧ (cal base 4).active < 2 ∧ starts (dsc (wCs 1) (sCal true none)) 0x45 0 0 (wCs 1) = true
    ∧ chkCalSwitch 0 (wCs 1) (dsc (wCs 1) (sCal true none)) = none ∧ (cal (sCal true none) 4).running = true
    ∧ starts (dsc (wCs 0) (sCal false none)) 0x45 0 0 (wCs 0) = true ∧ chkCalSwitch 0 (wCs 0) (dsc (wCs 0) (sCal false none)) = none
    ∧ (cal (sCal false none) 4).running = false
    ∧ (cal (sCal true (some { stop := true, bank := 0, cycle := 0 })) (4 : Fin 24)).pend = some { stop := true, bank := 0, cycle := 0 }
    ∧ domOn (sCal true none) dTIME = true
    ∧ boundary (activeBank (cal (sCal true none) 4)) (portPull (sCal true none) 4) 0 ≤ wcNs (sCal true none)
    ∧ wcNs (sCal true none) < boundary (activeBank (cal (sCal true none) 4)) (portPull (sCal true none) 4) 1
    ∧ starts (dsc wCr base) 0x46 0 0 wCr = true ∧ portOk (dsc wCr base) 0 4 = true ∧ memWrBad (dsc wCr base) 0 (3 * (calRecord (cal base 4) 0).length) = false := by decide

/-! ### Witnesses for the statements about Spire Link -/

/-- Node 5, table routing: node 9 through port 0, node 12 through port 1; every unit may be accessed; slot 9 is the domain key of key
transport; the ports as given. -/
def spl (v0 v1 : SPort) (s : State) : State :=
  setSport 0 v0 (setSport 1 v1 (rset rSPL_NODE 5 (rset (rSPL_ROUTE_PORT 0) 4 (rset (rSPL_ROUTE_RANGE 0) 0x009009
    (rset (rSPL_ROUTE_PORT 1) 5 (rset (rSPL_ROUTE_RANGE 1) 0x00C00C (rset rSPL_ACCESS 0xFFFFFF (rset rSPL_KT_CTRL 0x3009 s))))))))
def pUp : SPort := { st := .active }
def sSpl : State := spl pUp pUp sKeys
/-- A received packet of node 9 with tag 1. -/
def pk (vc ty dest sub : Nat) (l : List Word) : List Word := withCrc (pktWords 0 4095 0 { vc, ty, dest, src := 9, tag := 1, sub, payload := l })
/-- The packet that port 0 takes. -/
def tk (ty : Nat) (w : List Word) (s : State) : Pkt := (taken 0 ty w s).getD { vc := 9, ty := 0, dest := 0, src := 0 }

def wSr : List Word := wd [(0, 0x50), (2, 9), (4, 0x1000), (5, 1), (8, 3)]
def wSw' : List Word := wd [(0, 0x51), (2, 9), (4, 0x1000), (5, 1)]
def wSl : List Word := wd [(0, 0x52), (2, 9), (4, 0x21000)]
def wSk : List Word := wd [(0, 0x53), (2, 9), (4, 8), (5, 9), (6, 20)]
def wSb : List Word := wd [(0, 0x54), (4, 0x1000)]
def isOk : Except Res (List Byte × List Byte) → Bool | .ok _ => true | .error _ => false
theorem wit_RemoteCommandsSendTheirRequest : nextTag (dsc wSr sSpl) = some 0 ∧ firstHop (dsc wSr sSpl) (splNode wSr) = some 0
    ∧ portUp (dsc wSr sSpl) 0 = true ∧ starts (dsc wSr sSpl) 0x50 0 0 wSr = true
    ∧ starts (dsc wSw' sSpl) 0x51 0 0 wSw' = true ∧ (memReadWords (dsc wSw' sSpl) 0 (splCount wSw')).isSome = true
    ∧ starts (dsc wSl sSpl) 0x52 0 0 wSl = true ∧ (dsc wSl sSpl).spl.hold = none
    ∧ starts (dsc wSk sSpl) 0x53 0 0 wSk = true ∧ isOk (keySendKeys (dsc wSk sSpl) wSk) = true
    ∧ starts (dsc wSr base) 0x50 0 0 wSr = true ∧ firstHop (dsc wSr base) (splNode wSr) = none
    ∧ starts (dsc wSw' (spl {} {} base)) 0x51 0 0 wSw' = true ∧ firstHop (dsc wSw' (spl {} {} base)) (splNode wSw') = some 0
    ∧ portUp (dsc wSw' (spl {} {} base)) 0 = false
    ∧ starts (dsc wSb sSpl) 0x54 0 0 wSb = true ∧ bcastPorts (dsc wSb sSpl) none = []
    ∧ starts (dsc wSb (rset (rSP_CTRL 1) 16 sSpl)) 0x54 0 0 wSb = true ∧ bcastPorts (dsc wSb (rset (rSP_CTRL 1) 16 sSpl)) none ≠ [] := by decide +kernel

/-- A training set of lane 0: TYPE 1, with its CONTROL and ID bytes. -/
def ts (c : Nat) (id : Byte) : List Word := 0 :: bytesWords 6 ([0xBC, 1, 0, 7, 1, mkB c, 0, 9, 0, 15] ++ List.replicate 6 id)
def pDet : SPort := { st := .training, detDone := 7, present := 1 }
def pPoll : SPort := { st := .training, step := .poll, present := 1 }
theorem wit_PortControlAndTraining : domOn base dSPIRE = true ∧ busFree base ∧ busFree sSpl ∧ (sport base 0).st = .down ∧ (sport base 1).st = .down ∧ nodeHasId base = true
    ∧ (sport sSpl 0).st ≠ .down ∧ (sport sSpl 0).st = .active ∧ (sport sSpl 0).retrains < 3 ∧ (sport base 0).st ≠ .active
    ∧ (sport (spl pDet {} base) 0).step = .detect ∧ (sport (spl pDet {} base) 0).stepAt ≤ (spl pDet {} base).clock
    ∧ (sport sSpl 0).gen2 = false ∧ (parseTs (ts 1 0x4A)).com = 0xBC ∧ (parseTs (ts 1 0x4A)).ty = 1
    ∧ (parseTs (ts 1 0x4A)).ids.all (· == 0x4A) = true ∧ (parseTs (ts 1 0x4A)).control.testBit 0 = true
    ∧ (sport (spl pPoll {} base) 0).step = .poll ∧ (0 : Nat) = fld (wAt (ts 0 0x4A) 0) 0 2
    ∧ (sport (spl pPoll {} base) 0).present.testBit 0 = true ∧ tsGood (sport (spl pPoll {} base) 0) (parseTs (ts 0 0xB5)) true = true
    ∧ tsGood (sport (spl pPoll {} base) 0) (parseTs (ts 0 0x4A)) true = false
    ∧ tsGood (sport (spl pPoll {} base) 0) (parseTs (ts 0 0x4A)) false = true
    ∧ goodLanes (noteTs 0 (parseTs (ts 0 0x4A)) (sport (spl pPoll {} base) 0)) = []
    ∧ (sport (spl { st := .training, step := .rate } {} base) 0).step = .rate := by decide +kernel

/-- Port 0 as given, some time on. -/
def late (v : SPort) : State := { spl v pUp base with clock := 2000000 }
theorem wit_LossesOfLockAndFramingTakeThePortOn : domOn (late pPoll) dSPIRE = true ∧ (sport (late pPoll) 0).st = .training
    ∧ (sport (late pPoll) 0).step ≠ .rate ∧ (sport (late pPoll) 0).stepAt + 1000000 ≤ (late pPoll).clock
    ∧ (spl pPoll {} base).clock < (sport (spl pPoll {} base) 0).stepAt + 1000000
    ∧ (sport (late { st := .active, step := .config, lanesOk := 3 }) 0).lanesOk &&& (4 : BitVec 4).toNat = 0
    ∧ (sport (late { st := .active, step := .config, lanesOk := 3 }) 0).lockLost = none
    ∧ (sport (late { st := .active, lanesOk := 3 }) 0).lanesOk &&& (3 : BitVec 4).toNat = (sport (late { st := .active, lanesOk := 3 }) 0).lanesOk
    ∧ (sport (late { st := .active, lanesOk := 3 }) 0).lanesOk &&& (1 : BitVec 4).toNat ≠ 0
    ∧ (sport (late { st := .active, lanesOk := 3 }) 0).lanesOk &&& (1 : BitVec 4).toNat
        < (sport (late { st := .active, lanesOk := 3 }) 0).lanesOk
    ∧ (sport (late { st := .active, lockLost := some 0 }) 0).lockLost = some 0 ∧ (0 : Nat) + 500 ≤ (late pPoll).clock
    ∧ (sport (late { st := .retrain }) 0).st = .retrain ∧ (sport (late { st := .retrain }) 0).retrainAt + 1500000 ≤ (late pPoll).clock
    ∧ (sport (late { st := .active, gen2 := true }) 0).gen2 = true ∧ (sport (late { st := .active, gen2 := true }) 0).st ≠ .down := by decide +kernel

def q0 : QPkt := { pkt := { vc := 0, ty := 1, dest := 9, src := 5, payload := [0x1000, 1] } }
def r0 : RPkt := { seq := 0, pkt := q0.pkt, fwd := false }
def ackW (n : Nat) : List Word := withCrc (pktWords 0 n 0 { vc := 0, ty := 0, dest := 0, src := 0 })
def fw : List Word := pk 0 1 12 0 [0x1000, 1]
theorem wit_PacketsAreSentAcknowledgedAndReplayed : domOn (late { pUp with queue := [q0] }) dSPIRE = true
    ∧ (sport (late { pUp with queue := [q0] }) 0).st = .active ∧ (sport (late { pUp with queue := [q0] }) 0).resend = []
    ∧ pickPkt (sport (late { pUp with queue := [q0] }) 0) = some q0 ∧ q0.pkt.ty ≠ 10 ∧ q0.own = none
    ∧ (sport (late { pUp with queue := [q0] }) 0).txSeq < 4096
    ∧ (sport (late { pUp with resend := [0], replay := [r0] }) 0).resend = 0 :: []
    ∧ (sport (late { pUp with resend := [0], replay := [r0] }) 0).replay.find? (fun q => q.seq == 0) = some r0
    ∧ (parsePkt (ackW 0)).crcOk = true ∧ (parsePkt (ackW 0)).pkt.ty = 0 ∧ (sport (late { pUp with replay := [r0] }) 0).framingLost = false
    ∧ ((parsePkt (ackW 0)).ack + 4097 - r0.seq) % 4096 = 1 ∧ ((parsePkt (ackW 4095)).ack + 4097 - r0.seq) % 4096 = 0
    ∧ (sport (late { pUp with replay := [r0] }) 0).replay ≠ []
    ∧ (sport (late { pUp with replay := [r0] }) 0).replayAt + ceilDiv (rfld (late { pUp with replay := [r0] }) (rSP_REPLAY 0) 0 16) 2 ≤ 2000000
    ∧ (sport (late { pUp with replay := [r0] }) 0).expiries < 3
    ∧ (sport (late { pUp with ackDue := true }) 0).ackDue = true ∧ (sport (late { pUp with ackDue := true }) 0).sentAt + 100 ≤ 2000000
    ∧ (sport (late pUp) 0).framingLost = false ∧ (parsePkt [0, 0, 0]).crcOk = false ∧ (sport (late pUp) 0).crcAt = []
    ∧ (parsePkt (pk 3 1 5 0 [])).crcOk = true ∧ (parsePkt (pk 3 1 5 0 [])).pkt.ty ≠ 0 ∧ (parsePkt (pk 3 1 5 0 [])).seq = (sport (late pUp) 0).rxSeq
    ∧ rxRoom (late pUp) 0 (parsePkt (pk 3 1 5 0 [])).pkt = true ∧ typeOk (parsePkt (pk 3 1 5 0 [])).pkt = false
    ∧ acceptable (late pUp) 0 (parsePkt (pk 3 8 5 7 [])) = true ∧ typeOk (parsePkt (pk 3 8 5 7 [])).pkt = true
    ∧ subOk (parsePkt (pk 3 8 5 7 [])).pkt = false ∧ route (late pUp) (parsePkt (pk 3 8 5 7 [])).pkt.dest = .here
    ∧ acceptable (late pUp) 0 (parsePkt fw) = true ∧ typeOk (parsePkt fw).pkt = true ∧ (parsePkt fw).pkt.ty ≠ 4
    ∧ route (late pUp) (parsePkt fw).pkt.dest = .port 1 ∧ (parsePkt fw).pkt.hops < 14 ∧ portUp (late pUp) 1 = true := by decide +kernel

def wRd : List Word := pk 0 1 5 0 [0x1000, 1]
def wWr : List Word := pk 1 3 5 0 [0x1000, 7]
def wLk : List Word := pk 0 2 5 0 [0x21000, 0, 0]
def wBc : List Word := pk 1 4 0xFFF 0 [0x1000, 0, 0]
def wCp : List Word := pk 2 5 5 0 [0, 77]
def sHold : State := { sSpl with spl := { sSpl.spl with hold := some { tag := 3, node := 9, deadline := 5 } } }
def sHold2 : State := { sSpl with spl := { sSpl.spl with hold := some { tag := 3, node := 8, deadline := 5 } } }
def farTurn (s : State) : State := { s with spl := { s.spl with lastFar := true } }
def sClosed : State := rset rSPL_ACCESS 0 sSpl
/-- Tag 1 is outstanding for the descriptor at index 0. -/
def sTag (u : TagUse) (w : List Word) : State := setTag 1 (.used u 0 0 0 0 9) (rung w sSpl)
theorem wit_ReceivedRequestsReachTheNearBus : taken 0 1 wRd sSpl = some (tk 1 wRd sSpl) ∧ sSpl.spl.hold = none
    ∧ taken 0 1 wRd sHold = some (tk 1 wRd sHold) ∧ sHold.spl.hold ≠ none ∧ farRefusal (farTurn (accept 0 (parsePkt wRd) sSpl)) [0x1000] = none
    ∧ taken 0 1 wRd sClosed = some (tk 1 wRd sClosed) ∧ farRefusal (farTurn (accept 0 (parsePkt wRd) sClosed)) [0x1000] = some 1
    ∧ taken 0 3 wWr sSpl = some (tk 3 wWr sSpl) ∧ taken 0 3 wWr sHold = some (tk 3 wWr sHold) ∧ (tk 3 wWr sSpl).payload.drop 1 = [7]
    ∧ farRefusal (farTurn (accept 0 (parsePkt wWr) sSpl)) [fld (wAt (tk 3 wWr sSpl).payload 0) 0 17] = none
    ∧ taken 0 2 wLk sSpl = some (tk 2 wLk sSpl)
    ∧ (runOps (opsIn 4 (tk 2 wLk sSpl).payload) 0 (farTurn (accept 0 (parsePkt wLk) sSpl))).2.2.2 = none
    ∧ farRefusal (farTurn (accept 0 (parsePkt wLk) sSpl)) ((opsIn 4 (tk 2 wLk sSpl).payload).map fun o => o.addr) = none
    ∧ taken 0 2 wLk sHold2 = some (tk 2 wLk sHold2) ∧ (sHold2.spl.hold.map fun h => decide (h.node ≠ (tk 2 wLk sHold2).src)) = some true
    ∧ taken 0 2 wLk sHold = some (tk 2 wLk sHold) ∧ (sHold.spl.hold.map fun h => decide (h.node = (tk 2 wLk sHold).src)) = some true
    ∧ ownNode sHold < (tk 2 wLk sHold).src ∧ alarmNow (sTag .read wSr) = false
    ∧ gatherOf (sTag .read wSr) 0 (tk 5 wCp (sTag .read wSr)) = none
    ∧ taken 0 4 wBc sSpl = some (tk 4 wBc sSpl)
    ∧ taken 0 5 wCp (sTag .read wSr) = some (tk 5 wCp (sTag .read wSr)) ∧ (sTag .read wSr).spl.gathers = []
    ∧ tagDesc (sTag .read wSr) (tk 5 wCp (sTag .read wSr)) = some (.read, 0, 0, wSr) ∧ fld (wAt (tk 5 wCp (sTag .read wSr)).payload 0) 0 8 = 0
    ∧ memWrBad (sTag .read wSr) 0 3 = false
    ∧ taken 0 6 (pk 6 6 5 0 [0]) sSpl ≠ none ∧ taken 0 7 (pk 6 7 5 0 [0]) sSpl ≠ none := by decide +kernel

def wLr : List Word := pk 3 8 5 0 [mkW (11 + 3 * 2 ^ 13), 5, 0, 0]
def wOpen (attr : Word) : List Word := pk 4 9 5 1 [20, attr]
def wNo (st : Word) : List Word := pk 4 9 5 2 (st :: List.replicate 7 0)
def wBlob : List Word := pk 4 9 5 3 (24 :: List.replicate 14 0)
def wDone : List Word := pk 4 9 5 4 [0, 3]
def aNonce : OpenNonce := { src := 9, tag := 1, target := 20, attr := 1, gen := 2, expGen := 0, nonce := key16, since := 0 }
def sNonce : State := let s := setSlot 20 { gen := some 2 } sSpl; { s with spl := { s.spl with nonces := [aNonce] } }
def aBlob : State := accept 0 (parsePkt wBlob) sNonce
theorem wit_LeaseAndKeyPacketsActOnTheirObject : taken 0 8 wLr sSpl = some (tk 8 wLr sSpl) ∧ (tk 8 wLr sSpl).sub = 0
    ∧ domOn sSpl dPIPE = true ∧ recordResult (tk 8 wLr sSpl).payload (accept 0 (parsePkt wLr) sSpl) = 0
    ∧ taken 0 8 (pk 3 8 5 1 [0, 0, 0, 0, 0]) sSpl ≠ none ∧ (tk 8 (pk 3 8 5 1 [0, 0, 0, 0, 0]) sSpl).sub = 1
    ∧ taken 0 9 (wOpen 1) sSpl = some (tk 9 (wOpen 1) sSpl) ∧ (tk 9 (wOpen 1) sSpl).sub = 1 ∧ (openNonces sSpl).length < 8
    ∧ sSpl.dome.drbgOk = true ∧ got (farKeyCheck (accept 0 (parsePkt (wOpen 1)) sSpl) 20 0 1 none) = some key16
    ∧ taken 0 9 (wOpen 2) sSpl ≠ none ∧ got (farKeyCheck (accept 0 (parsePkt (wOpen 2)) sSpl) 20 0 2 none) = none := by decide +kernel
theorem wit_LeaseAndKeyPacketsActOnTheirObject_nonce : taken 0 9 (wNo 5) (sTag .key wSk) = some (tk 9 (wNo 5) (sTag .key wSk)) ∧ (tk 9 (wNo 5) (sTag .key wSk)).sub = 2
    ∧ tagDesc (sTag .key wSk) (tk 9 (wNo 5) (sTag .key wSk)) = some (.key, 0, 0, wSk)
    ∧ fld (wAt (tk 9 (wNo 5) (sTag .key wSk)).payload 0) 0 8 ≠ 0
    ∧ tagDesc (sTag .key wSk) (tk 9 (wNo 0) (sTag .key wSk)) = some (.key, 0, 0, wSk)
    ∧ fld (wAt (tk 9 (wNo 0) (sTag .key wSk)).payload 0) 0 8 = 0
    ∧ isOk (keySendKeys (accept 0 (parsePkt (wNo 0)) (sTag .key wSk)) wSk) = true ∧ (sTag .key wSk).dome.upset = false := by decide +kernel
theorem wit_LeaseAndKeyPacketsActOnTheirObject_end : taken 0 9 wBlob sSpl ≠ none ∧ (tk 9 wBlob sSpl).sub = 3 ∧ sSpl.spl.nonces = []
    ∧ taken 0 9 wBlob sNonce = some (tk 9 wBlob sNonce) ∧ sNonce.spl.nonces = [aNonce] ∧ aNonce.src = (tk 9 wBlob sNonce).src
    ∧ aNonce.tag = (tk 9 wBlob sNonce).tag
    ∧ got (farKeyCheck { aBlob with spl := { aBlob.spl with nonces := [] } } 20 0 1 (some 2)) = some key16
    ∧ sNonce.clock < aNonce.since + 500000 ∧ sNonce.dome.upset = false ∧ aNonce.alarm = false ∧ sNonce.dome.drbgOk = true
    ∧ alarmNow sNonce = false
    ∧ taken 0 9 wDone (sTag .key wSk) ≠ none ∧ (tk 9 wDone (sTag .key wSk)).sub = 4
    ∧ tagDesc (sTag .key wSk) (tk 9 wDone (sTag .key wSk)) = some (.key, 0, 0, wSk)
    ∧ fld (wAt (tk 9 wDone (sTag .key wSk)).payload 0) 0 8 = 0 := by decide +kernel

/-- Domain 0 takes port 0's partner, asked and LOCKED. -/
def sDom : State := let s := rset (rD_CTRL 0) 1 sSpl
  { s with spl := { s.spl with time0 := { sent := true } }, tmu := { s.tmu with d0 := { st := .locked } } }
def sTest : State := rset (rSP_TEST 0) 2 sSpl
def wTs (l : List Word) : List Word := pk 7 11 0xFFE 0 l
def sGather (dl : Nat) : State := setGathers [{ src := 5, tag := 1, epoch := 0, back := none, awaited := [1], count := 0, fails := 0, low := 0xFFF, deadline := dl }] sSpl
theorem wit_SpireTimeTestsAndLimits : rfld sDom (rD_CTRL 0) 0 2 = 1 ∧ domOn sDom dTIME = true ∧ portUp sDom 0 = true
    ∧ (timeReqOf sDom 0).nextAt ≤ sDom.clock
    ∧ sSpl.clock < (timeReqOf { sSpl with spl := { sSpl.spl with time0 := { nextAt := 1 } } } 0).nextAt
    ∧ taken 0 10 (pk 5 10 0xFFE 0 [0]) sDom ≠ none ∧ (tk 10 (pk 5 10 0xFFE 0 [0]) sDom).sub = 0
    ∧ taken 0 10 (pk 5 10 0xFFE 1 (2 :: List.replicate 7 0)) sDom ≠ none ∧ (tk 10 (pk 5 10 0xFFE 1 (2 :: List.replicate 7 0)) sDom).sub = 1
    ∧ rfld sDom (rD_CTRL 0) 0 2 = (0 : Fin 3).val + 1 ∧ (timeReqOf sDom 0).sent = true
    ∧ fld (wAt (tk 10 (pk 5 10 0xFFE 1 (2 :: List.replicate 7 0)) sDom).payload 0) 1 2 ≠ 0 ∧ (dom sDom.tmu 0).st ≠ .invalid
    ∧ taken 0 11 (wTs (testWords 3 1).1) sTest ≠ none ∧ rflag sTest (rSP_TEST 0) 1 = true
    ∧ testRun 1 (tk 11 (wTs (testWords 3 1).1) sTest).payload ≠ none ∧ taken 0 11 (wTs [1, 1]) sTest ≠ none
    ∧ testRun 1 (tk 11 (wTs [1, 1]) sTest).payload = none
    ∧ splTag (sTag .read wSr) 1 = .used .read 0 0 0 0 9 ∧ TagUse.read ≠ .bcast ∧ (sTag .read wSr).spl.hold = none
    ∧ (sTag .read wSr).clock < 9 ∧ (9 : Nat) ≤ ({ sTag .read wSr with clock := 9 } : State).clock
    ∧ sHold.spl.hold = some { tag := 3, node := 9, deadline := 5 } ∧ sHold.clock < 5
    ∧ (5 : Nat) ≤ ({ sHold with clock := 5 } : State).clock
    ∧ splTag (setTag 3 (.used .locked 0 0 0 0 9) sHold) 3 = .used .locked 0 0 0 0 9
    ∧ (sGather 0).spl.gathers = [{ src := 5, tag := 1, epoch := 0, back := none, awaited := [1], count := 0, fails := 0, low := 0xFFF, deadline := 0 }]
    ∧ (sGather 1).clock < 1 ∧ domOn (sGather 1) dSPIRE = true := by decide +kernel

/-! ### Witnesses for the statements about frames, leases, items, staging and the tables of the pipelines -/

/-- A frame of 60 bytes without its FCS, and with four more. -/
def fr (ety : List Byte) : List Byte := List.replicate 12 2 ++ ety ++ List.replicate 46 0
def fr4 (ety : List Byte) : List Byte := fr ety ++ List.replicate 4 0
/-- Pipeline 0 classifies every frame of port 0 to one leaf; the port transmits and receives; SecY 3 has association 12 in use. -/
def sPipe (leaf : Word) : State := setPpl 0 { bank0 := { valid := true, nodes := 6, image := [(0, { w0 := 2, w1 := leaf })] } }
  (rset (rPA_EG_CTRL 0) 1 (rset (rPA_IG_CTRL 0) 1 (rset (rPA_EG_MAXLEN 0) 2000 (rset (rPA_IG_MAXLEN 0) 2000 sEnc))))
def v0 : Parse := parseFrame (fr [8, 6])
def vE : Parse := parseFrame (fr [0x88, 0x8E])
/-- An egress frame. -/
def f0 : EgFrame := { port := 0, express := false, len := 64, bytes := fr [8, 6], marked := false, act := .plain 5, out := fr [8, 6] }
def sFrame (f : EgFrame) : State := setEg 0 (some f) (sPipe 1)
/-- The working clock stands at `t` ns and stood at `t - 2` before this clock; port 0 with LATE_POLICY `pol`. -/
def sNowP (pol : Word) (t : Nat) (f : EgFrame) : State :=
  let s := rset (rP_LAUNCH 0) pol (sFrame f); { s with tmu := { s.tmu with wc := t * 2 ^ 32, wcWas := t - 2 } }
def sNow (t : Nat) (f : EgFrame) : State := sNowP 0 t f
def fL : EgFrame := { f0 with launch := some (.instant 100) }
theorem wit_EgressFramesAreAdmittedAndLeave : dpRuns State.reset = false ∧ dpRuns (sPipe 2) = true ∧ (sPipe 2).pwr.restoring = false
    ∧ entering (sPipe 2) = false ∧ pipeLeaving (sPipe 2) = false ∧ flag (rget (sPipe 2) (rPA_EG_CTRL 0)) 0 = true
    ∧ portBlocked (sPipe 2) 0 = false ∧ fr [8, 6] ≠ [] ∧ v0.exhausted = false ∧ v0.etype ≠ 0x888E
    ∧ classify (sPipe 2) 0 false (keyVector 0 (false && flag (rget (sPipe 2) (rPA_EG_CTRL 0)) 2) false (fr [8, 6]) v0) = .drop
    ∧ vE.exhausted = false ∧ vE.etype = 0x888E ∧ vE.vlans.length ≤ 2 ∧ flag (rget (sPipe 2) (rPA_EG_CTRL 0)) 1 = false
    ∧ (64 : BitVec 14).toNat = 64 ∧ 64 ≤ rfld (sPipe 2) (rPA_EG_MAXLEN 0) 0 14 ∧ ceilDiv (64 - 4) 64 ≤ unitsFor (sPipe 2) 0
    ∧ classify (sPipe 24) 0 false (keyVector 0 (false && flag (rget (sPipe 24) (rPA_EG_CTRL 0)) 2) false (fr [8, 6]) v0) = .protect 3 := by
  decide
theorem wit_EgressFramesAreAdmittedAndLeave_protect :
    (secy (sPipe 24) 3).valid = true ∧ secyPort (secy (sPipe 24) 3) = 0 ∧ secyProtect (secy (sPipe 24) 3) = true
    ∧ 64 + tagLenOf (secy (sPipe 24) 3).settings + 16 ≤ rfld (sPipe 24) (rPA_EG_MAXLEN 0) 0 14
    ∧ ceilDiv (64 + tagLenOf (secy (sPipe 24) 3).settings + 16 - 4) 64 ≤ unitsFor (sPipe 24) 0 ∧ armedOf (sPipe 24) 3 = none
    ∧ encoding (sPipe 24) 3 = some 12 ∧ (cal (sPipe 24) 0).running = false ∧ (assoc (sPipe 24) 12).state = .inUse ∧ (assoc (sPipe 24) 12).spent = false
    ∧ (assoc (sPipe 24) 12).nextPn ≤ (assoc (sPipe 24) 12).leaseEnd ∧ (assoc (sPipe 24) 12).nextPn < (assoc (sPipe 24) 12).threshPn
    ∧ (assoc (sPipe 24) 12).nextPn ≠ assocTop (sPipe 24) (assoc (sPipe 24) 12) ∧ (assoc (sPipe 24) 12).belfry = none
    ∧ needsLease (sPipe 24) { assoc (sPipe 24) 12 with nextPn := (assoc (sPipe 24) 12).nextPn + 1 } = false := by decide
theorem wit_EgressFramesAreAdmittedAndLeave_leave : egFrame (sFrame f0) 0 = some f0 ∧ dpRuns (sFrame f0) = true
    ∧ egHead (sFrame f0) 0 f0 = true ∧ f0.st = .whole ∧ f0.launch = none ∧ f0.abort = none ∧ f0.marked = false ∧ f0.started = false
    ∧ egFrame (sFrame { f0 with started := true, abort := some 16 }) 0 = some { f0 with started := true, abort := some 16 } ∧ 16 ≤ f0.out.length
    ∧ fL.launch.isSome = true ∧ fL.released = false ∧ releaseAt (sNow 99 fL) fL = some 100 ∧ wcNs (sNow 99 fL) < (100 : Int)
    ∧ releaseAt (sNow 102 fL) fL = some 100 ∧ (100 : Int) ≤ wcNs (sNow 102 fL)
    ∧ (100 : Int) ≤ (sNow 102 fL).tmu.wcWas
    ∧ releaseAt (sNow 100 fL) fL = some 100 ∧ (100 : Int) ≤ wcNs (sNow 100 fL) ∧ (sNow 100 fL).tmu.wcWas < (100 : Int)
    ∧ egHead (sNow 100 fL) 0 fL = true ∧ egReady (sNow 100 fL) 0 fL = true
    ∧ egFrame (sNowP 2 102 fL) 0 = some fL ∧ dpRuns (sNowP 2 102 fL) = true ∧ egHead (sNowP 2 102 fL) 0 fL = true
    ∧ egReady (sNowP 2 102 fL) 0 fL = true ∧ latePolicy (sNowP 2 102 fL) fL.port = 2 ∧ fL.launch ≠ none
    ∧ egFrame (sFrame { f0 with started := true, marked := true }) 0 = some { f0 with started := true, marked := true }
    ∧ egFrame (sFrame { f0 with launch := some .late }) 0 = some { f0 with launch := some .late } ∧ f0.released = false := by decide

def sAt (t now : Nat) : State :=
  let s := setArmed 3 (some { target := 11, trigger := .atTime t }) sEnc; { s with tmu := { s.tmu with wc := now * 2 ^ 32 } }
/-- A transmit association with a lease request. -/
def aReq (m : Bool) (q : LeaseReq) : Assoc := { aTx with state := .inUse, mirrored := m, req := some q }
def sReq (m : Bool) (q : LeaseReq) : State := { setAssoc 12 (aReq m q) (withSecy base) with clock := 60000 }
def qSent : LeaseReq := { endPn := 9, since := 0, sent := true }
def qLate : LeaseReq := { endPn := 9, since := 0, late := true, resendAt := 60000 }
theorem wit_LeasesAreConfirmedAndSwitchesFire : armedOf (sAt 7 7) (3 : Fin 512) = some { target := 11, trigger := .atTime 7 }
    ∧ domOn (sAt 7 7) dPIPE = true ∧ domOn (sAt 7 7) dTIME = true ∧ 7 ≤ wcNs (sAt 7 7) ∧ wcNs (sAt 7 6) < 7
    ∧ armedOf (sAt 7 6) (3 : Fin 512) = some { target := 11, trigger := .atTime 7 }
    ∧ assoc (sReq false { endPn := 9, since := 0, partner := true }) 12 = aReq false { endPn := 9, since := 0, partner := true }
    ∧ (aReq false { endPn := 9, since := 0, partner := true }).state ≠ .free
    ∧ ({ endPn := 9, since := 0, partner := true } : LeaseReq).aon = false
    ∧ assoc (sReq true qSent) 12 = aReq true qSent ∧ tabGet none (sReq true qSent).mirrorOps 12 = none ∧ qSent.partner = false
    ∧ qSent.sent = true ∧ qSent.since + 50000 ≤ (sReq true qSent).clock ∧ (aReq true qSent).best = false ∧ (aReq true qSent).stalled = false
    ∧ assoc (sReq true { qSent with since := 20000 }) 12 = aReq true { qSent with since := 20000 }
    ∧ (sReq true { qSent with since := 20000 }).clock < 20000 + 50000 ∧ domOn (sReq true qLate) dPIPE = true
    ∧ assoc (sReq true qLate) 12 = aReq true qLate ∧ qLate.partner = false ∧ qLate.late = true ∧ qLate.resendAt ≤ (sReq true qLate).clock := by
  decide

def x0 : Item := { kind := .eg, cls := 2, dkey := 12, reqs := [{ kref := 8, label := 0, use := .link, len := 16 }] }
def xA : Item := { x0 with st := .active, takes := x0.reqs.map (takeOf sKeys) }
/-- The same of an item that was dispatched while its slot was EMPTY. -/
def xE : Item := { x0 with st := .active, takes := x0.reqs.map (takeOf base) }
def xK : Item := { xA with keys := [key16], hasKeys := true }
def sItem (x : Item) (s : State) : State := setItem 0 (some x) s
def keyOf : Except (Option Nat × Res) (List (List Byte)) → Option (List (List Byte)) | .ok l => some l | .error _ => none
def gC : IgFrame := { port := 0, express := false, bytes := [], ts := 0, cells := 0, st := .cipher }
/-- The ingress frames given, each with an item in a tower. -/
def sIgs (l : List (Nat × IgFrame)) : State := l.foldl (fun s p => setItem p.1 (some { xK with kind := .ig }) (setIg p.1 (some p.2) s)) sKeys
theorem wit_ItemsPassThroughTheirTower : item (sItem x0 sKeys) 0 = some x0 ∧ domOn (sItem x0 sKeys) dHOST = true
    ∧ ((sItem x0 sKeys).items.all fun p => match p.2 with | some y => !(y.st == .crossbar && decide (y.cls < x0.cls) && (target (sItem x0 sKeys) y).isSome) | none => true) = true
    ∧ (target (sItem x0 sKeys) x0).isSome = true ∧ target (sItem x0 { sKeys with arr := {} }) x0 = none
    ∧ domOn (sItem xA sKeys) dDOME = true ∧ (sItem xA sKeys).pwr.remasking = false ∧ xA.hasKeys = false ∧ xA.st = .active
    ∧ keyOf (fetchKeys (tower (sItem xA sKeys) xA.tower) (sItem xA sKeys) xA.takes) = some [key16] ∧ xA.kind ≠ .ig
    ∧ keyOf (fetchKeys (tower (sItem xE base) xE.tower) (sItem xE base) xE.takes) = none ∧ xE.hasKeys = false ∧ xE.st = .active
    ∧ xK.st = .active ∧ xK.hasKeys = true ∧ sKeys.pwr.state = .run ∧ badKey (sItem xK sKeys) xK.tower xK = none
    ∧ egFrame (sItem xK (sFrame { f0 with st := .cipher })) 0 = some { f0 with st := .cipher }
    ∧ igFrame (sIgs [(0, gC)]) 0 = some gC ∧ igBehind (sIgs [(0, gC)]) 0 gC = false ∧ item (sIgs [(0, gC)]) 0 = some { xK with kind := .ig }
    ∧ item (sIgs [(0, gC), (1, gC)]) 1 = some { xK with kind := .ig } ∧ igFrame (sIgs [(0, gC), (1, gC)]) 1 = some gC
    ∧ igBehind (sIgs [(0, gC), (1, gC)]) 1 gC = true
    ∧ f0.started = false ∧ (healthy (tower sKeys 0) false).contains (8 : Fin 9).val = true := by decide

def sTw (t : Tower) : State := setTower 0 t sKeys
/-- Belfry slot 4 is held by association 12 of SecY 3; the budget is as given. -/
def sBel (b : BSlot) (budget : Nat) : State :=
  let s := setBslot 4 b (setAssoc 12 { aTx with state := .inUse, belfry := some 4 } sEnc)
  { s with arr := { s.arr with tokens := budget } }
def sBelL (w : Nat) : State :=
  let s := setCal 0 { bank0 := aBank, running := true } (sItem x0 (sBel { sa := some 12, st := .staging 0 } 0))
  { s with tmu := { s.tmu with wc := w * 2 ^ 32 } }
theorem wit_RollingTestsStagingAndCalendarInstances : domOn (sTw {}) (twDomain 0) = true
    ∧ (tower (sTw { started := true, testCore := true, outCore := 8 }) 0).started = true
    ∧ ((tower (sTw { started := true, testCore := true, outCore := 8 }) 0).testCore
        && (tower (sTw { started := true, testCore := true, outCore := 8 }) 0).outCore == (8 : Fin 9).val) = true
    ∧ ((tower (sTw { started := true, testGh := true, outGh := 2 }) 0).testGh
        && (tower (sTw { started := true, testGh := true, outGh := 2 }) 0).outGh == (2 : Fin 9).val) = true
    ∧ ((tower (sTw { started := true, testCore := true }) 0).testCore
        && (tower (sTw { started := true, testCore := true }) 0).outCore == (8 : Fin 9).val) = false
    ∧ (tower (sTw { started := true, testCore := true, outCore := 8 }) 0).coreBad.testBit 8 = false ∧ domOn sKeys dHOST = true
    ∧ (tower (sTw { started := true, testGh := true, outGh := 2 }) 0).ghBad.testBit 2 = false
    ∧ (tower (sTw { started := true, testCore := true, outCore := 8 }) 0).kat.testBit (unitBit false 8) = false
    ∧ (tower (sTw { started := true, testGh := true, outGh := 2 }) 0).kat.testBit (unitBit true 2) = false
    ∧ (tower (sTw { started := true, testCore := true }) 0).kat.testBit (unitBit false 8) = false
    ∧ (tower (sTw { kat := 2 ^ 8 }) 0).kat.testBit (unitBit false 8) = true
    ∧ testDue (rset rTWR_TEST 1 { sKeys with clock := 500000 }) = true ∧ testDue (rset rTWR_TEST 1 sKeys) = false
    ∧ domOn (rset rTWR_TEST 1 { sKeys with clock := 500000 }) dHOST = true ∧ inService sKeys 0 = true ∧ inService (sTw {}) 0 = false
    ∧ (bslot (sBel { sa := some 12 } 0) 4).sa = some 12 ∧ domOn (sBel { sa := some 12 } 0) dPIPE = true
    ∧ (assoc (sBel { sa := some 12 } 0) 12).state = .inUse ∧ (bslot (sBel { sa := some 12 } 0) 4).st = .empty
    ∧ (bslot (sBel { sa := some 12 } 0) 4).barred = false ∧ (assoc (sBel { sa := some 12 } 0) 12).channel = 3
    ∧ nextLaunch (sBel { sa := some 12 } 0) 0 3 = none
    ∧ tokensNow (sBel { sa := some 12 } 0) < stageCost (secy (sBel { sa := some 12 } 0) 3) * 500
    ∧ stageCost (secy (sBel { sa := some 12 } 100000) 3) * 500 ≤ tokensNow (sBel { sa := some 12 } 100000) := by decide
def sSeen (m : Int) : State := setCal 4 { bank0 := aBank, running := true, seen := m } base
theorem wit_RollingTestsStagingAndCalendarInstances_launch : (bslot (sBelL 0) 4).sa = some 12 ∧ (bslot (sBelL 0) 4).st = .staging 0
    ∧ item (sBelL 0) 0 = some x0 ∧ (nextLaunch (sBelL 1) 0 3).isSome = true
    ∧ domOn (sCal true none) dTIME = true ∧ (cal (sCal true none) 4).running = true
    ∧ (activeBank (cal (sCal true none) 4)).entries ≠ [] ∧ launchOf (sCal true none) 4 (cal (sCal true none) 4).seen ≤ wcNs (sCal true none)
    ∧ (cal (sSeen 1) 4).running = true ∧ (activeBank (cal (sSeen 1) 4)).entries ≠ [] ∧ domOn (sSeen 1) dTIME = true
    ∧ wcNs (sSeen 1) < launchOf (sSeen 1) 4 (cal (sSeen 1) 4).seen
    ∧ (ppl (setPpl 1 { retQ := [{ id := 0, port := 1, trap := 0, rule := 0, bytes := [] }] } base) 1).retQ
        = [{ id := 0, port := 1, trap := 0, rule := 0, bytes := [] }]
    ∧ dpRuns (setPpl 1 { retQ := [{ id := 0, port := 1, trap := 0, rule := 0, bytes := [] }] } base) = true := by decide

/-- The default SecY of port 0. -/
def sDflt : State := setSecy 3 { valid := true, settings := 0x100000 } (sPipe 1)
def g0 : IgFrame := { port := 0, express := false, bytes := fr [8, 6], ts := 0, cells := 1, st := .cipher, sci := 9 }
def sIg (g : IgFrame) (c : Nat) : State := { setIg 0 (some g) (sPipe 1) with clock := c }
def sLearn : State := setPpl 0 { learnQ := [0] } (rset (rPA_IG_LEARN 0) 3 (rset (rPPL_IG_LEARN 0) 3 (sIg { g0 with st := .learn } 0)))
theorem wit_IngressFramesAreCheckedHeldAndReleased : dpRuns State.reset = false ∧ dpRuns base = true ∧ fr4 [8, 6] ≠ []
    ∧ base.pwr.restoring = false ∧ pipeLeaving base = false ∧ flag (rget base (rPA_IG_CTRL 0)) 0 = false
    ∧ flag (rget (sPipe 1) (rPA_IG_CTRL 0)) 0 = true ∧ entering (sPipe 1) = false ∧ 0 < cellsFor (sPipe 1) 0
    ∧ endOutcome (cellsFor (sPipe 1) 0) (rfld (sPipe 1) (rPA_IG_MAXLEN 0) 0 14) (fr4 [8, 6]).length (0 : Fin 4) = none
    ∧ flag (rget (rset (rPA_IG_CTRL 0) 3 base) (rPA_IG_CTRL 0)) 1 = true ∧ flag (rget sDflt (rPA_IG_CTRL 0)) 1 = false
    ∧ etypeAt (fr [8, 6]) (clearTags (fr [8, 6]) 2) ≠ some 0x888E ∧ etypeAt (fr [8, 6]) (clearTags (fr [8, 6]) (portClear sDflt 0)) ≠ some 0x88E5
    ∧ (∀ k, k < 4 → rflag sDflt (rPA_IG_BYPASS 0 k) 16 = false) ∧ defaultSecy sDflt 0 = some 3
    ∧ validateOf (secy sDflt 3).settings ≠ 2 := by decide
theorem wit_IngressFramesAreCheckedHeldAndReleased_end : (ppl sLearn 0).learnQ = 0 :: [] ∧ dpRuns sLearn = true
    ∧ igFrame sLearn 0 = some { g0 with st := .learn } ∧ sltFind (ppl sLearn 0).active 0 9 = none ∧ pairStaged sLearn 0 9 = false
    ∧ pplOf g0.port = 0 ∧ (ppl sLearn 0).shSt = .empty ∧ portPending sLearn 0 < rfld sLearn (rPA_IG_LEARN 0) 0 7
    ∧ pplPending sLearn 0 < rfld sLearn (rPPL_IG_LEARN 0) 0 12
    ∧ (sltInsert (ppl sLearn 0).active { port := 0, sci := 9, st := .pending, epoch := (ppl sLearn 0).epoch }).isSome = true
    ∧ igFrame (sIg g0 0) 0 = some g0 ∧ g0.st = .cipher ∧ g0.late = none
    ∧ dpRuns (sIg g0 0) = true ∧ (sIg g0 0).clock ≤ g0.since + rfld (sIg g0 0) (rPPL_IG_HOLD (pplOf g0.port)) 0 8 * 500
    ∧ igFrame (sIg g0 200000) 0 = some g0
    ∧ g0.since + rfld (sIg g0 200000) (rPPL_IG_HOLD (pplOf g0.port)) 0 8 * 500 < (sIg g0 200000).clock ∧ g0.started = false
    ∧ igFrame (sIg { g0 with started := true, cut := true } 200000) 0 = some { g0 with started := true, cut := true }
    ∧ igFrame (sIg { g0 with st := .decided } 0) 0 = some { g0 with st := .decided }
    ∧ igHead (sIg { g0 with st := .decided } 0) 0 { g0 with st := .decided } = true ∧ g0.outcome ≤ 7 := by decide

/-- Pipeline 0 holds one entry, at place 3. -/
def sSlt (e : SltEnt) : State := setPpl 0 { active := { ents := [(3, some e)] } } base
def e0 : SltEnt := { port := 0, sci := 9, st := .pending }
/-- The sweep's epoch is 1, the entries' 0. -/
def sSwp (e : SltEnt) : State := setPpl 0 { epoch := true, active := { ents := [(3, some e)] } } base
theorem wit_TheSciTableAgesAndIsScrubbed : dpRuns base = true ∧ sweepDue 0 (rset (rPPL_IG_AGE 0) 5 base) = true
    ∧ dpRuns (rset (rPPL_IG_AGE 0) 5 base) = true ∧ sweepDue 0 (rset (rPPL_IG_AGE 0) 0 base) = false ∧ dpRuns State.reset = false
    ∧ sltFind (ppl (sSlt e0) 0).active 0 9 = some (3, e0) ∧ e0.epoch = (ppl (sSlt e0) 0).epoch
    ∧ sltFind (ppl (sSwp e0) 0).active 0 9 = some (3, e0) ∧ e0.epoch ≠ (ppl (sSwp e0) 0).epoch ∧ e0.age = true
    ∧ e0.hitAt ≠ (sSwp e0).clock + 1
    ∧ sltFind (ppl (sSwp { e0 with hitAt := 1 }) 0).active 0 9 = some (3, { e0 with hitAt := 1 }) ∧ 1 = (sSwp { e0 with hitAt := 1 }).clock + 1
    ∧ sltFind (ppl (sSwp { e0 with st := .bound, age := false }) 0).active 0 9 = some (3, { e0 with st := .bound, age := false })
    ∧ rflag (sSwp { e0 with st := .bound, age := false }) (rPA_IG_CTRL 0) 4 = false
    ∧ sltFind (ppl (sSwp { e0 with age := false }) 0).active 0 9 = some (3, { e0 with age := false })
    ∧ pairStaged (sSwp { e0 with age := false }) 0 9 = false ∧ e0.st ≠ .bound ∧ e0.st ≠ .reserved
    ∧ sltAt (ppl (sSlt e0) 0).active 3 = some e0 ∧ dpRuns (sSlt e0) = true
    ∧ ((ppl (sSlt e0) 0).scrubs.any fun b => b.shadow == false && b.loc == 3) = false
    ∧ sltAt (ppl base 0).active 3 = none ∧ sltAt (ppl base 0).shadow 3 = none
    ∧ ((ppl base 0).scrubs.any fun b => b.shadow == true && b.loc == 3) = false := by decide

/-! ### Witnesses for the statements about storage, the Dome, time, tamper, events, the log and power -/

/-- Channel 0 is enabled and lets plain transfers through; its entry 3 and its transfers as given. -/
def sStc (l : List StcXfer) : State := setStc 0 { xfers := l, cfgs := [(3, eStor 0x200F 0x2013)] } (rset (rSTC_CTRL 0) 3 sStor)
def x9 : StcXfer := { tag := 9, fromDev := false, ce := false, cfg := 3, dun := 0, len := 600 }
def xe : StcXfer := { x9 with ce := true, entry := eStor 0x200F 0x2013, len := 512 }
def q9 (ce : Bool) (len : Nat) : StcReq := { tag := 9, fromDev := false, ce, cfg := 3, dun := 0, len }
theorem wit_StorageTransfersAreAcceptedCutAndReturned : stcReady (sStc []) 0 = true ∧ (stc (sStc []) 0).tagWait = none
    ∧ tagBusy (sStc [x9]) 0 9 = true ∧ stcReady (sStc [x9]) 0 = true ∧ tagBusy (sStc []) 0 9 = false
    ∧ stcCheck (sStc []) 0 (q9 false 600) {} = none ∧ stcCheck (sStc []) 0 (q9 true 512) (stcCfg (sStc []) 0 3) = none
    ∧ stcKeys (sStc []) (stcCfg (sStc []) 0 3) = none ∧ (stcCheck (sStc []) 0 (q9 true 513) (stcCfg (sStc []) 0 3)).isSome = true
    ∧ stcRuns State.reset = false ∧ stcRuns (sStc [x9]) = true ∧ (stc (sStc [x9]) 0).xfers = [x9] ∧ x9.last = false ∧ x9.ce = false
    ∧ (stc (sStc [xe]) 0).xfers = [xe] ∧ xe.ce = true ∧ xe.fail = none ∧ xe.buf = [] ∧ (List.replicate 512 (0 : Byte)).length = dusOf xe.entry
    ∧ xe.got + 512 ≤ xe.len ∧ x9.fail = none ∧ x9.units = [] ∧ ({ x9 with last := true } : StcXfer).last = true := by decide +kernel

def sDome (d : Dome) : State := { base with dome := d }
def hd : Held := { slot := 8, gen := 1, body := {} }
theorem wit_TheDomesGeneratorAndHeldKeys : domOn base dDOME = true ∧ base.dome.drbgOk = true ∧ (sDome {}).dome.drbgOk = false
    ∧ (sDome { drbgRetry := true }).dome.drbgRetry = true ∧ (sDome {}).dome.drbgRetry = false ∧ (sDome {}).dome.drbgDown = false
    ∧ base.pwr.remasking = false ∧ ({ base with pwr := { base.pwr with remasking := true } } : State).pwr.remasking = true
    ∧ base.dome.upset = false ∧ (sDome { held := [hd] }).dome.held = hd :: [] ∧ holdNeeded (sDome { held := [hd] }) 8 1 = false
    ∧ (sDome {}).dome.held = [] := by decide

def sTmu (u : Tmu) : State := { rset rSYNC_PORTS 16 (rset rSYNC_CTRL 1 (sCal true none)) with
  tmu := { u with cals := (sCal true none).tmu.cals } }
theorem wit_TimeEventsActOnTheTimeUnit : domOn (sTmu {}) dTIME = true ∧ (sTmu { halfDue := true }).tmu.halfDue = true
    ∧ (sTmu {}).tmu.halfDue = false ∧ (dom (sTmu { d1 := { st := .locked } }).tmu (1 : Fin 2)).st = .locked
    ∧ (dom ({ sTmu { d1 := { st := .locked } } with clock := 1 } : State).tmu 1).lossAt < 1
    ∧ domOn { sTmu { d1 := { st := .locked } } with clock := 1 } dTIME = true
    ∧ (sTmu { d1 := { st := .locked } }).clock ≤ (dom (sTmu { d1 := { st := .locked } }).tmu 1).lossAt
    ∧ (sTmu { slewing := true }).tmu.slewing = true ∧ (sTmu {}).tmu.wc = srcTime (sTmu {}).tmu (sTmu {}).tmu.src
    ∧ (sTmu { lc := 5 }).tmu.wc ≠ srcTime (sTmu { lc := 5 }).tmu (sTmu { lc := 5 }).tmu.src
    ∧ rflag base rSYNC_CTRL 0 = false ∧ rflag (sTmu {}) rSYNC_CTRL 0 = true ∧ rflag (sTmu {}) rSYNC_CTRL 1 = false
    ∧ rflag (sTmu {}) rSYNC_CTRL 1 ≠ true ∧ refPort base = none ∧ refPort (sTmu {}) = some 4
    ∧ intervalAt (sTmu {}) 4 (wcNs (sTmu {})) = 0 ∧ (sTmu {}).tmu.lastEdge.map (intervalAt (sTmu {}) 4) ≠ some 0
    ∧ (sTmu { lastEdge := some 0 }).tmu.lastEdge.map (intervalAt (sTmu { lastEdge := some 0 }) 4) = some 0 ∧ busFree (sTmu {})
    ∧ domOn State.reset dTIME = false
    ∧ (sTmu { pulls := [(some 5, 0)] }).tmu.pulls = (some 5, 0) :: []
    ∧ boundary (activeBank (cal (sTmu {}) 4)) (portPull (sTmu {}) 4) (cycleFrom (activeBank (cal (sTmu {}) 4)) (portPull (sTmu {}) 4) 0)
        ≤ wcNs (sTmu {})
    ∧ (wcNs (sTmu {}) : Int) < boundary (activeBank (cal (sTmu {}) 4)) (portPull (sTmu {}) 4)
        (cycleFrom (activeBank (cal (sTmu {}) 4)) (portPull (sTmu {}) 4) 4000)
    ∧ refCycle (sTmu { edgeAt := some (-9) }) = some 0 ∧ (sTmu { edgeAt := some (-9) }).tmu.edgeAt = some (-9) := by decide

def sTmp (t : Tmp) : State := { rset rTMP_TEMP_LIMIT 0x8040 (rset rTMP_DEBOUNCE 0x20 (rset rTMP_CTRL 0 base)) with tmp := t, clock := 1000 }
/-- The same 16 ticks of CK_AON after the start. -/
def sTick (t : Tmp) : State := { sTmp t with clock := 244141 }
theorem wit_SensorsAndLoopsDetect : shieldDue (sTmp {}) = false ∧ shieldDue (sTick {}) = true ∧ pulled (shieldDrv (sTick {})) 0 0 ≠ shieldDrv (sTick {})
    ∧ pulled (shieldDrv (sTick {})) 0xFFFF (shieldDrv (sTick {})) = shieldDrv (sTick {})
    ∧ (sTick {}).tmp.shieldFault = false ∧ shieldDue (sTick { shieldFault := true }) = true
    ∧ (sTick { shieldFault := true }).tmp.shieldFault = true
    ∧ domOn State.reset dDOME = false ∧ domOn (sTmp {}) dDOME = true ∧ (sTmp { clockFault := true }).tmp.clockFault = true
    ∧ (sTmp { clockFault := true }).tmp.clockAt + 500 ≤ (sTmp {}).clock
    ∧ (sTmp { clockFault := true, clockAt := 1000 }).tmp.clockFault = true
    ∧ (sTmp {}).clock < (sTmp { clockFault := true, clockAt := 1000 }).tmp.clockAt + 500
    ∧ (sTmp {}).clock < (sTmp { tempAt := 1001 }).tmp.tempAt ∧ (sTmp {}).tmp.tempAt ≤ (sTmp {}).clock
    ∧ (sTmp {}).tmp.tempFault = false ∧ rfld (sTmp {}) rTMP_TEMP_LIMIT 0 8 ≤ (0x40 : Byte).toNat
    ∧ (0x40 : Byte).toNat ≤ rfld (sTmp {}) rTMP_TEMP_LIMIT 8 8 ∧ (0x3F : Byte).toNat < rfld (sTmp {}) rTMP_TEMP_LIMIT 0 8
    ∧ rfld (sTmp {}) rTMP_TEMP_LIMIT 8 8 < (0x81 : Byte).toNat ∧ (sTmp {}).tmp.tempBad + 1 < rfld (sTmp {}) rTMP_DEBOUNCE 4 4
    ∧ (sTmp { tempBad := 1 }).tmp.tempAt ≤ (sTmp { tempBad := 1 }).clock ∧ (sTmp { tempBad := 1 }).tmp.tempFault = false
    ∧ rfld (sTmp {}) rTMP_DEBOUNCE 4 4 ≤ (sTmp { tempBad := 1 }).tmp.tempBad + 1
    ∧ windowDue (sTmp {}) = false ∧ windowDue (sTick {}) = true
    ∧ (∀ k, k < 4 → rflag (sTick {}) rTMP_CTRL k = false) ∧ (sTick {}).tmp.reseed = false
    ∧ tmpLevel (sTmp {}) 7 ≠ 0 ∧ (sTmp {}).pwr.state = .run := by decide +kernel
theorem wit_TheTamperResponseErasesTheDome : (sTmp { pendMask := 1, pendLevel := 2 }).tmp.pendMask ≠ 0
    ∧ domOn (sTmp {}) dDOME = true ∧ (sTmp {}).pwr.state ≠ .idle ∧ (sTmp {}).tmp.erasing = false
    ∧ tabWf {} (keys (sTmp {})).dome.slots = true ∧ tabWf {} (sTmp {}).arr.towers = true ∧ (sTmp {}).tmp.pendMask = 0
    ∧ (sTmp { erasing := true }).tmp.erasing = true := by decide

def ev0 : EvEntry := { ev := { src := 116, inst := 0, detail := 0, sev := 0 }, seq := 0, time := 0, notime := false }
def sEv (r : EvRing) : State := setEvRing 2 r base
theorem wit_EventRingsAndPendingBits : busFree State.reset ∧ busFree base ∧ busFree (sEv { enable := true }) ∧ domOn State.reset dHOST = false ∧ domOn base dHOST = true ∧ (evRing base 2).enable = false
    ∧ flag (0x401 : Word) 0 = true ∧ 4 ≤ fld (0x401 : Word) 8 4 ∧ fld (0x401 : Word) 8 4 ≤ 12 ∧ evBase base 2 % 2 ^ (fld (0x401 : Word) 8 4 + 4) = 0
    ∧ flag (0x301 : Word) 0 = true ∧ fld (0x301 : Word) 8 4 < 4 ∧ (evRing (sEv { enable := true }) 2).enable = true ∧ flag (0x400 : Word) 0 = false
    ∧ (evRing (sEv { enable := true, log2 := 4, queue := [ev0] }) 2).lost = 0
    ∧ (evRing (sEv { enable := true, log2 := 4, queue := [ev0] }) 2).queue = ev0 :: []
    ∧ evFull (evRing (sEv { enable := true, log2 := 4, queue := [ev0] }) 2) = false
    ∧ memWrBad base (evBase base 2 + 12 * (evRing (sEv { enable := true, log2 := 4, queue := [ev0] }) 2).tail) 12 = false
    ∧ evFull (evRing (sEv { enable := true, log2 := 4, tail := 15, queue := [ev0] }) 2) = true
    ∧ (evRing (sEv { enable := true, log2 := 4, tail := 15, queue := [ev0] }) 2).lost = 0
    ∧ (evRing (sEv { enable := true, log2 := 4, tail := 15, queue := [ev0] }) 2).enable = true
    ∧ 0 < (evRing (sEv { enable := true, log2 := 4, lost := 1 }) 2).lost
    ∧ evFull (evRing (sEv { enable := true, log2 := 4, lost := 1 }) 2) = false := by decide

theorem wit_ForcedEventsOnlyWhereDebugIsOpen : busFree (sealed .ready base) ∧ busFree base ∧ lifeNow (sealed .ready base) = .sealed ∧ lifeNow base ≠ .sealed ∧ domOn base dHOST = true := by
  decide
def sLog : State := { rset rLOG_CTRL 1 base with log := { queue := [{}] } }
theorem wit_TheLogCountsUnreadEntriesAndLatchesReads : sLog.log.queue = {} :: [] ∧ rfld sLog rLOG_CTRL 0 11 ≠ 0
    ∧ rfld sLog rLOG_CTRL 0 11 ≤ min 1024 (sLog.log.unread + 1) ∧ sLog.log.threshed = false ∧ busFree sLog := by decide

/-- The power controller as given. -/
def sPwr (p : Pwr) : State := { base with pwr := p }
def pOn : Pwr := base.pwr
theorem wit_PowerRequestsStartTheirTransition : busFree base ∧ busFree State.reset ∧ base.pwr.state = .run ∧ entering base = false
    ∧ pwrBusy (sPwr { pOn with trans := .idleExit }) = true ∧ pwrBusy base = false ∧ idleOk base = true ∧ base.tmp.pendMask = 0
    ∧ base.pwr.wakePin = false ∧ idleOk (rset (rSTC_CTRL 0) 1 base) = false ∧ entryCause false (rset rPWR_CTX_LEN 1023 base) = none
    ∧ entryCause true base = none ∧ entryCause false (rset rPWR_CTX_LEN 0 base) = some 4
    ∧ (∀ d, d < 8 → 3 ≤ d → (((0xFF : Word).toNat % 2 ^ 8) ||| 7).testBit d = domOn base d)
    ∧ (3 ≤ 7 ∧ 7 < 8 ∧ (((0x7F : Word).toNat % 2 ^ 8) ||| 7).testBit 7 ≠ domOn base 7)
    ∧ State.reset.pwr.state = .off ∧ State.reset.pwr.trans = .none := by decide
theorem wit_SwitchesMoveAndDomainsComeUp : (sPwr { closing := some (5, 0) }).pwr.closing = some ((5 : Fin 8).val, 0) ∧ (4 : Fin 8) ≠ 5
    ∧ (5 : Fin 8).val ≠ dDOME ∧ (5 : Fin 8).val ≠ dHOST ∧ 0 + 50000 < ({ base with clock := 60000 } : State).clock
    ∧ base.clock ≤ 0 + 50000 ∧ (sPwr { nextAt := some 1 }).pwr.nextAt = some 1 ∧ (sPwr { nextAt := some 0 }).pwr.nextAt = some 0
    ∧ (sPwr { state := .idle, trans := .idleExit }).pwr.trans = .idleExit ∧ base.pwr.trans = .none
    ∧ (sPwr { pOn with trans := .domains, todo := [(dPIPE, false)] }).pwr.todo = (dPIPE, false) :: [] ∧ dPIPE ≠ dSPIRE
    ∧ (sPwr { pOn with trans := .domains, todo := [(dPIPE, false)] }).pwr.nextAt = none ∧ domDrained base dPIPE = true
    ∧ domDrained (sFrame f0) dPIPE = false ∧ (sPwr { pOn with trans := .entry true, stage := 1 }).pwr.trans = .entry true
    ∧ (sPwr { pOn with trans := .entry true, stage := 1 }).pwr.stage < 3 ∧ entryDrained (stopRings (sFrame f0)) = false
    ∧ entryDrained (stopRings (sPwr { pOn with trans := .entry true, stage := 1 })) = true
    ∧ (sPwr { pOn with trans := .domains, todo := [(dPIPE, false)] }).pwr.closing = none ∧ (sPwr { pOn with trans := .domains, todo := [(dPIPE, false)] }).pwr.trans = .domains := by decide
def sv : PipeSave := { regs := [], secys := [], rxscs := [], assocs := [], ppls := [], cnt := [] }
theorem wit_ContextsAreRequestedRestoredAndDiscarded : base.pwr.state = .run ∧ busFree base ∧ entering base = false ∧ base.pwr.restoreReq = false
    ∧ (sPwr { pOn with restoreReq := true }).pwr.restoreReq = true ∧ base.pwr.restoring = false ∧ domOn base dPIPE = true ∧ domOn base dDOME = true
    ∧ base.pwr.remasking = false ∧ towerReady base = true ∧ base.pwr.state ≠ .idle ∧ pipeWork base = false ∧ imgValid base = false
    ∧ ({ sPwr { pOn with restoring := true } with saved := some sv } : State).saved = some sv := by decide
theorem wit_ResetsLeaveWhatTheyKeep : base.pwr.wakePin = false ∧ base.tmp.pendMask = 0 ∧ keptByReset rTMP_CTRL = true
    ∧ rTMP_CTRL ≠ rTMP_LATCH ∧ rTMP_CTRL ≠ rPWR_CTX_STATUS ∧ keptByReset rSPL_NODE = false := by decide
theorem wit_TamperLeavesTheTimeUnit : domOn base dTIME = true := by decide

/-! ### The spec's worked examples -/

/-- 03_protection_model.md: the IV of an XPN SecTAG: (SSCI ‖ PN) XOR salt (R96). -/
theorem test_xpn_iv : ivOf 3 0x02A15E003C050001 2 0x1B2C3D4E5F60718293A4B5C6 0x0000000100000007 =
    [0x1B, 0x2C, 0x3D, 0x4C, 0x5F, 0x60, 0x71, 0x83, 0x93, 0xA4, 0xB5, 0xC1] := by decide +kernel
/-- The same example's SecTAG (R90, R91): a 1,000-byte frame, AN 2, encrypting, with SCI. -/
theorem test_xpn_sectag :
    egTag { f0 with len := 1000, bytes := [], settings := 0xE500, an := 2, txSci := 0x02A15E003C050001, pn := 0x0000000100000007 } =
    [0x88, 0xE5, 0x2E, 0, 0, 0, 0, 7, 0x02, 0xA1, 0x5E, 0, 0x3C, 5, 0, 1] := by decide +kernel
/-- The same example's receiver recovers the packet number (R97). -/
theorem test_xpn_recovery : recoverPn 3 0x00000000FFFFFFF0 7 = 0x0000000100000007 := by decide +kernel

/-- 04_egress.md: the frame of the worked example, and its key vector. -/
def exFrame : List Byte := [0x02, 0xA1, 0x5E, 0, 0x3C, 0x22, 0x02, 0xA1, 0x5E, 0, 0x3C, 9, 0x81, 0, 0xA0, 0x64, 8, 0, 0x45, 0xB8, 0, 106, 0, 0, 0, 0, 64, 17]
  ++ List.replicate 10 0 ++ [0x9C, 0x40, 0x1F, 0x90, 0, 86, 0, 0] ++ List.replicate 78 0
def exKey : List Word := keyVector 9 false false exFrame (parseFrame exFrame)
theorem test_key_vector : wAt exKey 0 = 0x000549 ∧ wAt exKey 1 = 0x005064 ∧ wAt exKey 7 = 0x2E0800 ∧ wAt exKey 8 = 0x000011
    ∧ wAt exKey 9 = 0x009C40 ∧ wAt exKey 10 = 0x001F90 ∧ (parseFrame exFrame).exhausted = false ∧ exFrame.length = 124 := by decide +kernel
/-- The walk of its tree from node 3, the root of P9, ends in PROTECT of SecY 37 (R132, R134). -/
theorem test_tree_walk : rootOf 9 = 3 ∧ walk { valid := true, nodes := 401, image :=
    [(3, { w0 := 0x0C8028, w1 := 0x00FFFF, w2 := 0x001F90, w3 := 0x0000D4 }), (212, { w0 := 0x0C8004, w1 := 0x000FFF, w2 := 0x000064, w3 := 0x0000D5 }),
     (213, { w0 := 0x000002, w1 := 0x000128, w2 := 0x00000E, w3 := 0 })] } exKey 12 3 = .protect 37 := by decide +kernel
/-- Its SecTAG: TCI 0x0D, SL 0, PN 0x0000A3F1, no SCI. -/
theorem test_offset_sectag : egTag { f0 with len := 128, bytes := exFrame, settings := 0x40C09 + 0x100, an := 1, pn := 0xA3F1 } =
    [0x88, 0xE5, 0x0D, 0, 0, 0, 0xA3, 0xF1] := by decide +kernel
/-- 05_ingress.md: an SCI occupies three words, the least significant first (R111). -/
theorem test_sci_words : words64 0x02A15E004B170001 = [0x170001, 0x5E004B, 0x0002A1] := by decide +kernel

/-! ### Published vectors of the algorithms that the spec names -/

/-- The bytes 0, 1, 2, ... -/
def countBytes (n : Nat) : List Byte := (List.range n).map mkB
/-- FIPS 197, appendix C.1 and C.3: AES-128, and AES-256 backwards. -/
theorem test_aes : aesEnc (aesKeys (countBytes 16)) 0x00112233445566778899AABBCCDDEEFF = 0x69C4E0D86A7B0430D8CDB78070B4C55A
    ∧ aesDec (aesKeys (countBytes 32)) 0x8EA2B7CA516745BFEAFC49904B496089 = 0x00112233445566778899AABBCCDDEEFF := by decide +kernel
/-- IEEE 802.1AE, annex C.1.1: the ICV of a 54-byte frame sent without encryption under GCM-AES-128. -/
theorem test_gcm_tag : gcmTag (toBytesBE 16 0xAD7A2BD03EAC835A6F620FDCB506B345) (toBytesBE 12 0x12153524C0895E81B2C28465)
    (toBytesBE 30 0xD609B1F056637A0D46DF998D88E5222AB2C2846512153524C0895E810800 ++ (countBytes 53).drop 15 ++ [0, 1]) []
    = toBytesBE 16 0xF09478A9B09007D06F46E9B6A1DA25DD := by decide +kernel
/-- IEEE 802.1AE, annex C.1.2: the 54-byte frame encrypted under GCM-AES-128, its whole bytes as the egress path makes them. -/
theorem test_egress_vector : egProtect { f0 with len := 58, settings := 0x010400, txSci := 0xF0761E8DCD3D0001, pn := 0x76D457ED
                                                 bytes := toBytesBE 14 0xE20106D7CD0DF0761E8DCD3D0800 ++ (countBytes 53).drop 15 ++ [0, 4] }
    (toBytesBE 16 0x071B113B0CA743FECCCF3D051F737382) = toBytesBE 20 0xE20106D7CD0DF0761E8DCD3D88E54C2A76D457ED
      ++ toBytesBE 42 0x13B4C72B389DC5018E72A171DD85A5D3752274D3A019FBCAED09A425CD9B2E1C9B72EEE7C9DE7D52B3F3
      ++ toBytesBE 16 0xD6A5284F4A6D3FE22A5D6C2B960494C3 := by decide +kernel
/-- IEEE 1619, vector 15: 17 bytes, with ciphertext stealing. -/
theorem test_xts : xts true (toBytesBE 16 0xFFFEFDFCFBFAF9F8F7F6F5F4F3F2F1F0) (toBytesBE 16 0xBFBEBDBCBBBAB9B8B7B6B5B4B3B2B1B0)
    0x123456789A (countBytes 17) = toBytesBE 17 0x6C1625DB4671522D3D7599601DE7CA09ED := by decide +kernel
/-- RFC 3394, 4.1: 128 bits of key data under a 128-bit key. -/
theorem test_kw : kwWrap false (countBytes 16) ((List.range 16).map fun i => mkB (0x11 * i))
    = toBytesBE 24 0x1FA68B0A8112B447AEF34BD8FB5A7B829D3E862371D2CFE5 := by decide +kernel
/-- RFC 4493, example 1: the CMAC of the empty message. -/
theorem test_cmac : cmac (toBytesBE 16 0x2B7E151628AED2A6ABF7158809CF4F3C) [] = toBytesBE 16 0xBB1D6929E95937287FA37D129B756746 := by
  decide +kernel
/-- FIPS 180: SHA-384 of "abc". -/
theorem test_sha384 : sha384 [0x61, 0x62, 0x63] = toBytesBE 48
    0xCB00753F45A35E8BB5A03D699AC65007272C32AB0EDED1631A8B605A43FF5BED8086072BA1E7CC2358BAECA134C825A7 := by decide +kernel
/-- SP 800-186: the order of P-384 times its base point is the point at infinity. -/
theorem test_p384_order : (jMul p384G 384 p384Order).z = 0 ∧ onCurve (pointBytes p384G) = true := by decide +kernel

/-! ### Single steps -/

/-- What stands at index 0 of ring 0's window. -/
def ent0 (s : State) : Option Res := (ring s 0).window.head?.bind fun e => match e.st with | .done c => some c.res | _ => none
/-- 02_host_control.md: NOP completes with OK and RESULT 0 (its row of the table of ring control). -/
theorem test_nop : ent0 (after (.nop 0 0) (dsc (wd [(0, 0x70)]) base)) = some (okRes 0) := by decide +kernel
/-- A command that names no waiting descriptor changes nothing. -/
theorem test_nop_absent : (entAt (after (.nop 0 1) (dsc (wd [(0, 0x70)]) base)) 0 0).map Ent.st = some .waiting := by decide +kernel
/-- A register of a domain that is off reads as zero, and GLB_ID reads 0x5643 (R536). -/
theorem test_reads : regRead State.reset 0 = 0x5643 ∧ regRead State.reset (rPA_EG_MAXLEN 3) = 0 ∧ regRead base (rPA_EG_MAXLEN 3) = 0x5F2 := by decide +kernel
/-- 05_ingress.md: RXSC_SET of channel 700 with its words, CREATE and ENABLE, on SecY 40 (the worked example). -/
theorem test_rxsc_set : (rxsc (after (.rxscSet 0 0) (dsc (wd [(0, 0x12), (2, 0x2BC), (4, 0xA28), (5, 0x170001), (6, 0x5E004B), (7, 0x2A1)])
    (setSecy 40 { valid := true, settings := 0x10D } base))) 700).sci = 0x02A15E004B170001 := by decide +kernel
/-- SLOT_ERASE of a LOADED slot makes it REVOKED, with RESULT 1 (R297, R314). -/
theorem test_slot_erase : (slot (after (.slotErase 0 0) (dsc (wErase 8) sKeys)) 8).st = .revoked
    ∧ ent0 (after (.slotErase 0 0) (dsc (wErase 8) sKeys)) = some (okRes 1) := by decide +kernel
/-- Key separation: a link key is not resolved for a job (R291). -/
theorem test_key_separation : got (resolve sKeys 8 0 .job 16) = none ∧ got (resolve sKeys 8 0 .link 16) = some key16 := by decide +kernel
/-- A doorbell value that is not below the size is refused and the tail stays (R40). -/
theorem test_doorbell_bad : (ring (after (.dblSqTail 0 16) (sRun {})) 0).sqTail = 0
    ∧ (ring (after (.dblSqTail 0 15) (sRun {})) 0).sqTail = 15 := by decide +kernel
/-- A receive association may not reuse a key reference without its slot: KEY_EMPTY (R262 row 5). -/
theorem test_install_empty : (ent0 (after (.saInstall 0 0) (dsc wInstRx sRxsc))).map Res.st = some .keyEmpty := by decide +kernel
/-- A tamper response at level 2 leaves the Dome ALARMED and no key (R457, R458). -/
theorem test_tamper : (after .tamperResponse { keys (sTmp { pendMask := 1, pendLevel := 2 }) with clock := 5 }).dome.st = .alarmed
    ∧ (slot (after .tamperResponse { keys (sTmp { pendMask := 1, pendLevel := 2 }) with clock := 5 }) 8).st = .empty := by decide +kernel

end Sys2Proof.Tests
end

/-! PROOF. A tamper response leaves the Time Unit and what its next clock advances by (R400): the part of the state that a clock of the
Time Unit advances LC from (R374), and that each operation of the response leaves it. -/

namespace Sys2Proof.Machine

/-! ### The view and what is read from it -/

/-- The Time Unit, the power domains that are on, and LC's configured increment. -/
def timeView (s : State) : Tmu × Nat × Word × Word := (s.tmu, s.pwr.on, rget s rLC_INCR_LO, rget s rLC_INCR_HI)

theorem timeView_eq_iff {s u : State} : timeView u = timeView s ↔ u.tmu = s.tmu ∧ u.pwr.on = s.pwr.on
    ∧ rget u rLC_INCR_LO = rget s rLC_INCR_LO ∧ rget u rLC_INCR_HI = rget s rLC_INCR_HI := by
  simp [timeView]

theorem lcIncr_congr {s u : State} (hlo : rget u rLC_INCR_LO = rget s rLC_INCR_LO) (hhi : rget u rLC_INCR_HI = rget s rLC_INCR_HI) :
    lcIncr u = lcIncr s := by
  simp [lcIncr, rfld, hlo, hhi]

/-- One clock of CK_TS advances LC by the configured increment while PD_TIME is on (R374). -/
theorem tick_lc {s : State} (h : domOn s dTIME = true) : (tick s).tmu.lc = timeAdd s.tmu.lc (lcIncr s) := by
  simp [tick, tmuTick, h]

/-- States with one time view advance LC alike. -/
theorem tick_lc_of_timeView {s u : State} (hv : timeView u = timeView s) (h : domOn s dTIME = true) :
    (tick u).tmu.lc = timeAdd s.tmu.lc (lcIncr s) := by
  obtain ⟨htmu, hon, hlo, hhi⟩ := timeView_eq_iff.1 hv
  rw [tick_lc (domOn_congr hon dTIME ▸ h), htmu, lcIncr_congr hlo hhi]

/-! ### Updates of one part of the state -/

/-- An update that leaves the Time Unit, the power domains and every register leaves the view. -/
theorem timeView_congr {s u : State} (htmu : u.tmu = s.tmu) (hpwr : u.pwr = s.pwr) (hregs : u.regs = s.regs) :
    timeView u = timeView s := by
  simp [timeView, rget, htmu, hpwr, hregs]

/-- A repeated operation leaves the view where each repetition does. -/
theorem timeView_foldl {α : Type} {f : State → α → State} (h : ∀ s a, timeView (f s a) = timeView s) (l : List α) (s : State) :
    timeView (l.foldl f s) = timeView s := by
  induction l generalizing s with
  | nil => rfl
  | cons a r ih => rw [List.foldl_cons, ih, h]

/-- A register other than the two of the increment. -/
theorem timeView_rset {off : Nat} {v : Word} {s : State} (h : off ∉ [rLC_INCR_LO, rLC_INCR_HI]) :
    timeView (rset off v s) = timeView s := by
  simp only [List.mem_cons, List.not_mem_nil, or_false, not_or] at h
  simp [timeView, rget_rset_ne v s (Ne.symm h.1), rget_rset_ne v s (Ne.symm h.2)]

theorem timeView_rsetFld {off lo len v : Nat} {s : State} (h : off ∉ [rLC_INCR_LO, rLC_INCR_HI]) :
    timeView (rsetFld off lo len v s) = timeView s := timeView_rset h

theorem timeView_rsat {off lo len inc : Nat} {s : State} (h : off ∉ [rLC_INCR_LO, rLC_INCR_HI]) :
    timeView (rsat off lo len inc s) = timeView s := timeView_rset h

@[simp] theorem timeView_raise {src inst detail : Nat} {s : State} : timeView (raise src inst detail s) = timeView s :=
  timeView_congr (by simp) (by simp) (by simp)

@[simp] theorem timeView_modRing {n : Nat} {f : Ring → Ring} {s : State} : timeView (modRing n f s) = timeView s := rfl

@[simp] theorem timeView_modPpl {k : Nat} {f : Ppl → Ppl} {s : State} : timeView (modPpl k f s) = timeView s := rfl

@[simp] theorem timeView_setItem {id : Nat} {x : Option Item} {s : State} : timeView (setItem id x s) = timeView s := rfl

@[simp] theorem timeView_setEg {id : Nat} {f : Option EgFrame} {s : State} : timeView (setEg id f s) = timeView s := rfl

@[simp] theorem timeView_setIg {id : Nat} {f : Option IgFrame} {s : State} : timeView (setIg id f s) = timeView s := rfl

@[simp] theorem timeView_setCore {f : IgFrame} {o : CoreFrame} {s : State} : timeView (setCore f o s) = timeView s := rfl

@[simp] theorem timeView_modXfers {f : StcXfer → StcXfer} {c : Nat} {s : State} : timeView (modXfers f c s) = timeView s := rfl

@[simp] theorem timeView_cntEg {port c : Nat} {s : State} : timeView (cntEg port c s) = timeView s := rfl

@[simp] theorem timeView_cntIg {port c : Nat} {s : State} : timeView (cntIg port c s) = timeView s := rfl

@[simp] theorem timeView_finish {n i : Nat} {r : Res} {s : State} : timeView (finish n i r s) = timeView s := by
  obtain ⟨-, hregs, -, -, hpwr, -, -, -, htmu, -⟩ := finish_leaves (n := n) (i := i) (r := r) (s := s)
  exact timeView_congr htmu hpwr hregs

/-! ### Frames of the path (R157, R209, R212, R215) -/

@[simp] theorem timeView_igSecy {f : IgFrame} {i inc : Nat} {s : State} : timeView (igSecy f i inc s) = timeView s := by
  unfold igSecy cntSecyOf cntSecy
  split
  · split_ifs <;> rfl
  · rfl

@[simp] theorem timeView_igRxsc {f : IgFrame} {i inc : Nat} {s : State} : timeView (igRxsc f i inc s) = timeView s := by
  unfold igRxsc cntRxOf cntRx
  split
  · split_ifs <;> rfl
  · rfl

@[simp] theorem timeView_igSa {f : IgFrame} {i inc : Nat} {s : State} : timeView (igSa f i inc s) = timeView s := by
  unfold igSa cntSaOf cntSa
  split_ifs <;> rfl

@[simp] theorem timeView_igOctets {f : IgFrame} {s : State} : timeView (igOctets f s) = timeView s := by simp [igOctets]

/-- Every outcome of a frame charges counters only. -/
@[simp] theorem timeView_igCharge {k : Nat} {f : IgFrame} {s : State} : timeView (igCharge k f s) = timeView s := by
  unfold igCharge
  split <;> simp [apply_ite timeView]

@[simp] theorem timeView_igGone {id : Nat} {f : IgFrame} {s : State} : timeView (igGone id f s) = timeView s := rfl

@[simp] theorem timeView_cutBytes {k : Nat} {f : IgFrame} {s : State} : timeView (cutBytes k f s).1 = timeView s := by
  unfold cutBytes
  split_ifs <;> rfl

@[simp] theorem timeView_igAbort {id k : Nat} {f : IgFrame} {s : State} : timeView (igAbort id k f s) = timeView s := by
  simp [igAbort]

@[simp] theorem timeView_igEnd {id k : Nat} {f : IgFrame} {s : State} : timeView (igEnd id k f s) = timeView s := by
  unfold igEnd
  split_ifs <;> simp

@[simp] theorem timeView_egEnd {id c : Nat} {f : EgFrame} {s : State} : timeView (egEnd id c f s) = timeView s := by
  unfold egEnd egDrop
  split_ifs <;> simp

@[simp] theorem timeView_igAlarm {s : State} : timeView (igAlarm s) = timeView s := timeView_foldl (fun _ _ => timeView_igEnd) _ _

@[simp] theorem timeView_egAlarm {s : State} : timeView (egAlarm s) = timeView s :=
  timeView_foldl (fun _ _ => by split_ifs <;> simp) _ _

/-! ### Groups, jobs, transfers and the Dome's descriptors (R65, R246, R355, R457) -/

@[simp] theorem timeView_reserveMembers {n : Nat} {s : State} : timeView (reserveMembers n s) = timeView s := by
  unfold reserveMembers
  split_ifs <;> simp

@[simp] theorem timeView_dropStaging {s : State} : timeView (dropStaging s) = timeView s := timeView_foldl (fun _ _ => timeView_modPpl) _ _

@[simp] theorem timeView_groupAlarm {s : State} : timeView (groupAlarm s) = timeView s := by
  unfold groupAlarm
  split
  · simp [closeGroup]
  · rfl

@[simp] theorem timeView_memWrite {a : Nat} {l : List Byte} {s : State} : timeView (memWrite a l s).1 = timeView s := by
  rcases memWrite_cases a l s with ⟨h, -⟩ | ⟨_, h⟩ <;> rw [h] <;> rfl

@[simp] theorem timeView_havoc {a n : Nat} {s : State} : timeView (havoc a n s) = timeView s := timeView_memWrite

@[simp] theorem timeView_jobEnd {id n i : Nat} {r : Res} {s : State} : timeView (jobEnd id n i r s) = timeView s := by
  unfold jobEnd
  dsimp only
  split
  · split_ifs <;> simp
  · simp

@[simp] theorem timeView_jobAlarm {s : State} : timeView (jobAlarm s) = timeView s :=
  timeView_foldl (fun _ _ => by split <;> simp) _ _

@[simp] theorem timeView_dropUnits {x : StcXfer} {k : Nat} {s : State} : timeView (dropUnits x k s) = timeView s :=
  timeView_foldl (fun _ _ => timeView_setItem) _ _

@[simp] theorem timeView_stcAlarm {s : State} : timeView (stcAlarm s) = timeView s :=
  timeView_foldl (fun _ _ => timeView_foldl (fun _ _ => by split_ifs <;> simp) _ _) _ _

@[simp] theorem timeView_domeOpsAlarm {s : State} : timeView (domeOpsAlarm s) = timeView s :=
  timeView_foldl (fun _ _ => timeView_foldl (fun _ _ => by split_ifs <;> simp) _ _) _ _

/-! ### Keys, caches and slots (R457) -/

@[simp] theorem timeView_emptySlots {s : State} : timeView (emptySlots s) = timeView s := rfl

@[simp] theorem timeView_cacheDrop {p : CacheEnt → Bool} {s : State} : timeView (cacheDrop p s) = timeView s := rfl

@[simp] theorem timeView_bslotEmpty {i : Nat} {s : State} : timeView (bslotEmpty i s) = timeView s := by
  unfold bslotEmpty
  dsimp only
  split <;> rfl

@[simp] theorem timeView_bslotDrop {i : Nat} {s : State} : timeView (bslotDrop i s) = timeView s := by
  unfold bslotDrop
  split_ifs
  · rfl
  · rw [timeView_rsat (by decide), timeView_bslotEmpty]

@[simp] theorem timeView_belfryClear {s : State} : timeView (belfryClear s) = timeView s := timeView_foldl (fun _ _ => timeView_bslotDrop) _ _

/-! ### The record of the response and the Dome's state (R456 to R459) -/

@[simp] theorem timeView_noteResponse {mask level : Nat} {s : State} : timeView (noteResponse mask level s) = timeView s := by
  unfold noteResponse
  rw [timeView_rset (by decide)]
  split_ifs <;> exact timeView_rsat (by decide)

@[simp] theorem timeView_bumpRetcnt {s : State} : timeView (bumpRetcnt s) = timeView s := timeView_rset (by decide)

@[simp] theorem timeView_setDomeSt {st : DomeSt} {s : State} : timeView (setDomeSt st s) = timeView s := by
  unfold setDomeSt
  split_ifs
  · rfl
  · rw [timeView_raise]; rfl

@[simp] theorem timeView_alarmDome {level : Nat} {s : State} : timeView (alarmDome level s) = timeView s := by
  unfold alarmDome
  rw [timeView_setDomeSt]
  split_ifs
  · exact timeView_rsetFld (by decide)
  · rfl

/-! ### The response (R456, R400) -/

/-- Nothing happens, an erasure under way goes on, at a higher level or as it was, or a first response erases: the view stays. -/
theorem timeView_tamperResponse (s : State) : timeView (tamperResponse s) = timeView s := by
  unfold tamperResponse
  dsimp only
  split_ifs
  · rfl
  · simp only [timeView_alarmDome, timeView_noteResponse]; rfl
  · rfl
  · simp only [timeView_alarmDome, timeView_belfryClear, timeView_cacheDrop, timeView_emptySlots, timeView_domeOpsAlarm,
      timeView_stcAlarm, timeView_jobAlarm, timeView_igAlarm, timeView_egAlarm, timeView_groupAlarm, timeView_bumpRetcnt]
    rw [timeView_rsetFld (by decide), timeView_noteResponse]; rfl

/-- Settles O60: the response leaves the time view, and the next clock reads nothing else for LC. -/
theorem tamperLeavesTheTimeUnit : Obligations.TamperLeavesTheTimeUnit := fun s =>
  have hv := timeView_tamperResponse s
  ⟨tamperResponse s, rfl, (timeView_eq_iff.1 hv).1, tick_lc_of_timeView hv⟩

end Sys2Proof.Machine

/-! PROOF. The AON log (R466, R470, R472): what LOG_WRITE makes of the log and when it raises LG_THRESH, and what a write of
LOG_RD_IDX latches. -/

namespace Sys2Proof.Machine

/-! ### LOG_WRITE (R466, R472) -/

/-- The log with `e` written at NEXT and `rest` still queued; LOG_UNREAD counts it and saturates (R472). -/
def logAppend (e : LogEntry) (rest : List LogEntry) (g : LogSt) : LogSt :=
  { g with next := (g.next + 1) % 1024, wrapped := g.wrapped || (g.next + 1) % 1024 == 0, total := (g.total + 1) % 2 ^ 24
           unread := min 1024 (g.unread + 1), entries := tabPut {} g.entries g.next e, queue := rest }

/-- The next entry raises LG_THRESH: LOG_UNREAD then reaches a THRESH that is not zero, the first time since ACK (R472). -/
abbrev ThreshDue (s : State) : Prop :=
  rfld s rLOG_CTRL 0 11 ≠ 0 ∧ rfld s rLOG_CTRL 0 11 ≤ min 1024 (s.log.unread + 1) ∧ s.log.threshed = false

/-- LG_THRESH with LOG_UNREAD as its detail. -/
def lgThresh (unread : Nat) : Event := { src := 116, inst := 0, detail := unread, sev := 0 }

/-- LG_THRESH has no 1 ms limit, and LOG_UNREAD fits its detail. -/
theorem raise_lgThresh {unread : Nat} (h : unread ≤ 1024) (s : State) :
    raise 116 0 unread s = { s with raised := s.raised ++ [lgThresh unread] } := by
  have hfits : unread % 2 ^ 24 = unread := Nat.mod_eq_of_lt (by omega)
  rw [raise_unlimited (by decide), hfits]
  rfl

/-- The model's Boolean for raising LG_THRESH says that it is due. -/
theorem decide_threshDue (s : State) : (decide (rfld s rLOG_CTRL 0 11 ≠ 0)
    && decide (rfld s rLOG_CTRL 0 11 ≤ min 1024 (s.log.unread + 1)) && !s.log.threshed) = decide (ThreshDue s) := by
  simp only [ThreshDue, Bool.decide_and, Bool.and_assoc, Bool.decide_eq_false]

theorem logWrite_of_due {s : State} {e : LogEntry} {rest : List LogEntry} (hq : s.log.queue = e :: rest) (h : ThreshDue s) :
    logWrite s = { s with log := { logAppend e rest s.log with threshed := true }
                          raised := s.raised ++ [lgThresh (min 1024 (s.log.unread + 1))] } := by
  simp only [logWrite, hq, decide_threshDue, decide_eq_true h, Bool.or_true, if_true, raise_lgThresh (Nat.min_le_left _ _), logAppend]

theorem logWrite_of_not_due {s : State} {e : LogEntry} {rest : List LogEntry} (hq : s.log.queue = e :: rest) (h : ¬ThreshDue s) :
    logWrite s = { s with log := logAppend e rest s.log } := by
  simp only [logWrite, hq, decide_threshDue, decide_eq_false h, Bool.or_false, Bool.false_eq_true, if_false, logAppend]

/-! ### LOG_RD_IDX (R470) -/

@[simp] theorem logWords_rset (off : Nat) (v : Word) (s : State) (i : Nat) : logWords (rset off v s) i = logWords s i := rfl

@[simp] theorem logWords_hostTurn (s : State) (i : Nat) : logWords (hostTurn s) i = logWords s i := rfl

@[simp] theorem rget_hostTurn (s : State) (o : Nat) : rget (hostTurn s) o = rget s o := rfl

/-- The words of entry `i` that `l` numbers, latched one after the other. -/
def latchLogWords (i : Nat) (l : List Nat) (s : State) : State :=
  l.foldl (fun s k => rset (rLOG_RD_W k) (wAt (logWords s i) k) s) s

theorem logRdIdx_eq (v : Word) (s : State) :
    logRdIdx v s = latchLogWords (fld v 0 10) (List.range 4) (rset rLOG_RD_IDX (mkW (fld v 0 10)) s) := rfl

theorem latchLogWords_cons (i k : Nat) (r : List Nat) (s : State) :
    latchLogWords i (k :: r) s = latchLogWords i r (rset (rLOG_RD_W k) (wAt (logWords s i) k) s) := rfl

@[simp] theorem latchLogWords_leaves {i : Nat} {l : List Nat} {s : State} :
    (latchLogWords i l s).log = s.log ∧ (latchLogWords i l s).mem = s.mem := by
  induction l generalizing s with
  | nil => exact ⟨rfl, rfl⟩
  | cons k r ih => rw [latchLogWords_cons]; exact ih

theorem rget_latchLogWords_ne {i o : Nat} {l : List Nat} {s : State} (h : ∀ k ∈ l, o ≠ rLOG_RD_W k) :
    rget (latchLogWords i l s) o = rget s o := by
  induction l generalizing s with
  | nil => rfl
  | cons k r ih =>
    obtain ⟨hk, hr⟩ := List.forall_mem_cons.1 h
    rw [latchLogWords_cons, ih hr, rget_rset_ne _ _ hk]

theorem rLOG_RD_W_injective : Function.Injective rLOG_RD_W := fun j k h => by
  unfold rLOG_RD_W at h
  omega

/-- A register latched last holds its word, and one latched before is either latched again with the same word or kept. -/
theorem rget_latchLogWords {i k : Nat} {l : List Nat} {s : State} (h : k ∈ l) :
    rget (latchLogWords i l s) (rLOG_RD_W k) = wAt (logWords s i) k := by
  induction l generalizing s with
  | nil => cases h
  | cons j r ih =>
    rw [latchLogWords_cons]
    by_cases hr : k ∈ r
    · rw [ih hr, logWords_rset]
    · obtain rfl : k = j := (List.mem_cons.1 h).resolve_right hr
      have hne : ∀ m ∈ r, rLOG_RD_W k ≠ rLOG_RD_W m := fun m hm => rLOG_RD_W_injective.ne (ne_of_mem_of_not_mem hm hr).symm
      rw [rget_latchLogWords_ne hne, rget_rset_self]

/-! ### Accesses with the near bus free (R470, R472) -/

theorem exec_logCtrlAck_free {s : State} (hb : busFree s) :
    exec .logCtrlAck s = .next (finalize { hostTurn s with log := { s.log with unread := 0, threshed := false } }) :=
  congrArg (fun u => Host.Outcome.next (finalize u)) (hostBus_free hb)

theorem exec_logRdIdx_free {s : State} (v : Word) (hb : busFree s) :
    exec (.logRdIdx v) s = .next (finalize (logRdIdx v (hostTurn s))) :=
  congrArg (fun u => Host.Outcome.next (finalize u)) (hostBus_free hb)

/-- Settles O55: LOG_WRITE by its two equations, ACK as it stands, LOG_RD_IDX by what latching leaves and what it stores. -/
theorem theLogCountsUnreadEntriesAndLatchesReads : Obligations.TheLogCountsUnreadEntriesAndLatchesReads := by
  intro s
  refine ⟨fun e rest hq => ⟨logWrite s, rfl, ?_⟩, exec_logCtrlAck_free, fun v hb => ⟨_, exec_logRdIdx_free v hb, ?_⟩⟩
  · have hself : tabGet {} (logAppend e rest s.log).entries s.log.next = e := tabGet_put_self _ _ _ _
    have hne : ∀ k, k ≠ s.log.next → tabGet {} (logAppend e rest s.log).entries k = tabGet {} s.log.entries k :=
      fun _ hk => tabGet_put_ne _ _ _ hk
    by_cases h : ThreshDue s
    · rw [logWrite_of_due hq h]
      exact ⟨rfl, hself, hne, rfl, rfl, rfl, rfl, (if_pos h).mpr ⟨rfl, rfl⟩⟩
    · rw [logWrite_of_not_due hq h]
      exact ⟨rfl, hself, hne, rfl, rfl, rfl, rfl, (if_neg h).mpr ⟨rfl, rfl⟩⟩
  · rw [logRdIdx_eq]
    refine ⟨by simp, fun k hk => ?_, fun o hidx hw => ?_, by simp⟩
    · rw [rget_latchLogWords (List.mem_range.2 hk), logWords_rset, logWords_hostTurn]
    · rw [rget_latchLogWords_ne fun k hk => hw k (List.mem_range.1 hk), rget_rset_ne _ _ hidx, rget_hostTurn]

end Sys2Proof.Machine

/-! PROOF. Forced events and the debug slave port (R525, R535): both follow whether debug is open, which is the life cycle in force. -/

namespace Sys2Proof.Machine

/-! ### When debug is open (R337, R525) -/

theorem dbgOpen_iff {s : State} : dbgOpen s = true ↔ lifeNow s ≠ .sealed := by
  unfold dbgOpen
  exact bne_iff_ne

theorem dbgOpen_of_sealed {s : State} (h : lifeNow s = .sealed) : dbgOpen s = false :=
  Bool.eq_false_iff.2 fun ho => dbgOpen_iff.1 ho h

@[simp] theorem dbgOpen_hostTurn (s : State) : dbgOpen (hostTurn s) = dbgOpen s := rfl

@[simp] theorem domOn_hostTurn (s : State) (d : Nat) : domOn (hostTurn s) d = domOn s d := rfl

/-! ### EVT_FORCE (R535) -/

/-- The events that a write of `v` to EVT_FORCEb names: one for each source of the bank whose bit is 1, in ascending order. -/
def forcedEvents (b : Nat) (v : Word) : List Event :=
  ((List.range 24).filter fun i => flag v i && isSource (24 * b + i)).map fun i =>
    { src := 24 * b + i, inst := 0, detail := 0xFFFFFF, sev := sevOf (24 * b + i) }

theorem evtForce_of_closed {s : State} (h : dbgOpen s = false) (b : Nat) (v : Word) : evtForce b v s = s := by
  simp [evtForce, h]

theorem evtForce_of_open {s : State} (hhost : domOn s dHOST = true) (h : dbgOpen s = true) (b : Nat) (v : Word) :
    evtForce b v s = { s with raised := s.raised ++ forcedEvents b v } := by
  simp [evtForce, forcedEvents, hhost, h]

theorem exec_evtForce_free {s : State} (b : Fin 6) (v : Word) (hb : busFree s) :
    exec (.evtForce b v) s = .next (finalize (evtForce b v (hostTurn s))) :=
  congrArg (fun u => Host.Outcome.next (finalize u)) (hostBus_free hb)

/-! ### The debug slave port while debug is closed (R525) -/

theorem dbgRead_of_closed {s : State} (h : dbgOpen s = false) (a : BitVec 24) (full : Bool) : dbgRead a full s = (s, 0) := by
  simp [dbgRead, h]

theorem dbgWrite_of_closed {s : State} (h : dbgOpen s = false) (a : BitVec 24) (x : BitVec 32) (full : Bool) :
    dbgWrite a x full s = s := by
  simp [dbgWrite, h]

/-- SP_REMOTE_EVENT has no severity of its own and is forced with INFO (R535). -/
theorem sevOf_remoteEvent : sevOf 135 = 0 := by decide

/-- Settles O54: SEALED closes debug, so the write and the debug slave port do nothing; elsewhere the named events are raised. -/
theorem forcedEventsOnlyWhereDebugIsOpen : Obligations.ForcedEventsOnlyWhereDebugIsOpen := by
  intro b v s
  refine ⟨fun hb hsealed => ?_, fun hb hlife hhost => ?_, sevOf_remoteEvent, fun hsealed a x full => ?_⟩
  · have hclosed := (dbgOpen_hostTurn s).trans (dbgOpen_of_sealed hsealed)
    rw [exec_evtForce_free b v hb, evtForce_of_closed hclosed]
  · have hopen := (dbgOpen_hostTurn s).trans (dbgOpen_iff.2 hlife)
    have hon := (domOn_hostTurn s dHOST).trans hhost
    rw [exec_evtForce_free b v hb, evtForce_of_open hon hopen]
    rfl
  · have hclosed := dbgOpen_of_sealed hsealed
    exact ⟨dbgRead_of_closed hclosed a full, dbgWrite_of_closed hclosed a x full⟩

end Sys2Proof.Machine

/-! PROOF. The queue of waiting commands and the canonical form of host memory (R3, R52): one lemma for each operation of the model says that
it leaves the queue, and that it leaves host memory or writes it through `memWrite`, which keeps the canonical form. -/

namespace Sys2Proof.Machine

/-! ### Repeated operations and writes of host memory -/

@[simp] theorem foldl_pending {α : Type} {f : State → α → State} (h : ∀ s a, (f s a).pending = s.pending) (l : List α) (s : State) :
    (l.foldl f s).pending = s.pending := by
  induction l generalizing s with
  | nil => rfl
  | cons a r ih => rw [List.foldl_cons, ih, h]

@[simp] theorem foldl_mem {α : Type} {f : State → α → State} (h : ∀ s a, (f s a).mem = s.mem) (l : List α) (s : State) :
    (l.foldl f s).mem = s.mem := by
  induction l generalizing s with
  | nil => rfl
  | cons a r ih => rw [List.foldl_cons, ih, h]

theorem foldl_pending_mem {α : Type} {f : State → α → State} {l : List α} {s : State}
    (h : ∀ s a, (f s a).pending = s.pending ∧ (f s a).mem = s.mem) : (l.foldl f s).pending = s.pending ∧ (l.foldl f s).mem = s.mem :=
  ⟨foldl_pending (fun s a => (h s a).1) l s, foldl_mem (fun s a => (h s a).2) l s⟩

/-- Host memory in its canonical form, as a predicate of its own. -/
def MemOk (m : Tab Byte) : Prop := Memory.wf m

@[simp] theorem foldl_memOk {α : Type} {f : State → α → State} (h : ∀ s a, MemOk s.mem → MemOk (f s a).mem) (l : List α) {s : State}
    (hs : MemOk s.mem) : MemOk (l.foldl f s).mem := by
  induction l generalizing s with
  | nil => exact hs
  | cons a r ih => exact ih (h s a hs)

@[simp] theorem memWrite_memOk {a : Nat} {l : List Byte} {s : State} (h : MemOk s.mem) : MemOk (memWrite a l s).1.mem := memWrite_wf a l h

@[simp] theorem memWriteWords_memOk {a : Nat} {l : List Word} {s : State} (h : MemOk s.mem) : MemOk (memWriteWords a l s).1.mem :=
  memWriteWords_wf a l h

@[simp] theorem havoc_memOk {a n : Nat} {s : State} (h : MemOk s.mem) : MemOk (havoc a n s).mem := havoc_wf a n h

/-! ### Staging touches the SCI tables alone (R60) -/

/-- `u` is `s` but for the pipelines' tables and the events that a table without room raises. -/
def OnlySlt (s u : State) : Prop := u = { s with ppls := u.ppls, raised := u.raised, limits := u.limits }

theorem onlySlt_refl (s : State) : OnlySlt s s := rfl

theorem OnlySlt.trans {s t u : State} (h : OnlySlt s t) (h' : OnlySlt t u) : OnlySlt s u := by
  unfold OnlySlt at *
  rw [h'] ; rw [h]

theorem onlySlt_sltNoRoom {k port : Nat} {learn shadow : Bool} {s : State} : OnlySlt s (sltNoRoom k port learn shadow s) := by
  unfold sltNoRoom
  rcases raiseSev_cases (sevOf 50) 50 k (port + b2n learn * 2 ^ 5 + b2n shadow * 2 ^ 6) s with h | ⟨l, h⟩ <;>
    rw [raise, h] <;> rfl

theorem onlySlt_setPpl {k : Nat} {v : Ppl} {s : State} : OnlySlt s (setPpl k v s) := rfl

theorem onlySlt_sltPlace {k : Nat} {learn : Bool} {e : SltEnt} {s : State} : OnlySlt s (sltPlace k learn e s).1 := by
  unfold sltPlace
  dsimp only
  split
  · exact onlySlt_sltNoRoom
  split
  · split
    · exact onlySlt_setPpl
    · split
      · exact onlySlt_sltNoRoom
      · split
        · exact onlySlt_setPpl.trans onlySlt_sltNoRoom
        · exact onlySlt_setPpl
  · exact onlySlt_setPpl

theorem onlySlt_shadowPlace {k : Nat} {e : SltEnt} {s : State} : OnlySlt s (shadowPlace k e s).1 := by
  unfold shadowPlace
  dsimp only
  split
  · exact onlySlt_setPpl
  · exact onlySlt_sltNoRoom

theorem onlySlt_stageRoom {w : List Word} {g : Stage} : OnlySlt g.real (stageRoom w g).1 := by
  unfold stageRoom
  dsimp only
  split_ifs
  · exact onlySlt_shadowPlace
  · exact onlySlt_sltPlace

/-- The real state that staging a member leaves, whether it passes or fails. -/
def stagedReal : Except StageErr Stage → State
  | .ok g => g.real
  | .error (_, t) => t

theorem onlySlt_stageMember {n : Nat} {w : List Word} {g : Stage} : OnlySlt g.real (stagedReal (stageMember n w g)) := by
  have hroom := onlySlt_stageRoom (w := w) (g := g)
  unfold stageMember
  split
  · exact onlySlt_refl _
  · dsimp only
    split
    · split <;> next hr => rw [hr] at hroom; exact hroom
    · exact onlySlt_refl _

theorem onlySlt_stageAll_ok {n k : Nat} {l : List Ent} {g g' : Stage} (h : stageAll n k l g = .ok g') : OnlySlt g.real g'.real := by
  induction l generalizing k g with
  | nil => cases h; exact onlySlt_refl _
  | cons e r ih =>
    have hm := onlySlt_stageMember (n := n) (w := e.words) (g := g)
    unfold stageAll at h
    split at h
    · cases h
    · next g₁ hg => rw [hg] at hm; exact hm.trans (ih h)

theorem onlySlt_stageAll_error {n k j : Nat} {l : List Ent} {g : Stage} {r : Res} {t : State}
    (h : stageAll n k l g = .error (j, r, t)) : OnlySlt g.real t := by
  induction l generalizing k g with
  | nil => cases h
  | cons e l ih =>
    have hm := onlySlt_stageMember (n := n) (w := e.words) (g := g)
    unfold stageAll at h
    split at h
    · next x hx => rw [hx] at hm; cases h; exact hm
    · next g₁ hg => rw [hg] at hm; exact hm.trans (ih h)

/-! ### Registers, memory, events, rings (R2, R52, R529) -/

@[simp] theorem drawBytes_pending_mem {s : State} {n} :
    (drawBytes n s).1.pending = s.pending ∧ (drawBytes n s).1.mem = s.mem := ⟨rfl, rfl⟩

@[simp] theorem memWrite_pending {s : State} {addr} {l} : (memWrite addr l s).1.pending = s.pending := by
  unfold memWrite
  split <;> simp

@[simp] theorem memWriteWords_pending {s : State} {addr} {l} :
    (memWriteWords addr l s).1.pending = s.pending := by simp [memWriteWords]

@[simp] theorem raiseSev_pending_mem {s : State} {sev} {src} {inst} {detail} :
    (raiseSev sev src inst detail s).pending = s.pending ∧ (raiseSev sev src inst detail s).mem = s.mem := by
  unfold raiseSev
  dsimp only
  split_ifs <;> simp

@[simp] theorem evLose_pending_mem {s : State} {m} : (evLose m s).pending = s.pending ∧ (evLose m s).mem = s.mem := ⟨rfl, rfl⟩

@[simp] theorem evQueue_pending_mem {s : State} {m} {e} : (evQueue m e s).pending = s.pending ∧ (evQueue m e s).mem = s.mem := by
  unfold evQueue
  dsimp only
  split_ifs <;> simp

@[simp] theorem raisePerm_pending_mem {s : State} {n} {i} {r} :
    (raisePerm n i r s).pending = s.pending ∧ (raisePerm n i r s).mem = s.mem := by
  unfold raisePerm
  split <;> simp

@[simp] theorem finish_pending_mem {s : State} {n} {i} {r} :
    (finish n i r s).pending = s.pending ∧ (finish n i r s).mem = s.mem := by simp [finish]

@[simp] theorem reserveMembers_pending_mem {s : State} {n} :
    (reserveMembers n s).pending = s.pending ∧ (reserveMembers n s).mem = s.mem := by
  unfold reserveMembers
  split <;> simp

@[simp] theorem ringErr_pending_mem {s : State} {n} {code} {idx} :
    (ringErr n code idx s).pending = s.pending ∧ (ringErr n code idx s).mem = s.mem := ⟨rfl, rfl⟩

/-! ### Ring pairs (R32 to R76) -/

@[simp] theorem checkStopped_pending_mem {s : State} {n} :
    (checkStopped n s).pending = s.pending ∧ (checkStopped n s).mem = s.mem := by
  unfold checkStopped
  dsimp only
  split <;> simp

@[simp] theorem stopRing_pending_mem {s : State} {n} : (stopRing n s).pending = s.pending ∧ (stopRing n s).mem = s.mem := by
  unfold stopRing
  dsimp only
  split <;> simp

@[simp] theorem ringEnable_pending_mem {s : State} {n} : (ringEnable n s).pending = s.pending ∧ (ringEnable n s).mem = s.mem := by
  unfold ringEnable
  dsimp only
  (repeat' split) <;> simp

@[simp] theorem ringDisable_pending_mem {s : State} {n} :
    (ringDisable n s).pending = s.pending ∧ (ringDisable n s).mem = s.mem := by
  unfold ringDisable
  split <;> simp

@[simp] theorem resumeCq_pending_mem {s : State} {n} : (resumeCq n s).pending = s.pending ∧ (resumeCq n s).mem = s.mem := by
  unfold resumeCq
  split <;> simp

@[simp] theorem dblSqTail_pending_mem {s : State} {n} {v} :
    (dblSqTail n v s).pending = s.pending ∧ (dblSqTail n v s).mem = s.mem := by
  unfold dblSqTail
  dsimp only
  split_ifs <;> simp

@[simp] theorem dblCqHead_pending_mem {s : State} {n} {v} :
    (dblCqHead n v s).pending = s.pending ∧ (dblCqHead n v s).mem = s.mem := by
  unfold dblCqHead
  dsimp only
  split_ifs <;> simp

@[simp] theorem endGroup_pending_mem {s : State} {n} : (endGroup n s).pending = s.pending ∧ (endGroup n s).mem = s.mem := by
  unfold endGroup
  dsimp only
  split <;> simp

@[simp] theorem fetchMember_pending_mem {s : State} {n} {first} {e} :
    (fetchMember n first e s).pending = s.pending ∧ (fetchMember n first e s).mem = s.mem := by
  unfold fetchMember
  dsimp only
  split_ifs <;> simp

@[simp] theorem popSq_pending_mem {s : State} {n} : (popSq n s).pending = s.pending ∧ (popSq n s).mem = s.mem := ⟨rfl, rfl⟩

@[simp] theorem fetchRunning_pending_mem {s : State} {n} {r} {q} :
    (fetchRunning n r q s).pending = s.pending ∧ (fetchRunning n r q s).mem = s.mem := by
  unfold fetchRunning
  split <;> [skip; split_ifs] <;> simp

@[simp] theorem fetchStopping_pending_mem {s : State} {n} {r} {q} :
    (fetchStopping n r q s).pending = s.pending ∧ (fetchStopping n r q s).mem = s.mem := ⟨rfl, rfl⟩

@[simp] theorem descriptorFetch_pending_mem {s : State} {n} :
    (descriptorFetch n s).pending = s.pending ∧ (descriptorFetch n s).mem = s.mem := by
  unfold descriptorFetch
  dsimp only
  (repeat' split) <;> simp

@[simp] theorem writeEntry_pending {s : State} {addr} {ws} : (writeEntry addr ws s).1.pending = s.pending := by
  unfold writeEntry
  grind [memWrite_pending]

@[simp] theorem writeEntry_memOk {s : State} {addr} {ws} (h : MemOk s.mem) : MemOk (writeEntry addr ws s).1.mem := by
  unfold writeEntry
  grind [memWrite_memOk]

@[simp] theorem notify_pending_mem {s : State} {n} :
    (notify n s).pending = s.pending ∧ (notify n s).mem = s.mem := by simp [notify]

@[simp] theorem notifyWritten_pending_mem {s : State} {n} {now} :
    (notifyWritten n now s).pending = s.pending ∧ (notifyWritten n now s).mem = s.mem := by
  unfold notifyWritten
  dsimp only
  split_ifs <;> simp

@[simp] theorem completionWrite_pending {s : State} {n} : (completionWrite n s).pending = s.pending := by
  unfold completionWrite
  grind [writeEntry_pending, modRing_leaves, stopRing_pending_mem, ringErr_pending_mem, setRing_leaves, checkStopped_pending_mem, reserveMembers_pending_mem, notifyWritten_pending_mem]

@[simp] theorem completionWrite_memOk {s : State} {n} (h : MemOk s.mem) : MemOk (completionWrite n s).mem := by
  unfold completionWrite
  grind [writeEntry_memOk, modRing_leaves, stopRing_pending_mem, ringErr_pending_mem, setRing_leaves, checkStopped_pending_mem, reserveMembers_pending_mem, notifyWritten_pending_mem]

@[simp] theorem notifyTimer_pending_mem {s : State} {n} :
    (notifyTimer n s).pending = s.pending ∧ (notifyTimer n s).mem = s.mem := by
  unfold notifyTimer
  split <;> [split_ifs; skip] <;> simp

@[simp] theorem admitEnt_pending_mem {s : State} {n} {e} :
    (admitEnt n s e).pending = s.pending ∧ (admitEnt n s e).mem = s.mem := by
  unfold admitEnt
  (repeat' split) <;> simp

@[simp] theorem admitAll_pending_mem {s : State} : (admitAll s).pending = s.pending ∧ (admitAll s).mem = s.mem := by
  unfold admitAll
  split <;> simp

/-! ### Registers, memory, events, rings (R2, R52, R529) -/

@[simp] theorem effect_pending_mem {s u : State} {n} {i} {r} (hp : u.pending = s.pending) (hm : u.mem = s.mem) :
    (effect n i r u s).pending = s.pending ∧ (effect n i r u s).mem = s.mem := by
  unfold effect; split <;> simp [hp, hm]

@[simp] theorem effect_pending {s u : State} {n} {i} {r} (hp : u.pending = s.pending) :
    (effect n i r u s).pending = s.pending := by
  unfold effect; split <;> simp [hp]

@[simp] theorem effect_memOk {s u : State} {n} {i} {r} (hs : MemOk s.mem) (hu : MemOk u.mem) : MemOk (effect n i r u s).mem := by
  unfold effect; split <;> simp [hs, hu]

/-! ### Ring pairs (R32 to R76) -/

@[simp] theorem afterBody_pending {s : State} {n} {i} {x : State × Option Res} (hp : x.1.pending = s.pending) :
    (afterBody n i x s).pending = s.pending := by
  obtain ⟨u, _ | r⟩ := x
  · simpa [afterBody] using hp
  · exact effect_pending hp

@[simp] theorem afterBody_mem {s : State} {n} {i} {x : State × Option Res} (hm : x.1.mem = s.mem) :
    (afterBody n i x s).mem = s.mem := by
  obtain ⟨u, _ | r⟩ := x
  · simpa [afterBody] using hm
  · simp only [afterBody, effect]
    split
    · simp
    · simpa using hm

@[simp] theorem afterBody_memOk {s : State} {n} {i} {x : State × Option Res} (hs : MemOk s.mem) (hx : MemOk x.1.mem) :
    MemOk (afterBody n i x s).mem := by
  obtain ⟨u, _ | r⟩ := x
  · simpa [afterBody] using hx
  · exact effect_memOk hs hx

@[simp] theorem runDesc_pending {s : State} {op} {body : Body} {n} {i} (hp : ∀ w, (body n i w s).1.pending = s.pending) :
    (runDesc op body n i s).pending = s.pending := by
  unfold runDesc; (repeat' split) <;> simp [hp]

@[simp] theorem runDesc_mem {s : State} {op} {body : Body} {n} {i} (hm : ∀ w, (body n i w s).1.mem = s.mem) :
    (runDesc op body n i s).mem = s.mem := by
  unfold runDesc; (repeat' split) <;> simp [hm]

@[simp] theorem runDesc_memOk {s : State} {op} {body : Body} {n} {i} (h : MemOk s.mem) (hm : ∀ w, MemOk (body n i w s).1.mem) :
    MemOk (runDesc op body n i s).mem := by
  unfold runDesc; (repeat' split) <;> simp [h, hm]

/-! ### SecYs, channels, associations as objects (R82 to R113) -/

@[simp] theorem appSecySet_pending_mem {s : State} {w} : (appSecySet w s).pending = s.pending ∧ (appSecySet w s).mem = s.mem := by
  unfold appSecySet
  dsimp only
  split_ifs <;> simp

@[simp] theorem appSecyDelete_pending_mem {s : State} {w} :
    (appSecyDelete w s).pending = s.pending ∧ (appSecyDelete w s).mem = s.mem := ⟨rfl, rfl⟩

/-! ### The Time Unit (R374 to R402) -/

@[simp] theorem modDom_pending_mem {s : State} {k} {f} : (modDom k f s).pending = s.pending ∧ (modDom k f s).mem = s.mem := by
  unfold modDom
  split <;> simp

@[simp] theorem tmuTick_pending_mem {s : State} : (tmuTick s).pending = s.pending ∧ (tmuTick s).mem = s.mem := by
  unfold tmuTick
  split <;> simp

@[simp] theorem wcFollow_pending_mem {s : State} {auto} :
    (wcFollow auto s).1.pending = s.pending ∧ (wcFollow auto s).1.mem = s.mem := by
  unfold wcFollow
  dsimp only
  split_ifs <;> simp

@[simp] theorem autoSwitch_pending_mem {s : State} : (autoSwitch s).1.pending = s.pending ∧ (autoSwitch s).1.mem = s.mem := by
  unfold autoSwitch
  split <;> simp

@[simp] theorem applySample_pending_mem {s : State} {k} {e} :
    (applySample k e s).pending = s.pending ∧ (applySample k e s).mem = s.mem := by
  unfold applySample
  dsimp only
  split_ifs <;> simp

@[simp] theorem sampleLoss_pending_mem {s : State} {k} : (sampleLoss k s).pending = s.pending ∧ (sampleLoss k s).mem = s.mem := by
  unfold sampleLoss
  dsimp only
  split_ifs <;> simp

@[simp] theorem slewDone_pending_mem {s : State} : (slewDone s).pending = s.pending ∧ (slewDone s).mem = s.mem := by
  unfold slewDone
  split <;> simp

@[simp] theorem lcHalfwrap_pending_mem {s : State} : (lcHalfwrap s).pending = s.pending ∧ (lcHalfwrap s).mem = s.mem := by
  unfold lcHalfwrap
  split <;> simp

@[simp] theorem calClaim_pending_mem {s : State} {p} {m} :
    (calClaim p m s).pending = s.pending ∧ (calClaim p m s).mem = s.mem := ⟨rfl, rfl⟩

@[simp] theorem calInstancePass_pending_mem {s : State} {p} :
    (calInstancePass p s).pending = s.pending ∧ (calInstancePass p s).mem = s.mem := by
  unfold calInstancePass
  dsimp only
  split_ifs <;> simp

@[simp] theorem freezeLaunches_pending_mem {s : State} {p} :
    (freezeLaunches p s).pending = s.pending ∧ (freezeLaunches p s).mem = s.mem := ⟨rfl, rfl⟩

@[simp] theorem changeover_pending_mem {s : State} {p} {q} :
    (changeover p q s).pending = s.pending ∧ (changeover p q s).mem = s.mem := by
  unfold changeover
  dsimp only
  split_ifs <;> simp

@[simp] theorem calChangeover_pending_mem {s : State} {p} :
    (calChangeover p s).pending = s.pending ∧ (calChangeover p s).mem = s.mem := by
  unfold calChangeover
  dsimp only
  (repeat' split) <;> simp

@[simp] theorem cycSyncEdge_pending_mem {s : State} {falling} :
    (cycSyncEdge falling s).pending = s.pending ∧ (cycSyncEdge falling s).mem = s.mem := by
  unfold cycSyncEdge
  dsimp only
  (repeat' split) <;> simp

@[simp] theorem cycPullApply_pending_mem {s : State} : (cycPullApply s).pending = s.pending ∧ (cycPullApply s).mem = s.mem := by
  unfold cycPullApply
  dsimp only
  (repeat' split) <;> simp

@[simp] theorem cycSyncLost_pending_mem {s : State} : (cycSyncLost s).pending = s.pending ∧ (cycSyncLost s).mem = s.mem := by
  unfold cycSyncLost
  split <;> [split_ifs; skip] <;> simp

@[simp] theorem tmuSyncClear_pending_mem {s : State} : (tmuSyncClear s).pending = s.pending ∧ (tmuSyncClear s).mem = s.mem := by
  unfold tmuSyncClear
  split <;> simp

@[simp] theorem bodyTimeSample_pending_mem {s : State} {n} {i} {w} :
    (bodyTimeSample n i w s).1.pending = s.pending ∧ (bodyTimeSample n i w s).1.mem = s.mem := by
  unfold bodyTimeSample
  grind [applySample_pending_mem]

@[simp] theorem bodyTimeDomain_pending_mem {s : State} {n} {i} {w} :
    (bodyTimeDomain n i w s).1.pending = s.pending ∧ (bodyTimeDomain n i w s).1.mem = s.mem := by
  unfold bodyTimeDomain
  grind [modDom_pending_mem, autoSwitch_pending_mem]

@[simp] theorem bodyTimeSelect_pending_mem {s : State} {n} {i} {w} :
    (bodyTimeSelect n i w s).1.pending = s.pending ∧ (bodyTimeSelect n i w s).1.mem = s.mem := by
  unfold bodyTimeSelect
  grind [wcFollow_pending_mem]

@[simp] theorem writeSnap_pending {s : State} {addr} {l} : (writeSnap addr l s).1.pending = s.pending := by
  unfold writeSnap
  grind [memWriteWords_pending]

@[simp] theorem writeSnap_memOk {s : State} {addr} {l} (h : MemOk s.mem) : MemOk (writeSnap addr l s).1.mem := by
  unfold writeSnap
  grind [memWriteWords_memOk]

@[simp] theorem bodyTimeRead_pending {s : State} {n} {i} {w} : (bodyTimeRead n i w s).1.pending = s.pending := by
  unfold bodyTimeRead
  grind [writeSnap_pending]

@[simp] theorem bodyTimeRead_memOk {s : State} {n} {i} {w} (h : MemOk s.mem) : MemOk (bodyTimeRead n i w s).1.mem := by
  unfold bodyTimeRead
  grind [writeSnap_memOk]

@[simp] theorem bodyCalLoad_pending_mem {s : State} {n} {i} {w} :
    (bodyCalLoad n i w s).1.pending = s.pending ∧ (bodyCalLoad n i w s).1.mem = s.mem := by
  unfold bodyCalLoad
  grind [setCal_leaves]

@[simp] theorem appCalSwitch_pending_mem {s : State} {w} :
    (appCalSwitch w s).pending = s.pending ∧ (appCalSwitch w s).mem = s.mem := by
  unfold appCalSwitch
  dsimp only
  split <;> simp

@[simp] theorem bodyCalRead_pending {s : State} {n} {i} {w} : (bodyCalRead n i w s).1.pending = s.pending := by
  unfold bodyCalRead
  grind [writeSnap_pending]

@[simp] theorem bodyCalRead_memOk {s : State} {n} {i} {w} (h : MemOk s.mem) : MemOk (bodyCalRead n i w s).1.mem := by
  unfold bodyCalRead
  grind [writeSnap_memOk]

/-! ### Key slots (R284 to R307) -/

@[simp] theorem touchDcache_pending_mem {s : State} {gen} {kref} {label} {u} {len} :
    (touchDcache gen kref label u len s).pending = s.pending ∧ (touchDcache gen kref label u len s).mem = s.mem := by
  unfold touchDcache
  dsimp only
  split_ifs <;> simp

@[simp] theorem drbgCount_pending_mem {s : State} {k} : (drbgCount k s).pending = s.pending ∧ (drbgCount k s).mem = s.mem := by
  unfold drbgCount
  dsimp only
  split <;> simp

@[simp] theorem drbgCountFree_pending_mem {s : State} :
    (drbgCountFree s).pending = s.pending ∧ (drbgCountFree s).mem = s.mem := by simp [drbgCountFree]

@[simp] theorem drbgGen_pending_mem {s : State} {reseed} {n} :
    (drbgGen reseed n s).1.pending = s.pending ∧ (drbgGen reseed n s).1.mem = s.mem := by
  unfold drbgGen
  split <;> simp

/-! ### Frames and how they end -/

@[simp] theorem cntSecyOf_pending_mem {s : State} {y} {serial} {i} {inc} :
    (cntSecyOf y serial i inc s).pending = s.pending ∧ (cntSecyOf y serial i inc s).mem = s.mem := by
  unfold cntSecyOf
  split <;> simp

@[simp] theorem cntTxOf_pending_mem {s : State} {y} {serial} {i} {inc} :
    (cntTxOf y serial i inc s).pending = s.pending ∧ (cntTxOf y serial i inc s).mem = s.mem := by
  unfold cntTxOf
  split <;> simp

@[simp] theorem cntRxOf_pending_mem {s : State} {c} {serial} {i} {inc} :
    (cntRxOf c serial i inc s).pending = s.pending ∧ (cntRxOf c serial i inc s).mem = s.mem := by
  unfold cntRxOf
  split <;> simp

@[simp] theorem cntSaOf_pending_mem {s : State} {sa} {serial} {i} {inc} :
    (cntSaOf sa serial i inc s).pending = s.pending ∧ (cntSaOf sa serial i inc s).mem = s.mem := by
  unfold cntSaOf
  split <;> simp

@[simp] theorem egDrop_pending_mem {s : State} {id} {c} {f} :
    (egDrop id c f s).pending = s.pending ∧ (egDrop id c f s).mem = s.mem := ⟨rfl, rfl⟩

@[simp] theorem egEnd_pending_mem {s : State} {id} {c} {f} :
    (egEnd id c f s).pending = s.pending ∧ (egEnd id c f s).mem = s.mem := by
  unfold egEnd
  split <;> simp

@[simp] theorem egKeyFail_pending_mem {s : State} {id} {st} {f} :
    (egKeyFail id st f s).pending = s.pending ∧ (egKeyFail id st f s).mem = s.mem := by simp [egKeyFail]

@[simp] theorem egPoison_pending_mem {s : State} {id} {tower} {f} :
    (egPoison id tower f s).pending = s.pending ∧ (egPoison id tower f s).mem = s.mem := by simp [egPoison]

@[simp] theorem igSecy_pending_mem {s : State} {f} {i} {inc} :
    (igSecy f i inc s).pending = s.pending ∧ (igSecy f i inc s).mem = s.mem := by
  unfold igSecy
  split <;> simp

@[simp] theorem igRxsc_pending_mem {s : State} {f} {i} {inc} :
    (igRxsc f i inc s).pending = s.pending ∧ (igRxsc f i inc s).mem = s.mem := by
  unfold igRxsc
  split <;> simp

@[simp] theorem igSa_pending_mem {s : State} {f} {i} {inc} :
    (igSa f i inc s).pending = s.pending ∧ (igSa f i inc s).mem = s.mem := by simp [igSa]

@[simp] theorem igOctets_pending_mem {s : State} {f} :
    (igOctets f s).pending = s.pending ∧ (igOctets f s).mem = s.mem := by simp [igOctets]

@[simp] theorem igCharge_pending_mem {s : State} {k} {f} :
    (igCharge k f s).pending = s.pending ∧ (igCharge k f s).mem = s.mem := by
  unfold igCharge
  (repeat' split) <;> simp

@[simp] theorem igGone_pending_mem {s : State} {id} {f} :
    (igGone id f s).pending = s.pending ∧ (igGone id f s).mem = s.mem := ⟨rfl, rfl⟩

@[simp] theorem igEvent_pending_mem {s : State} {k} {cause} {f} :
    (igEvent k cause f s).pending = s.pending ∧ (igEvent k cause f s).mem = s.mem := by
  unfold igEvent
  split <;> simp

@[simp] theorem cutBytes_pending_mem {s : State} {k} {f} :
    (cutBytes k f s).1.pending = s.pending ∧ (cutBytes k f s).1.mem = s.mem := by
  unfold cutBytes
  split <;> simp

@[simp] theorem igAbort_pending_mem {s : State} {id} {k} {f} :
    (igAbort id k f s).pending = s.pending ∧ (igAbort id k f s).mem = s.mem := by simp [igAbort]

@[simp] theorem cutStarts_pending_mem {s : State} {f} :
    (cutStarts f s).pending = s.pending ∧ (cutStarts f s).mem = s.mem := ⟨rfl, rfl⟩

@[simp] theorem igEnd_pending_mem {s : State} {id} {k} {f} :
    (igEnd id k f s).pending = s.pending ∧ (igEnd id k f s).mem = s.mem := by
  unfold igEnd
  split <;> simp

@[simp] theorem igFail_pending_mem {s : State} {id} {k} {f} :
    (igFail id k f s).pending = s.pending ∧ (igFail id k f s).mem = s.mem := by
  unfold igFail
  split <;> simp

@[simp] theorem igKeyFail_pending_mem {s : State} {id} {st} {f} :
    (igKeyFail id st f s).pending = s.pending ∧ (igKeyFail id st f s).mem = s.mem := by simp [igKeyFail]

@[simp] theorem igPoison_pending_mem {s : State} {id} {tower} {f} :
    (igPoison id tower f s).pending = s.pending ∧ (igPoison id tower f s).mem = s.mem := by simp [igPoison]

@[simp] theorem dropUnits_pending_mem {s : State} {x} {k} :
    (dropUnits x k s).pending = s.pending ∧ (dropUnits x k s).mem = s.mem := by simp [dropUnits]

@[simp] theorem unitFail_pending_mem {s : State} {id} {r} :
    (unitFail id r s).pending = s.pending ∧ (unitFail id r s).mem = s.mem := by
  unfold unitFail
  split <;> simp

@[simp] theorem freeBytes_pending_mem {s : State} {n} :
    (freeBytes n s).1.pending = s.pending ∧ (freeBytes n s).1.mem = s.mem := ⟨rfl, rfl⟩

@[simp] theorem havoc_pending {s : State} {addr} {n} : (havoc addr n s).pending = s.pending := by simp [havoc]

@[simp] theorem jobEnd_pending {s : State} {id} {n} {i} {r} : (jobEnd id n i r s).pending = s.pending := by
  unfold jobEnd
  dsimp only
  (repeat' split) <;> simp

@[simp] theorem jobEnd_memOk {s : State} {id} {n} {i} {r} (h : MemOk s.mem) : MemOk (jobEnd id n i r s).mem := by
  unfold jobEnd
  grind [setItem_leaves, havoc_memOk, finish_pending_mem]

@[simp] theorem bslotEmpty_pending_mem {s : State} {i} : (bslotEmpty i s).pending = s.pending ∧ (bslotEmpty i s).mem = s.mem := by
  unfold bslotEmpty
  dsimp only
  split <;> simp

@[simp] theorem bslotDrop_pending_mem {s : State} {i} : (bslotDrop i s).pending = s.pending ∧ (bslotDrop i s).mem = s.mem := by
  unfold bslotDrop
  split <;> simp

@[simp] theorem itemFail_pending {s : State} {id} {r} : (itemFail id r s).pending = s.pending := by
  unfold itemFail
  (repeat' split) <;> simp

@[simp] theorem itemFail_memOk {s : State} {id} {r} (h : MemOk s.mem) : MemOk (itemFail id r s).mem := by
  unfold itemFail
  grind [egKeyFail_pending_mem, setItem_leaves, igKeyFail_pending_mem, setBslot_leaves, unitFail_pending_mem, jobEnd_memOk]

@[simp] theorem itemPoison_pending {s : State} {id} {tower} : (itemPoison id tower s).pending = s.pending := by
  unfold itemPoison
  (repeat' split) <;> simp

@[simp] theorem itemPoison_memOk {s : State} {id} {tower} (h : MemOk s.mem) : MemOk (itemPoison id tower s).mem := by
  unfold itemPoison
  grind [egPoison_pending_mem, setItem_leaves, igPoison_pending_mem, setBslot_leaves, unitFail_pending_mem, jobEnd_memOk]

/-! ### Towers and their items (R221 to R243) -/

@[simp] theorem noteHealth_pending_mem {s : State} : (noteHealth s).pending = s.pending ∧ (noteHealth s).mem = s.mem := ⟨rfl, rfl⟩

@[simp] theorem refill_pending_mem {s : State} {oldMode} :
    (refill oldMode s).pending = s.pending ∧ (refill oldMode s).mem = s.mem := by
  unfold refill
  dsimp only
  split <;> simp

@[simp] theorem arrayChange_pending_mem {s : State} {f : State → State} (hp : (f s).pending = s.pending) (hm : (f s).mem = s.mem) :
    (arrayChange f s).pending = s.pending ∧ (arrayChange f s).mem = s.mem := by
  unfold arrayChange; dsimp only; split_ifs <;> simp [hp, hm]

@[simp] theorem checkRemoved_pending_mem {s : State} {t} :
    (checkRemoved t s).pending = s.pending ∧ (checkRemoved t s).mem = s.mem := by
  unfold checkRemoved
  dsimp only
  split <;> simp

@[simp] theorem retireUnit_pending_mem {s : State} {t} {gh} {u} {cause} :
    (retireUnit t gh u cause s).pending = s.pending ∧ (retireUnit t gh u cause s).mem = s.mem := by
  unfold retireUnit
  dsimp only
  split_ifs <;> simp

@[simp] theorem rollingTestStep_pending_mem {s : State} :
    (rollingTestStep s).pending = s.pending ∧ (rollingTestStep s).mem = s.mem := by
  unfold rollingTestStep
  split <;> simp

@[simp] theorem enterService_pending_mem {s : State} {t} :
    (enterService t s).pending = s.pending ∧ (enterService t s).mem = s.mem := by
  unfold enterService
  dsimp only
  split <;> simp

@[simp] theorem katDone_pending_mem {s : State} {t} {gh} {u} {pass} :
    (katDone t gh u pass s).pending = s.pending ∧ (katDone t gh u pass s).mem = s.mem := by
  unfold katDone
  dsimp only
  split_ifs <;> simp

@[simp] theorem retireMarked_pending_mem {s : State} {t} {mark} {cause} :
    (retireMarked t mark cause s).pending = s.pending ∧ (retireMarked t mark cause s).mem = s.mem := by
  unfold retireMarked
  rw [(foldl_pending_mem fun s u => by split_ifs <;> simp).1, (foldl_pending_mem fun s u => by split_ifs <;> simp).2]
  exact foldl_pending_mem fun s u => by split_ifs <;> simp

@[simp] theorem startTowers_pending_mem {s : State} {ts} :
    (startTowers ts s).pending = s.pending ∧ (startTowers ts s).mem = s.mem := by simp [startTowers]

@[simp] theorem takeOrder_pending_mem {s : State} :
    (takeOrder s).1.pending = s.pending ∧ (takeOrder s).1.mem = s.mem := ⟨rfl, rfl⟩

@[simp] theorem takeId_pending_mem {s : State} : (takeId s).1.pending = s.pending ∧ (takeId s).1.mem = s.mem := ⟨rfl, rfl⟩

@[simp] theorem cachePut_pending_mem {s : State} {t} {e} :
    (cachePut t e s).pending = s.pending ∧ (cachePut t e s).mem = s.mem := ⟨rfl, rfl⟩

@[simp] theorem touchCache_pending_mem {s : State} {t} {x} :
    (touchCache t x s).pending = s.pending ∧ (touchCache t x s).mem = s.mem := foldl_pending_mem fun s k => by split <;> simp

@[simp] theorem dropBadTags_pending_mem {s : State} {t} :
    (dropBadTags t s).pending = s.pending ∧ (dropBadTags t s).mem = s.mem := ⟨rfl, rfl⟩

@[simp] theorem igStream_pending_mem {s : State} {id} {key} :
    (igStream id key s).pending = s.pending ∧ (igStream id key s).mem = s.mem := by
  unfold igStream
  split <;> [split_ifs; skip] <;> simp

@[simp] theorem gotKeys_pending_mem {s : State} {id} {x} {keys} :
    (gotKeys id x keys s).pending = s.pending ∧ (gotKeys id x keys s).mem = s.mem := by
  unfold gotKeys
  split <;> simp

@[simp] theorem admitItem_pending {s : State} {t} {id} {x} : (admitItem t id x s).pending = s.pending := by
  unfold admitItem
  dsimp only
  (repeat' split) <;> simp

@[simp] theorem admitItem_memOk {s : State} {t} {id} {x} (h : MemOk s.mem) : MemOk (admitItem t id x s).mem := by
  unfold admitItem
  grind [takeOrder_pending_mem, setItem_leaves, dropBadTags_pending_mem, gotKeys_pending_mem, touchCache_pending_mem, itemFail_memOk, rsat_leaves]

@[simp] theorem notePeak_pending_mem {s : State} {t} :
    (notePeak t s).pending = s.pending ∧ (notePeak t s).mem = s.mem := ⟨rfl, rfl⟩

@[simp] theorem pump_pending {s : State} {fuel} {t} : (pump fuel t s).pending = s.pending := by
  induction fuel generalizing s with
  | zero => rfl
  | succ k ih => unfold pump; dsimp only [takeOrder]; (repeat' split) <;> simp [ih]

@[simp] theorem pump_memOk {s : State} {fuel} {t} (h : MemOk s.mem) : MemOk (pump fuel t s).mem := by
  induction fuel generalizing s with
  | zero => exact h
  | succ k ih => unfold pump; dsimp only [takeOrder]; (repeat' split) <;> simp [ih, h]

@[simp] theorem pumpAll_pending {s : State} : (pumpAll s).pending = s.pending := by simp [pumpAll]

@[simp] theorem pumpAll_memOk {s : State} (h : MemOk s.mem) : MemOk (pumpAll s).mem :=
  foldl_memOk (fun _ _ h => pump_memOk h) _ h

@[simp] theorem reapJobs_pending {s : State} : (reapJobs s).pending = s.pending :=
  foldl_pending (fun s p => by (repeat' split) <;> simp) _ _

@[simp] theorem reapJobs_memOk {s : State} (h : MemOk s.mem) : MemOk (reapJobs s).mem :=
  foldl_memOk (fun s p h => by (repeat' split) <;> simp [h]) _ h

@[simp] theorem streamAll_pending_mem {s : State} : (streamAll s).pending = s.pending ∧ (streamAll s).mem = s.mem :=
  foldl_pending_mem fun s p => by (repeat' split) <;> simp

@[simp] theorem itemDispatch_pending_mem {s : State} {id} :
    (itemDispatch id s).pending = s.pending ∧ (itemDispatch id s).mem = s.mem := by
  unfold itemDispatch
  dsimp only
  (repeat' split) <;> simp

@[simp] theorem fetchFail_pending_mem {s : State} {inst} {slotNo} {r} :
    (fetchFail inst slotNo r s).pending = s.pending ∧ (fetchFail inst slotNo r s).mem = s.mem := by simp [fetchFail]

@[simp] theorem fillCache_pending_mem {s : State} {t} {l} :
    (fillCache t l s).pending = s.pending ∧ (fillCache t l s).mem = s.mem := by
  induction l generalizing s with
  | nil => exact ⟨rfl, rfl⟩
  | cons p r ih => unfold fillCache; simp [ih]

@[simp] theorem keyFetchDone_pending {s : State} {id} : (keyFetchDone id s).pending = s.pending := by
  unfold keyFetchDone
  dsimp only
  (repeat' split) <;> simp

@[simp] theorem keyFetchDone_memOk {s : State} {id} (h : MemOk s.mem) : MemOk (keyFetchDone id s).mem := by
  unfold keyFetchDone
  grind [itemFail_memOk, fetchFail_pending_mem, gotKeys_pending_mem, fillCache_pending_mem]

@[simp] theorem cacheDrop_pending_mem {s : State} {p} :
    (cacheDrop p s).pending = s.pending ∧ (cacheDrop p s).mem = s.mem := ⟨rfl, rfl⟩

@[simp] theorem eraseHook_pending {s : State} {i} : (eraseHook i s).pending = s.pending := by
  unfold eraseHook; dsimp only
  rw [foldl_pending fun s p => by (repeat' split) <;> simp, foldl_pending fun s c => foldl_pending (fun s x => by split_ifs <;> simp) _ _,
    foldl_pending fun s p => by (repeat' split) <;> simp]
  simp

@[simp] theorem eraseHook_memOk {s : State} {i} (h : MemOk s.mem) : MemOk (eraseHook i s).mem := by
  unfold eraseHook; dsimp only
  refine foldl_memOk (fun s p h => by (repeat' split) <;> simp [h]) _ ?_
  refine foldl_memOk (fun s c h => foldl_memOk (fun s x h => by split_ifs <;> simp [h]) _ h) _ ?_
  exact foldl_memOk (fun s p h => by (repeat' split) <;> simp [h]) _ (by simp [h])

@[simp] theorem precedingKeyRelease_pending_mem {s : State} :
    (precedingKeyRelease s).pending = s.pending ∧ (precedingKeyRelease s).mem = s.mem := by
  unfold precedingKeyRelease
  split <;> [split_ifs; skip] <;> simp

/-! ### The Belfry (R249 to R255) -/

@[simp] theorem belfryAssign_pending_mem {s : State} {sa} :
    (belfryAssign sa s).pending = s.pending ∧ (belfryAssign sa s).mem = s.mem := by
  unfold belfryAssign
  split <;> simp

@[simp] theorem belfryEmptyOf_pending_mem {s : State} {sa} :
    (belfryEmptyOf sa s).pending = s.pending ∧ (belfryEmptyOf sa s).mem = s.mem := by
  unfold belfryEmptyOf
  split <;> simp

@[simp] theorem belfryFresh_pending_mem {s : State} {sa} :
    (belfryFresh sa s).pending = s.pending ∧ (belfryFresh sa s).mem = s.mem := by
  unfold belfryFresh
  split <;> simp

@[simp] theorem belfryRelease_pending_mem {s : State} {sa} :
    (belfryRelease sa s).pending = s.pending ∧ (belfryRelease sa s).mem = s.mem := by
  unfold belfryRelease
  split <;> simp

@[simp] theorem belfryTake_pending_mem {s : State} {port} {sa} {pn} {enc} :
    (belfryTake port sa pn enc s).1.pending = s.pending ∧ (belfryTake port sa pn enc s).1.mem = s.mem := by
  unfold belfryTake
  dsimp only
  (repeat' split) <;> simp

@[simp] theorem takeTokens_pending_mem {s : State} {n} :
    (takeTokens n s).pending = s.pending ∧ (takeTokens n s).mem = s.mem := ⟨rfl, rfl⟩

@[simp] theorem stagingStart_pending_mem {s : State} {i} :
    (stagingStart i s).pending = s.pending ∧ (stagingStart i s).mem = s.mem := by
  unfold stagingStart
  dsimp only
  (repeat' split) <;> simp

@[simp] theorem stagingRaise_pending_mem {s : State} {i} :
    (stagingRaise i s).pending = s.pending ∧ (stagingRaise i s).mem = s.mem := by
  unfold stagingRaise
  dsimp only
  (repeat' split) <;> simp

@[simp] theorem stagingDone_pending_mem {s : State} {i} {x} :
    (stagingDone i x s).pending = s.pending ∧ (stagingDone i x s).mem = s.mem := ⟨rfl, rfl⟩

/-! ### Queues, tags and routes of Spire Link (R403 to R433) -/

@[simp] theorem onStream_pending_mem {s : State} {p} {v} :
    (onStream p v s).pending = s.pending ∧ (onStream p v s).mem = s.mem := ⟨rfl, rfl⟩

@[simp] theorem sendAck_pending_mem {s : State} {p} : (sendAck p s).pending = s.pending ∧ (sendAck p s).mem = s.mem := by
  unfold sendAck
  dsimp only
  split <;> simp

@[simp] theorem xoffUpdate_pending_mem {s : State} {p} : (xoffUpdate p s).pending = s.pending ∧ (xoffUpdate p s).mem = s.mem := by
  unfold xoffUpdate
  dsimp only
  split <;> simp

@[simp] theorem xoffAll_pending_mem {s : State} : (xoffAll s).pending = s.pending ∧ (xoffAll s).mem = s.mem := by simp [xoffAll]

@[simp] theorem epochStep_pending_mem {s : State} : (epochStep s).pending = s.pending ∧ (epochStep s).mem = s.mem := ⟨rfl, rfl⟩

@[simp] theorem parkTag_pending_mem {s : State} {t} : (parkTag t s).pending = s.pending ∧ (parkTag t s).mem = s.mem := ⟨rfl, rfl⟩

@[simp] theorem takeTag_pending_mem {s : State} {t} {v} :
    (takeTag t v s).pending = s.pending ∧ (takeTag t v s).mem = s.mem := ⟨rfl, rfl⟩

@[simp] theorem postedErr_pending_mem {s : State} {p} {node} {tag} {addr} {code} :
    (postedErr p node tag addr code s).pending = s.pending ∧ (postedErr p node tag addr code s).mem = s.mem := by
  unfold postedErr
  dsimp only
  split <;> simp

@[simp] theorem enqueue_pending_mem {s : State} {p} {q} :
    (enqueue p q s).pending = s.pending ∧ (enqueue p q s).mem = s.mem := ⟨rfl, rfl⟩

@[simp] theorem sendOwn_pending_mem {s : State} {k} : (sendOwn k s).pending = s.pending ∧ (sendOwn k s).mem = s.mem := by
  unfold sendOwn
  split <;> [split_ifs; skip] <;> simp

@[simp] theorem refuseForward_pending_mem {s : State} {k} {st} {reason} {code} :
    (refuseForward k st reason code s).pending = s.pending ∧ (refuseForward k st reason code s).mem = s.mem := by
  unfold refuseForward
  split_ifs <;> simp

@[simp] theorem sendLeaseRecord_pending_mem {s : State} {node} {words} :
    (sendLeaseRecord node words s).pending = s.pending ∧ (sendLeaseRecord node words s).mem = s.mem := by simp [sendLeaseRecord]

/-! ### Raised events (R529) -/

@[simp] theorem forwardEvent_pending_mem {s : State} {e} :
    (forwardEvent e s).pending = s.pending ∧ (forwardEvent e s).mem = s.mem := by
  unfold forwardEvent
  split <;> simp

@[simp] theorem deliver_pending_mem {s : State} {e} : (deliver e s).pending = s.pending ∧ (deliver e s).mem = s.mem := by
  unfold deliver
  dsimp only
  split_ifs <;> simp

@[simp] theorem settle_pending_mem {s : State} : (settle s).pending = s.pending ∧ (settle s).mem = s.mem := by simp [settle]

/-! ### Wake requests and detections (R453 to R489) -/

@[simp] theorem idleWake_pending_mem {s : State} : (idleWake s).pending = s.pending ∧ (idleWake s).mem = s.mem := by
  unfold idleWake
  split <;> simp

@[simp] theorem wakeRequest_pending_mem {s : State} : (wakeRequest s).pending = s.pending ∧ (wakeRequest s).mem = s.mem := by
  unfold wakeRequest
  (repeat' split) <;> simp

@[simp] theorem setDomeSt_pending_mem {s : State} {st} : (setDomeSt st s).pending = s.pending ∧ (setDomeSt st s).mem = s.mem := by
  unfold setDomeSt
  split <;> simp

@[simp] theorem clearIsland_pending_mem {s : State} :
    (clearIsland s).pending = s.pending ∧ (clearIsland s).mem = s.mem := ⟨rfl, rfl⟩

@[simp] theorem noteResponse_pending_mem {s : State} {mask} {level} :
    (noteResponse mask level s).pending = s.pending ∧ (noteResponse mask level s).mem = s.mem := by
  unfold noteResponse
  split <;> simp

@[simp] theorem aonResponse_pending_mem {s : State} {mask} {level} :
    (aonResponse mask level s).pending = s.pending ∧ (aonResponse mask level s).mem = s.mem := by
  unfold aonResponse
  dsimp only
  split_ifs <;> simp

@[simp] theorem detect_pending_mem {s : State} {srcs} : (detect srcs s).pending = s.pending ∧ (detect srcs s).mem = s.mem := by
  unfold detect
  dsimp only
  split_ifs <;> simp

@[simp] theorem sensorDetect_pending_mem {s : State} {src} {detail} :
    (sensorDetect src detail s).pending = s.pending ∧ (sensorDetect src detail s).mem = s.mem := by simp [sensorDetect]

/-! ### Slot commands (R296 to R318) -/

@[simp] theorem dropDerivedGen_pending_mem {s : State} {i} {g} :
    (dropDerivedGen i g s).pending = s.pending ∧ (dropDerivedGen i g s).mem = s.mem := ⟨rfl, rfl⟩

@[simp] theorem dropDerived_pending_mem {s : State} {i} :
    (dropDerived i s).pending = s.pending ∧ (dropDerived i s).mem = s.mem := ⟨rfl, rfl⟩

@[simp] theorem writeSlot_pending_mem {s : State} {i} {attr} {ick} {key} :
    (writeSlot i attr ick key s).pending = s.pending ∧ (writeSlot i attr ick key s).mem = s.mem := by
  unfold writeSlot
  dsimp only
  split_ifs <;> simp

@[simp] theorem revokeSlot_pending {s : State} {i} : (revokeSlot i s).pending = s.pending := by simp [revokeSlot]

@[simp] theorem revokeSlot_memOk {s : State} {i} (h : MemOk s.mem) : MemOk (revokeSlot i s).mem := by
  unfold revokeSlot
  grind [eraseHook_memOk, dropDerived_pending_mem, setSlot_leaves]

@[simp] theorem dualMismatch_pending_mem {s : State} :
    (dualMismatch s).1.pending = s.pending ∧ (dualMismatch s).1.mem = s.mem := by simp [dualMismatch]

@[simp] theorem bodySlotUnwrap_pending_mem {s : State} {n} {i} {w} :
    (bodySlotUnwrap n i w s).1.pending = s.pending ∧ (bodySlotUnwrap n i w s).1.mem = s.mem := by
  unfold bodySlotUnwrap
  grind [dualMismatch_pending_mem, writeSlot_pending_mem, raise_leaves]

@[simp] theorem bodySlotGenerate_pending_mem {s : State} {n} {i} {w} :
    (bodySlotGenerate n i w s).1.pending = s.pending ∧ (bodySlotGenerate n i w s).1.mem = s.mem := by
  unfold bodySlotGenerate
  grind [drbgGen_pending_mem, writeSlot_pending_mem]

@[simp] theorem bodySlotWrap_pending {s : State} {n} {i} {w} : (bodySlotWrap n i w s).1.pending = s.pending := by
  unfold bodySlotWrap
  grind [memWrite_pending]

@[simp] theorem bodySlotWrap_memOk {s : State} {n} {i} {w} (h : MemOk s.mem) : MemOk (bodySlotWrap n i w s).1.mem := by
  unfold bodySlotWrap
  grind [memWrite_memOk]

@[simp] theorem bodySlotErase_pending {s : State} {n} {i} {w} : (bodySlotErase n i w s).1.pending = s.pending := by
  unfold bodySlotErase
  grind [raise_leaves, revokeSlot_pending]

@[simp] theorem bodySlotErase_memOk {s : State} {n} {i} {w} (h : MemOk s.mem) : MemOk (bodySlotErase n i w s).1.mem := by
  unfold bodySlotErase
  grind [raise_leaves, revokeSlot_memOk]

@[simp] theorem bodySlotAttr_pending_mem {s : State} {n} {i} {w} :
    (bodySlotAttr n i w s).1.pending = s.pending ∧ (bodySlotAttr n i w s).1.mem = s.mem := by
  unfold bodySlotAttr
  grind [setSlot_leaves]

@[simp] theorem bodySlotRead_pending {s : State} {n} {i} {w} : (bodySlotRead n i w s).1.pending = s.pending := by
  unfold bodySlotRead
  grind [memWriteWords_pending]

@[simp] theorem bodySlotRead_memOk {s : State} {n} {i} {w} (h : MemOk s.mem) : MemOk (bodySlotRead n i w s).1.mem := by
  unfold bodySlotRead
  grind [memWriteWords_memOk]

@[simp] theorem bodyMkaDerive_pending_mem {s : State} {n} {i} {w} :
    (bodyMkaDerive n i w s).1.pending = s.pending ∧ (bodyMkaDerive n i w s).1.mem = s.mem := by
  unfold bodyMkaDerive
  grind [writeSlot_pending_mem]

@[simp] theorem bodySignDigest_pending {s : State} {n} {i} {w} : (bodySignDigest n i w s).1.pending = s.pending := by
  unfold bodySignDigest
  grind [touchDcache_pending_mem, memWrite_pending, dualMismatch_pending_mem, drbgGen_pending_mem]

@[simp] theorem bodySignDigest_memOk {s : State} {n} {i} {w} (h : MemOk s.mem) : MemOk (bodySignDigest n i w s).1.mem := by
  unfold bodySignDigest
  grind [touchDcache_pending_mem, memWrite_memOk, dualMismatch_pending_mem, drbgGen_pending_mem]

/-! ### Associations (R258 to R282) -/

@[simp] theorem sendRecord_pending_mem {s : State} {sa} {a} {endPn} :
    (sendRecord sa a endPn s).pending = s.pending ∧ (sendRecord sa a endPn s).mem = s.mem := by simp [sendRecord]

@[simp] theorem mirrorLostNow_pending_mem {s : State} {sa} {cause} :
    (mirrorLostNow sa cause s).pending = s.pending ∧ (mirrorLostNow sa cause s).mem = s.mem := by
  unfold mirrorLostNow
  dsimp only
  split <;> simp

@[simp] theorem recordLate_pending_mem {s : State} {sa} {cause} :
    (recordLate sa cause s).pending = s.pending ∧ (recordLate sa cause s).mem = s.mem := by
  unfold recordLate
  dsimp only
  (repeat' split) <;> simp

@[simp] theorem openRecord_pending_mem {s : State} {aon} {sa} {e} :
    (openRecord aon sa e s).pending = s.pending ∧ (openRecord aon sa e s).mem = s.mem := by
  unfold openRecord
  dsimp only
  split_ifs <;> simp

@[simp] theorem requestLease_pending_mem {s : State} {sa} :
    (requestLease sa s).pending = s.pending ∧ (requestLease sa s).mem = s.mem := by
  unfold requestLease
  dsimp only
  split <;> simp

@[simp] theorem leaseProgress_pending_mem {s : State} {sa} :
    (leaseProgress sa s).pending = s.pending ∧ (leaseProgress sa s).mem = s.mem := by
  unfold leaseProgress
  dsimp only
  (repeat' split) <;> simp

@[simp] theorem aonLeaseConfirm_pending_mem {s : State} {sa} :
    (aonLeaseConfirm sa s).pending = s.pending ∧ (aonLeaseConfirm sa s).mem = s.mem := by
  unfold aonLeaseConfirm
  dsimp only
  (repeat' split) <;> simp

@[simp] theorem cancelSwitch_pending_mem {s : State} {y} {sa} {cause} :
    (cancelSwitch y sa cause s).pending = s.pending ∧ (cancelSwitch y sa cause s).mem = s.mem := ⟨rfl, rfl⟩

@[simp] theorem disarm_pending_mem {s : State} {y} {cause} :
    (disarm y cause s).pending = s.pending ∧ (disarm y cause s).mem = s.mem := by
  unfold disarm
  split <;> simp

@[simp] theorem fireSwitch_pending_mem {s : State} {y} {sa} {trig} :
    (fireSwitch y sa trig s).pending = s.pending ∧ (fireSwitch y sa trig s).mem = s.mem := by
  unfold fireSwitch
  dsimp only
  (repeat' split) <;> simp

@[simp] theorem switchFire_pending_mem {s : State} {y} : (switchFire y s).pending = s.pending ∧ (switchFire y s).mem = s.mem := by
  unfold switchFire
  split <;> [split_ifs; skip] <;> simp

@[simp] theorem claimSlot_pending_mem {s : State} {k} :
    (claimSlot k s).pending = s.pending ∧ (claimSlot k s).mem = s.mem := ⟨rfl, rfl⟩

@[simp] theorem recordLease_pending_mem {s : State} {sa} {a} {endPn} :
    (recordLease sa a endPn s).pending = s.pending ∧ (recordLease sa a endPn s).mem = s.mem := by
  unfold recordLease
  split <;> simp

@[simp] theorem appInstall_pending_mem {s : State} {w} {plan} :
    (appInstall w plan s).pending = s.pending ∧ (appInstall w plan s).mem = s.mem := by
  unfold appInstall
  (repeat' split) <;> simp

@[simp] theorem appSwitch_pending_mem {s : State} {w} : (appSwitch w s).pending = s.pending ∧ (appSwitch w s).mem = s.mem := by
  unfold appSwitch
  dsimp only
  split_ifs <;> simp

@[simp] theorem appRetire_pending_mem {s : State} {w} : (appRetire w s).pending = s.pending ∧ (appRetire w s).mem = s.mem := by
  unfold appRetire
  dsimp only
  split <;> simp

@[simp] theorem bestNow_pending_mem {s : State} {sa} : (bestNow sa s).pending = s.pending ∧ (bestNow sa s).mem = s.mem := by
  unfold bestNow
  dsimp only
  (repeat' split) <;> simp

@[simp] theorem appAdjust_pending_mem {s : State} {w} :
    (appAdjust w s).pending = s.pending ∧ (appAdjust w s).mem = s.mem := by simp [appAdjust]

/-! ### SltTable -/

@[simp] theorem dropReserved_pending_mem {s : State} :
    (dropReserved s).pending = s.pending ∧ (dropReserved s).mem = s.mem := by simp [dropReserved]

/-! ### The partner's answers (R262 to R277) -/

@[simp] theorem dropStaging_pending_mem {s : State} :
    (dropStaging s).pending = s.pending ∧ (dropStaging s).mem = s.mem := ⟨rfl, rfl⟩

@[simp] theorem closeGroup_pending_mem {s : State} {n} {c} :
    (closeGroup n c s).pending = s.pending ∧ (closeGroup n c s).mem = s.mem := by simp [closeGroup]

@[simp] theorem groupFail_pending_mem {s : State} {n} {k} {r} :
    (groupFail n k r s).pending = s.pending ∧ (groupFail n k r s).mem = s.mem := by simp [groupFail]

@[simp] theorem adjustLost_pending_mem {s : State} {cause} {endPn} {w} :
    (adjustLost cause endPn w s).pending = s.pending ∧ (adjustLost cause endPn w s).mem = s.mem := by simp [adjustLost]

@[simp] theorem mirrorEffect_pending_mem {s : State} {sa} {o} {w} {ans} :
    (mirrorEffect sa o w ans s).1.pending = s.pending ∧ (mirrorEffect sa o w ans s).1.mem = s.mem := by
  unfold mirrorEffect
  (repeat' split) <;> simp

@[simp] theorem stagedAnswer_pending_mem {s : State} {sa} {lost} :
    (stagedAnswer sa lost s).pending = s.pending ∧ (stagedAnswer sa lost s).mem = s.mem := by
  unfold stagedAnswer
  split <;> simp

@[simp] theorem mirrorAnswer_pending_mem {s : State} {sa} {ans} :
    (mirrorAnswer sa ans s).pending = s.pending ∧ (mirrorAnswer sa ans s).mem = s.mem := by
  unfold mirrorAnswer; dsimp only
  (repeat' split) <;> simp [effect, apply_ite State.pending, apply_ite State.mem]

@[simp] theorem mirrorWait_pending_mem {s : State} {n} {i} {sa} {endPn} {adjust} {plan} {w} :
    (mirrorWait n i sa endPn adjust plan w s).1.pending = s.pending ∧ (mirrorWait n i sa endPn adjust plan w s).1.mem = s.mem := by
  unfold mirrorWait
  split <;> simp

@[simp] theorem bodySaInstall_pending_mem {s : State} {n} {i} {w} :
    (bodySaInstall n i w s).1.pending = s.pending ∧ (bodySaInstall n i w s).1.mem = s.mem := by
  unfold bodySaInstall
  grind [appInstall_pending_mem, recordLease_pending_mem, mirrorWait_pending_mem]

@[simp] theorem bodySaSwitch_pending_mem {s : State} {n} {i} {w} :
    (bodySaSwitch n i w s).1.pending = s.pending ∧ (bodySaSwitch n i w s).1.mem = s.mem := by
  unfold bodySaSwitch
  grind [appSwitch_pending_mem]

@[simp] theorem bodySaRetire_pending_mem {s : State} {n} {i} {w} :
    (bodySaRetire n i w s).1.pending = s.pending ∧ (bodySaRetire n i w s).1.mem = s.mem := by
  unfold bodySaRetire
  grind [appRetire_pending_mem]

@[simp] theorem bodySaAdjust_pending_mem {s : State} {n} {i} {w} :
    (bodySaAdjust n i w s).1.pending = s.pending ∧ (bodySaAdjust n i w s).1.mem = s.mem := by
  unfold bodySaAdjust
  grind [recordLease_pending_mem, mirrorWait_pending_mem, appAdjust_pending_mem]

@[simp] theorem mirrorOpTimeout_pending_mem {s : State} {sa} :
    (mirrorOpTimeout sa s).pending = s.pending ∧ (mirrorOpTimeout sa s).mem = s.mem := by
  unfold mirrorOpTimeout
  split <;> [split_ifs; skip] <;> simp

@[simp] theorem leaseReqTimeout_pending_mem {s : State} {sa} :
    (leaseReqTimeout sa s).pending = s.pending ∧ (leaseReqTimeout sa s).mem = s.mem := by
  unfold leaseReqTimeout
  dsimp only
  (repeat' split) <;> simp

@[simp] theorem mirrorConfirmTimeout_pending_mem {s : State} {sa} :
    (mirrorConfirmTimeout sa s).pending = s.pending ∧ (mirrorConfirmTimeout sa s).mem = s.mem := by simp [mirrorConfirmTimeout]

@[simp] theorem leaseRecordResend_pending_mem {s : State} {sa} :
    (leaseRecordResend sa s).pending = s.pending ∧ (leaseRecordResend sa s).mem = s.mem := by
  unfold leaseRecordResend
  dsimp only
  (repeat' split) <;> simp

@[simp] theorem mirrorRestored_pending_mem {s : State} {sa} :
    (mirrorRestored sa s).pending = s.pending ∧ (mirrorRestored sa s).mem = s.mem := by
  unfold mirrorRestored
  dsimp only
  split <;> simp

@[simp] theorem confirmReq_pending_mem {s : State} {node} {sa} {result} {l} :
    (confirmReq node sa result l s).pending = s.pending ∧ (confirmReq node sa result l s).mem = s.mem := by
  unfold confirmReq
  dsimp only
  (repeat' split) <;> simp

@[simp] theorem partnerConfirm_pending_mem {s : State} {node} {l} :
    (partnerConfirm node l s).pending = s.pending ∧ (partnerConfirm node l s).mem = s.mem := by
  unfold partnerConfirm
  dsimp only
  (repeat' split) <;> simp

@[simp] theorem recordReceive_pending_mem {s : State} {node} {l} :
    (recordReceive node l s).1.pending = s.pending ∧ (recordReceive node l s).1.mem = s.mem := by
  unfold recordReceive
  dsimp only
  split <;> simp

@[simp] theorem mirrorPortDown_pending_mem {s : State} {p} :
    (mirrorPortDown p s).pending = s.pending ∧ (mirrorPortDown p s).mem = s.mem := by
  unfold mirrorPortDown; dsimp only
  rw [(foldl_pending_mem fun s x => by (repeat' split) <;> simp).1, (foldl_pending_mem fun s x => by (repeat' split) <;> simp).2]
  exact foldl_pending_mem fun s sa => by (repeat' split) <;> simp

/-! ### SCI lookup tables (R184 to R201) -/

@[simp] theorem bothSlt_pending_mem {s : State} {k} {f} :
    (bothSlt k f s).pending = s.pending ∧ (bothSlt k f s).mem = s.mem := ⟨rfl, rfl⟩

@[simp] theorem sltNoRoom_pending_mem {s : State} {k} {port} {learn} {shadow} :
    (sltNoRoom k port learn shadow s).pending = s.pending ∧ (sltNoRoom k port learn shadow s).mem = s.mem := ⟨rfl, rfl⟩

@[simp] theorem sltPlace_pending_mem {s : State} {k} {learn} {e} :
    (sltPlace k learn e s).1.pending = s.pending ∧ (sltPlace k learn e s).1.mem = s.mem := by
  unfold sltPlace
  dsimp only
  (repeat' split) <;> simp

@[simp] theorem placeShadow_pending_mem {s : State} {k} {fill} {e} :
    (placeShadow k fill e s).pending = s.pending ∧ (placeShadow k fill e s).mem = s.mem := by
  unfold placeShadow
  dsimp only
  (repeat' split) <;> simp

@[simp] theorem shadowPlace_pending_mem {s : State} {k} {e} :
    (shadowPlace k e s).1.pending = s.pending ∧ (shadowPlace k e s).1.mem = s.mem := by
  unfold shadowPlace
  dsimp only
  split <;> simp

@[simp] theorem bindEntry_pending_mem {s : State} {i} :
    (bindEntry i s).1.pending = s.pending ∧ (bindEntry i s).1.mem = s.mem := by
  unfold bindEntry
  dsimp only
  (repeat' split) <;> simp

@[simp] theorem appRxscSet_pending_mem {s : State} {w} :
    (appRxscSet w s).1.pending = s.pending ∧ (appRxscSet w s).1.mem = s.mem := by
  unfold appRxscSet
  dsimp only
  split_ifs <;> simp

@[simp] theorem bodyRxscSet_pending_mem {s : State} {n} {i} {w} :
    (bodyRxscSet n i w s).1.pending = s.pending ∧ (bodyRxscSet n i w s).1.mem = s.mem := by
  unfold bodyRxscSet
  grind [appRxscSet_pending_mem]

@[simp] theorem dropEntry_pending_mem {s : State} {i} :
    (dropEntry i s).pending = s.pending ∧ (dropEntry i s).mem = s.mem := ⟨rfl, rfl⟩

@[simp] theorem appRxscDelete_pending_mem {s : State} {w} :
    (appRxscDelete w s).pending = s.pending ∧ (appRxscDelete w s).mem = s.mem := ⟨rfl, rfl⟩

@[simp] theorem bodyRxscDelete_pending_mem {s : State} {n} {i} {w} :
    (bodyRxscDelete n i w s).1.pending = s.pending ∧ (bodyRxscDelete n i w s).1.mem = s.mem := by
  unfold bodyRxscDelete
  grind [appRxscDelete_pending_mem]

@[simp] theorem sltHit_pending_mem {s : State} {k} {e} : (sltHit k e s).pending = s.pending ∧ (sltHit k e s).mem = s.mem := by
  unfold sltHit
  dsimp only
  split <;> simp

@[simp] theorem sweepVisit_pending_mem {s : State} {k} {x} :
    (sweepVisit k s x).pending = s.pending ∧ (sweepVisit k s x).mem = s.mem := by
  unfold sweepVisit
  split <;> [skip; split_ifs] <;> simp

@[simp] theorem sltAgingSweep_pending_mem {s : State} {k} :
    (sltAgingSweep k s).pending = s.pending ∧ (sltAgingSweep k s).mem = s.mem := by
  unfold sltAgingSweep
  split <;> simp

@[simp] theorem sltParity_pending_mem {s : State} {k} {shadow} {loc} :
    (sltParity k shadow loc s).pending = s.pending ∧ (sltParity k shadow loc s).mem = s.mem := by
  unfold sltParity
  dsimp only
  (repeat' split) <;> simp

@[simp] theorem sltRestore_pending_mem {s : State} {k} {shadow} {i} :
    (sltRestore k shadow i s).1.pending = s.pending ∧ (sltRestore k shadow i s).1.mem = s.mem := by
  unfold sltRestore
  dsimp only
  (repeat' split) <;> simp

@[simp] theorem sltScrubEnd_pending_mem {s : State} {k} {shadow} {loc} :
    (sltScrubEnd k shadow loc s).pending = s.pending ∧ (sltScrubEnd k shadow loc s).mem = s.mem := by
  unfold sltScrubEnd
  dsimp only
  (repeat' split) <;> simp

@[simp] theorem sltScrub_pending_mem {s : State} {k} {shadow} {loc} {done} :
    (sltScrub k shadow loc done s).pending = s.pending ∧ (sltScrub k shadow loc done s).mem = s.mem := by
  unfold sltScrub
  split_ifs <;> simp

@[simp] theorem bodySltSeed_pending_mem {s : State} {n} {i} {w} :
    (bodySltSeed n i w s).1.pending = s.pending ∧ (bodySltSeed n i w s).1.mem = s.mem := by
  unfold bodySltSeed
  grind [modPpl_leaves]

@[simp] theorem finishRun_pending_mem {s : State} {n} {i} {r} :
    (finishRun n i r s).pending = s.pending ∧ (finishRun n i r s).mem = s.mem := by
  unfold finishRun
  split <;> [split_ifs; skip] <;> simp

@[simp] theorem shadowBuildDone_pending_mem {s : State} {k} :
    (shadowBuildDone k s).pending = s.pending ∧ (shadowBuildDone k s).mem = s.mem := by
  unfold shadowBuildDone
  dsimp only
  (repeat' split) <;> simp

@[simp] theorem appSltRebuild_pending_mem {s : State} {w} :
    (appSltRebuild w s).pending = s.pending ∧ (appSltRebuild w s).mem = s.mem := ⟨rfl, rfl⟩

@[simp] theorem bodySltRebuild_pending_mem {s : State} {n} {i} {w} :
    (bodySltRebuild n i w s).1.pending = s.pending ∧ (bodySltRebuild n i w s).1.mem = s.mem := by
  unfold bodySltRebuild
  grind [appSltRebuild_pending_mem]

@[simp] theorem bodySltEntry_pending {s : State} {n} {i} {w} : (bodySltEntry n i w s).1.pending = s.pending := by
  unfold bodySltEntry
  grind [memWriteWords_pending, bothSlt_pending_mem]

@[simp] theorem bodySltEntry_memOk {s : State} {n} {i} {w} (h : MemOk s.mem) : MemOk (bodySltEntry n i w s).1.mem := by
  unfold bodySltEntry
  grind [memWriteWords_memOk, bothSlt_pending_mem]

/-! ### Ingress (R172 to R218) -/

@[simp] theorem igNever_pending_mem {s : State} {k} {cause} {f} :
    (igNever k cause f s).pending = s.pending ∧ (igNever k cause f s).mem = s.mem := by simp [igNever]

@[simp] theorem igOut_pending_mem {s : State} {id} {k} {cause} {f} :
    (igOut id k cause f s).pending = s.pending ∧ (igOut id k cause f s).mem = s.mem := by simp [igOut]

@[simp] theorem igDeliver_pending_mem {s : State} {id} {k} {f} {out} :
    (igDeliver id k f out s).pending = s.pending ∧ (igDeliver id k f out s).mem = s.mem := ⟨rfl, rfl⟩

@[simp] theorem igEnter_pending_mem {s : State} {f} :
    (igEnter f s).1.pending = s.pending ∧ (igEnter f s).1.mem = s.mem := ⟨rfl, rfl⟩

@[simp] theorem igPlain_pending_mem {s : State} {id} {k} {f} {out} :
    (igPlain id k f out s).pending = s.pending ∧ (igPlain id k f out s).mem = s.mem := by
  unfold igPlain
  split <;> simp

@[simp] theorem igNoChannel_pending_mem {s : State} {id} {f} :
    (igNoChannel id f s).pending = s.pending ∧ (igNoChannel id f s).mem = s.mem := by
  unfold igNoChannel
  dsimp only
  (repeat' split) <;> simp

@[simp] theorem igCutLate_pending_mem {s : State} {id} {k} {cause} {f} {x} :
    (igCutLate id k cause f x s).pending = s.pending ∧ (igCutLate id k cause f x s).mem = s.mem := by
  unfold igCutLate
  dsimp only
  (repeat' split) <;> simp

@[simp] theorem igChannel_pending_mem {s : State} {id} {c} {f} :
    (igChannel id c f s).pending = s.pending ∧ (igChannel id c f s).mem = s.mem := by
  unfold igChannel
  dsimp only
  (repeat' split) <;> simp

@[simp] theorem igLookup_pending_mem {s : State} {id} {f} :
    (igLookup id f s).pending = s.pending ∧ (igLookup id f s).mem = s.mem := by
  unfold igLookup
  dsimp only
  (repeat' split) <;> simp

@[simp] theorem igTagged_pending_mem {s : State} {id} {f} :
    (igTagged id f s).pending = s.pending ∧ (igTagged id f s).mem = s.mem := by
  unfold igTagged
  dsimp only
  (repeat' split) <;> simp

@[simp] theorem igFrameReceive_pending_mem {s : State} {port} {express} {bytes} {status} {ts} :
    (igFrameReceive port express bytes status ts s).pending = s.pending ∧ (igFrameReceive port express bytes status ts s).mem = s.mem := by
  unfold igFrameReceive
  dsimp only
  (repeat' split) <;> simp

@[simp] theorem learnRefused_pending_mem {s : State} {id} {cause} {f} :
    (learnRefused id cause f s).pending = s.pending ∧ (learnRefused id cause f s).mem = s.mem := by simp [learnRefused]

@[simp] theorem sltLearnStep_pending_mem {s : State} {k} :
    (sltLearnStep k s).pending = s.pending ∧ (sltLearnStep k s).mem = s.mem := by
  unfold sltLearnStep
  dsimp only
  (repeat' split) <;> simp

@[simp] theorem noteFirst_pending_mem {s : State} {f} : (noteFirst f s).pending = s.pending ∧ (noteFirst f s).mem = s.mem := by
  unfold noteFirst
  dsimp only
  split <;> simp

@[simp] theorem finalReplay_pending_mem {s : State} {f} :
    (finalReplay f s).2.2.pending = s.pending ∧ (finalReplay f s).2.2.mem = s.mem := by
  unfold finalReplay; dsimp only; split_ifs <;> simp

@[simp] theorem igTowerDone_pending_mem {s : State} {id} {f} {key} :
    (igTowerDone id f key s).pending = s.pending ∧ (igTowerDone id f key s).mem = s.mem := by
  unfold igTowerDone; dsimp only; split_ifs <;> simp

@[simp] theorem noteTail_pending_mem {s : State} {f} :
    (noteTail f s).pending = s.pending ∧ (noteTail f s).mem = s.mem := ⟨rfl, rfl⟩

@[simp] theorem igFrameRelease_pending_mem {s : State} {id} :
    (igFrameRelease id s).pending = s.pending ∧ (igFrameRelease id s).mem = s.mem := by
  unfold igFrameRelease
  dsimp only
  (repeat' split) <;> simp

@[simp] theorem holdLimitExpire_pending_mem {s : State} {id} :
    (holdLimitExpire id s).pending = s.pending ∧ (holdLimitExpire id s).mem = s.mem := by
  unfold holdLimitExpire
  split <;> [split_ifs; skip] <;> simp

/-! ### Classifier trees (R126 to R143) -/

@[simp] theorem treeFault_pending_mem {s : State} {port} {node} {cause} :
    (treeFault port node cause s).pending = s.pending ∧ (treeFault port node cause s).mem = s.mem := by simp [treeFault]

@[simp] theorem bodyTreeLoad_pending_mem {s : State} {n} {i} {w} :
    (bodyTreeLoad n i w s).1.pending = s.pending ∧ (bodyTreeLoad n i w s).1.mem = s.mem := by
  unfold bodyTreeLoad
  grind [setPpl_leaves]

@[simp] theorem appTreeSwitch_pending_mem {s : State} {w} :
    (appTreeSwitch w s).pending = s.pending ∧ (appTreeSwitch w s).mem = s.mem := ⟨rfl, rfl⟩

@[simp] theorem bodyTreeSwitch_pending_mem {s : State} {n} {i} {w} :
    (bodyTreeSwitch n i w s).1.pending = s.pending ∧ (bodyTreeSwitch n i w s).1.mem = s.mem := by
  unfold bodyTreeSwitch
  grind [appTreeSwitch_pending_mem]

@[simp] theorem bodyTreeRead_pending {s : State} {n} {i} {w} : (bodyTreeRead n i w s).1.pending = s.pending := by
  unfold bodyTreeRead
  grind [writeSnap_pending]

@[simp] theorem bodyTreeRead_memOk {s : State} {n} {i} {w} (h : MemOk s.mem) : MemOk (bodyTreeRead n i w s).1.mem := by
  unfold bodyTreeRead
  grind [writeSnap_memOk]

/-! ### Egress (R123 to R165) -/

@[simp] theorem fireForFrame_pending_mem {s : State} {y} :
    (fireForFrame y s).pending = s.pending ∧ (fireForFrame y s).mem = s.mem := by
  unfold fireForFrame
  dsimp only
  (repeat' split) <;> simp

@[simp] theorem assignPn_pending_mem {s : State} {port} {sa} :
    (assignPn port sa s).pending = s.pending ∧ (assignPn port sa s).mem = s.mem := by
  unfold assignPn
  dsimp only
  split_ifs <;> simp

@[simp] theorem egWait_pending_mem {s : State} {id} {st} {f} :
    (egWait id st f s).pending = s.pending ∧ (egWait id st f s).mem = s.mem := ⟨rfl, rfl⟩

@[simp] theorem egNumber_pending_mem {s : State} {id} {sa} {f} :
    (egNumber id sa f s).pending = s.pending ∧ (egNumber id sa f s).mem = s.mem := by
  unfold egNumber
  dsimp only
  split <;> simp

@[simp] theorem leaseFor_pending_mem {s : State} {sa} : (leaseFor sa s).pending = s.pending ∧ (leaseFor sa s).mem = s.mem := by
  unfold leaseFor
  dsimp only
  split <;> simp

@[simp] theorem egAssoc_pending_mem {s : State} {id} {f} :
    (egAssoc id f s).pending = s.pending ∧ (egAssoc id f s).mem = s.mem := by
  unfold egAssoc
  dsimp only
  split_ifs <;> simp

@[simp] theorem egSpace_pending_mem {s : State} {id} {f} :
    (egSpace id f s).pending = s.pending ∧ (egSpace id f s).mem = s.mem := by
  unfold egSpace
  (repeat' split) <;> simp

@[simp] theorem egReturn_pending_mem {s : State} {id} {trap} {rule} {f} :
    (egReturn id trap rule f s).pending = s.pending ∧ (egReturn id trap rule f s).mem = s.mem := by
  unfold egReturn
  dsimp only
  split_ifs <;> simp

@[simp] theorem egRetryOne_pending_mem {s : State} {p} : (egRetryOne s p).pending = s.pending ∧ (egRetryOne s p).mem = s.mem := by
  unfold egRetryOne
  split <;> simp

@[simp] theorem egRetry_pending_mem {s : State} : (egRetry s).pending = s.pending ∧ (egRetry s).mem = s.mem := by
  unfold egRetry
  split <;> simp

@[simp] theorem offer_pending_mem {s : State} {y} {f} : (offer y f s).1.pending = s.pending ∧ (offer y f s).1.mem = s.mem := by
  unfold offer
  (repeat' split) <;> simp

@[simp] theorem egPlain_pending_mem {s : State} {id} {k} {f} :
    (egPlain id k f s).pending = s.pending ∧ (egPlain id k f s).mem = s.mem := by
  unfold egPlain
  split <;> simp

@[simp] theorem egSecyChecks_pending_mem {s : State} {id} {y} {f} :
    (egSecyChecks id y f s).pending = s.pending ∧ (egSecyChecks id y f s).mem = s.mem := by
  unfold egSecyChecks
  dsimp only
  (repeat' split) <;> simp

@[simp] theorem egResidual_pending_mem {s : State} {id} {f} :
    (egResidual id f s).pending = s.pending ∧ (egResidual id f s).mem = s.mem := by
  unfold egResidual
  dsimp only
  split <;> simp

@[simp] theorem egLeaf_pending_mem {s : State} {id} {f} {l} :
    (egLeaf id f l s).pending = s.pending ∧ (egLeaf id f l s).mem = s.mem := by
  unfold egLeaf
  split <;> simp

@[simp] theorem egFrameAdmit_pending_mem {s : State} {port} {express} {len} {bytes} {launch} {err} :
    (egFrameAdmit port express len bytes launch err s).pending = s.pending ∧ (egFrameAdmit port express len bytes launch err s).mem = s.mem := by
  unfold egFrameAdmit
  dsimp only
  split_ifs <;> simp

@[simp] theorem egTowerDone_pending_mem {s : State} {id} {f} {key} :
    (egTowerDone id f key s).pending = s.pending ∧ (egTowerDone id f key s).mem = s.mem := ⟨rfl, rfl⟩

@[simp] theorem egStart_pending_mem {s : State} {id} {f} :
    (egStart id f s).pending = s.pending ∧ (egStart id f s).mem = s.mem := by
  unfold egStart
  dsimp only
  (repeat' split) <;> simp

@[simp] theorem noteLate_pending_mem {s : State} {f} :
    (noteLate f s).pending = s.pending ∧ (noteLate f s).mem = s.mem := by simp [noteLate]

@[simp] theorem egLate_pending_mem {s : State} {id} {f} : (egLate id f s).pending = s.pending ∧ (egLate id f s).mem = s.mem := by
  unfold egLate
  split <;> simp

@[simp] theorem egFrameStart_pending_mem {s : State} {id} :
    (egFrameStart id s).pending = s.pending ∧ (egFrameStart id s).mem = s.mem := by
  unfold egFrameStart
  split <;> [split_ifs; skip] <;> simp

@[simp] theorem launchRelease_pending_mem {s : State} {id} :
    (launchRelease id s).pending = s.pending ∧ (launchRelease id s).mem = s.mem := by
  unfold launchRelease
  (repeat' split) <;> simp

@[simp] theorem egSent_pending_mem {s : State} {f} : (egSent f s).pending = s.pending ∧ (egSent f s).mem = s.mem := by
  unfold egSent
  (repeat' split) <;> simp

@[simp] theorem abortBytes_pending_mem {s : State} {f} :
    (abortBytes f s).1.pending = s.pending ∧ (abortBytes f s).1.mem = s.mem := ⟨rfl, rfl⟩

@[simp] theorem egFrameEnd_pending_mem {s : State} {id} :
    (egFrameEnd id s).pending = s.pending ∧ (egFrameEnd id s).mem = s.mem := by
  unfold egFrameEnd
  (repeat' split) <;> simp

@[simp] theorem returnQueueSend_pending_mem {s : State} {k} :
    (returnQueueSend k s).pending = s.pending ∧ (returnQueueSend k s).mem = s.mem := by
  unfold returnQueueSend
  split <;> [skip; split_ifs] <;> simp

/-! ### Host jobs (R365 to R372) -/

@[simp] theorem bodyTowerJob_pending_mem {s : State} {n} {i} {w} :
    (bodyTowerJob n i w s).1.pending = s.pending ∧ (bodyTowerJob n i w s).1.mem = s.mem := by
  unfold bodyTowerJob
  grind [takeId_pending_mem, setItem_leaves]

@[simp] theorem jobWrite_pending {s : State} {undef} {addr} {l} {r} : (jobWrite undef addr l r s).1.pending = s.pending := by
  unfold jobWrite
  grind [freeBytes_pending_mem, memWrite_pending]

@[simp] theorem jobWrite_memOk {s : State} {undef} {addr} {l} {r} (h : MemOk s.mem) :
    MemOk (jobWrite undef addr l r s).1.mem := by
  unfold jobWrite
  grind [freeBytes_pending_mem, memWrite_memOk]

@[simp] theorem jobGcm_pending {s : State} {key} {w} : (jobGcm key w s).1.pending = s.pending := by
  unfold jobGcm
  dsimp only
  (repeat' split) <;> simp

@[simp] theorem jobGcm_memOk {s : State} {key} {w} (h : MemOk s.mem) : MemOk (jobGcm key w s).1.mem := by
  unfold jobGcm
  grind [jobWrite_memOk]

@[simp] theorem jobXts_pending {s : State} {dk} {tk} {w} : (jobXts dk tk w s).1.pending = s.pending := by
  unfold jobXts
  dsimp only
  split <;> simp

@[simp] theorem jobXts_memOk {s : State} {dk} {tk} {w} (h : MemOk s.mem) : MemOk (jobXts dk tk w s).1.mem := by
  unfold jobXts
  grind [jobWrite_memOk]

@[simp] theorem jobSecoc_pending {s : State} {key} {w} : (jobSecoc key w s).1.pending = s.pending := by
  unfold jobSecoc
  dsimp only
  (repeat' split) <;> simp

@[simp] theorem jobSecoc_memOk {s : State} {key} {w} (h : MemOk s.mem) : MemOk (jobSecoc key w s).1.mem := by
  unfold jobSecoc
  grind [jobWrite_memOk]

@[simp] theorem jobDone_pending {s : State} {id} {n} {i} {keys} : (jobDone id n i keys s).pending = s.pending := by
  unfold jobDone
  (repeat' split) <;> simp

@[simp] theorem jobDone_memOk {s : State} {id} {n} {i} {keys} (h : MemOk s.mem) : MemOk (jobDone id n i keys s).mem := by
  unfold jobDone
  grind [setItem_leaves, jobEnd_memOk, jobGcm_memOk, jobXts_memOk, jobSecoc_memOk]

@[simp] theorem bodyMkpduIcv_pending {s : State} {n} {i} {w} : (bodyMkpduIcv n i w s).1.pending = s.pending := by
  unfold bodyMkpduIcv
  grind [memWrite_pending]

@[simp] theorem bodyMkpduIcv_memOk {s : State} {n} {i} {w} (h : MemOk s.mem) : MemOk (bodyMkpduIcv n i w s).1.mem := by
  unfold bodyMkpduIcv
  grind [memWrite_memOk]

@[simp] theorem randomBytes_pending_mem {s : State} {fuel} {n} :
    (randomBytes fuel n s).1.pending = s.pending ∧ (randomBytes fuel n s).1.mem = s.mem := by
  induction fuel generalizing s n with
  | zero => exact ⟨rfl, rfl⟩
  | succ k ih => unfold randomBytes; split_ifs <;> simp [ih]

@[simp] theorem bodyRandom_pending {s : State} {n} {i} {w} : (bodyRandom n i w s).1.pending = s.pending := by
  unfold bodyRandom
  grind [randomBytes_pending_mem, memWrite_pending]

@[simp] theorem bodyRandom_memOk {s : State} {n} {i} {w} (h : MemOk s.mem) : MemOk (bodyRandom n i w s).1.mem := by
  unfold bodyRandom
  grind [randomBytes_pending_mem, memWrite_memOk]

/-! ### Storage channels (R350 to R364) -/

@[simp] theorem stcTouch_pending_mem {s : State} {e} :
    (stcTouch e s).pending = s.pending ∧ (stcTouch e s).mem = s.mem := by simp [stcTouch]

@[simp] theorem stcKeyLost_pending_mem {s : State} {c} {cfg} {slotNo} {r} :
    (stcKeyLost c cfg slotNo r s).pending = s.pending ∧ (stcKeyLost c cfg slotNo r s).mem = s.mem := by
  unfold stcKeyLost
  dsimp only
  split <;> simp

@[simp] theorem stcAccept_pending_mem {s : State} {c} {q} :
    (stcAccept c q s).pending = s.pending ∧ (stcAccept c q s).mem = s.mem := by
  unfold stcAccept
  dsimp only
  (repeat' split) <;> simp

@[simp] theorem stcRequest_pending_mem {s : State} {c} {q} :
    (stcRequest c q s).pending = s.pending ∧ (stcRequest c q s).mem = s.mem := by
  unfold stcRequest
  split_ifs <;> simp

@[simp] theorem stcRetry_pending_mem {s : State} {c} : (stcRetry c s).pending = s.pending ∧ (stcRetry c s).mem = s.mem := by
  unfold stcRetry
  split <;> [split_ifs; skip] <;> simp

@[simp] theorem stcLast_pending_mem {s : State} {c} {k} : (stcLast c k s).pending = s.pending ∧ (stcLast c k s).mem = s.mem := by
  unfold stcLast
  split <;> [split_ifs; skip] <;> simp

@[simp] theorem cutUnits_pending_mem {s : State} {fuel} {c} {k} :
    (cutUnits fuel c k s).pending = s.pending ∧ (cutUnits fuel c k s).mem = s.mem := by
  induction fuel generalizing s with
  | zero => exact ⟨rfl, rfl⟩
  | succ n ih => unfold cutUnits; dsimp only; (repeat' split) <;> simp [ih]

@[simp] theorem stcDataIn_pending_mem {s : State} {c} {fromDev} {bytes} {last} :
    (stcDataIn c fromDev bytes last s).pending = s.pending ∧ (stcDataIn c fromDev bytes last s).mem = s.mem := by
  unfold stcDataIn; dsimp only; (repeat' split) <;> simp

@[simp] theorem unitDone_pending_mem {s : State} {id} {keys} :
    (unitDone id keys s).pending = s.pending ∧ (unitDone id keys s).mem = s.mem := by
  unfold unitDone
  (repeat' split) <;> simp

@[simp] theorem stcCount_pending_mem {s : State} {c} {x} :
    (stcCount c x s).pending = s.pending ∧ (stcCount c x s).mem = s.mem := by
  unfold stcCount
  split <;> [split_ifs; skip] <;> simp

@[simp] theorem stcTransferComplete_pending_mem {s : State} {c} {fromDev} :
    (stcTransferComplete c fromDev s).pending = s.pending ∧ (stcTransferComplete c fromDev s).mem = s.mem := by
  unfold stcTransferComplete
  split <;> [split_ifs; skip] <;> simp

@[simp] theorem stcAlarm_pending_mem {s : State} : (stcAlarm s).pending = s.pending ∧ (stcAlarm s).mem = s.mem :=
  foldl_pending_mem fun s c => foldl_pending_mem fun s x => by split_ifs <;> simp

@[simp] theorem bodyStcCfgSet_pending_mem {s : State} {n} {i} {w} :
    (bodyStcCfgSet n i w s).1.pending = s.pending ∧ (bodyStcCfgSet n i w s).1.mem = s.mem := by
  unfold bodyStcCfgSet
  grind [fetchFail_pending_mem, setStcCfg_leaves, stcTouch_pending_mem]

@[simp] theorem bodyStcCfgRead_pending {s : State} {n} {i} {w} : (bodyStcCfgRead n i w s).1.pending = s.pending := by
  unfold bodyStcCfgRead
  grind [writeSnap_pending]

@[simp] theorem bodyStcCfgRead_memOk {s : State} {n} {i} {w} (h : MemOk s.mem) : MemOk (bodyStcCfgRead n i w s).1.mem := by
  unfold bodyStcCfgRead
  grind [writeSnap_memOk]

/-! ### Ends of items, repair (R237 to R245) -/

@[simp] theorem towerItemDone_pending {s : State} {id} : (towerItemDone id s).pending = s.pending := by
  unfold towerItemDone
  (repeat' split) <;> simp

@[simp] theorem towerItemDone_memOk {s : State} {id} (h : MemOk s.mem) : MemOk (towerItemDone id s).mem := by
  unfold towerItemDone
  grind [raise_leaves, itemPoison_memOk, setTower_leaves, egTowerDone_pending_mem, setItem_leaves, igTowerDone_pending_mem, stagingDone_pending_mem, unitDone_pending_mem, jobDone_memOk]

@[simp] theorem parityMismatch_pending {s : State} {t} {gh} {u} {id} : (parityMismatch t gh u id s).pending = s.pending := by
  unfold parityMismatch
  (repeat' split) <;> simp

@[simp] theorem parityMismatch_memOk {s : State} {t} {gh} {u} {id} (h : MemOk s.mem) :
    MemOk (parityMismatch t gh u id s).mem := by
  unfold parityMismatch
  grind [arrayChange_pending_mem, retireUnit_pending_mem, itemPoison_memOk]

@[simp] theorem bodyRepairExport_pending {s : State} {n} {i} {w} : (bodyRepairExport n i w s).1.pending = s.pending := by
  unfold bodyRepairExport
  grind [memWrite_pending]

@[simp] theorem bodyRepairExport_memOk {s : State} {n} {i} {w} (h : MemOk s.mem) : MemOk (bodyRepairExport n i w s).1.mem := by
  unfold bodyRepairExport
  grind [memWrite_memOk]

@[simp] theorem bodyRepairLoad_pending_mem {s : State} {n} {i} {w} :
    (bodyRepairLoad n i w s).1.pending = s.pending ∧ (bodyRepairLoad n i w s).1.mem = s.mem := by
  unfold bodyRepairLoad; dsimp only; (repeat' split) <;> simp

/-! ### Trust (R321 to R346) -/

@[simp] theorem noteReject_pending_mem {s : State} {r} {op} :
    (noteReject r op s).pending = s.pending ∧ (noteReject r op s).mem = s.mem := by simp [noteReject]

@[simp] theorem extend_pending_mem {s : State} {i} {d} :
    (extend i d s).pending = s.pending ∧ (extend i d s).mem = s.mem := ⟨rfl, rfl⟩

@[simp] theorem loadKeys_pending_mem {s : State} {keys} :
    (loadKeys keys s).pending = s.pending ∧ (loadKeys keys s).mem = s.mem := by simp [loadKeys]

@[simp] theorem applyOps_pending {s : State} {ops} : (applyOps ops s).pending = s.pending :=
  foldl_pending (fun s o => by (repeat' split) <;> simp) _ _

@[simp] theorem applyOps_memOk {s : State} {ops} (h : MemOk s.mem) : MemOk (applyOps ops s).mem :=
  foldl_memOk (fun s o h => by (repeat' split) <;> simp [h]) _ h

@[simp] theorem setMark_pending_mem {s : State} : (setMark s).pending = s.pending ∧ (setMark s).mem = s.mem := by
  unfold setMark
  split <;> simp

@[simp] theorem applyCommit_pending {s : State} {n} {c} : (applyCommit n c s).pending = s.pending := by
  unfold applyCommit
  dsimp only
  split_ifs <;> simp

@[simp] theorem applyCommit_memOk {s : State} {n} {c} (h : MemOk s.mem) : MemOk (applyCommit n c s).mem := by
  unfold applyCommit
  grind [extend_pending_mem, raise_leaves, setMark_pending_mem, setDomeSt_pending_mem, loadKeys_pending_mem, rsetFld_leaves, applyOps_memOk]

@[simp] theorem bodyKumApply_pending {s : State} {n} {i} {w} : (bodyKumApply n i w s).1.pending = s.pending := by
  unfold bodyKumApply
  grind [dualMismatch_pending_mem, raise_leaves, noteReject_pending_mem, drbgGen_pending_mem, memWrite_pending, applyCommit_pending]

@[simp] theorem bodyKumApply_memOk {s : State} {n} {i} {w} (h : MemOk s.mem) : MemOk (bodyKumApply n i w s).1.mem := by
  unfold bodyKumApply
  grind [dualMismatch_pending_mem, raise_leaves, noteReject_pending_mem, drbgGen_pending_mem, memWrite_memOk, applyCommit_memOk]

@[simp] theorem bodyKumCommit_pending {s : State} {n} {i} {w} : (bodyKumCommit n i w s).1.pending = s.pending := by
  unfold bodyKumCommit
  grind [applyCommit_pending]

@[simp] theorem bodyKumCommit_memOk {s : State} {n} {i} {w} (h : MemOk s.mem) : MemOk (bodyKumCommit n i w s).1.mem := by
  unfold bodyKumCommit
  grind [applyCommit_memOk]

@[simp] theorem bodyImageNonce_pending {s : State} {n} {i} {w} : (bodyImageNonce n i w s).1.pending = s.pending := by
  unfold bodyImageNonce
  grind [drbgGen_pending_mem, memWrite_pending, setDomeSt_pending_mem]

@[simp] theorem bodyImageNonce_memOk {s : State} {n} {i} {w} (h : MemOk s.mem) : MemOk (bodyImageNonce n i w s).1.mem := by
  unfold bodyImageNonce
  grind [drbgGen_pending_mem, memWrite_memOk, setDomeSt_pending_mem]

@[simp] theorem loadFail_pending_mem {s : State} {n} {reason} :
    (loadFail n reason s).1.pending = s.pending ∧ (loadFail n reason s).1.mem = s.mem := by
  unfold loadFail
  dsimp only
  split <;> simp

@[simp] theorem loadRefuse_pending_mem {s : State} {reason} :
    (loadRefuse reason s).1.pending = s.pending ∧ (loadRefuse reason s).1.mem = s.mem := by simp [loadRefuse]

@[simp] theorem loadOk_pending_mem {s : State} {n} {keys} {blank} {noImage} :
    (loadOk n keys blank noImage s).1.pending = s.pending ∧ (loadOk n keys blank noImage s).1.mem = s.mem := by simp [loadOk]

@[simp] theorem loadSealed_pending_mem {s : State} {n} {noImage} {resp} {ba} {bb} :
    (loadSealed n noImage resp ba bb s).1.pending = s.pending ∧ (loadSealed n noImage resp ba bb s).1.mem = s.mem := by
  unfold loadSealed
  dsimp only
  (repeat' split) <;> simp

@[simp] theorem loadOpen_pending_mem {s : State} {n} {ba} {bb} :
    (loadOpen n ba bb s).1.pending = s.pending ∧ (loadOpen n ba bb s).1.mem = s.mem := by
  unfold loadOpen
  dsimp only
  (repeat' split) <;> simp

@[simp] theorem bodyImageLoad_pending_mem {s : State} {n} {i} {w} :
    (bodyImageLoad n i w s).1.pending = s.pending ∧ (bodyImageLoad n i w s).1.mem = s.mem := by
  unfold bodyImageLoad
  grind [loadRefuse_pending_mem, loadSealed_pending_mem, loadOk_pending_mem, loadOpen_pending_mem]

@[simp] theorem emptySlots_pending_mem {s : State} : (emptySlots s).pending = s.pending ∧ (emptySlots s).mem = s.mem := ⟨rfl, rfl⟩

@[simp] theorem belfryClear_pending_mem {s : State} :
    (belfryClear s).pending = s.pending ∧ (belfryClear s).mem = s.mem := by simp [belfryClear]

@[simp] theorem drawLcNonce_pending_mem {s : State} :
    (drawLcNonce s).pending = s.pending ∧ (drawLcNonce s).mem = s.mem := by simp [drawLcNonce]

@[simp] theorem applyLife_pending_mem {s : State} {n} {target} :
    (applyLife n target s).pending = s.pending ∧ (applyLife n target s).mem = s.mem := by
  unfold applyLife
  split <;> simp

@[simp] theorem bodyLcChange_pending_mem {s : State} {n} {i} {w} :
    (bodyLcChange n i w s).1.pending = s.pending ∧ (bodyLcChange n i w s).1.mem = s.mem := by
  unfold bodyLcChange
  grind [drawLcNonce_pending_mem, applyLife_pending_mem, dualMismatch_pending_mem, noteReject_pending_mem]

@[simp] theorem bodyRpmbProvision_pending {s : State} {n} {i} {w} : (bodyRpmbProvision n i w s).1.pending = s.pending := by
  unfold bodyRpmbProvision
  grind [memWrite_pending]

@[simp] theorem bodyRpmbProvision_memOk {s : State} {n} {i} {w} (h : MemOk s.mem) : MemOk (bodyRpmbProvision n i w s).1.mem := by
  unfold bodyRpmbProvision
  grind [memWrite_memOk]

@[simp] theorem bodyAttest_pending {s : State} {n} {i} {w} : (bodyAttest n i w s).1.pending = s.pending := by
  unfold bodyAttest
  grind [memWrite_pending, dualMismatch_pending_mem, drbgGen_pending_mem]

@[simp] theorem bodyAttest_memOk {s : State} {n} {i} {w} (h : MemOk s.mem) : MemOk (bodyAttest n i w s).1.mem := by
  unfold bodyAttest
  grind [memWrite_memOk, dualMismatch_pending_mem, drbgGen_pending_mem]

@[simp] theorem bodyMeasExtend_pending_mem {s : State} {n} {i} {w} :
    (bodyMeasExtend n i w s).1.pending = s.pending ∧ (bodyMeasExtend n i w s).1.mem = s.mem := by
  unfold bodyMeasExtend
  grind [extend_pending_mem]

@[simp] theorem bodyMeasRead_pending {s : State} {n} {i} {w} : (bodyMeasRead n i w s).1.pending = s.pending := by
  unfold bodyMeasRead
  grind [memWrite_pending]

@[simp] theorem bodyMeasRead_memOk {s : State} {n} {i} {w} (h : MemOk s.mem) : MemOk (bodyMeasRead n i w s).1.mem := by
  unfold bodyMeasRead
  grind [memWrite_memOk]

/-! ### LT_READ, CNT_SNAPSHOT (R117 to R122) -/

@[simp] theorem bodySecySet_pending_mem {s : State} {n} {i} {w} :
    (bodySecySet n i w s).1.pending = s.pending ∧ (bodySecySet n i w s).1.mem = s.mem := by
  unfold bodySecySet
  grind [appSecySet_pending_mem]

@[simp] theorem bodySecyDelete_pending_mem {s : State} {n} {i} {w} :
    (bodySecyDelete n i w s).1.pending = s.pending ∧ (bodySecyDelete n i w s).1.mem = s.mem := by
  unfold bodySecyDelete
  grind [appSecyDelete_pending_mem]

@[simp] theorem bodyLtRead_pending {s : State} {n} {i} {w} : (bodyLtRead n i w s).1.pending = s.pending := by
  unfold bodyLtRead
  grind [writeSnap_pending]

@[simp] theorem bodyLtRead_memOk {s : State} {n} {i} {w} (h : MemOk s.mem) : MemOk (bodyLtRead n i w s).1.mem := by
  unfold bodyLtRead
  grind [writeSnap_memOk]

@[simp] theorem bodyCntSnapshot_pending {s : State} {n} {i} {w} : (bodyCntSnapshot n i w s).1.pending = s.pending := by
  unfold bodyCntSnapshot
  grind [writeSnap_pending]

@[simp] theorem bodyCntSnapshot_memOk {s : State} {n} {i} {w} (h : MemOk s.mem) : MemOk (bodyCntSnapshot n i w s).1.mem := by
  unfold bodyCntSnapshot
  grind [writeSnap_memOk]

/-! ### Commit groups (R57 to R66) -/

@[simp] theorem memberApp_pending_mem {s : State} {plan} {w} :
    (memberApp plan w s).1.pending = s.pending ∧ (memberApp plan w s).1.mem = s.mem := by
  unfold memberApp
  (repeat' split) <;> simp

@[simp] theorem stageLease_pending_mem {s : State} {n} {ms} {l} :
    (stageLease n ms l s).pending = s.pending ∧ (stageLease n ms l s).mem = s.mem := by
  unfold stageLease
  dsimp only
  split_ifs <;> simp

@[simp] theorem commitGroupStaging_pending_mem {s : State} {n} :
    (commitGroupStaging n s).pending = s.pending ∧ (commitGroupStaging n s).mem = s.mem := by
  unfold commitGroupStaging; dsimp only
  split_ifs
  · simp
  · split
    · next hg =>
      have h := onlySlt_stageAll_error hg
      simp [congrArg State.pending h, congrArg State.mem h]
    · next hg =>
      have h := onlySlt_stageAll_ok hg
      simp [congrArg State.pending h, congrArg State.mem h]
  · exact ⟨rfl, rfl⟩

@[simp] theorem finishMember_pending_mem {s : State} {n} {r} :
    (finishMember n r s).pending = s.pending ∧ (finishMember n r s).mem = s.mem := ⟨rfl, rfl⟩

@[simp] theorem commitMembers_pending_mem {s : State} {n} {g} {l} :
    (commitMembers n g l s).pending = s.pending ∧ (commitMembers n g l s).mem = s.mem := by
  induction l generalizing s with
  | nil => exact ⟨rfl, rfl⟩
  | cons e r ih => unfold commitMembers; simp [ih]

@[simp] theorem commitPoint_pending_mem {s : State} {n} :
    (commitPoint n s).pending = s.pending ∧ (commitPoint n s).mem = s.mem := by
  unfold commitPoint
  split <;> [split_ifs; skip] <;> simp

@[simp] theorem groupAlarm_pending_mem {s : State} : (groupAlarm s).pending = s.pending ∧ (groupAlarm s).mem = s.mem := by
  unfold groupAlarm
  split <;> simp

/-! ### Event rings (R78 to R80) -/

@[simp] theorem evPut_pending {s : State} {m} {e} : (evPut m e s).1.pending = s.pending := by
  unfold evPut
  grind [writeEntry_pending, evLose_pending_mem, setEvRing_leaves]

@[simp] theorem evPut_memOk {s : State} {m} {e} (h : MemOk s.mem) : MemOk (evPut m e s).1.mem := by
  unfold evPut
  grind [writeEntry_memOk, evLose_pending_mem, setEvRing_leaves]

@[simp] theorem evReport_pending {s : State} {m} : (evReport m s).pending = s.pending := by
  unfold evReport
  grind [evPut_pending, setEvRing_leaves]

@[simp] theorem evReport_memOk {s : State} {m} (h : MemOk s.mem) : MemOk (evReport m s).mem := by
  unfold evReport
  grind [evPut_memOk, setEvRing_leaves]

@[simp] theorem eventRingWrite_pending {s : State} {m} : (eventRingWrite m s).pending = s.pending := by
  unfold eventRingWrite
  dsimp only
  (repeat' split) <;> simp

@[simp] theorem eventRingWrite_memOk {s : State} {m} (h : MemOk s.mem) : MemOk (eventRingWrite m s).mem := by
  unfold eventRingWrite
  grind [evReport_memOk, evPut_memOk, setEvRing_leaves]

@[simp] theorem evFlush_pending {s : State} {k} {m} : (evFlush k m s).pending = s.pending := by
  induction k generalizing s with
  | zero => rfl
  | succ k ih => unfold evFlush; split_ifs <;> simp [ih]

@[simp] theorem evFlush_memOk {s : State} {k} {m} (h : MemOk s.mem) : MemOk (evFlush k m s).mem := by
  induction k generalizing s with
  | zero => exact h
  | succ k ih => unfold evFlush; split_ifs <;> simp [ih, h]

@[simp] theorem evFlushAll_pending {s : State} : (evFlushAll s).pending = s.pending := by simp [evFlushAll]

@[simp] theorem evFlushAll_memOk {s : State} (h : MemOk s.mem) : MemOk (evFlushAll s).mem :=
  foldl_memOk (fun _ _ h => evFlush_memOk h) _ h

@[simp] theorem evtRingCtrl_pending_mem {s : State} {m} {v} :
    (evtRingCtrl m v s).pending = s.pending ∧ (evtRingCtrl m v s).mem = s.mem := by
  unfold evtRingCtrl
  dsimp only
  split_ifs <;> simp

@[simp] theorem evtRingHead_pending_mem {s : State} {m} {v} :
    (evtRingHead m v s).pending = s.pending ∧ (evtRingHead m v s).mem = s.mem := by
  unfold evtRingHead
  split <;> simp

@[simp] theorem evtPendClear_pending_mem {s : State} {b} {v} :
    (evtPendClear b v s).pending = s.pending ∧ (evtPendClear b v s).mem = s.mem := by
  unfold evtPendClear
  split <;> simp

@[simp] theorem evtForce_pending_mem {s : State} {b} {v} :
    (evtForce b v s).pending = s.pending ∧ (evtForce b v s).mem = s.mem := by
  unfold evtForce
  split <;> simp

@[simp] theorem logWrite_pending_mem {s : State} : (logWrite s).pending = s.pending ∧ (logWrite s).mem = s.mem := by
  unfold logWrite
  dsimp only
  (repeat' split) <;> simp

@[simp] theorem logRdIdx_pending_mem {s : State} {v} :
    (logRdIdx v s).pending = s.pending ∧ (logRdIdx v s).mem = s.mem := ⟨rfl, rfl⟩

@[simp] theorem logCtrlAck_pending_mem {s : State} : (logCtrlAck s).pending = s.pending ∧ (logCtrlAck s).mem = s.mem := ⟨rfl, rfl⟩

@[simp] theorem bodyLogDump_pending {s : State} {n} {i} {w} : (bodyLogDump n i w s).1.pending = s.pending := by
  unfold bodyLogDump
  grind [memWriteWords_pending]

@[simp] theorem bodyLogDump_memOk {s : State} {n} {i} {w} (h : MemOk s.mem) : MemOk (bodyLogDump n i w s).1.mem := by
  unfold bodyLogDump
  grind [memWriteWords_memOk]

/-! ### Tamper -/

@[simp] theorem patWindow_pending_mem {s : State} : (patWindow s).pending = s.pending ∧ (patWindow s).mem = s.mem := by
  unfold patWindow
  dsimp only
  split <;> simp

@[simp] theorem showClass_pending_mem {s : State} {k} {cls} {peer} :
    (showClass k cls peer s).pending = s.pending ∧ (showClass k cls peer s).mem = s.mem := by
  unfold showClass
  split <;> simp

@[simp] theorem loopOff_pending_mem {s : State} {k} : (loopOff k s).pending = s.pending ∧ (loopOff k s).mem = s.mem := ⟨rfl, rfl⟩

@[simp] theorem loopStep_pending_mem {s : State} {drv} {sns} {k} :
    (loopStep drv sns k s).1.pending = s.pending ∧ (loopStep drv sns k s).1.mem = s.mem := by
  unfold loopStep
  dsimp only
  split_ifs <;> simp

@[simp] theorem loopWindowEnd_pending_mem {s : State} {sns} :
    (loopWindowEnd sns s).pending = s.pending ∧ (loopWindowEnd sns s).mem = s.mem := by
  unfold loopWindowEnd
  dsimp only
  split_ifs <;> simp

@[simp] theorem shieldEvaluate_pending_mem {s : State} {sns} :
    (shieldEvaluate sns s).pending = s.pending ∧ (shieldEvaluate sns s).mem = s.mem := by
  unfold shieldEvaluate
  dsimp only
  split_ifs <;> simp

@[simp] theorem clockGlitch_pending_mem {s : State} {freq} :
    (clockGlitch freq s).pending = s.pending ∧ (clockGlitch freq s).mem = s.mem := by
  unfold clockGlitch
  split <;> simp

@[simp] theorem clockFaultClear_pending_mem {s : State} :
    (clockFaultClear s).pending = s.pending ∧ (clockFaultClear s).mem = s.mem := by
  unfold clockFaultClear
  split <;> simp

@[simp] theorem temperatureSample_pending_mem {s : State} {code} :
    (temperatureSample code s).pending = s.pending ∧ (temperatureSample code s).mem = s.mem := by
  unfold temperatureSample temperatureSample.tempStep; dsimp only; split_ifs <;> simp

@[simp] theorem temperatureSample_tempStep_pending_mem {s : State} {code} :
    (temperatureSample.tempStep code s).pending = s.pending ∧ (temperatureSample.tempStep code s).mem = s.mem := by
  unfold temperatureSample.tempStep
  dsimp only
  split_ifs <;> simp

@[simp] theorem egAlarm_pending_mem {s : State} : (egAlarm s).pending = s.pending ∧ (egAlarm s).mem = s.mem :=
  foldl_pending_mem fun s p => by split_ifs <;> simp

@[simp] theorem igAlarm_pending_mem {s : State} : (igAlarm s).pending = s.pending ∧ (igAlarm s).mem = s.mem := by simp [igAlarm]

@[simp] theorem jobAlarm_pending {s : State} : (jobAlarm s).pending = s.pending :=
  foldl_pending (fun s p => by split <;> simp) _ _

@[simp] theorem jobAlarm_memOk {s : State} (h : MemOk s.mem) : MemOk (jobAlarm s).mem :=
  foldl_memOk (fun s p h => by split <;> simp [h]) _ h

@[simp] theorem domeOpsAlarm_pending_mem {s : State} : (domeOpsAlarm s).pending = s.pending ∧ (domeOpsAlarm s).mem = s.mem :=
  foldl_pending_mem fun s n => foldl_pending_mem fun s e => by split_ifs <;> simp

@[simp] theorem alarmDome_pending_mem {s : State} {level} :
    (alarmDome level s).pending = s.pending ∧ (alarmDome level s).mem = s.mem := by
  unfold alarmDome
  split <;> simp

@[simp] theorem tamperResponse_pending {s : State} : (tamperResponse s).pending = s.pending := by
  unfold tamperResponse
  dsimp only
  split_ifs <;> simp

@[simp] theorem tamperResponse_memOk {s : State} (h : MemOk s.mem) : MemOk (tamperResponse s).mem := by
  unfold tamperResponse
  grind [alarmDome_pending_mem, noteResponse_pending_mem, bumpRetcnt_leaves, rsetFld_leaves, domeOpsAlarm_pending_mem, stcAlarm_pending_mem, jobAlarm_memOk, igAlarm_pending_mem, egAlarm_pending_mem, groupAlarm_pending_mem, belfryClear_pending_mem, cacheDrop_pending_mem, emptySlots_pending_mem]

@[simp] theorem tamperEraseDone_pending_mem {s : State} :
    (tamperEraseDone s).pending = s.pending ∧ (tamperEraseDone s).mem = s.mem := by
  unfold tamperEraseDone
  split <;> simp

/-! ### SpirePort -/

@[simp] theorem endTag_pending_mem {s : State} {t} {r} : (endTag t r s).pending = s.pending ∧ (endTag t r s).mem = s.mem := by
  unfold endTag
  split <;> simp

@[simp] theorem dropHold_pending_mem {s : State} {t} : (dropHold t s).pending = s.pending ∧ (dropHold t s).mem = s.mem := by
  unfold dropHold
  split <;> [split_ifs; skip] <;> simp

@[simp] theorem discardPkt_pending_mem {s : State} {p} {k} {own} {fwd} :
    (discardPkt p k own fwd s).pending = s.pending ∧ (discardPkt p k own fwd s).mem = s.mem := by
  unfold discardPkt
  (repeat' split) <;> simp

@[simp] theorem toDetect_pending_mem {s : State} {p} {at_} :
    (toDetect p at_ s).pending = s.pending ∧ (toDetect p at_ s).mem = s.mem := ⟨rfl, rfl⟩

@[simp] theorem startTraining_pending_mem {s : State} {p} :
    (startTraining p s).pending = s.pending ∧ (startTraining p s).mem = s.mem := by
  unfold startTraining
  split <;> simp

@[simp] theorem linkDown_pending_mem {s : State} {p} {cause} :
    (linkDown p cause s).pending = s.pending ∧ (linkDown p cause s).mem = s.mem := by
  unfold linkDown; dsimp only
  split_ifs
  · exact ⟨rfl, rfl⟩
  all_goals
    simp only [startTraining_pending_mem, mirrorPortDown_pending_mem]
    rw [foldl_pending fun s t => by (repeat' split) <;> simp, foldl_mem fun s t => by (repeat' split) <;> simp]
    simp

@[simp] theorem startRetrain_pending_mem {s : State} {p} {cause} :
    (startRetrain p cause s).pending = s.pending ∧ (startRetrain p cause s).mem = s.mem := by
  unfold startRetrain
  dsimp only
  split_ifs <;> simp

@[simp] theorem takeNodeId_pending_mem {s : State} : (takeNodeId s).pending = s.pending ∧ (takeNodeId s).mem = s.mem := by
  unfold takeNodeId
  dsimp only
  split <;> simp

@[simp] theorem toActive_pending_mem {s : State} {p} {gen2} :
    (toActive p gen2 s).pending = s.pending ∧ (toActive p gen2 s).mem = s.mem := by
  unfold toActive
  dsimp only
  split_ifs <;> simp

@[simp] theorem configDone_pending_mem {s : State} {p} {w} {lanes} :
    (configDone p w lanes s).pending = s.pending ∧ (configDone p w lanes s).mem = s.mem := by
  unfold configDone
  dsimp only
  split <;> simp

@[simp] theorem trainingSetReceive_pending_mem {s : State} {p} {w} :
    (trainingSetReceive p w s).pending = s.pending ∧ (trainingSetReceive p w s).mem = s.mem := by
  constructor <;> grind [trainingSetReceive, startRetrain_pending_mem, setSport_leaves, configDone_pending_mem, toActive_pending_mem]

@[simp] theorem receiverDetectDone_pending_mem {s : State} {p} {l} {present} :
    (receiverDetectDone p l present s).pending = s.pending ∧ (receiverDetectDone p l present s).mem = s.mem := by
  unfold receiverDetectDone
  dsimp only
  split_ifs <;> simp

@[simp] theorem splRateAck_pending_mem {s : State} {p} : (splRateAck p s).pending = s.pending ∧ (splRateAck p s).mem = s.mem := by
  unfold splRateAck
  dsimp only
  split <;> simp

@[simp] theorem trainingTimeout_pending_mem {s : State} {p} :
    (trainingTimeout p s).pending = s.pending ∧ (trainingTimeout p s).mem = s.mem := by
  unfold trainingTimeout
  dsimp only
  split_ifs <;> simp

@[simp] theorem laneLockChange_pending_mem {s : State} {p} {locked} :
    (laneLockChange p locked s).pending = s.pending ∧ (laneLockChange p locked s).mem = s.mem := by
  unfold laneLockChange
  dsimp only
  split_ifs <;> simp

@[simp] theorem lockLossTimeout_pending_mem {s : State} {p} :
    (lockLossTimeout p s).pending = s.pending ∧ (lockLossTimeout p s).mem = s.mem := by
  unfold lockLossTimeout
  split <;> [split_ifs; skip] <;> simp

@[simp] theorem retrainTimeout_pending_mem {s : State} {p} :
    (retrainTimeout p s).pending = s.pending ∧ (retrainTimeout p s).mem = s.mem := by
  unfold retrainTimeout
  dsimp only
  split <;> simp

@[simp] theorem gen2FramingError_pending_mem {s : State} {p} :
    (gen2FramingError p s).pending = s.pending ∧ (gen2FramingError p s).mem = s.mem := by
  unfold gen2FramingError
  split <;> simp

@[simp] theorem gen1FramingResync_pending_mem {s : State} {p} :
    (gen1FramingResync p s).pending = s.pending ∧ (gen1FramingResync p s).mem = s.mem := by
  unfold gen1FramingResync
  split <;> simp

@[simp] theorem splPortEnable_pending_mem {s : State} {p} :
    (splPortEnable p s).pending = s.pending ∧ (splPortEnable p s).mem = s.mem := by
  unfold splPortEnable
  split <;> simp

@[simp] theorem splPortDisable_pending_mem {s : State} {p} :
    (splPortDisable p s).pending = s.pending ∧ (splPortDisable p s).mem = s.mem := by
  unfold splPortDisable
  split <;> simp

@[simp] theorem splRetrainRequest_pending_mem {s : State} {p} :
    (splRetrainRequest p s).pending = s.pending ∧ (splRetrainRequest p s).mem = s.mem := by
  unfold splRetrainRequest
  split <;> simp

@[simp] theorem onLine_pending_mem {s : State} {p} {v} {seq} {k} :
    (onLine p v seq k s).pending = s.pending ∧ (onLine p v seq k s).mem = s.mem := ⟨rfl, rfl⟩

@[simp] theorem stampTime_pending_mem {s : State} {k} :
    (stampTime k s).1.pending = s.pending ∧ (stampTime k s).1.mem = s.mem := by
  unfold stampTime
  split_ifs <;> simp

@[simp] theorem sendNew_pending_mem {s : State} {p} {q} : (sendNew p q s).pending = s.pending ∧ (sendNew p q s).mem = s.mem := by
  unfold sendNew
  dsimp only
  split <;> simp

@[simp] theorem splPacketSend_pending_mem {s : State} {p} :
    (splPacketSend p s).pending = s.pending ∧ (splPacketSend p s).mem = s.mem := by
  unfold splPacketSend
  dsimp only
  (repeat' split) <;> simp

@[simp] theorem replayTimeout_pending_mem {s : State} {p} :
    (replayTimeout p s).pending = s.pending ∧ (replayTimeout p s).mem = s.mem := by
  unfold replayTimeout
  dsimp only
  split_ifs <;> simp

@[simp] theorem ackTimer_pending_mem {s : State} {p} : (ackTimer p s).pending = s.pending ∧ (ackTimer p s).mem = s.mem := by
  unfold ackTimer
  dsimp only
  split <;> simp

@[simp] theorem takeAck_pending_mem {s : State} {p} {ack} {x2} :
    (takeAck p ack x2 s).pending = s.pending ∧ (takeAck p ack x2 s).mem = s.mem := by
  unfold takeAck
  dsimp only
  split_ifs <;> simp

@[simp] theorem accept_pending_mem {s : State} {p} {r} :
    (accept p r s).pending = s.pending ∧ (accept p r s).mem = s.mem := by simp [accept]

@[simp] theorem linkErr_pending_mem {s : State} {p} : (linkErr p s).pending = s.pending ∧ (linkErr p s).mem = s.mem := by
  unfold linkErr
  dsimp only
  split <;> simp

@[simp] theorem cntDrop_pending_mem {s : State} {p} {i} :
    (cntDrop p i s).pending = s.pending ∧ (cntDrop p i s).mem = s.mem := ⟨rfl, rfl⟩

@[simp] theorem packetDiscard_pending_mem {s : State} {p} {w} :
    (packetDiscard p w s).pending = s.pending ∧ (packetDiscard p w s).mem = s.mem := by
  unfold packetDiscard
  dsimp only
  split_ifs <;> simp

@[simp] theorem ackReceive_pending_mem {s : State} {p} {w} :
    (ackReceive p w s).pending = s.pending ∧ (ackReceive p w s).mem = s.mem := by
  unfold ackReceive
  dsimp only
  split <;> simp

@[simp] theorem splForward_pending_mem {s : State} {p} {w} :
    (splForward p w s).pending = s.pending ∧ (splForward p w s).mem = s.mem := by
  unfold splForward
  dsimp only
  (repeat' split) <;> simp

/-! ### Power -/

@[simp] theorem raiseState_pending_mem {s : State} {prev} :
    (raiseState prev s).pending = s.pending ∧ (raiseState prev s).mem = s.mem := ⟨rfl, rfl⟩

@[simp] theorem pwrRefuse_pending_mem {s : State} {req} {cause} :
    (pwrRefuse req cause s).pending = s.pending ∧ (pwrRefuse req cause s).mem = s.mem := ⟨rfl, rfl⟩

@[simp] theorem spireResetRegs_pending_mem {s : State} :
    (spireResetRegs s).pending = s.pending ∧ (spireResetRegs s).mem = s.mem := by
  unfold spireResetRegs
  split <;> simp

@[simp] theorem domeUp_pending_mem {s : State} : (domeUp s).pending = s.pending ∧ (domeUp s).mem = s.mem := by
  unfold domeUp
  dsimp only
  split_ifs <;> simp

@[simp] theorem domainUp_pending_mem {s : State} {d} : (domainUp d s).pending = s.pending ∧ (domainUp d s).mem = s.mem := by
  unfold domainUp
  split_ifs <;> simp

@[simp] theorem disarmTimed_pending_mem {s : State} : (disarmTimed s).pending = s.pending ∧ (disarmTimed s).mem = s.mem :=
  foldl_pending_mem fun s y => by split <;> simp

@[simp] theorem launchesLost_pending_mem {s : State} : (launchesLost s).pending = s.pending ∧ (launchesLost s).mem = s.mem :=
  foldl_pending_mem fun s p => by split_ifs <;> simp

@[simp] theorem towersDown_pending_mem {s : State} {ts} :
    (towersDown ts s).pending = s.pending ∧ (towersDown ts s).mem = s.mem := by simp [towersDown]

@[simp] theorem pipeDown_pending_mem {s : State} :
    (pipeDown s).pending = s.pending ∧ (pipeDown s).mem = s.mem := by simp [pipeDown]

@[simp] theorem domeDown_pending_mem {s : State} {retain} :
    (domeDown retain s).pending = s.pending ∧ (domeDown retain s).mem = s.mem := by
  unfold domeDown
  split <;> simp

@[simp] theorem pendToAon_pending_mem {s : State} : (pendToAon s).pending = s.pending ∧ (pendToAon s).mem = s.mem := by
  unfold pendToAon
  split <;> simp

@[simp] theorem domainDown_pending {s : State} {d} : (domainDown d s).pending = s.pending := by
  unfold domainDown
  split_ifs <;> simp

@[simp] theorem domainDown_memOk {s : State} {d} (h : MemOk s.mem) : MemOk (domainDown d s).mem := by
  unfold domainDown
  grind [domeDown_pending_mem, takeTokens_pending_mem, evFlushAll_memOk, dropRegs_leaves, pipeDown_pending_mem, towersDown_pending_mem, launchesLost_pending_mem, disarmTimed_pending_mem, modPwr_leaves, pendToAon_pending_mem]

@[simp] theorem closeSwitch_pending_mem {s : State} {d} {rest} :
    (closeSwitch d rest s).pending = s.pending ∧ (closeSwitch d rest s).mem = s.mem := ⟨rfl, rfl⟩

@[simp] theorem openSwitch_pending {s : State} {d} {rest} : (openSwitch d rest s).pending = s.pending := by simp [openSwitch]

@[simp] theorem openSwitch_memOk {s : State} {d} {rest} (h : MemOk s.mem) : MemOk (openSwitch d rest s).mem := by
  unfold openSwitch
  grind [domainDown_memOk, modPwr_leaves]

@[simp] theorem stopRings_pending_mem {s : State} :
    (stopRings s).pending = s.pending ∧ (stopRings s).mem = s.mem := by simp [stopRings]

@[simp] theorem beforeOpen_pending_mem {s : State} {d} : (beforeOpen d s).pending = s.pending ∧ (beforeOpen d s).mem = s.mem := by
  unfold beforeOpen
  split <;> simp

@[simp] theorem transEnd_pending_mem {s : State} : (transEnd s).pending = s.pending ∧ (transEnd s).mem = s.mem := by
  unfold transEnd
  dsimp only
  (repeat' split) <;> simp

@[simp] theorem movePower_pending {s : State} {fuel} : (movePower fuel s).pending = s.pending := by
  induction fuel generalizing s with
  | zero => rfl
  | succ k ih =>
    unfold movePower
    split
    · rfl
    · split
      · simp
      · split_ifs <;> simp [ih]
      · dsimp only; split_ifs <;> simp [ih]

@[simp] theorem movePower_memOk {s : State} {fuel} (h : MemOk s.mem) : MemOk (movePower fuel s).mem := by
  induction fuel generalizing s with
  | zero => exact h
  | succ k ih =>
    unfold movePower
    split
    · exact h
    · split
      · simp [h]
      · split_ifs <;> simp [ih, h]
      · dsimp only; split_ifs <;> simp [ih, h]

@[simp] theorem pwrSwitchStagger_pending_mem {s : State} :
    (pwrSwitchStagger s).pending = s.pending ∧ (pwrSwitchStagger s).mem = s.mem := ⟨rfl, rfl⟩

@[simp] theorem pwrSwAck_pending_mem {s : State} {d} : (pwrSwAck d s).pending = s.pending ∧ (pwrSwAck d s).mem = s.mem := by
  unfold pwrSwAck
  split <;> [split_ifs; skip] <;> simp

@[simp] theorem pwrAckTimeout_pending_mem {s : State} {d} :
    (pwrAckTimeout d s).pending = s.pending ∧ (pwrAckTimeout d s).mem = s.mem := by
  unfold pwrAckTimeout
  split <;> [split_ifs; skip] <;> simp

@[simp] theorem towersLeave_pending_mem {s : State} {offs} :
    (towersLeave offs s).pending = s.pending ∧ (towersLeave offs s).mem = s.mem := by
  unfold towersLeave
  split_ifs <;> simp

@[simp] theorem pwrDomainWrite_pending_mem {s : State} {v} :
    (pwrDomainWrite v s).pending = s.pending ∧ (pwrDomainWrite v s).mem = s.mem := by
  unfold pwrDomainWrite
  dsimp only
  (repeat' split) <;> simp

@[simp] theorem abortRing_pending_mem {s : State} {d} {n} :
    (abortRing d n s).pending = s.pending ∧ (abortRing d n s).mem = s.mem := by
  unfold abortRing; dsimp only
  split
  · exact foldl_pending_mem fun s e => by (repeat' split) <;> simp
  · split
    · simp only [modRing_leaves]
      exact foldl_pending_mem fun s e => by (repeat' split) <;> simp
    · simp only [raise_leaves, reserveMembers_pending_mem, modRing_leaves]
      split
      · split
        · simp only [dropStaging_pending_mem]
          exact foldl_pending_mem fun s e => by (repeat' split) <;> simp
        · exact foldl_pending_mem fun s e => by (repeat' split) <;> simp
      · exact foldl_pending_mem fun s e => by (repeat' split) <;> simp

@[simp] theorem abortJobs_pending {s : State} : (abortJobs s).pending = s.pending := by
  unfold abortJobs
  split_ifs
  · rfl
  · exact foldl_pending (fun s p => by split <;> simp) _ _

@[simp] theorem abortJobs_memOk {s : State} (h : MemOk s.mem) : MemOk (abortJobs s).mem := by
  unfold abortJobs
  split_ifs
  · exact h
  · exact foldl_memOk (fun s p h => by split <;> simp [h]) _ h

@[simp] theorem domainDrainDone_pending {s : State} : (domainDrainDone s).pending = s.pending := by
  unfold domainDrainDone
  (repeat' split) <;> simp

@[simp] theorem domainDrainDone_memOk {s : State} (h : MemOk s.mem) : MemOk (domainDrainDone s).mem := by
  unfold domainDrainDone; dsimp only; (repeat' split) <;> simp [h]

@[simp] theorem pwrReqIdle_pending_mem {s : State} : (pwrReqIdle s).pending = s.pending ∧ (pwrReqIdle s).mem = s.mem := by
  unfold pwrReqIdle
  dsimp only
  split_ifs <;> simp

@[simp] theorem pwrReqRun_pending_mem {s : State} :
    (pwrReqRun s).pending = s.pending ∧ (pwrReqRun s).mem = s.mem := by simp [pwrReqRun]

@[simp] theorem idleExit_pending_mem {s : State} : (idleExit s).pending = s.pending ∧ (idleExit s).mem = s.mem := by
  unfold idleExit
  split <;> simp

@[simp] theorem idleRangeAccess_pending_mem {s : State} {off} :
    (idleRangeAccess off s).pending = s.pending ∧ (idleRangeAccess off s).mem = s.mem := by
  unfold idleRangeAccess
  split <;> simp

@[simp] theorem startEntry_pending_mem {s : State} {toOff} :
    (startEntry toOff s).pending = s.pending ∧ (startEntry toOff s).mem = s.mem := by
  unfold startEntry
  dsimp only
  split <;> simp

@[simp] theorem retainToOff_pending_mem {s : State} : (retainToOff s).pending = s.pending ∧ (retainToOff s).mem = s.mem := by
  unfold retainToOff
  dsimp only
  split <;> simp

@[simp] theorem pwrReqRetain_pending_mem {s : State} : (pwrReqRetain s).pending = s.pending ∧ (pwrReqRetain s).mem = s.mem := by
  unfold pwrReqRetain
  (repeat' split) <;> simp

@[simp] theorem pwrReqOff_pending_mem {s : State} : (pwrReqOff s).pending = s.pending ∧ (pwrReqOff s).mem = s.mem := by
  unfold pwrReqOff
  (repeat' split) <;> simp

@[simp] theorem writeImage_pending {s : State} : (writeImage s).1.pending = s.pending := by simp [writeImage]

@[simp] theorem writeImage_memOk {s : State} (h : MemOk s.mem) : MemOk (writeImage s).1.mem := by
  unfold writeImage
  grind [drbgGen_pending_mem, freeBytes_pending_mem, memWrite_memOk]

@[simp] theorem entrySwitches_pending_mem {s : State} :
    (entrySwitches s).pending = s.pending ∧ (entrySwitches s).mem = s.mem := by
  unfold entrySwitches
  split <;> simp

@[simp] theorem entryDrainDone_pending {s : State} : (entryDrainDone s).pending = s.pending := by
  unfold entryDrainDone
  grind [stopRings_pending_mem, bumpRetcnt_leaves, modPwr_leaves, writeImage_pending, pwrRefuse_pending_mem, rsetFld_leaves, entrySwitches_pending_mem, raise_leaves]

@[simp] theorem entryDrainDone_memOk {s : State} (h : MemOk s.mem) : MemOk (entryDrainDone s).mem := by
  unfold entryDrainDone
  grind [stopRings_pending_mem, bumpRetcnt_leaves, modPwr_leaves, writeImage_memOk, pwrRefuse_pending_mem, rsetFld_leaves, entrySwitches_pending_mem, raise_leaves]

@[simp] theorem vchWake_pending_mem {s : State} {level} :
    (vchWake level s).pending = s.pending ∧ (vchWake level s).mem = s.mem := by
  unfold vchWake
  dsimp only
  split <;> simp

@[simp] theorem pwrCtxRestore_pending_mem {s : State} :
    (pwrCtxRestore s).pending = s.pending ∧ (pwrCtxRestore s).mem = s.mem := by
  unfold pwrCtxRestore
  dsimp only
  split_ifs <;> simp

@[simp] theorem pwrCtxDiscard_pending_mem {s : State} :
    (pwrCtxDiscard s).pending = s.pending ∧ (pwrCtxDiscard s).mem = s.mem := ⟨rfl, rfl⟩

@[simp] theorem contextRestoreStart_pending_mem {s : State} :
    (contextRestoreStart s).pending = s.pending ∧ (contextRestoreStart s).mem = s.mem := by
  unfold contextRestoreStart
  dsimp only
  (repeat' split) <;> simp

@[simp] theorem loadSaved_pending_mem {s : State} {v} : (loadSaved v s).pending = s.pending ∧ (loadSaved v s).mem = s.mem := by
  unfold loadSaved; dsimp only
  constructor
  · refine (foldl_pending (fun s p => by split <;> simp) _ _).trans ?_; simp
  · refine (foldl_mem (fun s p => by split <;> simp) _ _).trans ?_; simp

@[simp] theorem restoreTx_pending_mem {sa} {x : State × Nat} :
    (restoreTx sa x).1.pending = x.1.pending ∧ (restoreTx sa x).1.mem = x.1.mem := by
  unfold restoreTx; dsimp only; split_ifs <;> simp

@[simp] theorem foldl_restoreTx_pending_mem {l : List Nat} {x : State × Nat} :
    (l.foldl (fun x sa => restoreTx sa x) x).1.pending = x.1.pending ∧ (l.foldl (fun x sa => restoreTx sa x) x).1.mem = x.1.mem := by
  induction l generalizing x with
  | nil => exact ⟨rfl, rfl⟩
  | cons a r ih =>
    rw [List.foldl_cons]
    exact ⟨ih.1.trans restoreTx_pending_mem.1, ih.2.trans restoreTx_pending_mem.2⟩

@[simp] theorem contextRestoreDone_pending_mem {s : State} :
    (contextRestoreDone s).pending = s.pending ∧ (contextRestoreDone s).mem = s.mem := by
  unfold contextRestoreDone; dsimp only; (repeat' split) <;> simp

@[simp] theorem drbgFail_pending_mem {s : State} {test} {permanent} :
    (drbgFail test permanent s).pending = s.pending ∧ (drbgFail test permanent s).mem = s.mem := ⟨rfl, rfl⟩

@[simp] theorem drbgHealthFail_pending_mem {s : State} :
    (drbgHealthFail s).pending = s.pending ∧ (drbgHealthFail s).mem = s.mem := by
  unfold drbgHealthFail
  split <;> simp

@[simp] theorem restartFailed_pending_mem {s : State} :
    (restartFailed s).pending = s.pending ∧ (restartFailed s).mem = s.mem := ⟨rfl, rfl⟩

@[simp] theorem drbgRestartDone_pending_mem {s : State} {pass} :
    (drbgRestartDone pass s).pending = s.pending ∧ (drbgRestartDone pass s).mem = s.mem := by
  unfold drbgRestartDone
  split_ifs <;> simp

@[simp] theorem drbgStartupDone_pending_mem {s : State} {pass} :
    (drbgStartupDone pass s).pending = s.pending ∧ (drbgStartupDone pass s).mem = s.mem := by
  unfold drbgStartupDone
  dsimp only
  split_ifs <;> simp

@[simp] theorem remaskSlots_pending_mem {s : State} :
    (remaskSlots s).pending = s.pending ∧ (remaskSlots s).mem = s.mem := by simp [remaskSlots]

@[simp] theorem remaskDone_pending_mem {s : State} : (remaskDone s).pending = s.pending ∧ (remaskDone s).mem = s.mem := by
  unfold remaskDone
  dsimp only
  split_ifs <;> simp

/-! ### RegAccess -/

@[simp] theorem readClear_pending_mem {s : State} {off} :
    (readClear off s).pending = s.pending ∧ (readClear off s).mem = s.mem := by
  unfold readClear
  split <;> simp

@[simp] theorem latchRead_pending_mem {s : State} {off} :
    (latchRead off s).pending = s.pending ∧ (latchRead off s).mem = s.mem := by
  unfold latchRead
  split_ifs <;> simp

@[simp] theorem regReadFull_pending_mem {s : State} {off} :
    (regReadFull off s).1.pending = s.pending ∧ (regReadFull off s).1.mem = s.mem := by simp [regReadFull]

@[simp] theorem regStore_pending_mem {s : State} {off} {v} :
    (regStore off v s).pending = s.pending ∧ (regStore off v s).mem = s.mem := ⟨rfl, rfl⟩

@[simp] theorem ringCtrlWrite_pending_mem {s : State} {n} {v} :
    (ringCtrlWrite n v s).pending = s.pending ∧ (ringCtrlWrite n v s).mem = s.mem := by
  unfold ringCtrlWrite
  split_ifs <;> simp

@[simp] theorem tmpCtrlWrite_pending_mem {s : State} {v} :
    (tmpCtrlWrite v s).pending = s.pending ∧ (tmpCtrlWrite v s).mem = s.mem := by
  constructor <;> grind [tmpCtrlWrite, regStore_pending_mem, loopOff_pending_mem]

@[simp] theorem splNodeWrite_pending_mem {s : State} {v} :
    (splNodeWrite v s).pending = s.pending ∧ (splNodeWrite v s).mem = s.mem := by
  unfold splNodeWrite
  dsimp only
  split_ifs <;> simp

@[simp] theorem spCtrlWrite_pending_mem {s : State} {p} {v} :
    (spCtrlWrite p v s).pending = s.pending ∧ (spCtrlWrite p v s).mem = s.mem := by
  unfold spCtrlWrite
  split_ifs <;> simp

/-! ### The Time Unit (R374 to R402) -/

@[simp] theorem syncRestart_pending_mem {s was : State} :
    (syncRestart was s).pending = s.pending ∧ (syncRestart was s).mem = s.mem := by
  unfold syncRestart; split_ifs <;> simp

/-! ### RegAccess -/

@[simp] theorem syncCtrlWrite_pending_mem {s : State} {v} :
    (syncCtrlWrite v s).pending = s.pending ∧ (syncCtrlWrite v s).mem = s.mem := by
  unfold syncCtrlWrite; dsimp only; split_ifs <;> simp

@[simp] theorem pwrReqWrite_pending_mem {s : State} {v} :
    (pwrReqWrite v s).pending = s.pending ∧ (pwrReqWrite v s).mem = s.mem := by
  unfold pwrReqWrite
  split <;> simp

@[simp] theorem ctxCtrlWrite_pending_mem {s : State} {v} :
    (ctxCtrlWrite v s).pending = s.pending ∧ (ctxCtrlWrite v s).mem = s.mem := by
  unfold ctxCtrlWrite
  split_ifs <;> simp

@[simp] theorem logCtrlWrite_pending_mem {s : State} {v} :
    (logCtrlWrite v s).pending = s.pending ∧ (logCtrlWrite v s).mem = s.mem := by
  unfold logCtrlWrite
  split <;> simp

@[simp] theorem doorbell_pending_mem {s : State} {sq} {n} {v} :
    (doorbell sq n v s).pending = s.pending ∧ (doorbell sq n v s).mem = s.mem := by
  unfold doorbell
  split <;> simp

@[simp] theorem regWrite_pending_mem {s : State} {off} {v} :
    (regWrite off v s).pending = s.pending ∧ (regWrite off v s).mem = s.mem := by
  unfold regWrite; (repeat' split) <;> simp

@[simp] theorem registerWrite_pending_mem {s : State} {off} {v} {full} :
    (registerWrite off v full s).pending = s.pending ∧ (registerWrite off v full s).mem = s.mem := by
  unfold registerWrite
  split <;> simp

@[simp] theorem setLock_pending_mem {s : State} {off} : (setLock off s).pending = s.pending ∧ (setLock off s).mem = s.mem := by
  unfold setLock
  split <;> simp

/-! ### Control -/

@[simp] theorem bodyNop_pending_mem {s : State} {n} {i} {w} :
    (bodyNop n i w s).1.pending = s.pending ∧ (bodyNop n i w s).1.mem = s.mem := by
  unfold bodyNop
  grind

@[simp] theorem bodyBarrier_pending_mem {s : State} {n} {i} {w} :
    (bodyBarrier n i w s).1.pending = s.pending ∧ (bodyBarrier n i w s).1.mem = s.mem := by
  unfold bodyBarrier
  grind

@[simp] theorem bodyRingStop_pending_mem {s : State} {n} {i} {w} :
    (bodyRingStop n i w s).1.pending = s.pending ∧ (bodyRingStop n i w s).1.mem = s.mem := by
  unfold bodyRingStop
  grind [stopRing_pending_mem]

@[simp] theorem bodySwEvent_pending_mem {s : State} {n} {i} {w} :
    (bodySwEvent n i w s).1.pending = s.pending ∧ (bodySwEvent n i w s).1.mem = s.mem := by
  unfold bodySwEvent
  grind [raise_leaves]

@[simp] theorem bodyCalSwitch_pending_mem {s : State} {n} {i} {w} :
    (bodyCalSwitch n i w s).1.pending = s.pending ∧ (bodyCalSwitch n i w s).1.mem = s.mem := by
  unfold bodyCalSwitch
  grind [appCalSwitch_pending_mem]

@[simp] theorem runWaits_pending {s : State} {op} {waits} {body : Body} {n} {i} (hp : ∀ w, (body n i w s).1.pending = s.pending) :
    (runWaits op waits body n i s).pending = s.pending := by
  unfold runWaits
  split
  · next e _ =>
    dsimp only
    split_ifs
    · rfl
    · have he := hp e.words
      split <;> simp_all
    · exact runDesc_pending fun w => by split_ifs <;> simp [hp]
  · rfl

@[simp] theorem runWaits_memOk {s : State} {op} {waits} {body : Body} {n} {i} (h : MemOk s.mem)
    (hm : ∀ w, MemOk (body n i w s).1.mem) : MemOk (runWaits op waits body n i s).mem := by
  unfold runWaits
  split
  · next e _ =>
    dsimp only
    split_ifs
    · exact h
    · have he := hm e.words
      split <;> simp_all
    · exact runDesc_memOk h fun w => by split_ifs <;> simp [hm, h]
  · exact h

@[simp] theorem clockOk_pending_mem {s : State} {bits} :
    (clockOk bits s).pending = s.pending ∧ (clockOk bits s).mem = s.mem := ⟨rfl, rfl⟩

/-! ### SpireTx -/

@[simp] theorem splRequest_pending_mem {s : State} {n} {i} {node} {use} {mk} :
    (splRequest n i node use mk s).1.pending = s.pending ∧ (splRequest n i node use mk s).1.mem = s.mem := by
  unfold splRequest
  (repeat' split) <;> simp

@[simp] theorem runSpl_pending {s : State} {op} {body : Body} {n} {i} (hp : ∀ w, (body n i w s).1.pending = s.pending) :
    (runSpl op body n i s).pending = s.pending := by
  unfold runSpl; split <;> simp [hp]

@[simp] theorem runSpl_mem {s : State} {op} {body : Body} {n} {i} (hm : ∀ w, (body n i w s).1.mem = s.mem) :
    (runSpl op body n i s).mem = s.mem := by
  unfold runSpl; split <;> simp [hm]

@[simp] theorem runSpl_memOk {s : State} {op} {body : Body} {n} {i} (h : MemOk s.mem) (hm : ∀ w, MemOk (body n i w s).1.mem) :
    MemOk (runSpl op body n i s).mem := by
  unfold runSpl; split <;> simp [h, hm]

@[simp] theorem bodySplRead_pending_mem {s : State} {n} {i} {w} :
    (bodySplRead n i w s).1.pending = s.pending ∧ (bodySplRead n i w s).1.mem = s.mem := by
  unfold bodySplRead
  grind [splRequest_pending_mem]

@[simp] theorem bodySplWrite_pending_mem {s : State} {n} {i} {w} :
    (bodySplWrite n i w s).1.pending = s.pending ∧ (bodySplWrite n i w s).1.mem = s.mem := by
  unfold bodySplWrite
  grind [enqueue_pending_mem, takeTag_pending_mem]

@[simp] theorem busRead_pending_mem {s : State} {off} :
    (busRead off s).1.pending = s.pending ∧ (busRead off s).1.mem = s.mem := by simp [busRead]

@[simp] theorem busWrite_pending_mem {s : State} {off} {v} :
    (busWrite off v s).pending = s.pending ∧ (busWrite off v s).mem = s.mem := by simp [busWrite]

@[simp] theorem busReads_pending_mem {s : State} {l} : (busReads l s).1.pending = s.pending ∧ (busReads l s).1.mem = s.mem := by
  induction l generalizing s with
  | nil => exact ⟨rfl, rfl⟩
  | cons o r ih => unfold busReads; simp [ih]

@[simp] theorem busWrites_pending_mem {s : State} {l} : (busWrites l s).pending = s.pending ∧ (busWrites l s).mem = s.mem := by
  induction l generalizing s with
  | nil => exact ⟨rfl, rfl⟩
  | cons o r ih => unfold busWrites; simp [ih]

@[simp] theorem maskWrite_pending_mem {s : State} {off} {data} {mask} :
    (maskWrite off data mask s).pending = s.pending ∧ (maskWrite off data mask s).mem = s.mem := by simp [maskWrite]

@[simp] theorem runOps_pending_mem {s : State} {l} {k} : (runOps l k s).1.pending = s.pending ∧ (runOps l k s).1.mem = s.mem := by
  induction l generalizing s k with
  | nil => exact ⟨rfl, rfl⟩
  | cons o r ih => unfold runOps; dsimp only; split_ifs <;> simp [ih]

@[simp] theorem bcastApply_pending_mem {s : State} {k} :
    (bcastApply k s).1.pending = s.pending ∧ (bcastApply k s).1.mem = s.mem := by
  unfold bcastApply
  dsimp only
  split_ifs <;> simp

@[simp] theorem gatherEnd_pending_mem {s : State} {g} : (gatherEnd g s).pending = s.pending ∧ (gatherEnd g s).mem = s.mem := by
  unfold gatherEnd
  split <;> [split_ifs; skip] <;> simp

@[simp] theorem setGathers_pending_mem {s : State} {l} :
    (setGathers l s).pending = s.pending ∧ (setGathers l s).mem = s.mem := ⟨rfl, rfl⟩

@[simp] theorem gatherBegin_pending_mem {s : State} {g} :
    (gatherBegin g s).pending = s.pending ∧ (gatherBegin g s).mem = s.mem := by
  unfold gatherBegin
  split <;> simp

@[simp] theorem bodySplBcast_pending_mem {s : State} {n} {i} {w} :
    (bodySplBcast n i w s).1.pending = s.pending ∧ (bodySplBcast n i w s).1.mem = s.mem := by
  unfold bodySplBcast; dsimp only; (repeat' split) <;> simp

@[simp] theorem bcastServe_pending_mem {s : State} {p} {k} :
    (bcastServe p k s).pending = s.pending ∧ (bcastServe p k s).mem = s.mem := by simp [bcastServe]

@[simp] theorem gatherCpl_pending_mem {s : State} {p} {k} {g} :
    (gatherCpl p k g s).pending = s.pending ∧ (gatherCpl p k g s).mem = s.mem := by
  unfold gatherCpl
  dsimp only
  split <;> simp

@[simp] theorem gatherTimeout_pending_mem {s : State} {key} :
    (gatherTimeout key s).pending = s.pending ∧ (gatherTimeout key s).mem = s.mem := by
  unfold gatherTimeout
  split <;> [split_ifs; skip] <;> simp

@[simp] theorem serveBus_pending_mem {s : State} {p} {k} :
    (serveBus p k s).pending = s.pending ∧ (serveBus p k s).mem = s.mem := by
  constructor <;> grind [serveBus, sendOwn_pending_mem, busReads_pending_mem, runOps_pending_mem, busWrites_pending_mem, bcastServe_pending_mem]

@[simp] theorem serveFar_pending_mem {s : State} {p} {k} :
    (serveFar p k s).pending = s.pending ∧ (serveFar p k s).mem = s.mem := by simp [serveFar]

@[simp] theorem reachBus_pending_mem {s : State} {p} {k} :
    (reachBus p k s).pending = s.pending ∧ (reachBus p k s).mem = s.mem := by
  unfold reachBus
  split <;> simp

theorem onPkt_pending_mem {s : State} {p} {ty} {w} {f : Pkt → State → State}
    (hf : ∀ k s, (f k s).pending = s.pending ∧ (f k s).mem = s.mem) :
    (onPkt p ty w f s).pending = s.pending ∧ (onPkt p ty w f s).mem = s.mem := by
  unfold onPkt; split <;> simp [hf]

theorem onSub_pending_mem {s : State} {p} {ty} {sub} {w} {f : Pkt → State → State}
    (hf : ∀ k s, (f k s).pending = s.pending ∧ (f k s).mem = s.mem) :
    (onSub p ty sub w f s).pending = s.pending ∧ (onSub p ty sub w f s).mem = s.mem := by
  unfold onSub; (repeat' split) <;> simp [hf]

@[simp] theorem rdReqReceive_pending_mem {s : State} {p} {w} :
    (rdReqReceive p w s).pending = s.pending ∧ (rdReqReceive p w s).mem = s.mem := onPkt_pending_mem fun k s => by simp

@[simp] theorem wrReceive_pending_mem {s : State} {p} {w} :
    (wrReceive p w s).pending = s.pending ∧ (wrReceive p w s).mem = s.mem := onPkt_pending_mem fun k s => by simp

@[simp] theorem bcastReceive_pending_mem {s : State} {p} {w} :
    (bcastReceive p w s).pending = s.pending ∧ (bcastReceive p w s).mem = s.mem := onPkt_pending_mem fun k s => by simp

@[simp] theorem withdraw_pending_mem {s : State} {t} :
    (withdraw t s).pending = s.pending ∧ (withdraw t s).mem = s.mem := by simp [withdraw]

@[simp] theorem lockReq_pending_mem {s : State} {p} {k} : (lockReq p k s).pending = s.pending ∧ (lockReq p k s).mem = s.mem := by
  unfold lockReq
  split <;> [split_ifs; skip] <;> simp

@[simp] theorem lockReqReceive_pending_mem {s : State} {p} {w} :
    (lockReqReceive p w s).pending = s.pending ∧ (lockReqReceive p w s).mem = s.mem := onPkt_pending_mem fun k s => by simp

@[simp] theorem bodySplLocked_pending_mem {s : State} {n} {i} {w} :
    (bodySplLocked n i w s).1.pending = s.pending ∧ (bodySplLocked n i w s).1.mem = s.mem := by
  unfold bodySplLocked
  grind [splRequest_pending_mem]

@[simp] theorem runLocked_pending_mem {s : State} {n} {i} :
    (runLocked n i s).pending = s.pending ∧ (runLocked n i s).mem = s.mem := by
  unfold runLocked
  split <;> simp

@[simp] theorem lockedCpl_pending_mem {s : State} {t} {w} {k} :
    (lockedCpl t w k s).pending = s.pending ∧ (lockedCpl t w k s).mem = s.mem := by
  constructor <;> grind [lockedCpl, dropHold_pending_mem, endTag_pending_mem, runOps_pending_mem]

@[simp] theorem lockTimeout_pending_mem {s : State} : (lockTimeout s).pending = s.pending ∧ (lockTimeout s).mem = s.mem := by
  unfold lockTimeout
  split <;> [split_ifs; skip] <;> simp

@[simp] theorem readCpl_pending {s : State} {t} {w} {k} : (readCpl t w k s).pending = s.pending := by
  unfold readCpl
  grind [endTag_pending_mem, memWriteWords_pending]

@[simp] theorem readCpl_memOk {s : State} {t} {w} {k} (h : MemOk s.mem) : MemOk (readCpl t w k s).mem := by
  unfold readCpl
  grind [endTag_pending_mem, memWriteWords_memOk]

@[simp] theorem ownCpl_pending {s : State} {p} {k} : (ownCpl p k s).pending = s.pending := by
  unfold ownCpl
  (repeat' split) <;> simp

@[simp] theorem ownCpl_memOk {s : State} {p} {k} (h : MemOk s.mem) : MemOk (ownCpl p k s).mem := by
  unfold ownCpl
  grind [cntDrop_pending_mem, endTag_pending_mem, readCpl_memOk, dropHold_pending_mem, lockedCpl_pending_mem]

@[simp] theorem cplTake_pending {s : State} {p} {k} : (cplTake p k s).pending = s.pending := by
  unfold cplTake
  (repeat' split) <;> simp

@[simp] theorem cplTake_memOk {s : State} {p} {k} (h : MemOk s.mem) : MemOk (cplTake p k s).mem := by
  unfold cplTake
  grind [ownCpl_memOk, gatherCpl_pending_mem]

@[simp] theorem cplReceive_pending {s : State} {p} {w} : (cplReceive p w s).pending = s.pending := by
  unfold cplReceive onPkt; split <;> simp

@[simp] theorem cplReceive_memOk {s : State} {p} {w} (h : MemOk s.mem) : MemOk (cplReceive p w s).mem := by
  unfold cplReceive onPkt; split <;> simp [h]

@[simp] theorem requestTimeout_pending_mem {s : State} {t} :
    (requestTimeout t s).pending = s.pending ∧ (requestTimeout t s).mem = s.mem := by
  unfold requestTimeout
  split <;> [split_ifs; skip] <;> simp

@[simp] theorem errNoticeReceive_pending_mem {s : State} {p} {w} :
    (errNoticeReceive p w s).pending = s.pending ∧ (errNoticeReceive p w s).mem = s.mem := onPkt_pending_mem fun k s => by simp

@[simp] theorem eventReceive_pending_mem {s : State} {p} {w} :
    (eventReceive p w s).pending = s.pending ∧ (eventReceive p w s).mem = s.mem := onPkt_pending_mem fun k s => by simp

@[simp] theorem leaseRecordReceive_pending_mem {s : State} {p} {w} :
    (leaseRecordReceive p w s).pending = s.pending ∧ (leaseRecordReceive p w s).mem = s.mem :=
  onSub_pending_mem fun k s => by dsimp only; (repeat' split) <;> simp

@[simp] theorem partnerLeaseConfirm_pending_mem {s : State} {p} {w} :
    (partnerLeaseConfirm p w s).pending = s.pending ∧ (partnerLeaseConfirm p w s).mem = s.mem :=
  onSub_pending_mem fun k s => by simp

@[simp] theorem bodySplKeySend_pending_mem {s : State} {n} {i} {w} :
    (bodySplKeySend n i w s).1.pending = s.pending ∧ (bodySplKeySend n i w s).1.mem = s.mem := by
  unfold bodySplKeySend
  grind [splRequest_pending_mem]

@[simp] theorem keyReply_pending_mem {s : State} {k} {sub} {r} {l} :
    (keyReply k sub r l s).pending = s.pending ∧ (keyReply k sub r l s).mem = s.mem := by simp [keyReply]

@[simp] theorem keyOpen_pending_mem {s : State} {k} : (keyOpen k s).pending = s.pending ∧ (keyOpen k s).mem = s.mem := by
  unfold keyOpen
  dsimp only
  (repeat' split) <;> simp

@[simp] theorem keyNonce_pending_mem {s : State} {p} {k} :
    (keyNonce p k s).pending = s.pending ∧ (keyNonce p k s).mem = s.mem := by
  unfold keyNonce
  dsimp only
  (repeat' split) <;> simp

@[simp] theorem keyBlob_pending_mem {s : State} {p} {k} : (keyBlob p k s).pending = s.pending ∧ (keyBlob p k s).mem = s.mem := by
  unfold keyBlob
  dsimp only
  (repeat' split) <;> simp

@[simp] theorem keyDone_pending_mem {s : State} {p} {k} : (keyDone p k s).pending = s.pending ∧ (keyDone p k s).mem = s.mem := by
  unfold keyDone
  dsimp only
  (repeat' split) <;> simp

@[simp] theorem openReceive_pending_mem {s : State} {p} {w} :
    (openReceive p w s).pending = s.pending ∧ (openReceive p w s).mem = s.mem := onSub_pending_mem fun k s => by simp

@[simp] theorem nonceReceive_pending_mem {s : State} {p} {w} :
    (nonceReceive p w s).pending = s.pending ∧ (nonceReceive p w s).mem = s.mem := onSub_pending_mem fun k s => by simp

@[simp] theorem blobReceive_pending_mem {s : State} {p} {w} :
    (blobReceive p w s).pending = s.pending ∧ (blobReceive p w s).mem = s.mem := onSub_pending_mem fun k s => by simp

@[simp] theorem doneReceive_pending_mem {s : State} {p} {w} :
    (doneReceive p w s).pending = s.pending ∧ (doneReceive p w s).mem = s.mem := onSub_pending_mem fun k s => by simp

@[simp] theorem setTimeReq_pending_mem {s : State} {k} {q} :
    (setTimeReq k q s).pending = s.pending ∧ (setTimeReq k q s).mem = s.mem := ⟨rfl, rfl⟩

@[simp] theorem timeReqTimer_pending_mem {s : State} {k} :
    (timeReqTimer k s).pending = s.pending ∧ (timeReqTimer k s).mem = s.mem := by
  unfold timeReqTimer
  dsimp only
  split <;> simp

@[simp] theorem timeReqReceive_pending_mem {s : State} {p} {w} :
    (timeReqReceive p w s).pending = s.pending ∧ (timeReqReceive p w s).mem = s.mem := onSub_pending_mem fun k s => by simp

@[simp] theorem timeResp_pending_mem {s : State} {p} {k} :
    (timeResp p k s).pending = s.pending ∧ (timeResp p k s).mem = s.mem := by
  unfold timeResp
  dsimp only
  split_ifs <;> simp

@[simp] theorem timeRespReceive_pending_mem {s : State} {p} {w} :
    (timeRespReceive p w s).pending = s.pending ∧ (timeRespReceive p w s).mem = s.mem := onSub_pending_mem fun k s => by simp

@[simp] theorem testTake_pending_mem {s : State} {p} {k} :
    (testTake p k s).pending = s.pending ∧ (testTake p k s).mem = s.mem := by
  unfold testTake
  dsimp only
  (repeat' split) <;> simp

@[simp] theorem testReceive_pending_mem {s : State} {p} {w} :
    (testReceive p w s).pending = s.pending ∧ (testReceive p w s).mem = s.mem := onPkt_pending_mem fun k s => by simp

/-! ### Reset -/

@[simp] theorem wakeIfHigh_pending_mem {s : State} : (wakeIfHigh s).pending = s.pending ∧ (wakeIfHigh s).mem = s.mem := by
  unfold wakeIfHigh
  split <;> simp

@[simp] theorem blockReset_pending_mem {s : State} :
    (blockReset s).pending = s.pending ∧ (blockReset s).mem = s.mem := by simp [blockReset]

@[simp] theorem aonPowerUp_pending_mem {s : State} :
    (aonPowerUp s).pending = s.pending ∧ (aonPowerUp s).mem = s.mem := by simp [aonPowerUp]

/-! ### HostBus -/

@[simp] theorem hostRead_pending_mem {s : State} {off} {full} :
    (hostRead off full s).pending = s.pending ∧ (hostRead off full s).mem = s.mem := by
  unfold hostRead
  split <;> simp

@[simp] theorem hostLatch_pending_mem {s : State} {off} {full} :
    (hostLatch off full s).pending = s.pending ∧ (hostLatch off full s).mem = s.mem := by
  unfold hostLatch
  split <;> simp

@[simp] theorem hostAccess_pending_mem {s : State} {c} : (hostAccess c s).pending = s.pending ∧ (hostAccess c s).mem = s.mem := by
  cases c <;> dsimp only [hostAccess] <;> simp

@[simp] theorem serveHost_pending_mem {s : State} {c} :
    (serveHost c s).pending = s.pending ∧ (serveHost c s).mem = s.mem := by simp [serveHost]

@[simp] theorem hostBus_pending_mem {s : State} {c} : (hostBus c s).pending = s.pending ∧ (hostBus c s).mem = s.mem := by
  unfold hostBus
  split <;> simp

@[simp] theorem serveWaiting_pending_mem {s : State} {n} :
    (serveWaiting n s).pending = s.pending ∧ (serveWaiting n s).mem = s.mem := by
  induction n generalizing s with
  | zero => exact ⟨rfl, rfl⟩
  | succ n ih => unfold serveWaiting; (repeat' split) <;> simp [ih]

/-! ### Finish -/

@[simp] theorem finalize_pending {s : State} : (finalize s).pending = s.pending := by simp [finalize]

@[simp] theorem finalize_memOk {s : State} (h : MemOk s.mem) : MemOk (finalize s).mem := by
  unfold finalize
  grind [egRetry_pending_mem, reapJobs_memOk, admitAll_pending_mem, streamAll_pending_mem, pumpAll_memOk, stcRetry_pending_mem, serveWaiting_pending_mem, settle_pending_mem, movePower_memOk, xoffAll_pending_mem]

@[simp] theorem tick_pending_mem {s : State} : (tick s).pending = s.pending ∧ (tick s).mem = s.mem := by simp [tick]

/-! ### Commands and steps -/

/-- Every command answers what the block then does by itself from a state that has the queue given and host memory in canonical form. -/
theorem exec_eq_next_finalize (c : Instr) (s : State) :
    ∃ u, exec c s = .next (finalize u) ∧ u.pending = s.pending ∧ (MemOk s.mem → MemOk u.mem) := by
  cases c <;> exact ⟨_, rfl, by simp, fun h => by simp [h]⟩

theorem exec_pending {c : Instr} {s t : State} (h : exec c s = .next t) : t.pending = s.pending := by
  obtain ⟨u, hu, hp, -⟩ := exec_eq_next_finalize c s
  obtain rfl := Host.Outcome.next.inj (hu.symm.trans h)
  rw [finalize_pending, hp]

theorem exec_memOk {c : Instr} {s t : State} (h : exec c s = .next t) (hs : MemOk s.mem) : MemOk t.mem := by
  obtain ⟨u, hu, -, hm⟩ := exec_eq_next_finalize c s
  obtain rfl := Host.Outcome.next.inj (hu.symm.trans h)
  exact finalize_memOk (hm hs)

theorem step_of_cons {c : Instr} {rest : List Instr} {s : State} (h : s.pending = c :: rest) :
    step s = exec c { s with pending := rest } := by
  unfold step
  rw [h]

theorem step_of_nil {s : State} (h : s.pending = []) : step s = .next (tick s) := by
  unfold step
  rw [h]

/-- Settles O4: no command touches the queue, a step on an empty queue is one clock, and any other step takes the front command off. -/
theorem commandsLeaveTheQueueAlone : Obligations.CommandsLeaveTheQueueAlone := by
  refine ⟨fun _ _ _ => exec_pending, fun s t h => ?_⟩
  cases hq : s.pending with
  | nil =>
    rw [step_of_nil hq] at h
    cases h
    rw [tick_pending_mem.1, hq, List.tail_nil]
  | cons c rest =>
    rw [step_of_cons hq] at h
    exact exec_pending h

/-- Settles O5: a clock leaves host memory, and every command keeps its canonical form. -/
theorem hostMemoryStaysCanonical : Obligations.HostMemoryStaysCanonical := by
  intro s t hs h
  cases hq : s.pending with
  | nil =>
    rw [step_of_nil hq] at h
    cases h
    rw [tick_pending_mem.2]
    exact hs
  | cons c rest =>
    rw [step_of_cons hq] at h
    exact exec_memOk h hs

/-- Settles O1: the queue's front command is the one executed. -/
theorem stepRunsTheFrontCommand : Obligations.StepRunsTheFrontCommand := fun _ _ _ h => step_of_cons h

/-- Settles O3: every command answers a next state. -/
theorem everyCommandHasANextState : Obligations.EveryCommandHasANextState := fun c s =>
  have ⟨u, hu, _⟩ := exec_eq_next_finalize c s
  ⟨finalize u, hu⟩

end Sys2Proof.Machine

/-! PROOF. Steps on an empty queue, the state after reset, and what `finalize` is where nothing goes on by itself (R373, R498, R529). -/

namespace Sys2Proof.Machine

/-! ### One clock (R373, R374) -/

/-- A clock of the Time Unit touches the Time Unit alone. -/
theorem tmuTick_eq (s : State) : tmuTick s = { s with tmu := (tmuTick s).tmu } := by
  unfold tmuTick
  split <;> rfl

theorem tmuTick_of_off {s : State} (h : domOn s dTIME = false) : tmuTick s = s := by simp [tmuTick, h]

/-- Settles O2: the clock touches the Time Unit and the model's clock, and without PD_TIME only the latter. -/
theorem emptyQueueLetsOneClockPass : Obligations.EmptyQueueLetsOneClockPass := by
  intro s hq
  have h := tmuTick_eq s
  refine ⟨tick s, step_of_nil hq, ?_⟩
  have ht : tick s = { s with tmu := (tmuTick s).tmu, clock := s.clock + 1 } := by
    unfold tick
    rw [h]
  refine ⟨?_, ?_, ?_, ?_, ?_, ?_, ?_, ?_, ?_, ?_, ?_, ?_, ?_, ?_, fun hoff => ?_⟩
  case refine_15 => rw [tick, tmuTick_of_off hoff]
  all_goals rw [ht]
  exact hq

/-! ### Reset (R498) -/

/-- Settles O6: the tables of the reset state list nothing, and its queue is empty. -/
theorem resetMemoryIsCanonical : Obligations.ResetMemoryIsCanonical :=
  ⟨reset_mem_wf, rfl, rfl, rfl, fun _ => rfl, fun _ => rfl, rfl, _, step_of_nil rfl⟩

/-! ### Where nothing goes on by itself -/

/-- A repeated operation that changes nothing for any of its arguments. -/
theorem foldl_fixed {α : Type} {f : State → α → State} {s : State} {l : List α} (h : ∀ a ∈ l, f s a = s) : l.foldl f s = s := by
  induction l with
  | nil => rfl
  | cons a r ih =>
    obtain ⟨ha, hr⟩ := List.forall_mem_cons.1 h
    rw [List.foldl_cons, ha, ih hr]

/-- A descriptor that does not wait for its checks, or passes them, is left alone. -/
theorem admitEnt_of_admitted {n : Nat} {s : State} {e : Ent}
    (h : (e.st != .waiting || !e.readable || e.member || !mayStart s n e || (admitNow s n e.words).isNone) = true) :
    admitEnt n s e = s := by
  unfold admitEnt
  split
  · next hc =>
    split
    · next hr => simp_all
    · rfl
  · rfl

theorem admitAll_of_admitted {s : State} (h : admitted s = true) : admitAll s = s := by
  unfold admitAll
  split
  · refine foldl_fixed fun n hn => foldl_fixed fun e he => admitEnt_of_admitted ?_
    exact List.all_eq_true.1 (List.all_eq_true.1 h n hn) e he
  · rfl

theorem reapJobs_of_no_items {s : State} (h : s.items = []) : reapJobs s = s := by simp [reapJobs, h]

theorem egRetry_of_no_frames {s : State} (h : s.egFrames = []) : egRetry s = s := by
  unfold egRetry
  split
  · exact foldl_fixed fun port _ => by simp [egList, h]
  · rfl

theorem pump_of_no_items {fuel t : Nat} {s : State} (h : s.items = []) : pump fuel t s = s := by
  cases fuel with
  | zero => rfl
  | succ k => simp [pump, nextItem, towerItems, firstItem, h]

theorem pumpAll_of_no_items {s : State} (h : s.items = []) : pumpAll s = s := foldl_fixed fun _ _ => pump_of_no_items h

theorem streamAll_of_no_frames {s : State} (h : s.igFrames = []) : streamAll s = s := by simp [streamAll, igList, h]

theorem stcRetry_of_no_wait {c : Nat} {s : State} (h : (stc s c).tagWait = none) : stcRetry c s = s := by simp [stcRetry, h]

theorem xoffUpdate_of_followed {p : Nat} {s : State} (h : xoffNow s p = (sport s p).xoffTx) : xoffUpdate p s = s := by
  simp [xoffUpdate, h]

theorem movePower_of_not_switching {fuel : Nat} {s : State} (h : switching s = false) : movePower fuel s = s := by
  cases fuel with
  | zero => rfl
  | succ k => simp [movePower, h]

/-- In a calm state the block only delivers the raised events. -/
theorem finalize_of_calm {s : State} (h : calm s = true) : finalize s = settle s := by
  simp only [calm, Bool.and_eq_true, List.isEmpty_iff, Option.isNone_iff_eq_none, List.all_cons, List.all_nil, Bool.and_true, beq_iff_eq,
    Bool.not_eq_true'] at h
  obtain ⟨⟨⟨⟨⟨⟨⟨⟨⟨hadm, hhost⟩, hitems⟩, heg⟩, hig⟩, hst0⟩, hst1⟩, hbus⟩, hx0, hx1, hx2⟩, hsw⟩ := h
  simp only [finalize, admitAll_of_admitted hadm, reapJobs_of_no_items hitems, egRetry_of_no_frames heg, pumpAll_of_no_items hitems,
    streamAll_of_no_frames hig, stcRetry_of_no_wait hst0, stcRetry_of_no_wait hst1, serveWaiting_nil hhost hbus, xoffAll,
    xoffUpdate_of_followed hx0, xoffUpdate_of_followed hx1, xoffUpdate_of_followed hx2, movePower_of_not_switching hsw]

theorem settle_of_no_events {s : State} (h : s.raised = []) : settle s = s := by
  simp only [settle, h, evSort, List.foldl_nil]
  rw [← h]

/-- Settles O7: each step of `finalize` before the delivery finds nothing to do. -/
theorem calmStateOnlyDeliversItsEvents : Obligations.CalmStateOnlyDeliversItsEvents := fun _ h =>
  ⟨finalize_of_calm h, fun hr => (finalize_of_calm h).trans (settle_of_no_events hr)⟩

end Sys2Proof.Machine

/-! PROOF. The host's accesses to registers (R1, R2, R9, R11, R426, R429, R482): their turn, what a write stores, what a read clears and
latches. -/

namespace Sys2Proof.Machine

/-! ### The host's turn (R426, R429) -/

/-- Each access of the host goes to the register slave port. -/
theorem exec_of_hostRow {c : Instr} {s : State} (h : hostRow c = true) : exec c s = .next (finalize (hostBus c s)) := by
  cases c <;> cases h <;> rfl

theorem exec_hostRow_free {c : Instr} {s : State} (h : hostRow c = true) (hb : busFree s) :
    exec c s = .next (finalize (hostAccess c (hostTurn s))) := by
  rw [exec_of_hostRow h, hostBus_free hb]

theorem exec_hostRow_held {c : Instr} {s : State} (h : hostRow c = true) (hb : ¬busFree s) :
    exec c s = .next (finalize { s with hostWait := s.hostWait ++ [c] }) := by
  rw [exec_of_hostRow h, hostBus_held hb]

@[simp] theorem rangeOn_hostTurn (s : State) (off : Nat) : rangeOn (hostTurn s) off = rangeOn s off := rfl

/-! ### IDLE (R482) -/

theorem idleWake_of_not_idle {s : State} (h : s.pwr.state ≠ .idle) : idleWake s = s := by simp [idleWake, h]

theorem idleRangeAccess_of_not_idle {s : State} (h : s.pwr.state ≠ .idle) (off : Nat) : idleRangeAccess off s = s := by
  simp [idleRangeAccess, idleWake_of_not_idle h]

/-! ### Writes (R2, R9, R11) -/

/-- A register that is on, and whose write is no operation, is stored field by field. -/
theorem regWrite_of_plain {off : Nat} {v : Word} {s : State} (hon : rangeOn s off = true) (hal : off % 4 = 0) (hop : opReg off = false) :
    regWrite off v s = regStore off v s := by
  simp only [opReg, Bool.or_eq_false_iff, Bool.and_eq_false_iff, decide_eq_false_iff_not, beq_eq_false_iff_ne, not_le, not_lt] at hop
  obtain ⟨⟨⟨⟨⟨⟨⟨⟨⟨⟨⟨⟨⟨⟨⟨hreq, hdom⟩, hctx⟩, hevt⟩, hring⟩, hhead⟩, hlog⟩, hidx⟩, hhre⟩, hsync⟩, hports⟩, hnode⟩, hsp⟩, htmp⟩, hbud⟩, hdbl⟩ := hop
  have hwin : off < 0x10000 := hdbl
  simp only [regWrite, hon, hal, Bool.not_true, Bool.false_or, ne_eq, not_true_eq_false, decide_false, Bool.false_eq_true, if_false,
    hreq, hdom, hctx, hring, hhead, hlog, hidx, hsync, hports, hnode, hsp, htmp, hbud, hwin, if_true]
  split_ifs <;> grind

theorem getLsbD_mkW_toNat (v : BitVec 32) {i : Nat} (hi : i < 24) : (mkW v.toNat).getLsbD i = v.getLsbD i := by
  simp [mkW, hi]

/-- What a write stores in a register without a lock bit of its own: the written bits that are writable and not kept. -/
theorem getLsbD_regStore {off i : Nat} {v : Word} {s : State} (hlock : lockBit off = 0) (hlevel : off ≠ rTMP_LEVEL) (hi : i < 24) :
    (rget (regStore off v s) off).getLsbD i =
      if (mkW (rwBits off)).getLsbD i && !(mkW (keepBits s off v)).getLsbD i then v.getLsbD i else (rget s off).getLsbD i := by
  have hval : writeVal off v = v := by rw [writeVal, if_neg hlevel]
  have hzero : mkW 0 = 0#24 := rfl
  rw [regStore, rget_rset_self, hval, hlock, hzero]
  generalize mkW (rwBits off) = writable
  generalize mkW (keepBits s off v) = kept
  simp only [BitVec.getLsbD_or, BitVec.getLsbD_and, BitVec.getLsbD_not, hi, decide_true, Bool.true_and, BitVec.getLsbD_zero, Bool.and_false,
    Bool.or_false]
  cases writable.getLsbD i <;> cases kept.getLsbD i <;> simp

theorem rget_regStore_ne {o off : Nat} (v : Word) (s : State) (h : o ≠ off) : rget (regStore off v s) o = rget s o :=
  rget_rset_ne _ _ h

theorem exec_registerWrite_free {off : BitVec 17} {v : BitVec 32} {full : Bool} {s : State} (hb : busFree s) :
    exec (.registerWrite off v full) s = .next (finalize (registerWrite off.toNat v.toNat full (hostTurn s))) := exec_hostRow_free rfl hb

theorem registerWrite_full {off v : Nat} {s : State} (hi : s.pwr.state ≠ .idle) : registerWrite off v true s = regWrite off (mkW v) s := by
  simp [registerWrite, idleRangeAccess_of_not_idle hi]

theorem registerWrite_narrow {off v : Nat} {s : State} (hi : s.pwr.state ≠ .idle) : registerWrite off v false s = s := by
  simp [registerWrite, idleRangeAccess_of_not_idle hi]

theorem regWrite_of_off {off : Nat} {v : Word} {s : State} (h : rangeOn s off = false) : regWrite off v s = s := by simp [regWrite, h]

/-- Settles O10: the host's turn, the fields that `regStore` writes, and the accesses that write nothing. -/
theorem registerWriteStoresItsFields : Obligations.RegisterWriteStoresItsFields := by
  intro off v s
  refine ⟨fun c hc => ⟨exec_hostRow_free hc, exec_hostRow_held hc⟩, fun hi hb => ⟨fun hon hal hop => ⟨?_, ?_, ?_⟩, ?_, fun hoff => ?_⟩⟩
  · rw [exec_registerWrite_free hb, registerWrite_full (s := hostTurn s) hi, regWrite_of_plain (s := hostTurn s) hon hal hop]
  · intro hlock hlevel i h24
    rw [getLsbD_regStore hlock hlevel h24, getLsbD_mkW_toNat v h24]
  · exact fun o ho => rget_regStore_ne _ _ ho
  · rw [exec_registerWrite_free hb, registerWrite_narrow (s := hostTurn s) hi]
  · rw [exec_registerWrite_free hb, registerWrite_full (s := hostTurn s) hi, regWrite_of_off (s := hostTurn s) hoff]

/-! ### Reads (R9, R402, R475) -/

theorem hostRead_full {off : Nat} {s : State} (hi : s.pwr.state ≠ .idle) :
    hostRead off true s = { readClear off s with rdata := (regRead s off).setWidth 32 } := by
  simp [hostRead, idleRangeAccess_of_not_idle hi]

theorem hostLatch_full {off : Nat} {s : State} (hi : s.pwr.state ≠ .idle) :
    hostLatch off true s = { latchRead off s with rdata := (regRead s off).setWidth 32 } := by
  simp [hostLatch, idleRangeAccess_of_not_idle hi]

theorem hostRead_narrow {off : Nat} {s : State} (hi : s.pwr.state ≠ .idle) : hostRead off false s = { s with rdata := 0 } := by
  simp [hostRead, idleRangeAccess_of_not_idle hi]

theorem hostLatch_narrow {off : Nat} {s : State} (hi : s.pwr.state ≠ .idle) : hostLatch off false s = { s with rdata := 0 } := by
  simp [hostLatch, idleRangeAccess_of_not_idle hi]

theorem exec_readClear_free {off : BitVec 17} {full : Bool} {s : State} (hb : busFree s) :
    exec (.readClear ⟨off, full⟩) s = .next (finalize (hostRead off.toNat full (hostTurn s))) := exec_hostRow_free rfl hb

theorem exec_latchingLoRead_free {off : BitVec 17} {full : Bool} {s : State} (hb : busFree s) :
    exec (.latchingLoRead ⟨off, full⟩) s = .next (finalize (hostLatch off.toNat full (hostTurn s))) := exec_hostRow_free rfl hb

theorem regRead_lcLo {s : State} (h : rangeOn s rLC_LO = true) : regRead s rLC_LO = mkW (lcNs s) := by
  simp [regRead, h, readTmu]
  simp [rLC_LO]

theorem regRead_logTickLo {s : State} (h : rangeOn s rLOG_TICK_LO = true) : regRead s rLOG_TICK_LO = mkW (aonTick s) := by
  simp only [regRead, h, readLog]
  simp [rLOG_TICK_LO, rLOG_STATUS, rLOG_TOTAL, rLOG_UNREAD]

theorem latchRead_lcLo {s : State} (h : rangeOn s rLC_LO = true) :
    latchRead rLC_LO s = rset rLC_MID (mkW (lcNs s / 2 ^ 24)) (rset rLC_HI (mkW (lcNs s / 2 ^ 48 % 2 ^ 16)) s) := by
  simp [latchRead, h]

theorem latchRead_logTickLo {s : State} (h : rangeOn s rLOG_TICK_LO = true) :
    latchRead rLOG_TICK_LO s = rset rLOG_TICK_HI (mkW (aonTick s / 2 ^ 24 + s.log.epoch * 2 ^ 8)) s := by
  have hne : rLOG_TICK_LO ≠ rLC_LO := by decide
  simp [latchRead, h, hne]

theorem readClear_of_on {off : Nat} {s : State} (hon : rangeOn s off = true) (hrc : regRc off ≠ 0) :
    readClear off s = rset off (rget s off &&& ~~~(regRc off)) s := by
  rw [readClear, hon, bne_iff_ne.2 hrc]
  rfl

/-- In IDLE an access to a range whose clocks are gated starts the exit, and another one changes nothing (R482). -/
theorem idleRangeAccess_of_idle {s : State} (h : s.pwr.state = .idle) (ht : s.pwr.trans = .none) (off : Nat) :
    idleRangeAccess off s = if (0x6000 ≤ off ∧ off < 0x9000) ∨ (0xB000 ≤ off ∧ off < 0xC000) then
      { s with pwr := { s.pwr with trans := .idleExit } } else s := by
  have hw : idleWake s = { s with pwr := { s.pwr with trans := .idleExit } } := by
    rw [idleWake, if_pos (by simp [h, ht])]
    rfl
  simp only [idleRangeAccess, idleRange, hw, Bool.or_eq_true, Bool.and_eq_true, decide_eq_true_eq]

/-- Settles O12: each read by the equations of its full and its narrow form. -/
theorem readsClearAndLatch : Obligations.ReadsClearAndLatch := by
  intro off s
  refine ⟨fun hi hb => ⟨fun hon hrc => ?_, fun hon => ?_, fun hon => ?_, ?_, ?_⟩, fun hidle htrans => ?_⟩
  · rw [exec_readClear_free hb, hostRead_full (s := hostTurn s) hi, readClear_of_on (s := hostTurn s) hon hrc, rget_hostTurn]
  · rw [exec_latchingLoRead_free hb]
    exact congrArg (fun u => Host.Outcome.next (finalize u)) ((hostLatch_full (s := hostTurn s) hi).trans
      (by rw [show (BitVec.ofNat 17 rLC_LO).toNat = rLC_LO from rfl, latchRead_lcLo (s := hostTurn s) hon, regRead_lcLo (s := hostTurn s) hon]; rfl))
  · rw [exec_latchingLoRead_free hb]
    exact congrArg (fun u => Host.Outcome.next (finalize u)) ((hostLatch_full (s := hostTurn s) hi).trans
      (by rw [show (BitVec.ofNat 17 rLOG_TICK_LO).toNat = rLOG_TICK_LO from rfl, latchRead_logTickLo (s := hostTurn s) hon,
            regRead_logTickLo (s := hostTurn s) hon]; rfl))
  · rw [exec_readClear_free hb, hostRead_narrow (s := hostTurn s) hi]
  · rw [exec_latchingLoRead_free hb, hostLatch_narrow (s := hostTurn s) hi]
  · exact congrArg (fun u => Host.Outcome.next (finalize u)) (idleRangeAccess_of_idle hidle htrans off.toNat)

end Sys2Proof.Machine

/-! PROOF. Ring pairs (R32 to R81): completions, enable and disable, doorbells, and the opcodes that control rings. -/

namespace Sys2Proof.Machine

/-! ### Reading a ring after an update -/

@[simp] theorem ring_raise {src inst detail m : Nat} {s : State} : ring (raise src inst detail s) m = ring s m := by simp [ring]

@[simp] theorem ring_raisePerm {n i m : Nat} {r : Res} {s : State} : ring (raisePerm n i r s) m = ring s m := by
  unfold raisePerm
  split <;> simp

theorem ring_modEnt_self {n i : Nat} {f : Ent → Ent} {s : State} :
    ring (modEnt n i f s) n = { ring s n with window := modFirst (fun e => e.idx == i && e.isOpen) f (ring s n).window } := by
  simp [modEnt]

theorem ring_modEnt_ne {m n i : Nat} {f : Ent → Ent} {s : State} (h : m ≠ n) : ring (modEnt n i f s) m = ring s m := by
  simp [modEnt, ring_modRing_ne h]

/-! ### Completions (R46, R48, R50, R77) -/

theorem ring_finish_self {n i : Nat} {r : Res} {s : State} :
    ring (finish n i r s) n = { ring s n with
      window := modFirst (fun e => e.idx == i && e.isOpen) (entDone (compNow s r)) (ring s n).window } := by
  rw [finish, ring_raisePerm, ring_modEnt_self]
  rfl

theorem ring_finish_ne {m n i : Nat} {r : Res} {s : State} (h : m ≠ n) : ring (finish n i r s) m = ring s m := by
  rw [finish, ring_raisePerm, ring_modEnt_ne h]

/-- A search that neither the element changed nor its new value satisfies finds what it found before. -/
theorem find_modFirst_of_disjoint {α : Type} {p q : α → Bool} {f : α → α} {l : List α} (h : ∀ x, p x = true → q x = false ∧ q (f x) = false) :
    (modFirst p f l).find? q = l.find? q := by
  induction l with
  | nil => rfl
  | cons x r ih =>
    unfold modFirst
    split
    · next hp => simp [h x hp]
    · simp only [List.find?_cons, ih]

theorem entAt_finish_ne {n i j : Nat} {r : Res} {s : State} (h : j ≠ i) : entAt (finish n i r s) n j = entAt s n j := by
  rw [entAt, ring_finish_self]
  refine find_modFirst_of_disjoint fun e he => ?_
  have hidx : e.idx = i := by simpa using (Bool.and_eq_true_iff.1 he).1
  have hne : (e.idx == j) = false := beq_eq_false_iff_ne.2 (hidx ▸ h.symm)
  simp [entDone, hne]

/-- The answers that HR_PERM reports (R77). -/
abbrev PermAnswer (r : Res) : Prop := r.st = .perm ∨ (r.st = .keyDenied ∧ r.reason = 1)

theorem raisePerm_of_perm {n i : Nat} {r : Res} {s : State} (h : PermAnswer r) :
    raisePerm n i r s = raise 12 n (statusCode r.st + i * 2 ^ 10) s := by
  rw [raisePerm, if_pos (by simpa using h)]

theorem raisePerm_of_not_perm {n i : Nat} {r : Res} {s : State} (h : ¬PermAnswer r) : raisePerm n i r s = s := by
  rw [raisePerm, if_neg (by simpa using h)]

theorem compNow_of_alarm {r : Res} {s : State} (h : alarmNow s = true) : (compNow s r).res = { st := .alarm } := by simp [compNow, h]

theorem compNow_of_no_alarm {r : Res} {s : State} (h : alarmNow s = false) : (compNow s r).res = r := by simp [compNow, h]

theorem finish_raised {n i : Nat} {r : Res} {s : State} :
    (finish n i r s).raised = (if alarmNow s = false ∧ PermAnswer r then
      s.raised ++ [{ src := 12, inst := n % 256, detail := (statusCode r.st + i * 2 ^ 10) % 2 ^ 24, sev := 1 }] else s.raised) := by
  rw [finish]
  cases ha : alarmNow s with
  | true =>
    rw [compNow_of_alarm ha, raisePerm_of_not_perm (by simp), if_neg (by simp)]
    rfl
  | false =>
    rw [compNow_of_no_alarm ha]
    by_cases hp : PermAnswer r
    · rw [raisePerm_of_perm hp, raise_unlimited (by decide), if_pos ⟨rfl, hp⟩]
      rfl
    · rw [raisePerm_of_not_perm hp, if_neg fun h => hp h.2]
      rfl

/-- Settles O9: a completion changes the first open entry at its index, and HR_PERM is raised for its answer. -/
theorem completionIsRecordedOnceAndAlone : Obligations.CompletionIsRecordedOnceAndAlone := by
  intro n i r s
  obtain ⟨hmem, hregs, -⟩ := finish_leaves (n := n) (i := i) (r := r) (s := s)
  refine ⟨fun a e b hw ha hidx hopen => ?_, rfl, rfl, compNow_of_no_alarm, compNow_of_alarm, fun hnone => ?_, fun j => entAt_finish_ne,
    fun m => ring_finish_ne, ?_, ?_, ?_, ?_, hmem, hregs, finish_raised⟩
  · rw [ring_finish_self, hw]
    refine modFirst_append (fun x hx => ?_) (by simp [hidx, hopen])
    simpa [Classical.or_iff_not_imp_left] using ha x hx
  · rw [ring_finish_self]
    exact modFirst_none hnone
  all_goals rw [ring_finish_self]

end Sys2Proof.Machine

/-! PROOF. Starting and stopping ring pairs, doorbells, and the ring-control opcodes (R38 to R43, R69 to R75, R81). -/

namespace Sys2Proof.Machine

/-! ### CQ slots of a group (R61) -/

/-- Reserving slots changes nothing of an entry but its slot. -/
theorem reserveList_map {β : Type} {g : Ent → β} (hg : ∀ e, g { e with slot := true } = g e) (k : Nat) (l : List Ent) :
    (reserveList k l).map g = l.map g := by
  induction l generalizing k with
  | nil => cases k <;> rfl
  | cons e r ih =>
    cases k with
    | zero => rfl
    | succ k =>
      unfold reserveList
      split <;> simp [hg, ih]

/-- The window of a ring after slots were reserved for its group. -/
def reservedWindow (s : State) (n : Nat) : List Ent :=
  if (ring s n).grp = .opened then (ring s n).window
  else reserveList (cqFree s n - cqReserved (ring s n)) (ring s n).window

theorem ring_reserveMembers_self {n : Nat} {s : State} :
    ring (reserveMembers n s) n = { ring s n with window := reservedWindow s n } := by
  unfold reserveMembers reservedWindow
  split <;> simp

theorem ring_reserveMembers_ne {m n : Nat} {s : State} (h : m ≠ n) : ring (reserveMembers n s) m = ring s m := by
  unfold reserveMembers
  split
  · rfl
  · exact ring_modRing_ne h

theorem reservedWindow_map {β : Type} {g : Ent → β} (hg : ∀ e, g { e with slot := true } = g e) (s : State) (n : Nat) :
    (reservedWindow s n).map g = (ring s n).window.map g := by
  unfold reservedWindow
  split
  · rfl
  · exact reserveList_map hg _ _

theorem reservedWindow_eq_nil {s : State} {n : Nat} : reservedWindow s n = [] ↔ (ring s n).window = [] := by
  rw [← List.map_eq_nil_iff (f := Ent.idx), reservedWindow_map (fun _ => rfl), List.map_eq_nil_iff]

/-- An entry that is in the window is still there, slot apart. -/
theorem exists_mem_reservedWindow {s : State} {n : Nat} {e : Ent} (h : e ∈ (ring s n).window) :
    ∃ f ∈ reservedWindow s n, f.idx = e.idx ∧ f.words = e.words ∧ f.st = e.st := by
  have hmap := reservedWindow_map (g := fun e => (e.idx, e.words, e.st)) (fun _ => rfl) s n
  have hmem : (e.idx, e.words, e.st) ∈ (reservedWindow s n).map fun e => (e.idx, e.words, e.st) :=
    hmap ▸ List.mem_map_of_mem (f := fun e => (e.idx, e.words, e.st)) h
  obtain ⟨f, hf, hfe⟩ := List.mem_map.1 hmem
  simp only [Prod.mk.injEq] at hfe
  exact ⟨f, hf, hfe⟩

@[simp] theorem reserveMembers_regs {n : Nat} {s : State} : (reserveMembers n s).regs = s.regs := by
  unfold reserveMembers
  split <;> simp

/-! ### Stopping (R70) -/

/-- A STOPPING ring without work is STOPPED. -/
theorem ring_checkStopped_self {n : Nat} {s : State} :
    ring (checkStopped n s) n = if (ring s n).state = .stopping ∧ (ring s n).posted = [] ∧ (ring s n).window = [] then
      { ring s n with state := .stopped, en := false, held := false, grp := .none } else ring s n := by
  by_cases h : (ring s n).state = .stopping ∧ (ring s n).posted = [] ∧ (ring s n).window = []
  · rw [if_pos h]
    obtain ⟨hst, hposted, hwindow⟩ := h
    simp [checkStopped, hst, hposted, hwindow]
  · rw [if_neg h, checkStopped, if_neg (by simpa [and_assoc] using h)]

theorem ring_checkStopped_ne {m n : Nat} {s : State} (h : m ≠ n) : ring (checkStopped n s) m = ring s m := by
  unfold checkStopped
  dsimp only
  split
  · rw [ring_raise, ring_setRing_ne h]
  · rfl

@[simp] theorem checkStopped_regs {n : Nat} {s : State} : (checkStopped n s).regs = s.regs := by
  unfold checkStopped
  dsimp only
  split <;> simp

/-- The ring whose stop begins, before slots are reserved. -/
def stoppingRing (s : State) (n : Nat) : Ring :=
  { ring s n with
    state := .stopping, window := (ring s n).window.map (stopEnt s ((ring s n).grp == .opened))
    grp := if (ring s n).grp == .opened then .none else (ring s n).grp }

theorem stopRing_of_running {n : Nat} {s : State} (h : (ring s n).state = .running) :
    stopRing n s = checkStopped n (reserveMembers n (setRing n (stoppingRing s n) s)) := by
  rw [stopRing]
  dsimp only
  rw [if_pos h]
  rfl

theorem ring_stopRing_ne {m n : Nat} {s : State} (h : m ≠ n) : ring (stopRing n s) m = ring s m := by
  unfold stopRing
  dsimp only
  split
  · rw [ring_checkStopped_ne h, ring_reserveMembers_ne h, ring_setRing_ne h]
  · rfl

@[simp] theorem stopRing_regs {n : Nat} {s : State} : (stopRing n s).regs = s.regs := by
  unfold stopRing
  dsimp only
  split <;> simp

/-- The stop of a RUNNING ring: its window as the stop leaves it, STOPPED at once where nothing was posted or fetched. -/
theorem ring_stopRing_self {n : Nat} {s : State} (h : (ring s n).state = .running) :
    ring (stopRing n s) n =
      if (ring s n).posted = [] ∧ (ring s n).window = [] then
        { ring s n with state := .stopped, en := false, held := false, grp := .none, window := [] }
      else { stoppingRing s n with window := reservedWindow (setRing n (stoppingRing s n) s) n } := by
  have hnil : reservedWindow (setRing n (stoppingRing s n) s) n = [] ↔ (ring s n).window = [] := by
    rw [reservedWindow_eq_nil, ring_setRing_self, stoppingRing, List.map_eq_nil_iff]
  rw [stopRing_of_running h, ring_checkStopped_self, ring_reserveMembers_self, ring_setRing_self]
  simp only [hnil]
  by_cases hc : (ring s n).posted = [] ∧ (ring s n).window = []
  · rw [if_pos ⟨rfl, hc⟩, if_pos hc, hnil.2 hc.2]
    rfl
  · rw [if_neg fun h => hc h.2, if_neg hc]

/-! ### Enable, disable, resume (R38, R70, R73) -/

theorem enableErr_eq_none {s : State} {n : Nat} (hlock : rflag s rPG_LOCK 0 = true) (hsq : 4 ≤ rfld s (rRING_SIZE n) 0 4)
    (hsq' : rfld s (rRING_SIZE n) 0 4 ≤ 14) (hcq : 4 ≤ rfld s (rRING_SIZE n) 8 4) (hcq' : rfld s (rRING_SIZE n) 8 4 ≤ 14)
    (hsqb : sqBase s n % 2 ^ (rfld s (rRING_SIZE n) 0 4 + 6) = 0) (hcqb : cqBase s n % 2 ^ (rfld s (rRING_SIZE n) 8 4 + 5) = 0) :
    enableErr s n = none := by
  simp only [enableErr, hlock, hsqb, hcqb, Bool.not_true, Bool.false_eq_true, if_false, ne_eq, not_true_eq_false, decide_false, Bool.or_self]
  rw [if_neg (by simp; omega)]

theorem ringEnable_of_none {n : Nat} {s : State} (hd : domOn s dHOST = true) (hst : (ring s n).state = .disabled ∨ (ring s n).state = .stopped)
    (h : enableErr s n = none) :
    ringEnable n s = setRing n { ring s n with
      state := .running, en := true, err := 0, sqHead := 0, sqTail := 0, cqTail := 0, cqHead := 0, phase := true, ccnt := 0,
      posted := [], window := [], grp := .none, held := false } s := by
  rw [ringEnable]
  dsimp only
  rw [if_pos (by simpa [hd] using hst), h]

theorem ringEnable_of_some {n c : Nat} {s : State} (hd : domOn s dHOST = true)
    (hst : (ring s n).state = .disabled ∨ (ring s n).state = .stopped) (h : enableErr s n = some c) :
    ringEnable n s = raise 9 n c (setRing n { ring s n with err := c } s) := by
  rw [ringEnable]
  dsimp only
  rw [if_pos (by simpa [hd] using hst), h]

theorem resumeCq_of_held {n : Nat} {s : State} (hd : domOn s dHOST = true) (hst : (ring s n).state = .stopping)
    (hh : (ring s n).held = true) :
    resumeCq n s = setRing n { ring s n with held := false, window := (ring s n).window.map keepEnt } s := by
  rw [resumeCq, if_pos (by simp [hd, hst, hh])]
  rfl

@[simp] theorem ring_hostTurn (s : State) (n : Nat) : ring (hostTurn s) n = ring s n := rfl

@[simp] theorem compNow_hostTurn (s : State) (r : Res) : compNow (hostTurn s) r = compNow s r := rfl

theorem exec_ringEnable_free {n : Fin 64} {s : State} (hb : busFree s) :
    exec (.ringEnable n) s = .next (finalize (ringEnable n (hostTurn s))) := exec_hostRow_free rfl hb

theorem exec_ringDisable_free {n : Fin 64} {s : State} (hb : busFree s) :
    exec (.ringDisable n) s = .next (finalize (ringDisable n (hostTurn s))) := exec_hostRow_free rfl hb

theorem exec_resumeCq_free {n : Fin 64} {s : State} (hb : busFree s) :
    exec (.resumeCq n) s = .next (finalize (resumeCq n (hostTurn s))) := exec_hostRow_free rfl hb

/-- ENABLE of a ring written to 0. -/
def disabledRing (n : Nat) (s : State) : State := modRing n (fun r => { r with en := false }) s

theorem ringDisable_of_on {n : Nat} {s : State} (hd : domOn s dHOST = true) : ringDisable n s = stopRing n (disabledRing n s) := by
  rw [ringDisable, if_pos hd]
  rfl

/-- A waiting descriptor outside a group is ended by the stop (R70). -/
theorem stopEnt_of_waiting {s : State} {o : Bool} {e : Ent} (hst : e.st = .waiting) (hm : e.member = false) :
    stopEnt s o e = entDone (compNow s (failRes .aborted 1)) e := by
  simp [stopEnt, hst, hm]

/-- Settles O13: enable by its check, disable by what a stop leaves, RESUME_CQ as it stands. -/
theorem ringPairsStartAndStop : Obligations.RingPairsStartAndStop := by
  intro n s hd hb
  refine ⟨fun hst => ⟨fun hlock h1 h2 h3 h4 h5 h6 => ?_, fun c hc => ?_⟩, fun hrun => ?_, fun hst hh => ?_⟩
  · rw [exec_ringEnable_free hb, ringEnable_of_none (s := hostTurn s) hd hst (enableErr_eq_none hlock h1 h2 h3 h4 h5 h6), ring_hostTurn]
  · rw [exec_ringEnable_free hb, ringEnable_of_some (s := hostTurn s) hd hst hc, ring_hostTurn]
  · refine ⟨_, by rw [exec_ringDisable_free hb, ringDisable_of_on (s := hostTurn s) hd], ?_⟩
    have hring : ring (disabledRing n (hostTurn s)) n = { ring s n with en := false } := ring_modRing_self
    have hself := ring_stopRing_self (s := disabledRing n (hostTurn s)) (n := n) (by rw [hring]; exact hrun)
    simp only [hring] at hself
    refine ⟨?_, ?_, fun e he hw hm => ?_, fun m hm => ?_, by simp [disabledRing], by simp [disabledRing]⟩
    · rw [hself]
      split <;> simp [stoppingRing, hring]
    · rw [hself]
      split <;> simp [stoppingRing]
    · have hne : ¬((ring s n).posted = [] ∧ (ring s n).window = []) := fun h => List.ne_nil_of_mem he h.2
      rw [hself, if_neg hne]
      have hstop := stopEnt_of_waiting (s := disabledRing n (hostTurn s)) (o := (ring s n).grp == .opened) hw hm
      have hmem : entDone (compNow s (failRes .aborted 1)) e
          ∈ (ring (setRing n (stoppingRing (disabledRing n (hostTurn s)) n) (disabledRing n (hostTurn s))) n).window := by
        rw [ring_setRing_self, stoppingRing, hring]
        exact List.mem_map.2 ⟨e, he, hstop⟩
      exact exists_mem_reservedWindow hmem
    · rw [ring_stopRing_ne hm]
      exact ring_modRing_ne hm
  · rw [exec_resumeCq_free hb, resumeCq_of_held (s := hostTurn s) hd hst hh, ring_hostTurn]

/-! ### Doorbells (R39 to R43) -/

theorem exec_dblSqTail_free {n : Fin 64} {v : Word} {s : State} (hi : s.pwr.state ≠ .idle) (hb : busFree s) :
    exec (.dblSqTail n v) s = .next (finalize (dblSqTail n v.toNat (hostTurn s))) :=
  (exec_hostRow_free rfl hb).trans (congrArg (fun u => Host.Outcome.next (finalize (dblSqTail n v.toNat u)))
    (idleWake_of_not_idle (s := hostTurn s) hi))

theorem exec_dblCqHead_free {n : Fin 64} {v : Word} {s : State} (hi : s.pwr.state ≠ .idle) (hb : busFree s) :
    exec (.dblCqHead n v) s = .next (finalize (dblCqHead n v.toNat (hostTurn s))) :=
  (exec_hostRow_free rfl hb).trans (congrArg (fun u => Host.Outcome.next (finalize (dblCqHead n v.toNat u)))
    (idleWake_of_not_idle (s := hostTurn s) hi))

/-- Two different places of a queue are a nonzero distance apart. -/
theorem queueDist_ne_zero {v t size : Nat} (hv : v < size) (ht : t < size) (h : v ≠ t) : (v + size - t) % size ≠ 0 := by
  rcases Nat.lt_or_gt_of_ne h with hlt | hgt
  · rw [Nat.mod_eq_of_lt (by omega)]
    omega
  · rw [show v + size - t = (v - t) + size by omega, Nat.add_mod_right, Nat.mod_eq_of_lt (by omega)]
    omega

section
variable {n v : Nat} {s : State} (hd : domOn s dHOST = true)
include hd

/-- A new SQ tail inside the SQ posts the descriptors up to it (R40). -/
theorem dblSqTail_of_inside (hst : (ring s n).state = .running ∨ (ring s n).state = .stopping) (hv : v < sqSize s n)
    (hne : v ≠ (ring s n).sqTail) (ht : (ring s n).sqTail < sqSize s n) :
    dblSqTail n v s = { setRing n { ring s n with
      sqTail := v, posted := (ring s n).posted ++ [((v + sqSize s n - (ring s n).sqTail) % sqSize s n, s.dbSeq + 1)] } s with
      dbSeq := s.dbSeq + 1 } := by
  rw [dblSqTail, if_neg (by simp [hd]), if_pos (by simpa using hst), if_neg (Nat.not_le.2 hv), if_neg (queueDist_ne_zero hv ht hne)]

theorem dblSqTail_of_outside (hst : (ring s n).state = .running) (hv : sqSize s n ≤ v) :
    dblSqTail n v s = stopRing n (ringErr n 4 (v % 2 ^ 14) s) := by
  rw [dblSqTail, if_neg (by simp [hd]), if_pos (by simp [hst]), if_pos hv, if_pos hst]

theorem dblSqTail_of_disabled (hst : (ring s n).state = .disabled ∨ (ring s n).state = .stopped) : dblSqTail n v s = s := by
  rw [dblSqTail, if_neg (by simp [hd]), if_neg (by rcases hst with h | h <;> simp [h])]

/-- A CQ head inside the CQ and not past its tail returns slots (R41). -/
theorem dblCqHead_of_inside (hst : (ring s n).state = .running ∨ (ring s n).state = .stopping) (hv : v < cqSize s n)
    (hle : (v + cqSize s n - (ring s n).cqHead) % cqSize s n ≤ ((ring s n).cqTail + cqSize s n - (ring s n).cqHead) % cqSize s n) :
    dblCqHead n v s = reserveMembers n (setRing n { ring s n with cqHead := v } s) := by
  rw [dblCqHead]
  dsimp only
  rw [if_neg (by simp [hd]), if_pos (by simpa using hst), if_neg (Nat.not_le.2 hv), if_neg (Nat.not_lt.2 hle)]

theorem dblCqHead_of_outside (hst : (ring s n).state = .running) (hv : cqSize s n ≤ v) :
    dblCqHead n v s = stopRing n (ringErr n 4 (v % 2 ^ 14) s) := by
  rw [dblCqHead, if_neg (by simp [hd]), if_pos (by simp [hst]), if_pos hv, if_pos hst]

theorem dblCqHead_of_past_tail (hst : (ring s n).state = .running) (hv : v < cqSize s n)
    (hlt : ((ring s n).cqTail + cqSize s n - (ring s n).cqHead) % cqSize s n < (v + cqSize s n - (ring s n).cqHead) % cqSize s n) :
    dblCqHead n v s = stopRing n (ringErr n 7 v s) := by
  rw [dblCqHead, if_neg (by simp [hd]), if_pos (by simp [hst]), if_neg (Nat.not_le.2 hv), if_pos hlt, if_pos hst]

theorem dblCqHead_of_disabled (hst : (ring s n).state = .disabled ∨ (ring s n).state = .stopped) : dblCqHead n v s = s := by
  rw [dblCqHead, if_neg (by simp [hd]), if_neg (by rcases hst with h | h <;> simp [h])]

end

/-- Settles O14: the branches of the two doorbells. -/
theorem doorbellsMoveTheirPointer : Obligations.DoorbellsMoveTheirPointer := by
  intro n v s hd hi hb
  have hd' : domOn (hostTurn s) dHOST = true := hd
  rw [exec_dblSqTail_free hi hb, exec_dblCqHead_free hi hb]
  refine ⟨fun hst hv hne ht => ?_, fun hst hv => ?_, fun hst hv hle => ?_, fun hst hv => ?_, fun hst hv hlt => ?_, fun hst => ⟨?_, ?_⟩⟩
  · rw [dblSqTail_of_inside hd' hst hv hne ht]
    rfl
  · rw [dblSqTail_of_outside hd' hst hv]
  · rw [dblCqHead_of_inside hd' hst hv hle, ring_hostTurn]
  · rw [dblCqHead_of_outside hd' hst hv]
  · rw [dblCqHead_of_past_tail hd' hst hv hlt]
  · rw [dblSqTail_of_disabled hd' hst]
  · rw [dblCqHead_of_disabled hd' hst]

/-! ### The ring-control opcodes (R69, R75, R81) -/

/-- In the alarm clock every answer is recorded as ALARM. -/
theorem finish_alarm_congr {n i : Nat} {r r' : Res} {s : State} (h : alarmNow s = true) : finish n i r s = finish n i r' s := by
  simp [finish, compNow, h]

theorem runDesc_of_refused {s : State} {op n i : Nat} {w : List Word} {b : Res} (body : Body) (h : startable s op n i w = true)
    (hb : admitNow s n w = some b) : runDesc op body n i s = finish n i b s := by
  rw [runDesc_startable body h, hb]

/-- In the alarm clock a descriptor whose body ends it has no effect. -/
theorem runDesc_of_alarm {s u : State} {op n i : Nat} {w : List Word} {r : Res} {body : Body} (ha : alarmNow s = true)
    (hadm : admitNow s n w = none) (h : startable s op n i w = true) (hbody : body n i w s = (u, some r)) :
    runDesc op body n i s = finish n i { st := .alarm } s := by
  rw [runDesc_startable body h, hadm]
  simp only [hbody, afterBody, effect_alarm ha]
  exact finish_alarm_congr ha

theorem runDesc_of_ends {s u : State} {op n i : Nat} {w : List Word} {r : Res} {body : Body} (h : starts s op n i w = true)
    (hbody : body n i w s = (u, some r)) : runDesc op body n i s = finish n i r u := by
  rw [runDesc_starts body h, hbody]

/-- HR_SW_EVENT is not limited, and its number and detail fit. -/
theorem raise_swEvent (n : Fin 64) (w : Word) (s : State) :
    raise 11 n w.toNat s = { s with raised := s.raised ++ [{ src := 11, inst := n, detail := w.toNat, sev := 0 }] } := by
  have hinst : n.val % 256 = n.val := Nat.mod_eq_of_lt (by omega)
  have hdet : w.toNat % 2 ^ 24 = w.toNat := Nat.mod_eq_of_lt w.isLt
  rw [raise_unlimited (by decide), hinst, hdet]
  rfl

/-- Settles O17: each opcode's body ends its descriptor, so the three cases are those of a descriptor that may start. -/
theorem ringControlOpcodesComplete : Obligations.RingControlOpcodesComplete := by
  intro n i w s
  have hnop : bodyNop n i w s = (s, some (okRes 0)) := rfl
  have hbar : bodyBarrier n i w s = (s, some (okRes 0)) := rfl
  have hstop : bodyRingStop n i w s = (stopRing ((wAt w 4).toNat % 64) s, some (okRes 0)) := rfl
  have hev : bodySwEvent n i w s
      = ({ s with raised := s.raised ++ [{ src := 11, inst := n, detail := (wAt w 4).toNat, sev := 0 }] }, some (okRes 0)) := by
    rw [bodySwEvent, raise_swEvent]
  have hexec {u v : State} (h : u = v) : (Host.Outcome.next (finalize u) : Host.Outcome State Fault Refusal) = .next (finalize v) := by rw [h]
  refine ⟨fun h => hexec (runDesc_of_ends h hnop), fun h => hexec (runDesc_of_ends h hbar), fun h => hexec (runDesc_of_ends h hstop),
    fun h => hexec (runDesc_of_ends h hev), fun b hb => ⟨fun h => hexec (runDesc_of_refused _ h hb), fun h => hexec (runDesc_of_refused _ h hb),
      fun h => hexec (runDesc_of_refused _ h hb), fun h => hexec (runDesc_of_refused _ h hb)⟩, fun ha hadm => ⟨fun h => ?_, fun h => ?_,
      fun h => ?_, fun h => ?_⟩⟩
  · exact hexec (runDesc_of_alarm ha hadm h hnop)
  · exact hexec (runDesc_of_alarm ha hadm h hbar)
  · exact hexec (runDesc_of_alarm ha hadm h hstop)
  · exact hexec (runDesc_of_alarm ha hadm h hev)

end Sys2Proof.Machine

/-! PROOF. Descriptor fetch, completion writes and the notification timer (R36, R46 to R49, R61, R76). -/

namespace Sys2Proof.Machine

/-! ### Descriptor fetch (R36, R42, R58, R61) -/

@[simp] theorem ring_served {n m : Nat} {s : State} : ring (served n s) m = ring s m := rfl

theorem ring_popSq_self {n : Nat} {s : State} :
    ring (popSq n s) n = { ring s n with sqHead := ((ring s n).sqHead + 1) % sqSize s n, posted := takePosted (ring s n).posted } :=
  ring_modRing_self

theorem ring_popSq_ne {m n : Nat} {s : State} (h : m ≠ n) : ring (popSq n s) m = ring s m := ring_modRing_ne h

section
variable {n q : Nat} {w : List Word} {s : State}

/-- A readable descriptor outside a group is fetched with its CQ slot. -/
theorem fetchRunning_of_single (hw : memReadWords s (sqBase s n + 48 * (ring s n).sqHead) 16 = some w) (hg : (ring s n).grp ≠ .opened)
    (hb : wBEGIN w = false) :
    fetchRunning n (ring s n) q s = modRing n (fun r => { r with
      window := r.window ++ [{ idx := (ring s n).sqHead, seq := q, words := w, slot := true }] }) (popSq n s) := by
  simp [fetchRunning, hw, hg, hb]

/-- One with BEGIN alone opens a group. -/
theorem fetchRunning_of_begin (hw : memReadWords s (sqBase s n + 48 * (ring s n).sqHead) 16 = some w) (hg : (ring s n).grp ≠ .opened)
    (hb : wBEGIN w = true) (he : wEND w = false) :
    fetchRunning n (ring s n) q s = setRing n { ring (popSq n s) n with
      window := (ring (popSq n s) n).window ++ [{ idx := (ring s n).sqHead, seq := q, words := w, member := true, bad := memberBad true 0 w }]
      grp := .opened } (popSq n s) := by
  simp [fetchRunning, hw, hg, hb, fetchMember, he]

end

/-- A RUNNING ring whose turn it is fetches. -/
theorem descriptorFetch_of_turn {n c q : Nat} {rest : List (Nat × Nat)} {s : State} (hd : domOn s dHOST = true) (hn : nextServed s = some n)
    (hst : (ring s n).state = .running) (hp : (ring s n).posted = (c, q) :: rest) :
    descriptorFetch n s = fetchRunning n (ring (served n s) n) q (served n s) := by
  rw [descriptorFetch, if_pos (by simp [hd, hn]), hst, hp]
  rfl

theorem descriptorFetch_out_of_turn {n : Nat} {s : State} (h : nextServed s ≠ some n) : descriptorFetch n s = s := by
  simp [descriptorFetch, h]

/-! ### Admission (R46) -/

section
variable {n : Nat} {s : State} {e : Ent} (he : entAt s n e.idx = some e) (hst : e.st = .waiting) (hr : e.readable = true)
  (hm : e.member = false) (hs : mayStart s n e = true)
include he hst hr hm hs

theorem admitEnt_of_refused {b : Res} (hb : admitNow s n e.words = some b) : admitEnt n s e = finish n e.idx b s := by
  rw [admitEnt, if_pos (by simp [he, hst, hr, hm, hs]), hb]

theorem admitEnt_of_passed (hb : admitNow s n e.words = none) : admitEnt n s e = s := by
  rw [admitEnt, if_pos (by simp [he, hst, hr, hm, hs]), hb]

end

/-! ### A write of an entry (R49) -/

/-- Host memory takes a part of what it takes whole. -/
theorem memWrBad_mono {s : State} {a b n m : Nat} (h : memWrBad s a n = false) (hab : a ≤ b) (hend : b + m ≤ a + n) : memWrBad s b m = false := by
  simp only [memWrBad, meets, Bool.or_eq_false_iff, List.any_eq_false, Bool.and_eq_true, decide_eq_true_eq, decide_eq_false_iff_not, not_and,
    not_lt] at h ⊢
  obtain ⟨hm, htop⟩ := h
  refine ⟨fun r hr hlt => ?_, by omega⟩
  have := hm r hr (by omega)
  omega

theorem memWrite_good_mem {a : Nat} {l : List Byte} {s : State} (t : Tab Byte) (h : memWrBad s a l.length = false) :
    memWrite a l { s with mem := t } = ({ s with mem := storeBytes a l t }, true) := memWrite_good (s := { s with mem := t }) h

/-- The byte that holds PHASE goes last, and all of them are stored. -/
theorem writeEntry_good {a : Nat} {ws : List Word} {s : State} (hlen : 2 ≤ (wordsBytes ws).length)
    (h : memWrBad s a (wordsBytes ws).length = false) :
    ∃ t, writeEntry a ws s = ({ s with mem := t }, true) ∧
      ∀ k, tabGet 0 t k = if a ≤ k ∧ k < a + (wordsBytes ws).length then (wordsBytes ws).getD (k - a) 0 else memByte s k := by
  generalize hb : wordsBytes ws = b at *
  have h1 : memWrBad s a (b.take 1).length = false := memWrBad_mono h (le_refl a) (by simp)
  have h2 : memWrBad s (a + 2) (b.drop 2).length = false := memWrBad_mono h (by omega) (by simp; omega)
  have h3 : memWrBad s (a + 1) ((b.drop 1).take 1).length = false := memWrBad_mono h (by omega) (by simp; omega)
  refine ⟨storeBytes (a + 1) ((b.drop 1).take 1) (storeBytes (a + 2) (b.drop 2) (storeBytes a (b.take 1) s.mem)), ?_, fun k => ?_⟩
  · rw [writeEntry]
    simp only [hb, memWrite_good h1, memWrite_good_mem _ h2, memWrite_good_mem _ h3]
  · obtain ⟨x, y, r, rfl⟩ : ∃ x y r, b = x :: y :: r := by
      match b, hlen with
      | x :: y :: r, _ => exact ⟨x, y, r, rfl⟩
    simp only [tabGet_storeBytes, memByte, List.take_succ_cons, List.take_zero, List.drop_succ_cons, List.drop_zero, List.length_cons,
      List.length_nil]
    by_cases hk : a ≤ k ∧ k < a + (r.length + 1 + 1)
    · rw [if_pos hk]
      obtain ⟨d, rfl⟩ : ∃ d, k = a + d := ⟨k - a, by omega⟩
      match d with
      | 0 => simp
      | 1 => simp
      | d + 2 =>
        rw [if_neg (by omega), if_pos (by omega), show a + (d + 2) - (a + 2) = d by omega, show a + (d + 2) - a = d + 2 by omega]
        simp
    · rw [if_neg hk, if_neg (by omega), if_neg (by omega), if_neg (by omega)]

@[simp] theorem wordsBytes_length (l : List Word) : (wordsBytes l).length = 3 * l.length := by
  simp [wordsBytes, wordBytes, List.length_flatMap, Nat.mul_comm]

theorem compWords_bytes_length (p : Bool) (e : Ent) (c : Comp) : (wordsBytes (compWords p e c)).length = 24 := by simp [compWords]

/-! ### Notification (R76) -/

/-- A notification touches the count and the timer of its ring. -/
theorem ring_notify_self {n : Nat} {s : State} : ring (notify n s) n = { ring s n with unnot := 0, timer := none } := by
  rw [notify, ring_modRing_self, ring_raise]

theorem ring_notify_ne {m n : Nat} {s : State} (h : m ≠ n) : ring (notify n s) m = ring s m := by
  rw [notify, ring_modRing_ne h, ring_raise]

/-- What a written completion does to its ring, count and timer apart. -/
theorem ring_notifyWritten_self {n : Nat} {now : Bool} {s : State} :
    ∃ k t, ring (notifyWritten n now s) n = { ring s n with unnot := k, timer := t } := by
  unfold notifyWritten
  dsimp only
  split_ifs
  · exact ⟨_, _, by rw [ring_notify_self, ring_modRing_self]⟩
  · exact ⟨_, _, by rw [ring_modRing_self, ring_modRing_self]⟩
  · exact ⟨_, _, by rw [ring_modRing_self]⟩

theorem ring_notifyWritten_ne {m n : Nat} {now : Bool} {s : State} (h : m ≠ n) : ring (notifyWritten n now s) m = ring s m := by
  unfold notifyWritten
  dsimp only
  split_ifs
  · rw [ring_notify_ne h, ring_modRing_ne h]
  · rw [ring_modRing_ne h, ring_modRing_ne h]
  · rw [ring_modRing_ne h]

/-- The eight sources HR_CQk have no limit and no severity. -/
theorem raise_cqSource {k : Nat} (hk : k < 8) (detail : Nat) (s : State) :
    raise k 0 detail s = { s with raised := s.raised ++ [{ src := k, inst := 0, sev := 0, detail := detail % 2 ^ 24 }] } := by
  have hsrc : isLimited k = false ∧ sevOf k = 0 := by
    revert k
    decide
  rw [raise_unlimited hsrc.1, hsrc.2]

theorem notify_raised {n : Nat} {s : State} :
    (notify n s).raised = s.raised ++ [{ src := rfld s (rRING_NOTIFY n) 0 3, inst := 0, sev := 0
                                         detail := lowestUnnotified s (rfld s (rRING_NOTIFY n) 0 3) % 2 ^ 24 }] := by
  have hk : rfld s (rRING_NOTIFY n) 0 3 < 8 := Nat.mod_lt _ (by decide)
  rw [notify, raise_cqSource hk]
  rfl

theorem notifyTimer_of_due {n t : Nat} {s : State} (hd : domOn s dHOST = true) (h : (ring s n).timer = some t) (ht : t ≤ s.clock) :
    notifyTimer n s = notify n s := by
  simp [notifyTimer, h, hd, ht]

theorem notifyTimer_of_running {n t : Nat} {s : State} (h : (ring s n).timer = some t) (ht : s.clock < t) : notifyTimer n s = s := by
  simp [notifyTimer, h, Nat.not_le.2 ht]

/-! ### Completion writes (R48, R49) -/

/-- The ring whose oldest completion has been written. -/
def writtenRing (s : State) (n : Nat) (rest : List Ent) : Ring :=
  let t := ((ring s n).cqTail + 1) % cqSize s n
  { ring s n with window := rest, cqTail := t, phase := if t = 0 then !(ring s n).phase else (ring s n).phase,
                  ccnt := ((ring s n).ccnt + 1) % 2 ^ 48 }

section
variable {n : Nat} {s : State} {e : Ent} {rest : List Ent} {c : Comp}

/-- The oldest completion, done and with its slot, is written where host memory takes it. -/
theorem completionWrite_good (hd : domOn s dHOST = true) (hst : (ring s n).state = .running ∨ (ring s n).state = .stopping)
    (hh : (ring s n).held = false) (hw : (ring s n).window = e :: rest) (he : e.st = .done c) (hslot : e.slot = true) {t : Tab Byte}
    (hgood : writeEntry (cqBase s n + 24 * (ring s n).cqTail) (compWords (ring s n).phase e c) s = ({ s with mem := t }, true)) :
    completionWrite n s = checkStopped n (reserveMembers n (notifyWritten n (e.readable && wEVENT e.words)
      (setRing n (writtenRing s n rest) { s with mem := t }))) := by
  rw [completionWrite]
  dsimp only
  rw [if_neg (by simpa [hd, hh, Classical.or_iff_not_imp_left] using hst), hw]
  simp only [he, hslot, hgood]
  rfl

/-- The ring after the bookkeeping that follows a written completion. -/
theorem ring_after_write {u : State} {b : Bool} :
    let v := checkStopped n (reserveMembers n (notifyWritten n b u))
    (ring v n).cqTail = (ring u n).cqTail ∧ (ring v n).phase = (ring u n).phase ∧ (ring v n).ccnt = (ring u n).ccnt
      ∧ (ring v n).window.map (fun f => (f.idx, f.words, f.st)) = (ring u n).window.map (fun f => (f.idx, f.words, f.st))
      ∧ ∀ m, m ≠ n → ring v m = ring u m := by
  obtain ⟨k, t, hnw⟩ := ring_notifyWritten_self (n := n) (now := b) (s := u)
  have hwin := reservedWindow_map (g := fun f => (f.idx, f.words, f.st)) (fun _ => rfl) (notifyWritten n b u) n
  rw [hnw] at hwin
  dsimp only
  rw [ring_checkStopped_self, ring_reserveMembers_self, hnw]
  refine ⟨?_, ?_, ?_, ?_, fun m hm => ?_⟩
  case refine_5 => rw [ring_checkStopped_ne hm, ring_reserveMembers_ne hm, ring_notifyWritten_ne hm]
  case refine_4 => split_ifs <;> exact hwin
  all_goals split_ifs <;> rfl

end

/-- Settles O15: the equations of fetch, admission, completion write and timer. -/
theorem descriptorsAreFetchedAndCompletionsWritten : Obligations.DescriptorsAreFetchedAndCompletionsWritten := by
  intro n s hd
  refine ⟨fun c q rest w hst hp hn hw hg => ?_, fun hn => ?_, fun e _ he hst hr hm hs => ?_, fun e rest c hst hh hw he hslot hgood => ?_,
    fun t ht hlt => ?_, fun t ht hle => ?_⟩
  · have hfetch := descriptorFetch_of_turn hd hn hst hp
    refine ⟨fun hb => ⟨_, congrArg (fun u => Host.Outcome.next (finalize u)) (hfetch.trans (fetchRunning_of_single (s := served n s) hw hg hb)),
      rfl, ?_, fun m hm => ?_, rfl, rfl⟩, fun hb he => ⟨_, congrArg (fun u => Host.Outcome.next (finalize u))
      (hfetch.trans (fetchRunning_of_begin (s := served n s) hw hg hb he)), rfl, ?_, fun m hm => ?_, rfl, rfl⟩⟩
    · rw [ring_modRing_self, ring_popSq_self, ring_served, hp]
      rfl
    · rw [ring_modRing_ne hm, ring_popSq_ne hm, ring_served]
    · rw [ring_setRing_self, ring_popSq_self, ring_served, hp]
      rfl
    · rw [ring_setRing_ne hm, ring_popSq_ne hm, ring_served]
  · exact congrArg (fun u => Host.Outcome.next (finalize u)) (descriptorFetch_out_of_turn hn)
  · exact ⟨fun b => admitEnt_of_refused he hst hr hm hs, admitEnt_of_passed he hst hr hm hs⟩
  · have hlen := compWords_bytes_length (ring s n).phase e c
    obtain ⟨t, hwrite, hmem⟩ := writeEntry_good (s := s) (a := cqBase s n + 24 * (ring s n).cqTail) (by rw [hlen]; decide) (by rw [hlen]; exact hgood)
    rw [hlen] at hmem
    obtain ⟨htail, hphase, hccnt, hwin, hrings⟩ := ring_after_write (n := n) (b := e.readable && wEVENT e.words)
      (u := setRing n (writtenRing s n rest) { s with mem := t })
    rw [ring_setRing_self] at htail hphase hccnt hwin
    refine ⟨_, congrArg (fun u => Host.Outcome.next (finalize u)) (completionWrite_good hd hst hh hw he hslot hwrite), fun a => ?_, htail, hphase,
      hccnt, hwin, fun m hm => ?_⟩
    · rw [memByte]
      simpa using hmem a
    · rw [hrings m hm, ring_setRing_ne hm]
      rfl
  · exact congrArg (fun u => Host.Outcome.next (finalize u)) (notifyTimer_of_running ht hlt)
  · refine ⟨_, congrArg (fun u => Host.Outcome.next (finalize u)) (notifyTimer_of_due hd ht hle), ?_, ?_, fun m hm => ring_notify_ne hm, by simp,
      notify_raised⟩
    · rw [ring_notify_self]
    · rw [ring_notify_self]

end Sys2Proof.Machine

/-! PROOF. Commit groups: staging, its failure, and the commit point (R57 to R66). -/

namespace Sys2Proof.Machine

/-! ### What the end of a staging leaves -/

@[simp] theorem dropReserved_leaves {s : State} :
    (dropReserved s).rings = s.rings ∧ (dropReserved s).groupStaged = s.groupStaged ∧ (dropReserved s).secys = s.secys
      ∧ (dropReserved s).rxscs = s.rxscs ∧ (dropReserved s).assocs = s.assocs ∧ (dropReserved s).marks = s.marks := by
  simp [dropReserved]

@[simp] theorem dropStaging_leaves {s : State} :
    (dropStaging s).rings = s.rings ∧ (dropStaging s).groupStaged = none ∧ (dropStaging s).secys = s.secys
      ∧ (dropStaging s).rxscs = s.rxscs ∧ (dropStaging s).assocs = s.assocs ∧ (dropStaging s).marks = s.marks := by
  simp [dropStaging]

@[simp] theorem reserveMembers_leaves {n : Nat} {s : State} :
    (reserveMembers n s).groupStaged = s.groupStaged ∧ (reserveMembers n s).secys = s.secys ∧ (reserveMembers n s).rxscs = s.rxscs
      ∧ (reserveMembers n s).assocs = s.assocs ∧ (reserveMembers n s).marks = s.marks := by
  unfold reserveMembers
  split <;> simp

@[simp] theorem raisePerm_leaves {n i : Nat} {r : Res} {s : State} :
    (raisePerm n i r s).groupStaged = s.groupStaged ∧ (raisePerm n i r s).secys = s.secys ∧ (raisePerm n i r s).rxscs = s.rxscs
      ∧ (raisePerm n i r s).assocs = s.assocs ∧ (raisePerm n i r s).marks = s.marks := by
  unfold raisePerm
  split <;> simp

/-! ### Ending a group without applying it (R63, R65) -/

/-- The members end each by its place in the group. -/
theorem closeMembers_members {c : Nat → Comp} {k : Nat} {l : List Ent} :
    ((closeMembers c k l).filter fun e => e.member).map (fun e => e.st)
      = (List.range (l.filter fun e => e.member).length).map (fun j => .done (c (k + j))) := by
  induction l generalizing k with
  | nil => rfl
  | cons e r ih =>
    unfold closeMembers
    by_cases h : e.member = true
    · simp [h, ih, entDone, List.range_succ_eq_map, Function.comp_def, Nat.succ_eq_add_one, Nat.add_assoc, Nat.add_comm 1]
    · simp [h, ih]

theorem closeMembers_others {c : Nat → Comp} {k : Nat} {l : List Ent} :
    (closeMembers c k l).filter (fun e => !e.member) = l.filter fun e => !e.member := by
  induction l generalizing k with
  | nil => rfl
  | cons e r ih =>
    unfold closeMembers
    by_cases h : e.member = true <;> simp [h, ih, entDone]

theorem closeMembers_idx {c : Nat → Comp} {k : Nat} {l : List Ent} :
    ((closeMembers c k l).filter fun e => e.member).map Ent.idx = (l.filter fun e => e.member).map Ent.idx := by
  induction l generalizing k with
  | nil => rfl
  | cons e r ih =>
    unfold closeMembers
    by_cases h : e.member = true <;> simp [h, ih, entDone]

/-- What is read of the entries picked by their membership does not see the CQ slots. -/
theorem reserveList_filter_map {β : Type} {g : Ent → β} (hg : ∀ e, g { e with slot := true } = g e) (p : Bool → Bool) (k : Nat)
    (l : List Ent) : ((reserveList k l).filter fun e => p e.member).map g = (l.filter fun e => p e.member).map g := by
  induction l generalizing k with
  | nil => cases k <;> rfl
  | cons e r ih =>
    cases k with
    | zero => rfl
    | succ k =>
      unfold reserveList
      split <;> cases h : p e.member <;> simp [h, hg, ih]

theorem reservedWindow_filter_map {β : Type} {g : Ent → β} (hg : ∀ e, g { e with slot := true } = g e) (p : Bool → Bool) (s : State)
    (n : Nat) : ((reservedWindow s n).filter fun e => p e.member).map g = ((ring s n).window.filter fun e => p e.member).map g := by
  unfold reservedWindow
  split
  · rfl
  · exact reserveList_filter_map hg p _ _

/-- Ring `n` after its group ended without applying, the CQ slots apart. -/
def closedRing (n : Nat) (c : Nat → Comp) (s : State) : State :=
  modRing n (fun q => { q with window := closeMembers c 0 q.window, grp := .none }) (dropStaging s)

theorem closeGroup_eq {n : Nat} {c : Nat → Comp} {s : State} : closeGroup n c s = reserveMembers n (closedRing n c s) := rfl

theorem ring_closedRing {n : Nat} {c : Nat → Comp} {s : State} :
    ring (closedRing n c s) n = { ring s n with window := closeMembers c 0 (ring s n).window, grp := .none } :=
  ring_modRing_self

section
variable {n : Nat} {c : Nat → Comp} {s : State}

theorem closeGroup_grp : (ring (closeGroup n c s) n).grp = .none := by
  rw [closeGroup_eq, ring_reserveMembers_self, ring_closedRing]

theorem closeGroup_window_map {β : Type} {g : Ent → β} (hg : ∀ e, g { e with slot := true } = g e) (p : Bool → Bool) :
    ((ring (closeGroup n c s) n).window.filter fun e => p e.member).map g
      = ((closeMembers c 0 (ring s n).window).filter fun e => p e.member).map g := by
  rw [closeGroup_eq, ring_reserveMembers_self]
  dsimp only
  rw [reservedWindow_filter_map hg, ring_closedRing]

theorem closeGroup_members_st : (members (ring (closeGroup n c s) n)).map (fun e => e.st)
    = (List.range (members (ring s n)).length).map (fun j => .done (c j)) := by
  refine (closeGroup_window_map (g := fun e => e.st) (fun _ => rfl) id).trans (closeMembers_members.trans ?_)
  simp [members]

theorem closeGroup_members_idx : (members (ring (closeGroup n c s) n)).map Ent.idx = (members (ring s n)).map Ent.idx :=
  (closeGroup_window_map (g := Ent.idx) (fun _ => rfl) id).trans closeMembers_idx

theorem closeGroup_others : ((ring (closeGroup n c s) n).window.filter fun e => !e.member).map (fun e => (e.idx, e.st))
    = ((ring s n).window.filter fun e => !e.member).map (fun e => (e.idx, e.st)) := by
  rw [closeGroup_window_map (g := fun e => (e.idx, e.st)) (fun _ => rfl) not, closeMembers_others]

@[simp] theorem closeGroup_leaves : (closeGroup n c s).groupStaged = none ∧ (closeGroup n c s).secys = s.secys
    ∧ (closeGroup n c s).rxscs = s.rxscs ∧ (closeGroup n c s).assocs = s.assocs ∧ (closeGroup n c s).marks = s.marks := by
  simp [closeGroup]

end

theorem ring_groupFail {n k m : Nat} {r : Res} {s : State} : ring (groupFail n k r s) m
    = ring (closeGroup n (fun j => compNow s (if j = k then r else failRes .commitFail 0)) s) m := by
  simp [groupFail]

@[simp] theorem groupFail_leaves {n k : Nat} {r : Res} {s : State} :
    (groupFail n k r s).groupStaged = none ∧ (groupFail n k r s).secys = s.secys
    ∧ (groupFail n k r s).rxscs = s.rxscs ∧ (groupFail n k r s).assocs = s.assocs ∧ (groupFail n k r s).marks = s.marks := by
  simp [groupFail]

/-! ### COMMIT_GROUP_STAGING (R60) -/

/-- The state in which ring `n`'s group, its members staged as `g` says and none with a lease, is staged. -/
def stagedState (n : Nat) (g : Stage) : State :=
  modRing n (fun r => { r with grp := .staged })
    { g.real with groupStaged := some { ring := n, creates := g.creates, holds := g.holds, plans := [], waits := [] } }

section
variable {n : Nat} {s : State} (hd : domOn s dHOST = true) (hrun : s.pwr.state = .run) (hg : s.groupStaged = none)
  (hr : groupReady s n = true) (ho : otherFirst s n = false)
include hd hrun hg hr ho

theorem commitGroupStaging_of_alarm (ha : alarmNow s = true) :
    commitGroupStaging n s = closeGroup n (fun _ => compNow s (failRes .alarm 0)) s := by
  simp [commitGroupStaging, hd, hrun, hg, hr, ho, ha]

theorem commitGroupStaging_of_error {k : Nat} {r : Res} {t : State} (ha : alarmNow s = false)
    (h : stageAll n 0 (members (ring s n)) { real := s, work := s } = .error (k, r, t)) :
    commitGroupStaging n s = groupFail n k r t := by
  simp [commitGroupStaging, hd, hrun, hg, hr, ho, ha, h]

theorem commitGroupStaging_of_ok {g : Stage} (ha : alarmNow s = false)
    (h : stageAll n 0 (members (ring s n)) { real := s, work := s } = .ok g) (hl : g.leases = []) :
    commitGroupStaging n s = stagedState n g := by
  simp [commitGroupStaging, hd, hrun, hg, hr, ho, ha, h, hl, stagedState]

end

/-- A SECY_SET that passes is staged on the state as it stands, with its own objects and no lease. -/
theorem stageAll_of_secySet {n : Nat} {e : Ent} {s : State} (hop : wOp e.words = 0x10) (hchk : stageChk n e.words s = none) :
    ∃ g, stageAll n 0 [e] { real := s, work := s } = .ok g ∧ g.real = s ∧ g.leases = []
      ∧ g.creates = (memberObjs e.words s).1 ∧ g.holds = (memberObjs e.words s).2 := by
  simp [stageAll, stageMember, hchk, hop, memberLease]

theorem onlySlt_leaves {s t : State} (h : OnlySlt s t) : t.secys = s.secys ∧ t.rxscs = s.rxscs ∧ t.assocs = s.assocs
    ∧ t.marks = s.marks ∧ t.mem = s.mem := by
  unfold OnlySlt at h
  rw [h]
  exact ⟨rfl, rfl, rfl, rfl, rfl⟩

theorem compNow_of_onlySlt {s t : State} (h : OnlySlt s t) (r : Res) : compNow t r = compNow s r := by
  unfold OnlySlt at h
  rw [h]
  rfl

theorem ring_of_onlySlt {s t : State} (h : OnlySlt s t) (n : Nat) : ring t n = ring s n := by
  unfold OnlySlt at h
  rw [h]
  rfl

theorem stagedState_spec {n : Nat} {g : Stage} {s : State} (h : OnlySlt s g.real) :
    (ring (stagedState n g) n).grp = .staged
      ∧ (stagedState n g).groupStaged = some { ring := n, creates := g.creates, holds := g.holds, plans := [], waits := [] }
      ∧ (stagedState n g).secys = s.secys ∧ (stagedState n g).rxscs = s.rxscs ∧ (stagedState n g).assocs = s.assocs
      ∧ (stagedState n g).mem = s.mem ∧ (ring (stagedState n g) n).window = (ring s n).window := by
  have hring : ring (stagedState n g) n = { ring g.real n with grp := .staged } := ring_modRing_self
  obtain ⟨hsecys, hrxscs, hassocs, -, hmem⟩ := onlySlt_leaves h
  rw [hring, ring_of_onlySlt h]
  exact ⟨rfl, rfl, hsecys, hrxscs, hassocs, hmem, rfl⟩

/-! ### COMMIT_POINT (R57, R62) -/

theorem commitPoint_of_staged {n : Nat} {g : Staged} {s : State} (hrun : s.pwr.state = .run) (hg : s.groupStaged = some g)
    (hn : g.ring = n) (hw : g.waits = []) : commitPoint n s = reserveMembers n (dropReserved (commitMembers n g (members (ring s n))
      (setRing n { ring s n with grp := .none } { s with groupStaged := none }))) := by
  simp [commitPoint, hg, hn, hw, hrun]
  rfl

/-- Only an install and an adjustment use what they were staged with. -/
theorem memberApp_plan {p q : Option Assoc} {w : List Word} (hi : wOp w ≠ 0x16) (ha : wOp w ≠ 0x19) (s : State) :
    memberApp p w s = memberApp q w s := by
  unfold memberApp
  split
  case h_5 h => exact absurd h hi
  case h_8 h => exact absurd h ha
  all_goals rfl

theorem commitMembers_cons {n : Nat} {g : Staged} {e : Ent} {r : List Ent} {t : State} (hi : wOp e.words ≠ 0x16)
    (ha : wOp e.words ≠ 0x19) : commitMembers n g (e :: r) t
      = commitMembers n g r (finishMember n (memberApp none e.words t).2 (memberApp none e.words t).1) := by
  conv_lhs => unfold commitMembers
  dsimp only
  rw [memberApp_plan hi ha]

/-! ### The statement -/

/-- Settles O16: staging changes only the SCI tables of the state, a failing group only ends its members, and the commit point unfolds to
the members' effects in order. -/
theorem commitGroupsApplyWholeOrNotAtAll : Obligations.CommitGroupsApplyWholeOrNotAtAll := by
  unfold Obligations.CommitGroupsApplyWholeOrNotAtAll
  intro n s hrun
  refine ⟨fun hd hg hr ho => ⟨?ok, ?secySet, ?fails, ?alarm⟩, ?commit, ?members⟩
  case ok =>
    intro g ha hst hl
    exact ⟨_, congrArg (fun u => Host.Outcome.next (finalize u)) (commitGroupStaging_of_ok hd hrun hg hr ho ha hst hl),
      stagedState_spec (onlySlt_stageAll_ok hst)⟩
  case secySet =>
    intro e ha hm hop hchk
    obtain ⟨g, hst, hreal, hl, hcreates, hholds⟩ := stageAll_of_secySet (n := n) hop hchk
    rw [← hm] at hst
    obtain ⟨hgrp, hstaged, hsecys, hrxscs, hassocs, hmem, hwin⟩ := stagedState_spec (n := n) (onlySlt_stageAll_ok hst)
    refine ⟨_, congrArg (fun u => Host.Outcome.next (finalize u)) (commitGroupStaging_of_ok hd hrun hg hr ho ha hst hl),
      hgrp, ?_, hsecys, hrxscs, hassocs, ?_, hmem, hwin⟩
    · rw [hstaged, hcreates, hholds]
    · simp [stagedState, hreal]
  case fails =>
    intro k r t ha hst
    have ht : OnlySlt s t := onlySlt_stageAll_error hst
    refine ⟨_, congrArg (fun u => Host.Outcome.next (finalize u)) (commitGroupStaging_of_error hd hrun hg hr ho ha hst), ?_⟩
    simp [ring_groupFail, closeGroup_grp, closeGroup_members_st, closeGroup_others, ring_of_onlySlt ht, compNow_of_onlySlt ht,
      onlySlt_leaves ht]
  case alarm =>
    intro ha
    refine ⟨_, congrArg (fun u => Host.Outcome.next (finalize u)) (commitGroupStaging_of_alarm hd hrun hg hr ho ha), closeGroup_grp, ?_,
      closeGroup_members_idx, by simp⟩
    intro e he
    have hst := List.mem_map_of_mem (f := fun e => e.st) he
    rw [closeGroup_members_st] at hst
    obtain ⟨j, -, hj⟩ := List.mem_map.1 hst
    exact hj.symm
  case commit =>
    intro g hg hn hw
    exact congrArg (fun u => Host.Outcome.next (finalize u)) (commitPoint_of_staged hrun hg hn hw)
  case members => exact fun g e r t => ⟨rfl, fun hi ha => commitMembers_cons hi ha⟩

end Sys2Proof.Machine

/-! PROOF. The reset of the block and the power-up of PD_AON (R455, R464, R494, R498). -/

namespace Sys2Proof.Machine

/-! ### Flags of stored registers -/

/-- A bit of a number in which one field was replaced. -/
theorem testBit_setBitsN {v lo len x i : Nat} :
    (setBitsN v lo len x).testBit i = if lo ≤ i ∧ i < lo + len then x.testBit (i - lo) else v.testBit i := by
  have hlow : v % 2 ^ lo < 2 ^ lo := Nat.mod_lt _ (Nat.two_pow_pos lo)
  have hmid (y : Nat) : y % 2 ^ len < 2 ^ len := Nat.mod_lt _ (Nat.two_pow_pos len)
  have hsplit : v = 2 ^ lo * (2 ^ len * (v / 2 ^ lo / 2 ^ len) + v / 2 ^ lo % 2 ^ len) + v % 2 ^ lo := by
    rw [Nat.div_add_mod, Nat.div_add_mod]
  have hset : setBitsN v lo len x = 2 ^ lo * (2 ^ len * (v / 2 ^ lo / 2 ^ len) + x % 2 ^ len) + v % 2 ^ lo := by
    simp only [setBitsN, bitsN, Nat.shiftRight_eq_div_pow]
    rw [Nat.mul_add] at hsplit ⊢
    rw [Nat.mul_comm (v / 2 ^ lo % 2 ^ len), Nat.mul_comm (x % 2 ^ len)]
    omega
  have hv : v.testBit i = (2 ^ lo * (2 ^ len * (v / 2 ^ lo / 2 ^ len) + v / 2 ^ lo % 2 ^ len) + v % 2 ^ lo).testBit i := by
    rw [← hsplit]
  rw [hset, hv, Nat.testBit_two_pow_mul_add _ hlow, Nat.testBit_two_pow_mul_add _ hlow, Nat.testBit_two_pow_mul_add _ (hmid _),
    Nat.testBit_two_pow_mul_add _ (hmid _), Nat.testBit_mod_two_pow x]
  by_cases hlt : i < lo
  · simp [hlt, Nat.not_le.2 hlt]
  · by_cases hin : i - lo < len
    · have : lo ≤ i ∧ i < lo + len := by omega
      simp [hlt, hin, this]
    · have : ¬(lo ≤ i ∧ i < lo + len) := by omega
      simp [hlt, hin, this]

theorem flag_mkW {m i : Nat} (hi : i < 24) : flag (mkW m) i = m.testBit i := by
  rw [flag, mkW, BitVec.toNat_ofNat, Nat.testBit_mod_two_pow]
  simp [hi]

theorem rflag_rsetFld_self {off lo len v i : Nat} {s : State} (hi : i < 24) :
    rflag (rsetFld off lo len v s) off i = if lo ≤ i ∧ i < lo + len then v.testBit (i - lo) else rflag s off i := by
  rw [rflag, rsetFld, rget_rset_self, flag_mkW hi, testBit_setBitsN]
  rfl

theorem rflag_rsetFld_ne {o off lo len v i : Nat} {s : State} (h : o ≠ off) :
    rflag (rsetFld off lo len v s) o i = rflag s o i := by
  rw [rflag, rget_rsetFld_ne _ _ _ _ h]
  rfl

/-! ### BLOCK_RESET -/

/-- What a reset of the block leaves before RESET_REQUIRED and the image's VALID are cleared. -/
def resetBase (s : State) : State :=
  { State.reset with
    regs := tabDrop (fun o => !keptByReset o) s.regs, mem := s.mem, memRdErr := s.memRdErr, memWrErr := s.memWrErr, marks := s.marks
    log := s.log
    pwr := { refuse := s.pwr.refuse, wakePin := s.pwr.wakePin, ckOk := s.pwr.ckOk, imgLen := s.pwr.imgLen }
    tmp := { s.tmp with erasing := false, eraseLevel := 0 }, fuses := s.fuses, pending := s.pending, clock := s.clock, draws := s.draws }

/-- The state after BLOCK_RESET, with the wake pin low and no detection waiting. -/
def resetState (s : State) : State := rsetFld rPWR_CTX_STATUS 0 1 0 (rsetFld rTMP_LATCH 1 1 0 (resetBase s))

theorem blockReset_eq {s : State} (hw : s.pwr.wakePin = false) (hp : s.tmp.pendMask = 0) : blockReset s = resetState s := by
  have hpend : (resetState s).tmp.pendMask = 0 := by simp [resetState, resetBase, hp]
  have hpin : (resetState s).pwr.wakePin = false := by simp [resetState, resetBase, hw]
  change wakeIfHigh (pendToAon (resetState s)) = resetState s
  rw [pendToAon, if_pos hpend, wakeIfHigh, hpin]
  rfl

theorem rget_resetBase {s : State} {o : Nat} : rget (resetBase s) o = if keptByReset o then rget s o else regReset o := by
  have h : rget (resetBase s) o = tabGet (regReset o) (tabDrop (fun o => !keptByReset o) s.regs) o := rfl
  rw [h, tabGet_drop]
  cases keptByReset o <;> rfl

theorem rget_resetState {s : State} {o : Nat} (hl : o ≠ rTMP_LATCH) (hc : o ≠ rPWR_CTX_STATUS) :
    rget (resetState s) o = if keptByReset o then rget s o else regReset o := by
  rw [resetState, rget_rsetFld_ne _ _ _ _ hc, rget_rsetFld_ne _ _ _ _ hl, rget_resetBase]

theorem latch_ne_ctxStatus : rTMP_LATCH ≠ rPWR_CTX_STATUS := by decide

theorem alarmLatch_resetState {s : State} : alarmLatch (resetState s) = alarmLatch s := by
  have hk : keptByReset rTMP_LATCH = true := by decide
  rw [alarmLatch, resetState, rflag_rsetFld_ne latch_ne_ctxStatus, rflag_rsetFld_self (by decide), rflag, rget_resetBase, hk]
  rfl

theorem resetRequired_resetState {s : State} : resetRequired (resetState s) = false := by
  rw [resetRequired, resetState, rflag_rsetFld_ne latch_ne_ctxStatus, rflag_rsetFld_self (by decide)]
  rfl

theorem imgValid_resetState {s : State} : imgValid (resetState s) = false := by
  rw [imgValid, resetState, rflag_rsetFld_self (by decide)]
  rfl

theorem aonPowerUp_eq {s : State} (hw : s.pwr.wakePin = false) : aonPowerUp s = { State.reset with
    mem := s.mem, memRdErr := s.memRdErr, memWrErr := s.memWrErr, fuses := s.fuses, pending := s.pending, draws := s.draws
    pwr := { wakePin := s.pwr.wakePin, ckOk := s.pwr.ckOk } } := by
  unfold aonPowerUp wakeIfHigh
  rw [if_neg]
  simp [hw]

/-- Settles O59: with the wake pin low neither reset goes on to a start, and the two cleared bits apart the state is written out. -/
theorem resetsLeaveWhatTheyKeep : Obligations.ResetsLeaveWhatTheyKeep := by
  unfold Obligations.ResetsLeaveWhatTheyKeep
  intro s hw
  refine ⟨fun hp => ⟨resetState s, congrArg (fun u => Host.Outcome.next (finalize u)) (blockReset_eq hw hp), ?_⟩,
    congrArg (fun u => Host.Outcome.next (finalize u)) (aonPowerUp_eq hw)⟩
  refine ⟨rfl, rfl, rfl, fun _ => rfl, fun _ => rfl, rfl, rfl, rfl, rfl, rfl, rfl, rfl, rfl, rfl, alarmLatch_resetState,
    resetRequired_resetState, imgValid_resetState, rfl, rfl, rfl, rfl, rfl, rfl, rfl, ?_, ?_⟩
  · intro o hk hl hc
    rw [rget_resetState hl hc, if_pos hk]
  · intro o hk
    have hl : o ≠ rTMP_LATCH := fun h => by rw [h] at hk; exact absurd hk (by decide)
    have hc : o ≠ rPWR_CTX_STATUS := fun h => by rw [h] at hk; exact absurd hk (by decide)
    rw [rget_resetState hl hc, hk]
    rfl

end Sys2Proof.Machine

/-! PROOF. SA_SWITCH and SA_ADJUST (R264 to R270). -/

namespace Sys2Proof.Machine

/-! ### What the Belfry and the armed switches leave -/

@[simp] theorem bslotEmpty_keys {i : Nat} {s : State} :
    (bslotEmpty i s).assocs = s.assocs ∧ (bslotEmpty i s).secys = s.secys ∧ (bslotEmpty i s).rxscs = s.rxscs
      ∧ (bslotEmpty i s).marks = s.marks ∧ (bslotEmpty i s).armed = s.armed := by
  unfold bslotEmpty
  dsimp only
  split <;> simp

@[simp] theorem bslotDrop_keys {i : Nat} {s : State} :
    (bslotDrop i s).assocs = s.assocs ∧ (bslotDrop i s).secys = s.secys ∧ (bslotDrop i s).rxscs = s.rxscs
      ∧ (bslotDrop i s).marks = s.marks ∧ (bslotDrop i s).armed = s.armed := by
  unfold bslotDrop
  split <;> simp

@[simp] theorem belfryEmptyOf_keys {sa : Nat} {s : State} :
    (belfryEmptyOf sa s).assocs = s.assocs ∧ (belfryEmptyOf sa s).secys = s.secys ∧ (belfryEmptyOf sa s).rxscs = s.rxscs
      ∧ (belfryEmptyOf sa s).marks = s.marks ∧ (belfryEmptyOf sa s).armed = s.armed := by
  unfold belfryEmptyOf
  split <;> simp

@[simp] theorem belfryFresh_keys {sa : Nat} {s : State} :
    (belfryFresh sa s).assocs = s.assocs ∧ (belfryFresh sa s).secys = s.secys ∧ (belfryFresh sa s).rxscs = s.rxscs
      ∧ (belfryFresh sa s).marks = s.marks ∧ (belfryFresh sa s).armed = s.armed := by
  unfold belfryFresh
  split <;> simp

@[simp] theorem disarm_keys {y c : Nat} {s : State} :
    (disarm y c s).assocs = s.assocs ∧ (disarm y c s).secys = s.secys ∧ (disarm y c s).rxscs = s.rxscs
      ∧ (disarm y c s).marks = s.marks := by
  unfold disarm cancelSwitch
  split <;> simp

@[simp] theorem armedOf_setArmed_self {y : Nat} {x : Option Armed} {s : State} : armedOf (setArmed y x s) y = x := by
  simp [armedOf, setArmed]

@[simp] theorem armedOf_raise {src inst detail y : Nat} {s : State} : armedOf (raise src inst detail s) y = armedOf s y := by
  simp [armedOf]

@[simp] theorem armedOf_disarm_self {y c : Nat} {s : State} : armedOf (disarm y c s) y = none := by
  unfold disarm cancelSwitch
  split
  · simp
  · next h => exact h

theorem encoding_disarm {y z c : Nat} {s : State} : encoding (disarm y c s) z = encoding s z := by
  simp [encoding, liveAssocs]

/-! ### Leases (R262, R270) -/

theorem assocTop_congr {s t : State} (hs : t.secys = s.secys) (hr : t.rxscs = s.rxscs) (a : Assoc) : assocTop t a = assocTop s a := by
  simp [assocTop, assocSecy, secy, rxsc, hs, hr]

theorem needsLease_congr {s t : State} (hs : t.secys = s.secys) (hr : t.rxscs = s.rxscs) (a : Assoc) :
    needsLease t a = needsLease s a := by
  simp only [needsLease, assocTop_congr hs hr]

/-- The threshold does not count for the need of a lease. -/
theorem needsLease_threshold {s : State} {a : Assoc} {p : Nat} {b : Bool} :
    needsLease s { a with threshPn := p, threshSent := b } = needsLease s a := by
  simp only [needsLease, assocTop, assocSecy]
  rfl

theorem requestLease_of_not_needed {sa : Nat} {s : State} (h : needsLease s (assoc s sa) = false) : requestLease sa s = s := by
  simp [requestLease, h]

theorem bestNow_of_no_req {sa : Nat} {s : State} (h : (assoc s sa).req = none) : bestNow sa s = s := by
  simp [bestNow, h]

theorem leaseProgress_of_no_req {sa : Nat} {s : State} (h : (assoc s sa).req = none) : leaseProgress sa s = s := by
  simp [leaseProgress, h]

/-! ### A switch fires (R265) -/

/-- The association that a switch makes the encoding one. -/
def firedAssoc (y sa : Nat) (s : State) : Assoc :=
  { assoc s sa with state := .inUse, nextPn := liftPn s y (assoc s sa).an sa (assoc s sa).nextPn }

/-- The old encoding association of channel `y` steps down, its Belfry slot emptied. -/
def stepDown (y : Nat) (s : State) : State :=
  match encoding s y with
  | some o => belfryEmptyOf o (modAssoc o (fun a => { a with state := .installed }) s)
  | none => s

theorem stepDown_leaves {y : Nat} {s : State} :
    (stepDown y s).secys = s.secys ∧ (stepDown y s).rxscs = s.rxscs ∧ (stepDown y s).marks = s.marks ∧ (stepDown y s).armed = s.armed
      ∧ (stepDown y s).mem = s.mem := by
  unfold stepDown
  split <;> simp

theorem assoc_stepDown_encoding {y o : Nat} {s : State} (h : encoding s y = some o) :
    assoc (stepDown y s) o = { assoc s o with state := .installed } := by
  simp only [stepDown, h, assoc, belfryEmptyOf_keys]
  exact assoc_modAssoc_self

theorem assoc_stepDown_ne {y j : Nat} {s : State} (h : encoding s y ≠ some j) : assoc (stepDown y s) j = assoc s j := by
  unfold stepDown
  split
  · next o ho =>
    have hj : j ≠ o := fun e => h (e ▸ ho)
    simp only [assoc, belfryEmptyOf_keys]
    exact assoc_modAssoc_ne hj
  · rfl

/-- The events of a switch that fires: the PN lifted above its mark, and the switch itself. -/
def switchEvents (y sa trig : Nat) (lifted : Bool) (s : State) : State :=
  let port := secyPort (secy s y)
  raise 36 port (sa + trig * 2 ^ 14) (if lifted then raise 39 port sa s else s)

@[simp] theorem switchEvents_leaves {y sa trig : Nat} {l : Bool} {s : State} :
    (switchEvents y sa trig l s).assocs = s.assocs ∧ (switchEvents y sa trig l s).secys = s.secys
      ∧ (switchEvents y sa trig l s).rxscs = s.rxscs ∧ (switchEvents y sa trig l s).marks = s.marks
      ∧ (switchEvents y sa trig l s).armed = s.armed ∧ (switchEvents y sa trig l s).mem = s.mem := by
  unfold switchEvents
  dsimp only
  split <;> simp

/-- The state after a switch fired, its target's lease not yet looked at. -/
def firedState (y sa trig : Nat) (s : State) : State :=
  switchEvents y sa trig ((assoc s sa).nextPn < liftPn s y (assoc s sa).an sa (assoc s sa).nextPn)
    (belfryFresh sa (setAssoc sa (firedAssoc y sa s) (stepDown y (setArmed y none s))))

section
variable {y sa trig : Nat} {s : State}

theorem firedState_leaves : (firedState y sa trig s).secys = s.secys ∧ (firedState y sa trig s).rxscs = s.rxscs
    ∧ (firedState y sa trig s).marks = s.marks ∧ (firedState y sa trig s).mem = s.mem := by
  simp [firedState, stepDown_leaves]

theorem armedOf_firedState : armedOf (firedState y sa trig s) y = none := by
  have h : (firedState y sa trig s).armed = (setArmed y none s).armed := by simp [firedState, stepDown_leaves]
  rw [armedOf, h]
  exact armedOf_setArmed_self

theorem assoc_firedState {j : Nat} :
    assoc (firedState y sa trig s) j = assoc (setAssoc sa (firedAssoc y sa s) (stepDown y (setArmed y none s))) j := by
  simp [firedState, assoc]

theorem fireSwitch_eq (hpn : liftPn s y (assoc s sa).an sa (assoc s sa).nextPn ≤ assocTop s (assoc s sa)) :
    fireSwitch y sa trig s = requestLease sa (firedState y sa trig s) := by
  have htop : ¬assocTop (setArmed y none s) (assoc s sa) < liftPn s y (assoc s sa).an sa (assoc s sa).nextPn := by
    rw [assocTop_congr (s := s) (by simp) (by simp)]
    omega
  unfold fireSwitch
  dsimp only
  rw [if_neg htop]
  simp only [firedState, switchEvents, decide_eq_true_eq]
  rfl

theorem fireSwitch_of_no_lease (hpn : liftPn s y (assoc s sa).an sa (assoc s sa).nextPn ≤ assocTop s (assoc s sa))
    (hl : needsLease s (firedAssoc y sa s) = false) : fireSwitch y sa trig s = firedState y sa trig s := by
  have h : assoc (firedState y sa trig s) sa = firedAssoc y sa s := by rw [assoc_firedState, assoc_setAssoc_self]
  rw [fireSwitch_eq hpn, requestLease_of_not_needed]
  rw [h, needsLease_congr firedState_leaves.1 firedState_leaves.2.1, hl]

end

/-! ### SA_SWITCH (R264 to R266) -/

section
variable {n : Fin 64} {i : Nat} {w : List Word} {s : State} (h : starts s 0x17 n i w = true) (hchk : chkSwitch n w s = none)
include h hchk

theorem exec_saSwitch_of_passed : exec (.saSwitch n i) s = .next (finalize (finish n i (okRes 0) (appSwitch w s))) :=
  congrArg (fun u => Host.Outcome.next (finalize u)) (runDesc_of_ends h (by simp [bodySaSwitch, hchk]))

end

/-- The target of SA_SWITCH and its channel. -/
def switchTarget (w : List Word) : Nat := fld (wAt w 2) 0 13

theorem appSwitch_immediate {w : List Word} {s : State} (h : fld (wAt w 4) 0 2 = 0) : appSwitch w s =
    fireSwitch (assoc s (switchTarget w)).channel (switchTarget w) 0 (disarm (assoc s (switchTarget w)).channel 0 s) := by
  simp [appSwitch, switchFires, h, switchTarget]

theorem appSwitch_cancel {w : List Word} {s : State} (h : fld (wAt w 4) 0 2 = 3) :
    appSwitch w s = disarm (assoc s (switchTarget w)).channel 1 s := by
  simp [appSwitch, h, switchTarget]

theorem appSwitch_atPn {w : List Word} {s : State} (h : fld (wAt w 4) 0 2 = 1)
    (he : (encoding s (assoc s (switchTarget w)).channel).isSome = true) :
    appSwitch w s = setArmed (assoc s (switchTarget w)).channel (some { target := switchTarget w, trigger := .atPn (w64 w 5) })
      (disarm (assoc s (switchTarget w)).channel 0 s) := by
  have hne : (encoding s (assoc s (switchTarget w)).channel).isNone = false := by
    rw [← Option.not_isSome, he]
    rfl
  simp only [switchTarget] at hne ⊢
  simp [appSwitch, switchFires, h, encoding_disarm, hne]

theorem wcNs_disarm {y c : Nat} {s : State} : wcNs (disarm y c s) = wcNs s := by
  unfold disarm cancelSwitch
  split <;> simp [wcNs]

theorem appSwitch_atTime {w : List Word} {s : State} (h : fld (wAt w 4) 0 2 = 2) (hp : atTimePast w s = false) :
    appSwitch w s = setArmed (assoc s (switchTarget w)).channel
      (some { target := switchTarget w, trigger := .atTime (wcNs s + atTimeAhead w s) })
      (disarm (assoc s (switchTarget w)).channel 0 s) := by
  have hahead {c y : Nat} : atTimeAhead w (disarm y c s) = atTimeAhead w s := by simp [atTimeAhead, wcNs_disarm]
  have hpast {c y : Nat} : atTimePast w (disarm y c s) = false := by rw [← hp, atTimePast, atTimePast, hahead]
  simp [appSwitch, switchFires, h, hpast, hahead, wcNs_disarm, switchTarget]

/-! ### SA_ADJUST (R268 to R270) -/

/-- An adjustment that records no lease and after which none is needed writes its association alone. -/
theorem appAdjust_of_no_lease {w : List Word} {s : State} {a : Assoc} (ha : assoc s (switchTarget w) = a)
    (hreq : (adjustOf w (assocTop s a) a).req = none) (hl : needsLease s (adjustOf w (assocTop s a) a) = false) :
    appAdjust w s = setAssoc (switchTarget w) (adjustOf w (assocTop s a) a) s := by
  subst ha
  have hself : assoc (setAssoc (switchTarget w) (adjustOf w (assocTop s (assoc s (switchTarget w))) (assoc s (switchTarget w))) s)
      (switchTarget w) = adjustOf w (assocTop s (assoc s (switchTarget w))) (assoc s (switchTarget w)) := assoc_setAssoc_self
  have heq : appAdjust w s = requestLease (switchTarget w) (leaseProgress (switchTarget w) (bestNow (switchTarget w)
      (setAssoc (switchTarget w) (adjustOf w (assocTop s (assoc s (switchTarget w))) (assoc s (switchTarget w))) s))) := rfl
  rw [heq, bestNow_of_no_req (by rw [hself, hreq]), leaseProgress_of_no_req (by rw [hself, hreq]), requestLease_of_not_needed]
  rw [hself, needsLease_congr (s := s) (by simp) (by simp), hl]

theorem exec_saAdjust_of_no_lease {n : Fin 64} {i : Nat} {w : List Word} {s : State} {a : Assoc} (h : starts s 0x19 n i w = true)
    (hchk : chkAdjust n w s = none) (ha : assoc s (switchTarget w) = a) (hrec : adjustRecord w (assocTop s a) a = none)
    (hreq : (adjustOf w (assocTop s a) a).req = none) (hl : needsLease s (adjustOf w (assocTop s a) a) = false) :
    exec (.saAdjust n i) s = .next (finalize (finish n i (pnRes (adjustOf w (assocTop s a) a).nextPn)
      (setAssoc (switchTarget w) (adjustOf w (assocTop s a) a) s))) := by
  refine congrArg (fun u => Host.Outcome.next (finalize u)) (runDesc_of_ends h ?_)
  have happ := appAdjust_of_no_lease ha hreq hl
  subst ha
  simp only [switchTarget] at hrec happ ⊢
  simp [bodySaAdjust, hchk, hrec, happ]

theorem adjustRecord_of_rx {w : List Word} {top : Nat} {a : Assoc} (h : a.rx = true) : adjustRecord w top a = none := by
  simp [adjustRecord, h]

theorem adjustRecord_of_no_setPn {w : List Word} {top : Nat} {a : Assoc} (h : flag (wAt w 4) 0 = false) :
    adjustRecord w top a = none := by
  simp [adjustRecord, h]

/-- Which settings an adjustment that passes can name (R268). -/
theorem flags_of_chkAdjust {n : Nat} {w : List Word} {s : State} (h : chkAdjust n w s = none) :
    ((assoc s (switchTarget w)).rx = true → flag (wAt w 4) 1 = false ∧ flag (wAt w 4) 2 = false)
      ∧ ((assoc s (switchTarget w)).rx = false → flag (wAt w 4) 4 = false) := by
  unfold chkAdjust orElse at h
  dsimp only at h
  split at h
  · cases h
  · split at h
    · cases h
    · next hrange =>
      simp only [switchTarget]
      constructor <;> intro hrx <;> simp_all

theorem adjustOf_setPn {w : List Word} {top : Nat} {a : Assoc} (hrx : a.rx = true) (h0 : flag (wAt w 4) 0 = true)
    (h1 : flag (wAt w 4) 1 = false) (h2 : flag (wAt w 4) 2 = false) (h4 : flag (wAt w 4) 4 = false) :
    adjustOf w top a = { a with lowestPn := w64 w 5, nextPn := max a.nextPn (w64 w 5) } := by
  simp [adjustOf, hrx, h0, h1, h2, h4]

theorem adjustOf_threshold {w : List Word} {top : Nat} {a : Assoc} (h0 : flag (wAt w 4) 0 = false)
    (h1 : flag (wAt w 4) 1 = true) (h2 : flag (wAt w 4) 2 = false) (h4 : flag (wAt w 4) 4 = false) :
    adjustOf w top a = { a with threshPn := w64 w 8, threshSent := false } := by
  simp [adjustOf, h0, h1, h2, h4]

section
variable {n : Fin 64} {i : Nat} {w : List Word} {s : State} {a : Assoc} (ha : assoc s (switchTarget w) = a)
  (h : starts s 0x19 n i w = true) (hchk : chkAdjust n w s = none) (hreq : a.req = none)
include ha h hchk hreq

theorem exec_saAdjust_setPn (hrx : a.rx = true) (h0 : flag (wAt w 4) 0 = true) (h4 : flag (wAt w 4) 4 = false)
    (hl : needsLease s { a with lowestPn := w64 w 5, nextPn := max a.nextPn (w64 w 5) } = false) :
    exec (.saAdjust n i) s = .next (finalize (finish n i (pnRes (max a.nextPn (w64 w 5)))
      (setAssoc (switchTarget w) { a with lowestPn := w64 w 5, nextPn := max a.nextPn (w64 w 5) } s))) := by
  obtain ⟨h1, h2⟩ := (flags_of_chkAdjust hchk).1 (by rw [ha, hrx])
  have hadj := adjustOf_setPn (top := assocTop s a) hrx h0 h1 h2 h4
  have hexec := exec_saAdjust_of_no_lease h hchk ha (adjustRecord_of_rx hrx) (by rw [hadj]; exact hreq) (by rw [hadj]; exact hl)
  rw [hadj] at hexec
  exact hexec

theorem exec_saAdjust_threshold (hrx : a.rx = false) (h0 : flag (wAt w 4) 0 = false) (h1 : flag (wAt w 4) 1 = true)
    (h2 : flag (wAt w 4) 2 = false) (hl : needsLease s a = false) :
    exec (.saAdjust n i) s = .next (finalize (finish n i (pnRes a.nextPn)
      (setAssoc (switchTarget w) { a with threshPn := w64 w 8, threshSent := false } s))) := by
  have hadj := adjustOf_threshold (top := assocTop s a) (a := a) h0 h1 h2 ((flags_of_chkAdjust hchk).2 (by rw [ha, hrx]))
  have hexec := exec_saAdjust_of_no_lease h hchk ha (adjustRecord_of_no_setPn h0) (by rw [hadj]; exact hreq)
    (by rw [hadj, needsLease_threshold, hl])
  rw [hadj] at hexec
  exact hexec

end

/-! ### The statement -/

/-- Settles O21: a switch arms, cancels or fires by its trigger; an adjustment that needs no lease writes its association alone. -/
theorem switchAndAdjustChangeTheirAssociation : Obligations.SwitchAndAdjustChangeTheirAssociation := by
  unfold Obligations.SwitchAndAdjustChangeTheirAssociation
  intro n i w s
  refine ⟨fun h hchk => ⟨?immediate, ?atPn, ?atTime, ?cancel⟩, ?fires, ?adjust⟩
  case immediate =>
    intro ht
    rw [exec_saSwitch_of_passed h hchk, appSwitch_immediate ht]
    rfl
  case atPn =>
    intro ht he
    refine ⟨_, exec_saSwitch_of_passed h hchk, ?_⟩
    rw [appSwitch_atPn ht he]
    exact ⟨armedOf_setArmed_self, by simp⟩
  case atTime =>
    intro ht _ hp
    refine ⟨_, exec_saSwitch_of_passed h hchk, ?_⟩
    rw [appSwitch_atTime ht hp]
    exact ⟨armedOf_setArmed_self, by simp⟩
  case cancel =>
    intro ht
    refine ⟨_, exec_saSwitch_of_passed h hchk, ?_⟩
    rw [appSwitch_cancel ht]
    exact ⟨armedOf_disarm_self, by simp⟩
  case fires =>
    intro y sa trig hpn hl
    rw [fireSwitch_of_no_lease hpn hl]
    obtain ⟨-, -, hmarks, hmem⟩ := firedState_leaves (y := y) (sa := sa) (trig := trig) (s := s)
    refine ⟨?_, fun o ho hne => ?_, fun j hne hj => ?_, armedOf_firedState, hmarks, hmem⟩
    · rw [assoc_firedState, assoc_setAssoc_self]
      rfl
    · rw [assoc_firedState, assoc_setAssoc_ne hne, assoc_stepDown_encoding (s := setArmed y none s) ho]
      rfl
    · rw [assoc_firedState, assoc_setAssoc_ne hne, assoc_stepDown_ne (s := setArmed y none s) hj]
      rfl
  case adjust =>
    intro sa a hsa ha h hchk hreq
    obtain rfl : sa = switchTarget w := hsa
    refine ⟨fun hrx h0 h4 hl => ⟨_, exec_saAdjust_setPn ha.symm h hchk hreq hrx h0 h4 hl, ?_⟩,
      fun hrx h0 h1 h2 hl => ⟨_, exec_saAdjust_threshold ha.symm h hchk hreq hrx h0 h1 h2 hl, ?_⟩⟩
    all_goals exact ⟨assoc_setAssoc_self, fun j hj => assoc_setAssoc_ne hj, rfl, rfl, rfl, rfl⟩

end Sys2Proof.Machine

/-! PROOF. The commands on the SCI table (R187 to R200). -/

namespace Sys2Proof.Machine

/-! ### Descriptors that run on, and fields of their words -/

theorem next_finalize_congr {u v : State} (h : u = v) :
    (Host.Outcome.next (finalize u) : Host.Outcome State Fault Refusal) = .next (finalize v) := by rw [h]

theorem runDesc_of_runs {s u : State} {op n i : Nat} {w : List Word} {body : Body} (h : starts s op n i w = true)
    (hbody : body n i w s = (u, none)) : runDesc op body n i s = running n i u := by
  rw [runDesc_starts body h, hbody]

theorem entAt_congr {s t : State} (h : t.rings = s.rings) (n i : Nat) : entAt t n i = entAt s n i := by
  simp only [entAt, ring, h]

theorem finishRun_of_running {n i : Nat} {r : Res} {s : State} {e : Ent} (he : entAt s n i = some e) (hst : e.st = .running) :
    finishRun n i r s = finish n i r s := by
  simp [finishRun, he, hst]

/-- The bits of a field that is 0 are 0. -/
theorem flag_of_fld_eq_zero {w : Word} {lo len i : Nat} (h : fld w lo len = 0) (hlo : lo ≤ i) (hhi : i < lo + len) :
    flag w i = false := by
  have hbit : (fld w lo len).testBit (i - lo) = w.toNat.testBit i := by
    have hlt : i - lo < len := by omega
    rw [fld, bitsN, Nat.testBit_mod_two_pow, Nat.testBit_shiftRight, Nat.add_sub_cancel' hlo]
    simp [hlt]
  rw [flag, ← hbit, h, Nat.zero_testBit]

theorem fld_eq_zero_of_le {w : Word} {lo len len' : Nat} (h : fld w lo len = 0) (hl : len' ≤ len) : fld w lo len' = 0 := by
  unfold fld bitsN at *
  rw [← Nat.mod_mod_of_dvd _ (Nat.pow_dvd_pow 2 hl), h, Nat.zero_mod]

theorem memWriteWords_good {a : Nat} {l : List Word} {s : State} (h : memWrBad s a (3 * l.length) = false) :
    memWriteWords a l s = (stored a (wordsBytes l) s, true) :=
  memWrite_good (by rw [wordsBytes_length, h])

/-! ### SLT_SEED and SHADOW_BUILD_DONE (R193) -/

section
variable {n i : Nat} {w : List Word} {s : State}

theorem bodySltSeed_of_passed (hp : pplPortsOk s n (fld (wAt w 2) 0 2) = true) (hh : heldBy s (.shadow (fld (wAt w 2) 0 2)) = false)
    (hb : (ppl s (fld (wAt w 2) 0 2)).shSt ≠ .building) :
    bodySltSeed n i w s = (setPpl (fld (wAt w 2) 0 2) { ppl s (fld (wAt w 2) 0 2) with
      shadow := { seed := (wAt w 4).toNat }, shSt := .building, seedCmd := some (n, i)
      scrubs := (ppl s (fld (wAt w 2) 0 2)).scrubs.filter fun b => !b.shadow } s, none) := by
  simp [bodySltSeed, hp, hh, hb, modPpl]

end

theorem sltCopy_le (l : List SltEnt) (t : Slt) (c : Nat) : (sltCopy l t c).2 ≤ c + l.length := by
  induction l generalizing t c with
  | nil => exact Nat.le_refl _
  | cons e r ih =>
    rw [List.length_cons]
    unfold sltCopy
    split
    · next t' _ => have := ih t' (c + 1); omega
    · have := ih t c; omega

/-- The copy counts every entry when none finds its ways full, and fewer otherwise. -/
theorem sltCopy_of_room {l : List SltEnt} {t : Slt} (c : Nat) (h : sltCopyFail l t = none) : (sltCopy l t c).2 = c + l.length := by
  induction l generalizing t c with
  | nil => rfl
  | cons e r ih =>
    rw [List.length_cons]
    unfold sltCopyFail at h
    unfold sltCopy
    split at h
    · next t' _ => rw [ih (c + 1) h]; omega
    · cases h

theorem sltCopy_of_no_room {l : List SltEnt} {t : Slt} {x : SltEnt} (c : Nat) (h : sltCopyFail l t = some x) :
    (sltCopy l t c).2 < c + l.length := by
  induction l generalizing t c with
  | nil => cases h
  | cons e r ih =>
    rw [List.length_cons]
    unfold sltCopyFail at h
    unfold sltCopy
    split at h
    · next t' _ => have := ih (c + 1) h; omega
    · have := sltCopy_le r t c; omega

section
variable {k m j : Nat} {s : State} {e : Ent} {l : List SltEnt} (hd : dpRuns s = true) (ha : alarmNow s = false)
  (hsh : (ppl s k).shSt = .building) (hcmd : (ppl s k).seedCmd = some (m, j)) (he : entAt s m j = some e) (hst : e.st = .running)
  (hl : l = (sltList (ppl s k).active).map Prod.snd)
include hd ha hsh hcmd he hst hl

theorem shadowBuildDone_of_room (hroom : sltCopyFail l (ppl s k).shadow = none) :
    shadowBuildDone k s = finish m j (okRes l.length)
      (setPpl k { ppl s k with shadow := (sltCopy l (ppl s k).shadow 0).1, shSt := .ready, seedCmd := none } s) := by
  have hcnt : (sltCopy l (ppl s k).shadow 0).2 = l.length := by rw [sltCopy_of_room 0 hroom, Nat.zero_add]
  refine Eq.trans ?_ (finishRun_of_running ((entAt_congr rfl m j).trans he) hst)
  subst hl
  simp [shadowBuildDone, hsh, hcmd, ha, hd, hroom, hcnt]

theorem shadowBuildDone_of_no_room {x : SltEnt} (hfull : sltCopyFail l (ppl s k).shadow = some x) :
    shadowBuildDone k s = finish m j { st := .noRoom, reason := 4, result := (sltCopy l (ppl s k).shadow 0).2 }
      (setPpl k { ppl s k with shadow := (sltCopy l (ppl s k).shadow 0).1, shSt := .failed, seedCmd := none }
        (raise 50 k (x.port + 2 ^ 6) s)) := by
  have hcnt : (sltCopy l (ppl s k).shadow 0).2 ≠ l.length := by
    have := sltCopy_of_no_room 0 hfull
    omega
  refine Eq.trans ?_ (finishRun_of_running ((entAt_congr (by simp) m j).trans he) hst)
  subst hl
  simp only [List.length_map] at hcnt
  simp [shadowBuildDone, hsh, hcmd, ha, hd, hfull, hcnt]

end

/-! ### SLT_REBUILD and SLT_ENTRY (R194 to R198) -/

/-- The pipeline's tables after SLT_REBUILD. -/
def rebuiltPpl (p : Ppl) : Ppl :=
  { p with active := sltActivate p.epoch p.shadow, shadow := { seed := p.active.seed }, shSt := .empty,
           scrubs := p.scrubs.map fun b => { b with shadow := false } }

theorem appSltRebuild_eq {w : List Word} {s : State} : appSltRebuild w s = raise 52 (fld (wAt w 2) 0 2) (ppl s (fld (wAt w 2) 0 2)).shadow.seed
    (setPpl (fld (wAt w 2) 0 2) (rebuiltPpl (ppl s (fld (wAt w 2) 0 2))) s) := rfl

@[simp] theorem ppl_raise {src inst detail k : Nat} {s : State} : ppl (raise src inst detail s) k = ppl s k := by simp [ppl]

section
variable {n i : Nat} {w : List Word} {s : State} (hp : pplPortsOk s n (fld (wAt w 2) 0 2) = true)
include hp

theorem bodySltEntry_read (h0 : fld (wAt w 4) 0 4 = 0) {out : List Word}
    (hout : out = ((sltList (ppl s (fld (wAt w 2) 0 2)).active).take ((wAt w 7).toNat / 15)).flatMap sltRecord)
    (hm : memWrBad s (join48 (wAt w 5) (wAt w 6)) (3 * out.length) = false) :
    bodySltEntry n i w s = (stored (join48 (wAt w 5) (wAt w 6)) (wordsBytes out) s,
      some (okRes (3 * out.length) (sltList (ppl s (fld (wAt w 2) 0 2)).active).length)) := by
  have hop : fld (wAt w 4) 0 2 = 0 := fld_eq_zero_of_le h0 (by decide)
  have h2 : flag (wAt w 4) 2 = false := flag_of_fld_eq_zero h0 (by decide) (by decide)
  have h3 : flag (wAt w 4) 3 = false := flag_of_fld_eq_zero h0 (by decide) (by decide)
  subst hout
  have hall (l : List (Nat × SltEnt)) : (l.filter fun _ => true) = l := List.filter_eq_self.2 fun _ _ => rfl
  simp only [bodySltEntry, hp, hop, h2, h3, Bool.not_true, Bool.not_false, Bool.true_or, Bool.false_eq_true, if_false, if_true, hall,
    memWriteWords_good hm]

variable (hs : pairStaged s (fld (wAt w 8) 0 5) (w64 w 9) = false) {l : Nat} {e : SltEnt}
  (hf : sltFind (ppl s (fld (wAt w 2) 0 2)).active (fld (wAt w 8) 0 5) (w64 w 9) = some (l, e)) (hb : e.st ≠ .bound)
include hs hf hb

theorem bodySltEntry_remove (hop : fld (wAt w 4) 0 2 = 1) : bodySltEntry n i w s =
    (bothSlt (fld (wAt w 2) 0 2) (sltDrop (fld (wAt w 8) 0 5) (w64 w 9)) s, some (okRes 0)) := by
  simp [bodySltEntry, hp, hop, hs, hf, hb]

theorem bodySltEntry_block (hop : fld (wAt w 4) 0 2 = 2) : bodySltEntry n i w s =
    (bothSlt (fld (wAt w 2) 0 2) (sltMod (fld (wAt w 8) 0 5) (w64 w 9) fun x => { x with st := .blocked }) s, some (okRes 0)) := by
  simp [bodySltEntry, hp, hop, hs, hf, hb]

end

/-! ### The statement -/

/-- Settles O23: each command is its body where its checks pass; the copy of a build counts every entry exactly when each finds a way. -/
theorem sciTableCommandsActOnTheirPipeline : Obligations.SciTableCommandsActOnTheirPipeline := by
  unfold Obligations.SciTableCommandsActOnTheirPipeline
  intro n i w s
  refine ⟨?seed, ?build, ?rebuild, ?read, ?entry⟩
  case seed =>
    exact fun h hp hh hb => next_finalize_congr (runDesc_of_runs h (bodySltSeed_of_passed hp hh hb))
  case build =>
    intro k m j e l hd ha hsh hcmd he hst hl
    refine ⟨fun hroom => next_finalize_congr (shadowBuildDone_of_room hd ha hsh hcmd he hst hl hroom), fun x hfull =>
      ⟨_, next_finalize_congr (shadowBuildDone_of_no_room hd ha hsh hcmd he hst hl hfull), rfl, rfl, ?_⟩⟩
    have := sltCopy_of_no_room 0 hfull
    dsimp only
    omega
  case rebuild =>
    intro h hchk
    refine ⟨_, next_finalize_congr (runDesc_of_ends h (by simp only [bodySltRebuild, hchk]; rfl)), ?_⟩
    rw [appSltRebuild_eq]
    exact ⟨by simp [rebuiltPpl], fun k hk => by rw [ppl_raise, ppl_setPpl_ne hk], by simp⟩
  case read =>
    rintro l out h hp h0 rfl hout hm
    exact next_finalize_congr (runDesc_of_ends h (bodySltEntry_read hp h0 hout hm))
  case entry =>
    intro l e h hp _ hs hf hb
    exact ⟨fun hop => next_finalize_congr (runDesc_of_ends h (bodySltEntry_remove hp hs hf hb hop)),
      fun hop => next_finalize_congr (runDesc_of_ends h (bodySltEntry_block hp hs hf hb hop))⟩

end Sys2Proof.Machine

/-! PROOF. Writing key slots: SLOT_UNWRAP, SLOT_GENERATE and MKA_DERIVE (R296, R300, R301, R303, R311, R312, R317). -/

namespace Sys2Proof.Machine

/-! ### The DRBG (R306) -/

section
variable {b : Bool} {n i : Nat} {s : State}

theorem drbgGen_snd : (drbgGen b n s).2 = (List.range n).map fun j => Config.drbgByte (s.draws + j) := by
  cases b
  · simp only [drbgGen, drawBytes, drbgCount, Bool.false_eq_true, if_false]
    split <;> simp
  · simp [drbgGen, drawBytes]

@[simp] theorem drbgGen_draws : (drbgGen b n s).1.draws = s.draws + n := by
  cases b
  · simp only [drbgGen, drawBytes, drbgCount, Bool.false_eq_true, if_false]
    split <;> simp
  · simp [drbgGen, drawBytes]

@[simp] theorem drbgGen_dome : (drbgGen b n s).1.dome.slots = s.dome.slots ∧ (drbgGen b n s).1.dome.genBase = s.dome.genBase
    ∧ (drbgGen b n s).1.dome.debug = s.dome.debug ∧ (drbgGen b n s).1.fuses = s.fuses ∧ (drbgGen b n s).1.secys = s.secys := by
  cases b
  · simp only [drbgGen, drawBytes, drbgCount, Bool.false_eq_true, if_false]
    split <;> simp
  · simp [drbgGen, drawBytes]

@[simp] theorem slot_drbgGen : slot (drbgGen b n s).1 i = slot s i := by simp [slot]

@[simp] theorem slotGen_drbgGen : slotGen (drbgGen b n s).1 i = slotGen s i := by simp [slotGen]

@[simp] theorem testRootOn_drbgGen : testRootOn (drbgGen b n s).1 = testRootOn s := by simp [testRootOn]

end

/-! ### Writing a slot (R271, R288, R296, R341) -/

/-- What becomes of the key that a slot holds: it is held for the items that await it, or its derived keys are dropped. -/
def keepPreceding (k : Nat) (s : State) : State :=
  if (slot s k).st = .loaded then
    if holdNeeded s k (slotGen s k) then
      { s with dome := { s.dome with held := s.dome.held ++ [{ slot := k, gen := slotGen s k, body := slot s k }] } }
    else dropDerivedGen k (slotGen s k) s
  else s

@[simp] theorem keepPreceding_dome {k : Nat} {s : State} : (keepPreceding k s).dome.slots = s.dome.slots
    ∧ (keepPreceding k s).dome.genBase = s.dome.genBase ∧ (keepPreceding k s).dome.debug = s.dome.debug
    ∧ (keepPreceding k s).fuses = s.fuses ∧ (keepPreceding k s).secys = s.secys := by
  unfold keepPreceding dropDerivedGen
  split_ifs <;> simp

/-- A slot with the key written to it. -/
def writtenSlot (k attr : Nat) (ick : Bool) (key : List Byte) (s : State) : Slot :=
  { st := .loaded, attr, testRoot := testRootOn s, ick, gen := some (nextGen (slotGen s k)), key
    share := (List.range key.length).map fun j => Config.drbgByte (s.draws + j) }

section
variable {k attr : Nat} {ick : Bool} {key : List Byte} {s : State}

theorem writeSlot_eq : writeSlot k attr ick key s =
    setSlot k (writtenSlot k attr ick key s) (keepPreceding k (drbgGen false key.length s).1) := by
  have hroot : testRootOn (keepPreceding k (drbgGen false key.length s).1) = testRootOn s := by simp [testRootOn]
  have hgen : slotGen (drbgGen false key.length s).1 k = slotGen s k := slotGen_drbgGen
  rw [writtenSlot, ← hroot, ← drbgGen_snd (b := false), ← hgen]
  rfl

theorem slot_writeSlot_self : slot (writeSlot k attr ick key s) k = writtenSlot k attr ick key s := by
  rw [writeSlot_eq, slot_setSlot_self]

theorem slot_writeSlot_ne {j : Nat} (h : j ≠ k) : slot (writeSlot k attr ick key s) j = slot s j := by
  rw [writeSlot_eq, slot_setSlot_ne h]
  simp [slot]

@[simp] theorem writeSlot_leaves : (writeSlot k attr ick key s).dome.genBase = s.dome.genBase
    ∧ (writeSlot k attr ick key s).secys = s.secys := by
  rw [writeSlot_eq]
  simp [setSlot]

theorem slotGen_writeSlot_ne {j : Nat} (h : j ≠ k) : slotGen (writeSlot k attr ick key s) j = slotGen s j := by
  simp [slotGen, slot_writeSlot_ne h]

end

/-! ### Commands that may wait for a preceding key (R296) -/

/-- A descriptor that starts is in the window, waiting, with its words. -/
theorem entAt_of_startable {s : State} {op n i : Nat} {w : List Word} (h : startable s op n i w = true) :
    ∃ e, entAt s n i = some e ∧ e.st = .waiting := by
  unfold startable at h
  split at h
  · next e he =>
    simp only [Bool.and_eq_true, decide_eq_true_eq] at h
    obtain ⟨⟨⟨⟨⟨⟨hst, -⟩, -⟩, -⟩, -⟩, -⟩, -⟩ := h
    exact ⟨e, he, hst⟩
  · cases h

section
variable {s u : State} {op n i : Nat} {w : List Word} {waits : List Word → State → Bool} {body : Body}

theorem runWaits_of_starts (h : starts s op n i w = true) :
    runWaits op waits body n i s = runDesc op (fun n i w s => if waits w s then (s, none) else body n i w s) n i s := by
  have hs : startable s op n i w = true := by
    simp only [starts, Bool.and_eq_true] at h
    exact h.1.1
  obtain ⟨e, he, hst⟩ := entAt_of_startable hs
  simp [runWaits, he, hst]

theorem runWaits_of_waits (h : starts s op n i w = true) (hw : waits w s = true) : runWaits op waits body n i s = running n i s := by
  rw [runWaits_of_starts h]
  exact runDesc_of_runs h (by simp [hw])

/-- Once it need not wait, the command completes with its body's answer, whether it starts now or has waited. -/
theorem runWaits_of_ends {r : Res} (h : atWork s op n i w = true) (hw : waits w s = false) (hbody : body n i w s = (u, some r)) :
    runWaits op waits body n i s = finish n i r u := by
  rw [atWork, Bool.or_eq_true] at h
  rcases h with h | h
  · rw [runWaits_of_starts h]
    exact runDesc_of_ends h (by simp [hw, hbody])
  · split at h
    · next e he =>
      simp only [Bool.and_eq_true, decide_eq_true_eq, Bool.not_eq_true'] at h
      obtain ⟨⟨⟨⟨hst, hwords⟩, hop⟩, hd⟩, ha⟩ := h
      subst hwords
      simp [runWaits, he, hst, hop, hd, hw, hbody, effect_noAlarm ha]
    · cases h

theorem atWork_of_starts (h : starts s op n i w = true) : atWork s op n i w = true := by simp [atWork, h]

end

/-! ### SLOT_UNWRAP and SLOT_GENERATE (R300, R301, R312) -/

/-- The key of a slot write's length. -/
def slotKeyLen (w : List Word) : Nat := if flag (wAt w 6) 7 then 32 else 16

section
variable {n i : Nat} {w : List Word} {s : State} {wk : List Byte} (hchk : chkSlotWrite s w = none)
include hchk

section
variable (hwk : resolve s (wAt w 4).toNat 0 .wrap 0 = .ok wk)
  (hset : setOf (fld (wAt w 6) 0 7) &&& setOf (slotDest (slot s ((wAt w 4).toNat % 4096))) = setOf (fld (wAt w 6) 0 7))
include hwk hset

theorem bodySlotUnwrap_down (hd : s.dome.drbgOk = false) : bodySlotUnwrap n i w s = (s, some entropyRes) := by
  simp [bodySlotUnwrap, hchk, hwk, hset, hd]

variable {blob : List Byte} (hd : s.dome.drbgOk = true)
  (hblob : memRead s (join48 (wAt w 7) (wAt w 8)) (fld (wAt w 9) 0 6) = some blob) (hup : s.dome.upset = false)
include hd hblob hup

theorem bodySlotUnwrap_key {key : List Byte} (hkey : kwUnwrap (flag (wAt w 6) 10) wk blob = some key) (hlen : key.length = slotKeyLen w) :
    bodySlotUnwrap n i w s = (writeSlot ((wAt w 2).toNat % 4096) (newAttr w) false key s,
      some (slotRes (writeSlot ((wAt w 2).toNat % 4096) (newAttr w) false key s) ((wAt w 2).toNat % 4096))) := by
  rw [slotKeyLen] at hlen
  simp [bodySlotUnwrap, hchk, hwk, hset, hd, hblob, hup, hkey, hlen]

theorem bodySlotUnwrap_no_key (hkey : (kwUnwrap (flag (wAt w 6) 10) wk blob).filter (fun key => key.length == slotKeyLen w) = none) :
    bodySlotUnwrap n i w s = (raise 99 n ((wAt w 2).toNat % 4096) s, some (failRes .authFail 4)) := by
  cases hk : kwUnwrap (flag (wAt w 6) 10) wk blob with
  | none => simp [bodySlotUnwrap, hchk, hwk, hset, hd, hblob, hup, hk]
  | some key =>
    have hlen : ¬key.length = slotKeyLen w := by
      intro h
      simp [hk, Option.filter, h] at hkey
    rw [slotKeyLen] at hlen
    simp [bodySlotUnwrap, hchk, hwk, hset, hd, hblob, hup, hk, hlen]

end

theorem bodySlotGenerate_down (hd : s.dome.drbgOk = false) : bodySlotGenerate n i w s = (s, some entropyRes) := by
  simp [bodySlotGenerate, hchk, hd]

theorem bodySlotGenerate_up (hd : s.dome.drbgOk = true) {u : State}
    (hu : u = writeSlot ((wAt w 2).toNat % 4096) (newAttr w) false (drbgGen true (slotKeyLen w) s).2 (drbgGen true (slotKeyLen w) s).1) :
    bodySlotGenerate n i w s = (u, some (slotRes u ((wAt w 2).toNat % 4096))) := by
  subst hu
  simp [bodySlotGenerate, hchk, hd, slotKeyLen]

end

/-! ### MKA_DERIVE (R303, R317) -/

/-- The attributes of a derived KEK and ICK, for a CAK of the length given. -/
def kekAttr (len : Nat) : Nat := 2 ^ aWRAP + 2 ^ aLINK + if len = 32 then 2 ^ 7 else 0
def ickAttr (len : Nat) : Nat := 2 ^ aMKA + if len = 32 then 2 ^ 7 else 0

theorem kekAttr_dest (len : Nat) : kekAttr len % 128 = 9 := by
  unfold kekAttr
  split <;> rfl

theorem ickAttr_dest (len : Nat) : ickAttr len % 128 = 64 := by
  unfold ickAttr
  split <;> rfl

/-- The state with the derived KEK and ICK of a CAK of length `len` written to their slots. -/
def mkaWritten (kek ick len : Nat) (cak : List Byte) (w : List Word) (s : State) : State :=
  writeSlot ick (ickAttr len) true (fitBytes len (mkaKdf true cak (keyidOf w) len))
    (writeSlot kek (kekAttr len) false (fitBytes len (mkaKdf false cak (keyidOf w) len)) s)

section
variable {n i : Nat} {w : List Word} {s : State} {cak : List Byte} (hst : s.dome.st = .ready)
  (hne : (wAt w 4).toNat % 4096 ≠ (wAt w 5).toNat % 4096) (hkek : chkFill s (wAt w 4).toNat 4 = none)
  (hick : chkFill s (wAt w 5).toNat 5 = none) (hcak : resolve s (wAt w 2).toNat 0 .mkaCak 0 = .ok cak)
include hst hne hkek hick hcak

theorem bodyMkaDerive_down (hd : s.dome.drbgOk = false) : bodyMkaDerive n i w s = (s, some entropyRes) := by
  simp [bodyMkaDerive, orElse, domeReady, hst, hne, hkek, hick, hcak, hd]

theorem bodyMkaDerive_up (hd : s.dome.drbgOk = true) {kek ick : Nat} {u : State} (hk : kek = (wAt w 4).toNat % 4096)
    (hi : ick = (wAt w 5).toNat % 4096) (hu : u = mkaWritten kek ick (slotLen (slot s ((wAt w 2).toNat % 4096))) cak w s) :
    bodyMkaDerive n i w s = (u, some (okRes (slotKref kek (slotGen u kek) + slotKref ick (slotGen u ick) * 2 ^ 24))) := by
  subst hk hi hu
  simp [bodyMkaDerive, orElse, domeReady, hst, hne, hkek, hick, hcak, hd, mkaWritten, kekAttr, ickAttr]

end

theorem mkaWritten_slots {kek ick len : Nat} {cak : List Byte} {w : List Word} {s u : State} (hne : kek ≠ ick)
    (hu : u = mkaWritten kek ick len cak w s) : (slot u kek).st = .loaded ∧ (slot u kek).ick = false
      ∧ (slot u kek).gen = some (nextGen (slotGen s kek)) ∧ (slot u kek).key = fitBytes len (mkaKdf false cak (keyidOf w) len)
      ∧ (slot u ick).st = .loaded ∧ (slot u ick).ick = true ∧ (slot u ick).gen = some (nextGen (slotGen s ick))
      ∧ (slot u ick).key = fitBytes len (mkaKdf true cak (keyidOf w) len)
      ∧ slotDest (slot u kek) = 9 ∧ slotDest (slot u ick) = 64 ∧ (∀ j, j ≠ kek → j ≠ ick → slot u j = slot s j)
      ∧ u.mem = s.mem ∧ u.secys = s.secys := by
  subst hu
  unfold mkaWritten
  rw [slot_writeSlot_self, slot_writeSlot_ne hne, slot_writeSlot_self]
  refine ⟨rfl, rfl, rfl, rfl, rfl, rfl, ?_, rfl, kekAttr_dest len, ickAttr_dest len, fun j hj hj' => ?_, by simp, by simp⟩
  · rw [writtenSlot, slotGen_writeSlot_ne hne.symm]
  · rw [slot_writeSlot_ne hj', slot_writeSlot_ne hj]

/-! ### The statement -/

/-- Settles O25: each command writes its slots with `writeSlot`, whose own lemmas say what the slot then holds. -/
theorem slotWritesLoadTheirSlot : Obligations.SlotWritesLoadTheirSlot := by
  unfold Obligations.SlotWritesLoadTheirSlot
  rintro n i k w s rfl
  refine ⟨?unwrap, ?generate, ?unwrapWaits, ?generateWaits, ?generateDown, ?unwrapDown, ?mkaDown, ?mka⟩
  case unwrap =>
    intro wk blob h hw hchk hwk hset hd hblob hup
    split
    · next key hkey =>
      obtain ⟨hk, hlen⟩ := Option.filter_eq_some_iff.1 hkey
      exact ⟨_, _, next_finalize_congr (runWaits_of_ends h hw (bodySlotUnwrap_key hchk hwk hset hd hblob hup hk (by simpa [slotKeyLen] using hlen))),
        by simp, by simp, fun j hj => slot_writeSlot_ne hj, rfl, slot_writeSlot_self⟩
    · next hkey =>
      exact ⟨_, _, next_finalize_congr (runWaits_of_ends h hw (bodySlotUnwrap_no_key hchk hwk hset hd hblob hup hkey)),
        by simp, by simp, fun j _ => by simp [slot], rfl, by simp⟩
  case generate =>
    intro h hw hchk hd
    refine ⟨_, next_finalize_congr (runWaits_of_ends h hw (bodySlotGenerate_up hchk hd rfl)), by simp, by simp, ?_, fun j hj => ?_⟩
    · rw [slot_writeSlot_self, writtenSlot, drbgGen_snd]
      simp [slotKeyLen]
    · rw [slot_writeSlot_ne hj, slot_drbgGen]
  case unwrapWaits => exact fun h hw => next_finalize_congr (runWaits_of_waits h hw)
  case generateWaits => exact fun h hw => next_finalize_congr (runWaits_of_waits h hw)
  case generateDown =>
    exact fun h hchk hw hd => next_finalize_congr (runWaits_of_ends (atWork_of_starts h) hw (bodySlotGenerate_down hchk hd))
  case unwrapDown =>
    exact fun wk h hchk hw hd hwk hset =>
      next_finalize_congr (runWaits_of_ends (atWork_of_starts h) hw (bodySlotUnwrap_down hchk hwk hset hd))
  case mkaDown =>
    exact fun cak h hst hne hd hkek hick hcak => next_finalize_congr (runDesc_of_ends h (bodyMkaDerive_down hst hne hkek hick hcak hd))
  case mka =>
    intro cak kek ick h hst hk hi hne hd hkek hick hcak
    exact ⟨_, next_finalize_congr (runDesc_of_ends h (bodyMkaDerive_up hst (hk ▸ hi ▸ hne) hkek hick hcak hd hk hi rfl)),
      mkaWritten_slots hne rfl⟩

end Sys2Proof.Machine

/-! PROOF. Signatures, attestation and measurements (R305, R318, R343 to R346). -/

namespace Sys2Proof.Machine

/-! ### Host memory is read and written alike where nothing of it changed (R52) -/

theorem memWrBad_congr {s t : State} (h : t.memWrErr = s.memWrErr) (a n : Nat) : memWrBad t a n = memWrBad s a n := by
  simp only [memWrBad, h]

theorem memRead_congr {s t : State} (h : t.memRdErr = s.memRdErr) (hm : t.mem = s.mem) (a n : Nat) : memRead t a n = memRead s a n := by
  unfold memRead memRdBad memByte
  rw [h, hm]

/-- A write to the host memory of a state with the same error ranges. -/
theorem memWrite_of_good {s t : State} {a : Nat} {l : List Byte} (h : memWrBad s a l.length = false) (ht : t.memWrErr = s.memWrErr) :
    memWrite a l t = (stored a l t, true) :=
  memWrite_good (by rw [memWrBad_congr ht, h])

@[simp] theorem stored_leaves {a : Nat} {l : List Byte} {s : State} : (stored a l s).dome = s.dome ∧ (stored a l s).draws = s.draws
    ∧ (stored a l s).fuses = s.fuses ∧ (stored a l s).mem = storeBytes a l s.mem := ⟨rfl, rfl, rfl, rfl⟩

/-! ### What the Dome's signing leaves -/

@[simp] theorem touchDcache_leaves {gen kref label : Nat} {u : Use} {len : Nat} {s : State} :
    (touchDcache gen kref label u len s).memRdErr = s.memRdErr ∧ (touchDcache gen kref label u len s).memWrErr = s.memWrErr
      ∧ (touchDcache gen kref label u len s).dome.slots = s.dome.slots ∧ (touchDcache gen kref label u len s).dome.drbgOk = s.dome.drbgOk
      ∧ (touchDcache gen kref label u len s).dome.upset = s.dome.upset ∧ (touchDcache gen kref label u len s).draws = s.draws
      ∧ (touchDcache gen kref label u len s).fuses = s.fuses := by
  unfold touchDcache
  dsimp only
  split_ifs <;> simp

@[simp] theorem drbgGen_leaves {b : Bool} {n : Nat} {s : State} : (drbgGen b n s).1.memWrErr = s.memWrErr
    ∧ (drbgGen b n s).1.dome.record = s.dome.record := by
  cases b
  · simp only [drbgGen, drawBytes, drbgCount, Bool.false_eq_true, if_false]
    split <;> simp
  · simp [drbgGen, drawBytes]

/-! ### SIGN_DIGEST (R305, R318) -/

/-- The state with SIGN_DIGEST's key looked up in the cache of derived keys. -/
def signLooked (w : List Word) (s : State) : State :=
  touchDcache (slotGen s ((wAt w 2).toNat % 4096)) (wAt w 2).toNat (wAt w 3).toNat .sign 32 s

section
variable {n i : Nat} {w : List Word} {s : State} {key : List Byte} (hst : s.dome.st = .ready)
  (hkey : resolve s (wAt w 2).toNat (wAt w 3).toNat .sign 32 = .ok key) (hm : memWrBad s (join48 (wAt w 7) (wAt w 8)) 96 = false)
include hst hkey hm

theorem bodySignDigest_pubKey (h0 : flag (wAt w 4) 0 = true) : bodySignDigest n i w s =
    (stored (join48 (wAt w 7) (wAt w 8)) (fitBytes 96 (ecdsaPub (signScalar key))) (signLooked w s), some (okRes 96)) := by
  have hwr : memWrite (join48 (wAt w 7) (wAt w 8)) (fitBytes 96 (ecdsaPub (signScalar key))) (signLooked w s) = _ :=
    memWrite_of_good (by rw [fitBytes_length, hm]) (by simp [signLooked])
  rw [signLooked] at hwr ⊢
  simp only [bodySignDigest, domeReady, hst, if_true, hkey, h0, hwr]

theorem bodySignDigest_sign {dig : List Byte} (h0 : flag (wAt w 4) 0 = false) (hd : s.dome.drbgOk = true)
    (hdig : memRead s (join48 (wAt w 5) (wAt w 6)) 48 = some dig) (hup : s.dome.upset = false) : bodySignDigest n i w s =
    (stored (join48 (wAt w 7) (wAt w 8)) (fitBytes 96 (ecdsaSign (signScalar key) dig (ecdsaNonce s.draws)))
      (drbgGen false 48 (signLooked w s)).1, some (okRes 96)) := by
  have hrd : memRead (signLooked w s) (join48 (wAt w 5) (wAt w 6)) 48 = some dig := by
    rw [← hdig]
    exact memRead_congr (by simp [signLooked]) (by simp [signLooked]) _ _
  have hwr : memWrite (join48 (wAt w 7) (wAt w 8)) (fitBytes 96 (ecdsaSign (signScalar key) dig (ecdsaNonce s.draws)))
      (drbgGen false 48 (signLooked w s)).1 = _ :=
    memWrite_of_good (by rw [fitBytes_length, hm]) (by simp [signLooked])
  rw [signLooked] at hrd hwr ⊢
  simp [bodySignDigest, domeReady, hst, hkey, h0, hd, hup, hrd, hwr]

end

/-! ### ATTEST (R343, R344) -/

/-- The public keys that ATTEST writes. -/
def attestKeys (s : State) : List Byte :=
  fitBytes 96 (ecdsaPub (idScalar s)) ++ fitBytes 96 (ecdsaPub (importScalar s)) ++ fitBytes 1952 (mldsaPub (pqSeed s))

/-- The statement that ATTEST writes, with its signatures. -/
def attestOut (s : State) (pq : Bool) (chal : List Byte) : List Byte :=
  statement s pq chal ++ fitBytes 96 (ecdsaSign (idScalar s) (hash48 (statement s pq chal)) (ecdsaNonce s.draws))
    ++ (if pq then fitBytes 3309 (mldsaSign (pqSeed s) (statement s pq chal) (mldsaRnd (s.draws + 48))) else [])

theorem deviceRoot_drbgGen {b : Bool} {n : Nat} {s : State} : deviceRoot (drbgGen b n s).1 = deviceRoot s := by
  simp [deviceRoot]

section
variable {n i : Nat} {w : List Word} {s : State} (hst : s.dome.st = .ready ∨ s.dome.st = .alarmed)
include hst

theorem bodyAttest_keys (h0 : flag (wAt w 4) 0 = true) (hm : memWrBad s (join48 (wAt w 7) (wAt w 8)) 2144 = false) :
    bodyAttest n i w s = (stored (join48 (wAt w 7) (wAt w 8)) (attestKeys s) s, some (okRes 2144)) := by
  have hwr : memWrite (join48 (wAt w 7) (wAt w 8)) (attestKeys s) s = _ := memWrite_of_good (by simp [attestKeys, hm]) rfl
  rw [attestKeys] at hwr ⊢
  rcases hst with hst | hst <;> simp [bodyAttest, hst, h0, hwr, -List.append_assoc]

theorem bodyAttest_statement {chal : List Byte} {pq : Bool} (h0 : flag (wAt w 4) 0 = false)
    (hpq : pq = (flag (wAt w 4) 1 || bitN s.dome.record.policy 5)) (hroom : (if pq then 4269 else 960) ≤ (wAt w 9).toNat)
    (hd : s.dome.drbgOk = true) (hchal : memRead s (join48 (wAt w 5) (wAt w 6)) (fld (wAt w 4) 2 6) = some chal)
    (hup : s.dome.upset = false) (hm : memWrBad s (join48 (wAt w 7) (wAt w 8)) (attestOut s pq chal).length = false) :
    bodyAttest n i w s = (stored (join48 (wAt w 7) (wAt w 8)) (attestOut s pq chal) (drbgGen false 80 s).1,
      some (okRes (attestOut s pq chal).length)) := by
  have hwr : memWrite (join48 (wAt w 7) (wAt w 8)) (attestOut s pq chal) (drbgGen false 80 s).1 = _ :=
    memWrite_of_good hm (by simp)
  have hready : (s.dome.st == .ready || s.dome.st == .alarmed) = true := by rcases hst with hst | hst <;> simp [hst]
  rw [attestOut] at hwr ⊢
  simp only [bodyAttest, hready, h0, ← hpq, Nat.not_lt.2 hroom, hd, hchal, hup, idScalar, pqSeed, deviceRoot_drbgGen, Bool.not_true,
    Bool.false_eq_true, if_false] at hwr ⊢
  rw [hwr]

end

/-! ### Measurements (R345, R346) -/

theorem measOf_extend_self {k : Nat} {d : List Byte} {s : State} : measOf (extend k d s) k = hash48 (measOf s k ++ d) := by
  simp [measOf, extend]

theorem measOf_extend_ne {j k : Nat} {d : List Byte} {s : State} (h : j ≠ k) : measOf (extend k d s) j = measOf s j := by
  simp [measOf, extend, tabGet_put_ne _ _ _ h]

theorem bodyMeasRead_good {n i : Nat} {w : List Word} {s : State} (hm : memWrBad s (join48 (wAt w 4) (wAt w 5)) 768 = false) :
    bodyMeasRead n i w s = (stored (join48 (wAt w 4) (wAt w 5)) ((List.range 16).flatMap fun j => fitBytes 48 (measOf s j)) s,
      some (okRes 768)) := by
  have hlen : ((List.range 16).flatMap fun j => fitBytes 48 (measOf s j)).length = 768 := by simp [List.length_flatMap]
  have hwr : memWrite (join48 (wAt w 4) (wAt w 5)) ((List.range 16).flatMap fun j => fitBytes 48 (measOf s j)) s = _ :=
    memWrite_of_good (by rw [hlen, hm]) rfl
  simp only [bodyMeasRead, hwr]

/-! ### The statement -/

/-- Settles O27: each command writes its bytes where host memory takes them, and draws what its nonce needs. -/
theorem signaturesAndMeasurementsAreWritten : Obligations.SignaturesAndMeasurementsAreWritten := by
  unfold Obligations.SignaturesAndMeasurementsAreWritten
  intro n i w s
  refine ⟨?sign, ?attest, ?extend, ?read⟩
  case sign =>
    intro key h hst hkey hm
    refine ⟨fun h0 => ⟨_, next_finalize_congr (runDesc_of_ends h (bodySignDigest_pubKey hst hkey hm h0)), ?_⟩, fun dig h0 hd hdig hup =>
      ⟨_, next_finalize_congr (runDesc_of_ends h (bodySignDigest_sign hst hkey hm h0 hd hdig hup)), ?_⟩⟩
    all_goals simp [signLooked]
  case attest =>
    intro h hst
    refine ⟨fun h0 hm => next_finalize_congr (runDesc_of_ends h (bodyAttest_keys hst h0 hm)), ?_⟩
    rintro chal pq l h0 hpq hroom hd hchal hup rfl hm
    exact ⟨_, next_finalize_congr (runDesc_of_ends h (bodyAttest_statement hst h0 hpq hroom hd hchal hup hm)), by simp [attestOut]⟩
  case extend =>
    intro d h hd
    exact ⟨_, next_finalize_congr (runDesc_of_ends h (by simp only [bodyMeasExtend, hd])), measOf_extend_self,
      fun j hj => measOf_extend_ne hj, rfl, rfl, rfl⟩
  case read => exact fun h hm => next_finalize_congr (runDesc_of_ends h (bodyMeasRead_good hm))

end Sys2Proof.Machine

/-! PROOF. Key update messages and their commits (R328, R332, R333, R342). -/

namespace Sys2Proof.Machine

/-! ### What leaves the Dome and the fuses

A commit that revokes a slot fails the items that await its key; their frames, jobs and transfers end, and the Dome is left. -/

/-- The Dome and the fuses. -/
def domeView (s : State) : Dome × Fuses := (s.dome, s.fuses)

theorem domeView_eq_iff {s u : State} : domeView u = domeView s ↔ u.dome = s.dome ∧ u.fuses = s.fuses := by simp [domeView]

theorem domeView_foldl {α : Type} {f : State → α → State} (h : ∀ s a, domeView (f s a) = domeView s) (l : List α) (s : State) :
    domeView (l.foldl f s) = domeView s := by
  induction l generalizing s with
  | nil => rfl
  | cons a r ih => rw [List.foldl_cons, ih, h]

@[simp] theorem domeView_rset {off : Nat} {v : Word} {s : State} : domeView (rset off v s) = domeView s := rfl

@[simp] theorem domeView_rsetFld {off lo len v : Nat} {s : State} : domeView (rsetFld off lo len v s) = domeView s := rfl

@[simp] theorem domeView_rsat {off lo len inc : Nat} {s : State} : domeView (rsat off lo len inc s) = domeView s := rfl

@[simp] theorem domeView_raise {src inst detail : Nat} {s : State} : domeView (raise src inst detail s) = domeView s := by simp [domeView]

@[simp] theorem domeView_setItem {id : Nat} {x : Option Item} {s : State} : domeView (setItem id x s) = domeView s := rfl

@[simp] theorem domeView_setEg {id : Nat} {f : Option EgFrame} {s : State} : domeView (setEg id f s) = domeView s := rfl

@[simp] theorem domeView_setIg {id : Nat} {f : Option IgFrame} {s : State} : domeView (setIg id f s) = domeView s := rfl

@[simp] theorem domeView_setCore {f : IgFrame} {o : CoreFrame} {s : State} : domeView (setCore f o s) = domeView s := rfl

@[simp] theorem domeView_setBslot {i : Nat} {b : BSlot} {s : State} : domeView (setBslot i b s) = domeView s := rfl

@[simp] theorem domeView_modXfers {f : StcXfer → StcXfer} {c : Nat} {s : State} : domeView (modXfers f c s) = domeView s := rfl

@[simp] theorem domeView_cntEg {port c : Nat} {s : State} : domeView (cntEg port c s) = domeView s := rfl

@[simp] theorem domeView_cntIg {port c : Nat} {s : State} : domeView (cntIg port c s) = domeView s := rfl

@[simp] theorem domeView_cacheDrop {p : CacheEnt → Bool} {s : State} : domeView (cacheDrop p s) = domeView s := rfl

@[simp] theorem domeView_finish {n i : Nat} {r : Res} {s : State} : domeView (finish n i r s) = domeView s := by
  unfold finish raisePerm
  split <;> simp [domeView]

@[simp] theorem domeView_cntSaOf {sa serial i inc : Nat} {s : State} : domeView (cntSaOf sa serial i inc s) = domeView s := by
  unfold cntSaOf cntSa
  split_ifs <;> rfl

@[simp] theorem domeView_igSecy {f : IgFrame} {i inc : Nat} {s : State} : domeView (igSecy f i inc s) = domeView s := by
  unfold igSecy cntSecyOf cntSecy
  split
  · split_ifs <;> rfl
  · rfl

@[simp] theorem domeView_igRxsc {f : IgFrame} {i inc : Nat} {s : State} : domeView (igRxsc f i inc s) = domeView s := by
  unfold igRxsc cntRxOf cntRx
  split
  · split_ifs <;> rfl
  · rfl

@[simp] theorem domeView_igSa {f : IgFrame} {i inc : Nat} {s : State} : domeView (igSa f i inc s) = domeView s := domeView_cntSaOf

@[simp] theorem domeView_igCharge {k : Nat} {f : IgFrame} {s : State} : domeView (igCharge k f s) = domeView s := by
  unfold igCharge
  split <;> simp [apply_ite domeView, igOctets]

@[simp] theorem domeView_igGone {id : Nat} {f : IgFrame} {s : State} : domeView (igGone id f s) = domeView s := rfl

@[simp] theorem domeView_cutBytes {k : Nat} {f : IgFrame} {s : State} : domeView (cutBytes k f s).1 = domeView s := by
  unfold cutBytes
  split_ifs <;> rfl

@[simp] theorem domeView_igEnd {id k : Nat} {f : IgFrame} {s : State} : domeView (igEnd id k f s) = domeView s := by
  unfold igEnd igAbort
  split_ifs <;> simp

@[simp] theorem domeView_igKeyFail {id st : Nat} {f : IgFrame} {s : State} : domeView (igKeyFail id st f s) = domeView s := by
  unfold igKeyFail igFail
  split_ifs <;> simp

@[simp] theorem domeView_egKeyFail {id st : Nat} {f : EgFrame} {s : State} : domeView (egKeyFail id st f s) = domeView s := by
  unfold egKeyFail egEnd egDrop
  split_ifs <;> simp

@[simp] theorem domeView_havoc {a n : Nat} {s : State} : domeView (havoc a n s) = domeView s := by
  have hwr (l : List Byte) (t : State) : domeView (memWrite a l t).1 = domeView t := by
    rcases memWrite_cases a l t with ⟨h, -⟩ | ⟨_, h⟩ <;> rw [h] <;> rfl
  exact hwr _ _

@[simp] theorem domeView_jobEnd {id n i : Nat} {r : Res} {s : State} : domeView (jobEnd id n i r s) = domeView s := by
  unfold jobEnd
  dsimp only
  split
  · split_ifs <;> simp
  · simp

@[simp] theorem domeView_dropUnits {x : StcXfer} {k : Nat} {s : State} : domeView (dropUnits x k s) = domeView s :=
  domeView_foldl (fun _ _ => domeView_setItem) _ _

@[simp] theorem domeView_unitFail {id : Nat} {r : Res} {s : State} : domeView (unitFail id r s) = domeView s := by
  unfold unitFail
  split <;> simp

@[simp] theorem domeView_itemFail {id : Nat} {r : Res} {s : State} : domeView (itemFail id r s) = domeView s := by
  unfold itemFail
  (repeat' split) <;> simp

@[simp] theorem domeView_bslotDrop {i : Nat} {s : State} : domeView (bslotDrop i s) = domeView s := by
  unfold bslotDrop bslotEmpty
  dsimp only
  (repeat' split) <;> simp

@[simp] theorem domeView_eraseHook {i : Nat} {s : State} : domeView (eraseHook i s) = domeView s := by
  refine (domeView_foldl (fun s p => ?_) _ _).trans ((domeView_foldl (fun s c => domeView_foldl (fun s x => ?_) _ _) _ _).trans
    ((domeView_foldl (fun s p => ?_) _ _).trans domeView_cacheDrop))
  · (repeat' split) <;> simp
  · split_ifs <;> simp
  · (repeat' split) <;> simp

/-! ### Slots that a commit changes (R273, R298, R333) -/

/-- What a commit's own part of the Dome is: the record with its commit, the measurements and the Dome's state. -/
def commitView (s : State) : Record × Option PendingCommit × Bool × Tab (List Byte) × DomeSt × Fuses :=
  (s.dome.record, s.dome.commit, s.dome.recordBlank, s.dome.meas, s.dome.st, s.fuses)

theorem commitView_congr {s u : State} (h : domeView u = domeView s) : commitView u = commitView s := by
  obtain ⟨hdome, hfuses⟩ := domeView_eq_iff.1 h
  simp [commitView, hdome, hfuses]

@[simp] theorem commitView_drbgGen {b : Bool} {n : Nat} {s : State} : commitView (drbgGen b n s).1 = commitView s := by
  cases b
  · simp only [drbgGen, drawBytes, drbgCount, Bool.false_eq_true, if_false]
    split <;> rfl
  · rfl

@[simp] theorem commitView_writeSlot {k attr : Nat} {ick : Bool} {key : List Byte} {s : State} :
    commitView (writeSlot k attr ick key s) = commitView s := by
  have hkeep (t : State) : commitView (keepPreceding k t) = commitView t := by
    unfold keepPreceding
    split_ifs <;> rfl
  have hset (v : Slot) (t : State) : commitView (setSlot k v t) = commitView t := rfl
  rw [writeSlot_eq, hset, hkeep, commitView_drbgGen]

/-- The slot table of a state with slot `i` revoked. -/
theorem revokeSlot_dome {i : Nat} {s : State} : domeView (revokeSlot i s) = domeView (dropDerived i
    (setSlot i { slot s i with st := .revoked, key := [], share := [] }
      { s with dome := { s.dome with held := s.dome.held.filter fun h => h.slot != i } })) := domeView_eraseHook

@[simp] theorem commitView_revokeSlot {i : Nat} {s : State} : commitView (revokeSlot i s) = commitView s :=
  (commitView_congr revokeSlot_dome).trans rfl

theorem slot_revokeSlot_ne {i j : Nat} {s : State} (h : j ≠ i) : slot (revokeSlot i s) j = slot s j := by
  have hdome := (domeView_eq_iff.1 (revokeSlot_dome (i := i) (s := s))).1
  rw [slot, hdome]
  exact slot_setSlot_ne (s := s) (v := { slot s i with st := .revoked, key := [], share := [] }) h

/-- One changed slot of a committed message. -/
def applyOp (s : State) (o : Nat × Option PKey) : State :=
  if slotLock (slot s o.1) then s
  else match o.2 with
    | some k => writeSlot o.1 k.attr false k.key s
    | none => revokeSlot o.1 s

theorem applyOps_cons {o : Nat × Option PKey} {r : List (Nat × Option PKey)} {s : State} :
    applyOps (o :: r) s = applyOps r (applyOp s o) := rfl

@[simp] theorem commitView_applyOp {o : Nat × Option PKey} {s : State} : commitView (applyOp s o) = commitView s := by
  unfold applyOp
  (repeat' split) <;> simp

@[simp] theorem commitView_applyOps {l : List (Nat × Option PKey)} {s : State} : commitView (applyOps l s) = commitView s := by
  induction l generalizing s with
  | nil => rfl
  | cons o r ih => rw [applyOps_cons, ih, commitView_applyOp]

theorem slot_applyOp {o : Nat × Option PKey} {j : Nat} {s : State} (h : o.1 ≠ j ∨ slotLock (slot s j) = true) :
    slot (applyOp s o) j = slot s j := by
  unfold applyOp
  split
  · rfl
  · next hlock =>
    have hne : j ≠ o.1 := by
      rintro rfl
      simp [hlock] at h
    split
    · exact slot_writeSlot_ne hne
    · exact slot_revokeSlot_ne hne

/-- A slot that no record names, or that is LOCKed, is left. -/
theorem slot_applyOps {l : List (Nat × Option PKey)} {j : Nat} {s : State} (h : (∀ o ∈ l, o.1 ≠ j) ∨ slotLock (slot s j) = true) :
    slot (applyOps l s) j = slot s j := by
  induction l generalizing s with
  | nil => rfl
  | cons o r ih =>
    have hop : slot (applyOp s o) j = slot s j := slot_applyOp (h.imp_left fun h => h o List.mem_cons_self)
    rw [applyOps_cons, ih, hop]
    rw [hop]
    exact h.imp_left fun h o ho => h o (List.mem_cons_of_mem _ ho)

/-! ### Loading the keys of an image (R335) -/

theorem loadKeys_cons {k : PKey} {r : List PKey} {s : State} : loadKeys (k :: r) s = loadKeys r (writeSlot k.slot k.attr false k.key s) := rfl

@[simp] theorem commitView_loadKeys {l : List PKey} {s : State} : commitView (loadKeys l s) = commitView s := by
  induction l generalizing s with
  | nil => rfl
  | cons k r ih => rw [loadKeys_cons, ih, commitView_writeSlot]

theorem rget_drbgGen_ne {b : Bool} {n o : Nat} {s : State} (h : o ≠ rDOM_DRBG) : rget (drbgGen b n s).1 o = rget s o := by
  cases b
  · simp only [drbgGen, drawBytes, drbgCount, Bool.false_eq_true, if_false]
    split
    · rfl
    · exact rget_rsat_ne _ _ _ _ h
  · exact rget_rsat_ne _ _ _ _ h

theorem rget_writeSlot_ne {k attr o : Nat} {ick : Bool} {key : List Byte} {s : State} (h : o ≠ rDOM_DRBG) :
    rget (writeSlot k attr ick key s) o = rget s o := by
  have hkeep (t : State) : rget (keepPreceding k t) o = rget t o := by
    unfold keepPreceding
    split_ifs <;> rfl
  have hset (v : Slot) (t : State) : rget (setSlot k v t) o = rget t o := rfl
  rw [writeSlot_eq, hset, hkeep, rget_drbgGen_ne h]

theorem rget_loadKeys_ne {l : List PKey} {o : Nat} {s : State} (h : o ≠ rDOM_DRBG) : rget (loadKeys l s) o = rget s o := by
  induction l generalizing s with
  | nil => rfl
  | cons k r ih => rw [loadKeys_cons, ih, rget_writeSlot_ne h]

/-! ### The effect instant of a commit (R333) -/

/-- The state with a commit's record and measurements. -/
def recorded (c : PendingCommit) (s : State) : State :=
  let t := { s with dome := { s.dome with record := c.record, recordBlank := false, imageLost := false, commit := none } }
  extend 1 c.kumHash (extend 0 (hash48 (recordBytes t false c.record)) t)

/-- The state in which a commit is noted, its slots not yet changed. -/
def committed (n : Nat) (c : PendingCommit) (s : State) : State :=
  raise 102 n (c.record.counter % 2 ^ 24) (setMark (recorded c s))

theorem setMark_dome {s : State} : domeView (setMark s) = domeView s := by
  unfold setMark
  split <;> rfl

section
variable {n : Nat} {c : PendingCommit} {s : State}

theorem applyCommit_of_rearm (hst : s.dome.st = .alarmed) (hr : c.rearm = true) : applyCommit n c s =
    raise 108 n (c.record.counter % 2 ^ 24) (setDomeSt .ready (loadKeys c.keys (rsetFld rTMP_LATCH 0 1 0 (committed n c s)))) := by
  have h : (s.dome.st == .alarmed && c.rearm) = true := by simp [hst, hr]
  exact if_pos h

theorem applyCommit_of_ops (h : (s.dome.st == .alarmed && c.rearm) = false) : applyCommit n c s =
    if c.rearm then rsetFld rTMP_LATCH 0 1 0 (applyOps c.ops (committed n c s)) else applyOps c.ops (committed n c s) := by
  have h : ¬(s.dome.st == .alarmed && c.rearm) = true := by simp [h]
  exact if_neg h

theorem committed_dome : (committed n c s).dome.record = c.record ∧ (committed n c s).dome.commit = none
    ∧ (committed n c s).dome.recordBlank = false ∧ measOf (committed n c s) 1 = hash48 (measOf s 1 ++ c.kumHash)
    ∧ (committed n c s).dome.st = s.dome.st ∧ (committed n c s).fuses = s.fuses ∧ (committed n c s).dome.slots = s.dome.slots := by
  have hview : domeView (committed n c s) = domeView (recorded c s) := domeView_raise.trans setMark_dome
  obtain ⟨hdome, hfuses⟩ := domeView_eq_iff.1 hview
  simp only [measOf, hdome, hfuses]
  refine ⟨rfl, rfl, rfl, ?_, rfl, rfl, rfl⟩
  refine measOf_extend_self.trans ?_
  rw [measOf_extend_ne (by decide)]
  rfl

theorem setDomeSt_dome {st : DomeSt} : (setDomeSt st s).dome = { s.dome with st } ∧ (setDomeSt st s).fuses = s.fuses := by
  unfold setDomeSt
  split
  · next h => rw [← h]; exact ⟨rfl, rfl⟩
  · simp

/-- Whether it re-arms or changes slots, a commit leaves the parts of the Dome that it decides as `committed` wrote them. -/
theorem applyCommit_view : (applyCommit n c s).dome.record = c.record ∧ (applyCommit n c s).dome.commit = none
    ∧ (applyCommit n c s).dome.recordBlank = false ∧ (applyCommit n c s).fuses = s.fuses
    ∧ measOf (applyCommit n c s) 1 = hash48 (measOf s 1 ++ c.kumHash) := by
  obtain ⟨hrec, hcom, hblank, hmeas, -, hfuses, -⟩ := committed_dome (n := n) (c := c) (s := s)
  by_cases h : (s.dome.st == .alarmed && c.rearm) = true
  · obtain ⟨hst, hr⟩ : s.dome.st = .alarmed ∧ c.rearm = true := by simpa using h
    have hview : commitView (loadKeys c.keys (rsetFld rTMP_LATCH 0 1 0 (committed n c s))) = commitView (committed n c s) :=
      commitView_loadKeys
    simp only [commitView, Prod.mk.injEq] at hview
    obtain ⟨h1, h2, h3, h4, -, h6⟩ := hview
    simp only [applyCommit_of_rearm hst hr, raise_leaves, measOf, setDomeSt_dome, h1, h2, h3, h4, h6]
    exact ⟨hrec, hcom, hblank, hfuses, hmeas⟩
  · have hview : commitView (applyCommit n c s) = commitView (committed n c s) := by
      rw [applyCommit_of_ops (by simpa using h)]
      split
      · exact (commitView_congr domeView_rsetFld).trans commitView_applyOps
      · exact commitView_applyOps
    simp only [commitView, Prod.mk.injEq] at hview
    obtain ⟨h1, h2, h3, h4, -, h6⟩ := hview
    simp only [measOf, h1, h2, h3, h4, h6]
    exact ⟨hrec, hcom, hblank, hfuses, hmeas⟩

theorem slot_applyCommit {j : Nat} (hst : s.dome.st = .ready) (h : (∀ o ∈ c.ops, o.1 ≠ j) ∨ slotLock (slot s j) = true) :
    slot (applyCommit n c s) j = slot s j := by
  have hslots := committed_dome (n := n) (c := c) (s := s) |>.2.2.2.2.2.2
  have hslot : slot (committed n c s) j = slot s j := by rw [slot, hslots]; rfl
  have hops : slot (applyOps c.ops (committed n c s)) j = slot s j := by
    rw [slot_applyOps (by rwa [hslot]), hslot]
  rw [applyCommit_of_ops (by rw [hst]; rfl)]
  split
  · exact hops
  · exact hops

theorem applyCommit_rearmed (hst : s.dome.st = .alarmed) (hr : c.rearm = true) :
    (applyCommit n c s).dome.st = .ready ∧ alarmLatch (applyCommit n c s) = false := by
  rw [applyCommit_of_rearm hst hr]
  refine ⟨by simp [setDomeSt_dome], ?_⟩
  have hreg (t : State) (o d : Nat) : rget (raise 108 n d (setDomeSt .ready t)) o = rget t o := by
    unfold setDomeSt
    split <;> simp [rget]
  rw [alarmLatch, rflag, hreg, rget_loadKeys_ne (by decide)]
  exact rflag_rsetFld_self (by decide)

end

/-! ### Lengths of images and requests (R329, R331) -/

@[simp] theorem zeroBytes_length (n : Nat) : (zeroBytes n).length = n := by simp [zeroBytes]

@[simp] theorem rpmbTail_length (data nonce : List Byte) (wcnt addr blocks result ty : Nat) :
    (rpmbTail data nonce wcnt addr blocks result ty).length = 284 := by simp [rpmbTail]

@[simp] theorem rpmbFrame_length (mac tail : List Byte) : (rpmbFrame mac tail).length = 228 + tail.length := by
  simp only [rpmbFrame, List.length_append, zeroBytes_length, fitBytes_length]

@[simp] theorem writeRequest_length (s : State) (r : Record) : (writeRequest s r).length = 512 := by simp [writeRequest]

@[simp] theorem keyEntry_length (k : PKey) : (keyEntry k).length = 48 := by simp [keyEntry]

theorem imageBytes_length {s : State} {r : Record} {keys : List PKey} {iv : List Byte} (hiv : iv.length = 12) :
    (imageBytes s r keys iv).length = 80 + 48 * keys.length := by
  simp [imageBytes, imageHeader, uidBytes, hiv, List.length_flatMap]
  omega

/-! ### KUM_APPLY (R328, R332) -/

theorem writeRequest_drbgGen {b : Bool} {n : Nat} {s : State} {r : Record} : writeRequest (drbgGen b n s).1 r = writeRequest s r := by
  have hcnt : (drbgGen b n s).1.dome.writeCnt = s.dome.writeCnt := by
    cases b
    · simp only [drbgGen, drawBytes, drbgCount, Bool.false_eq_true, if_false]
      split <;> simp
    · simp [drbgGen, drawBytes]
  have haddr : rpmbAddr (drbgGen b n s).1 = rpmbAddr s := by
    rw [rpmbAddr, rfld, rget_drbgGen_ne (by decide)]
    rfl
  simp only [writeRequest, recordBytes, uidBytes, drbgGen_dome, hcnt, haddr, rpmbKey, deviceRoot_drbgGen]

/-- The record of a commit that a message asks for, but for its image's hash. -/
def newRecord (x : Work) (s : State) : Record :=
  { counter := x.counter, imageGen := (s.dome.record.imageGen + 1) % 2 ^ 48, policy := x.policy, bank := newBank s }

/-- The image of a commit: drawn IV, keys and record. -/
def newImage (x : Work) (s : State) : List Byte :=
  imageBytes (drbgGen false 12 s).1 (newRecord x s) x.keys (drbgGen false 12 s).2

/-- The commit that message `m` leaves pending. -/
def newCommit (m : List Byte) (x : Work) (s : State) : PendingCommit :=
  { record := { newRecord x s with imageHash := hash48 (newImage x s) }, keys := x.keys, ops := x.ops, kumHash := hash48 (m.take (kumB m))
    rearm := x.rearm }

theorem newImage_length {x : Work} {s : State} : (newImage x s).length = 80 + 48 * x.keys.length :=
  imageBytes_length (by simp [drbgGen_snd])

/-- The state with a commit pending and its request and image in the output buffer. -/
def kumPending (n : Nat) (w : List Word) (m : List Byte) (x : Work) (s : State) : State :=
  let t := stored (join48 (wAt w 13) (wAt w 14)) (writeRequest s (newCommit m x s).record ++ newImage x s) (drbgGen false 12 s).1
  raise 104 n ((newRecord x s).imageGen % 2 ^ 24) { t with dome := { t.dome with commit := some (newCommit m x s) } }

section
variable {n i : Nat} {w : List Word} {s : State} {m k c : List Byte} (hin : kumInputs s w = some (m, k, c))
include hin

theorem bodyKumApply_refused (hup : s.dome.upset = false) {r : Res} {op : Nat} (hchk : kumCheck s m k c = .error (r, op)) :
    bodyKumApply n i w s = (raise 103 n (statusCode r.st + r.reason * 2 ^ 8 + op * 2 ^ 16) (noteReject r op s), some r) := by
  simp [bodyKumApply, hin, hup, hchk]

theorem bodyKumApply_disturbed (hup : s.dome.upset = true) (hearly : kumEarly s m k = none) : bodyKumApply n i w s =
    (sensorDetect 7 0 { s with dome := { s.dome with upset := false } }, some (failRes .alarm 0)) := by
  simp [bodyKumApply, hin, hup, hearly, dualMismatch]

theorem bodyKumApply_passed (hup : s.dome.upset = false) {x : Work} (hchk : kumCheck s m k c = .ok x) (hd : s.dome.drbgOk = true)
    (hlife : s.fuses.life = .sealed)
    (hm : memWrBad s (join48 (wAt w 13) (wAt w 14)) (512 + (80 + 48 * x.keys.length)) = false) :
    bodyKumApply n i w s = (kumPending n w m x s,
      some (okRes (newCommit m x s).record.imageGen (80 + 48 * x.keys.length))) := by
  have hbank : newBank (drbgGen false 12 s).1 = newBank s := by
    have hblank : (drbgGen false 12 s).1.dome.recordBlank = s.dome.recordBlank :=
      congrArg (fun v => v.2.2.1) (commitView_drbgGen (b := false) (n := 12) (s := s))
    simp only [newBank, drbgGen_leaves, hblank]
  have hwr : memWrite (join48 (wAt w 13) (wAt w 14)) (writeRequest s (newCommit m x s).record ++ newImage x s) (drbgGen false 12 s).1 = _ :=
    memWrite_of_good (by rw [List.length_append, writeRequest_length, newImage_length, hm]) drbgGen_leaves.1
  have himg := newImage_length (x := x) (s := s)
  have hmfg : (LifeCycle.sealed == LifeCycle.manufacture) = false := rfl
  simp only [newCommit, newImage, newRecord] at hwr himg
  simp only [bodyKumApply, hin, hup, hchk, hd, Bool.and_false, Bool.false_eq_true, if_false, Bool.not_true, drbgGen_dome, drbgGen_leaves,
    hlife, hbank, writeRequest_drbgGen, hmfg, hwr, himg]
  rfl

end

/-! ### KUM_COMMIT (R333) -/

section
variable {n i : Nat} {w : List Word} {s : State} {c : PendingCommit} {f : List Byte} (hchk : chkKumCommit s = none)
  (hc : s.dome.commit = some c) (hf : memRead s (join48 (wAt w 4) (wAt w 5)) 512 = some f)
include hchk hc hf

theorem bodyKumCommit_undecided {r : Res} (ha : commitAnswer s c (flag (wAt w 6) 0) f = some r) : bodyKumCommit n i w s = (s, some r) := by
  simp [bodyKumCommit, hchk, hc, hf, ha]

theorem bodyKumCommit_decided (hd : s.dome.drbgOk = true) (ha : commitAnswer s c (flag (wAt w 6) 0) f = none) : bodyKumCommit n i w s =
    (applyCommit n c { s with dome := { s.dome with writeCnt := (s.dome.writeCnt + 1) % 2 ^ 32, recordValid := true } },
      some (okRes c.record.counter)) := by
  simp [bodyKumCommit, hchk, hc, hf, ha, hd]

end

/-! ### The statement -/

/-- Settles O28: a message that passes leaves its commit pending, one that does not only its record, and a response that decides the
commit applies it. -/
theorem keyUpdatesPrepareAndCommit : Obligations.KeyUpdatesPrepareAndCommit := by
  unfold Obligations.KeyUpdatesPrepareAndCommit
  intro n i w s
  refine ⟨?apply, ?disturbed, ?commit, fun c => ?applied⟩
  case apply =>
    intro m k c h hw hin hup
    split
    · next r op hchk => exact next_finalize_congr (runWaits_of_ends h hw (bodyKumApply_refused hin hup hchk))
    · next x hchk =>
      intro hd hlife hm
      refine ⟨kumPending n w m x s, newCommit m x s, newImage x s,
        next_finalize_congr (runWaits_of_ends h hw (bodyKumApply_passed hin hup hchk hd hlife hm)), ?_⟩
      refine ⟨by simp [kumPending], rfl, rfl, rfl, rfl, rfl, rfl, rfl, rfl, ?_, ?_, ?_, ?_⟩
      all_goals simp [kumPending]
  case disturbed =>
    exact fun m k c h hw hin hup hearly => next_finalize_congr (runWaits_of_ends h hw (bodyKumApply_disturbed hin hup hearly))
  case commit =>
    intro c f h hw hchk hc hd hf
    split
    · next r ha => exact next_finalize_congr (runWaits_of_ends h hw (bodyKumCommit_undecided hchk hc hf ha))
    · next ha => exact next_finalize_congr (runWaits_of_ends h hw (bodyKumCommit_decided hchk hc hf hd ha))
  case applied =>
    obtain ⟨hrec, hcom, hblank, hfuses, hmeas⟩ := applyCommit_view (n := n) (c := c) (s := s)
    exact ⟨hrec, hcom, hblank, hfuses, hmeas, fun hst j hj => slot_applyCommit hst hj, fun hst hr => applyCommit_rearmed hst hr⟩

end Sys2Proof.Machine

/-! PROOF. Images, fuses and the life cycle (R332, R335 to R340). -/

namespace Sys2Proof.Machine

/-! ### IMAGE_NONCE (R335) -/

theorem rpmbAddr_drbgGen {b : Bool} {n : Nat} {s : State} : rpmbAddr (drbgGen b n s).1 = rpmbAddr s := by
  rw [rpmbAddr, rfld, rget_drbgGen_ne (by decide)]
  rfl

@[simp] theorem drbgGen_st {b : Bool} {n : Nat} {s : State} : (drbgGen b n s).1.dome.st = s.dome.st :=
  congrArg (fun v => v.2.2.2.2.1) (commitView_drbgGen (b := b) (n := n) (s := s))

/-- The two requests that IMAGE_NONCE writes under a nonce. -/
def nonceFrames (nonce : List Byte) (s : State) : List Byte :=
  rpmbFrame [] (rpmbTail [] nonce 0 0 1 0 2) ++ rpmbFrame [] (rpmbTail [] nonce 0 (rpmbAddr s) 1 0 4)

/-- The state with the requests written and the nonce noted. -/
def nonceDrawn (w : List Word) (s : State) : State :=
  let t := stored (join48 (wAt w 4) (wAt w 5)) (nonceFrames (drbgGen false 16 s).2 s) (drbgGen false 16 s).1
  { t with dome := { t.dome with nonce := some (drbgGen false 16 s).2 } }

theorem bodyImageNonce_passed {n i : Nat} {w : List Word} {s : State} (hr : resetNeeded s = false) (hl : lifeNow s = .sealed)
    (ha : rpmbLocked s = true) (hd : s.dome.drbgOk = true) (hm : memWrBad s (join48 (wAt w 4) (wAt w 5)) 1024 = false) :
    bodyImageNonce n i w s =
      (if (drbgGen false 16 s).1.dome.st = .cold then setDomeSt .loading (nonceDrawn w s) else nonceDrawn w s, some (okRes 1024)) := by
  have hwr : memWrite (join48 (wAt w 4) (wAt w 5)) (nonceFrames (drbgGen false 16 s).2 s) (drbgGen false 16 s).1 = _ :=
    memWrite_of_good (by simp [nonceFrames, hm]) drbgGen_leaves.1
  simp only [nonceFrames] at hwr
  simp only [bodyImageNonce, hr, hl, ha, hd, Bool.false_eq_true, ne_eq, not_true_eq_false, Bool.not_true, if_false, rpmbAddr_drbgGen, hwr]
  rfl

@[simp] theorem setDomeSt_leaves {st : DomeSt} {s : State} : (setDomeSt st s).mem = s.mem ∧ (setDomeSt st s).draws = s.draws := by
  unfold setDomeSt
  split <;> simp

/-! ### IMAGE_LOAD (R335, R337) -/

@[simp] theorem noteReject_leaves {r : Res} {op : Nat} {s : State} : (noteReject r op s).dome = s.dome ∧ (noteReject r op s).fuses = s.fuses
    ∧ (noteReject r op s).mem = s.mem := by simp [noteReject]

@[simp] theorem setMark_leaves {s : State} : (setMark s).dome = s.dome ∧ (setMark s).fuses = s.fuses ∧ (setMark s).mem = s.mem := by
  unfold setMark
  split <;> exact ⟨rfl, rfl, rfl⟩

@[simp] theorem loadKeys_leaves {l : List PKey} {s : State} : (loadKeys l s).fuses = s.fuses ∧ (loadKeys l s).mem = s.mem :=
  ⟨congrArg (fun v => v.2.2.2.2.2) (commitView_loadKeys (l := l) (s := s)), loadKeys_pending_mem.2⟩

/-- A load that fails leaves the slots, and takes a LOADING Dome back to COLD. -/
theorem loadFail_spec {n r : Nat} {s : State} : ∃ u, loadFail n r s = (u, some (authRes r)) ∧ u.fuses = s.fuses ∧ u.mem = s.mem
    ∧ u.dome.slots = s.dome.slots ∧ u.dome.st = if s.dome.st = .loading then .cold else s.dome.st := by
  unfold loadFail
  refine ⟨_, rfl, ?_⟩
  by_cases h : s.dome.st = .loading <;> simp [h, setDomeSt_dome]

/-- A body that answers, and leaves fuses and host memory as `s` has them. -/
def AnswersKeeping (s : State) (x : State × Option Res) : Prop := ∃ u r, x = (u, some r) ∧ u.fuses = s.fuses ∧ u.mem = s.mem

section
variable {n : Nat} {s t : State} (hf : t.fuses = s.fuses) (hm : t.mem = s.mem)
include hf hm

theorem answersKeeping_loadFail {r : Nat} : AnswersKeeping s (loadFail n r t) := by
  obtain ⟨u, hu, huf, hum, -⟩ := loadFail_spec (n := n) (r := r) (s := t)
  exact ⟨u, _, hu, huf.trans hf, hum.trans hm⟩

theorem answersKeeping_loadRefuse {r : Nat} : AnswersKeeping s (loadRefuse r t) :=
  ⟨_, _, rfl, noteReject_leaves.2.1.trans hf, noteReject_leaves.2.2.trans hm⟩

theorem answersKeeping_loadOk {keys : List PKey} {blank noImage : Bool} : AnswersKeeping s (loadOk n keys blank noImage t) :=
  ⟨_, _, rfl, by simp [setDomeSt_dome, hf], by simp [hm]⟩

end

/-- A load without an image writes no slot. -/
theorem loadOk_noImage {n : Nat} {s : State} : ∃ u, loadOk n [] false true s = (u, some (okRes s.dome.record.imageGen 0))
    ∧ u.dome.st = .ready ∧ u.dome.slots = s.dome.slots ∧ u.dome.imageLost = true ∧ u.fuses = s.fuses ∧ u.mem = s.mem := by
  refine ⟨(loadOk n [] false true s).1, ?_, ?_⟩ <;> simp [loadOk, loadKeys, setDomeSt_dome]

/-- With its responses read, a load in SEALED answers, and leaves fuses and host memory. -/
theorem answersKeeping_loadSealed {n : Nat} {resp ba bb : List Byte} {s : State} :
    AnswersKeeping s (loadSealed n false resp ba bb s) := by
  unfold loadSealed
  dsimp only
  split
  · exact answersKeeping_loadFail rfl rfl
  · by_cases halarm : s.dome.st = .alarmed
    · rw [if_pos halarm]
      apply answersKeeping_loadRefuse <;> rfl
    · rw [if_neg halarm, if_neg (by decide)]
      generalize (if zeroAt (respData (resp.drop 512)) 0 256 = true then some [] else _ : Option (List PKey)) = keys
      split
      · exact answersKeeping_loadRefuse (by simp [setDomeSt_dome]) (by simp)
      · cases keys with
        | none =>
          dsimp only
          apply answersKeeping_loadFail <;> rfl
        | some keys =>
          dsimp only
          split
          · exact ⟨s, _, rfl, rfl, rfl⟩
          · apply answersKeeping_loadOk <;> rfl

/-- A response that fails its checks fails the load. -/
theorem loadSealed_of_bad {n b : Nat} {resp ba bb : List Byte} {s : State} (hb : respBad s (resp.take 512) (resp.drop 512) = some b) :
    loadSealed n false resp ba bb s = loadFail n b s := by
  unfold loadSealed
  dsimp only
  rw [hb]

section
variable {n i : Nat} {w : List Word} {s : State} (hr : resetNeeded s = false)
include hr

theorem bodyImageLoad_noImage (hl : lifeNow s ≠ .sealed) (hst : s.dome.st = .cold) (h0 : flag (wAt w 12) 0 = true) :
    bodyImageLoad n i w s = loadOk n [] false true s := by
  simp [bodyImageLoad, hr, hl, hst, h0]

theorem bodyImageLoad_sealed {resp ba bb : List Byte} (hl : lifeNow s = .sealed) (hst : s.dome.st = .loading ∨ s.dome.st = .alarmed)
    (h0 : flag (wAt w 12) 0 = false) (hresp : memRead s (join48 (wAt w 4) (wAt w 5)) 1024 = some resp)
    (ha : memRead s (join48 (wAt w 6) (wAt w 7)) (fld (wAt w 8) 0 14) = some ba)
    (hb : memRead s (join48 (wAt w 9) (wAt w 10)) (fld (wAt w 11) 0 14) = some bb) :
    bodyImageLoad n i w s = loadSealed n false resp ba bb s := by
  have hst' : (s.dome.st == .loading || s.dome.st == .alarmed) = true := by simpa using hst
  simp [bodyImageLoad, hr, hl, hst', h0, hresp, ha, hb]

theorem bodyImageLoad_ready (hst : s.dome.st = .ready) : bodyImageLoad n i w s = (noteReject (lcRes 1) 0 s, some (lcRes 1)) := by
  have hno : (s.dome.st == .loading || s.dome.st == .alarmed) = false := by rw [hst]; rfl
  have hcold : s.dome.st ≠ .cold := by rw [hst]; decide
  by_cases hl : lifeNow s = .sealed <;> simp [bodyImageLoad, hr, hl, hno, hcold, loadRefuse]

end

/-! ### LC_CHANGE (R338, R340) -/

/-- An emptied slot keeps only its generation. -/
theorem slot_emptySlots {s : State} (hwf : tabWf {} s.dome.slots = true) (j : Nat) : slot (emptySlots s) j = { gen := (slot s j).gen } :=
  tabGet_map (d := ({} : Slot)) (fun _ v => { gen := v.gen }) j rfl (Bool.and_eq_true_iff.1 hwf).1

theorem draws_bslotDrop {i : Nat} {s : State} : (bslotDrop i s).draws = s.draws := by
  unfold bslotDrop bslotEmpty
  dsimp only
  (repeat' split) <;> simp

theorem draws_belfryClear {s : State} : (belfryClear s).draws = s.draws := by
  have h (l : Tab BSlot) (t : State) : (l.foldl (fun s p => bslotDrop p.1 s) t).draws = t.draws := by
    induction l generalizing t with
    | nil => rfl
    | cons p r ih => rw [List.foldl_cons, ih, draws_bslotDrop]
  exact h _ _

theorem domeView_belfryClear {s : State} : domeView (belfryClear s) = domeView s := domeView_foldl (fun _ _ => domeView_bslotDrop) _ _

/-- The state in which every key is gone. -/
def keysCleared (s : State) : State := belfryClear (cacheDrop (fun _ => true) (emptySlots { s with dome := { s.dome with commit := none } }))

theorem keysCleared_spec {s : State} (hwf : tabWf {} s.dome.slots = true) : (keysCleared s).dome.commit = none
    ∧ (keysCleared s).fuses = s.fuses ∧ (keysCleared s).draws = s.draws ∧ ∀ j, slot (keysCleared s) j = { gen := (slot s j).gen } := by
  obtain ⟨hdome, hfuses⟩ := domeView_eq_iff.1 (domeView_belfryClear
    (s := cacheDrop (fun _ => true) (emptySlots { s with dome := { s.dome with commit := none } })))
  refine ⟨by rw [keysCleared, hdome]; rfl, hfuses, draws_belfryClear, fun j => ?_⟩
  rw [slot, keysCleared, hdome]
  exact slot_emptySlots hwf j

theorem applyLife_sealed {n : Nat} {s : State} : applyLife n .sealed s = raise 107 n (lifeCode .sealed + lifeCode (lifeNow s) * 4)
    (setDomeSt .cold { keysCleared s with fuses := { (keysCleared s).fuses with life := .sealed } }) := rfl

theorem applyLife_spec {n : Nat} {s : State} (hwf : tabWf {} s.dome.slots = true) : (applyLife n .sealed s).dome.commit = none
    ∧ (applyLife n .sealed s).dome.st = .cold ∧ (applyLife n .sealed s).fuses = { s.fuses with life := .sealed }
    ∧ (applyLife n .sealed s).draws = s.draws ∧ ∀ j, slot (applyLife n .sealed s) j = { gen := (slot s j).gen } := by
  obtain ⟨hcommit, hfuses, hdraws, hslots⟩ := keysCleared_spec hwf
  rw [applyLife_sealed]
  simp only [raise_leaves, setDomeSt_dome, setDomeSt_leaves, hfuses, slot, true_and]
  exact ⟨hcommit, hdraws, hslots⟩

theorem drawLcNonce_spec {s : State} : (drawLcNonce s).dome.commit = s.dome.commit ∧ (drawLcNonce s).dome.st = s.dome.st
    ∧ (drawLcNonce s).fuses = s.fuses ∧ (∀ j, slot (drawLcNonce s) j = slot s j)
    ∧ (drawLcNonce s).dome.lcNonce = (List.range 16).map (fun j => Config.drbgByte (s.draws + j)) := by
  have hview := commitView_drbgGen (b := false) (n := 16) (s := s)
  simp only [commitView, Prod.mk.injEq] at hview
  obtain ⟨-, hcommit, -, -, hst, hfuses⟩ := hview
  exact ⟨hcommit, hst, hfuses, fun j => slot_drbgGen, drbgGen_snd⟩

theorem bodyLcChange_sealed {n i : Nat} {w : List Word} {s : State} (hl : lifeNow s = .manufacture) (ht : fld (wAt w 4) 0 2 = 0)
    (h7 : fld (wAt w 7) 0 12 = 0) (hd : s.dome.drbgOk = true) (hst : s.dome.st ≠ .loading) :
    bodyLcChange n i w s = (drawLcNonce (applyLife n .sealed s), some (okRes 0)) := by
  simp [bodyLcChange, ht, h7, hd, hst, lifeMove, hl]

/-! ### RPMB_PROVISION (R336) -/

theorem bodyRpmbProvision_passed {n i : Nat} {w : List Word} {s : State} (hst : s.dome.st = .cold) (hl : lifeNow s = .sealed)
    (ha : rpmbLocked s = true) (hp : s.fuses.prov = false) (hm : memWrBad s (join48 (wAt w 4) (wAt w 5)) 512 = false) :
    bodyRpmbProvision n i w s = ({ s with fuses := { s.fuses with prov := true }
                                          mem := storeBytes (join48 (wAt w 4) (wAt w 5))
                                            (rpmbFrame (rpmbKey s) (rpmbTail [] [] 0 0 1 0 1)) s.mem }, some (okRes 512)) := by
  have hwr : memWrite (join48 (wAt w 4) (wAt w 5)) (rpmbFrame (rpmbKey s) (rpmbTail [] [] 0 0 1 0 1)) s = _ :=
    memWrite_of_good (by simp [hm]) rfl
  simp only [bodyRpmbProvision, hst, hl, ha, hp, ne_eq, not_true_eq_false, if_false, Bool.not_true, Bool.false_eq_true, hwr,
    stored]

/-! ### The statement -/

/-- Settles O29: each command is its body where its checks pass; a load leaves fuses and host memory however it ends. -/
theorem imagesFusesAndLifeCycle : Obligations.ImagesFusesAndLifeCycle := by
  unfold Obligations.ImagesFusesAndLifeCycle
  intro n i w s
  refine ⟨?nonce, fun h hr => ⟨?noImage, ?load, ?refused⟩, ?lifeCycle, ?provision⟩
  case nonce =>
    intro h hr hl ha hd hm
    refine ⟨_, _, next_finalize_congr (runDesc_of_ends h (bodyImageNonce_passed hr hl ha hd hm)), rfl, ?_⟩
    by_cases hst : s.dome.st = .cold <;> simp [hst, nonceDrawn, nonceFrames, setDomeSt_dome, drbgGen_snd]
  case noImage =>
    intro hl hst h0
    obtain ⟨u, hu, hready, hslots, hlost, hf, hm⟩ := loadOk_noImage (n := n) (s := s)
    exact ⟨u, next_finalize_congr (runDesc_of_ends h ((bodyImageLoad_noImage hr hl hst h0).trans hu)), hready, hslots, hlost, hf, hm⟩
  case load =>
    intro resp ba bb hl hst h0 hresp ha hb
    obtain ⟨u, r, hu, hf, hm⟩ := answersKeeping_loadSealed (n := n) (resp := resp) (ba := ba) (bb := bb) (s := s)
    refine ⟨u, r, hu, next_finalize_congr (runDesc_of_ends h ((bodyImageLoad_sealed hr hl hst h0 hresp ha hb).trans hu)), hf, hm, ?_⟩
    intro b hbad
    obtain ⟨v, hv, -, -, hslots, hvst⟩ := loadFail_spec (n := n) (r := b) (s := s)
    obtain ⟨rfl, hr⟩ := Prod.mk.inj (((loadSealed_of_bad hbad).symm.trans hu).symm.trans hv)
    exact ⟨Option.some.inj hr, hslots, hvst⟩
  case refused => exact fun hst => next_finalize_congr (runDesc_of_ends h (bodyImageLoad_ready hr hst))
  case lifeCycle =>
    intro h hl ht h7 hd hst hwf
    obtain ⟨hcommit, hcold, hfuses, hdraws, hslots⟩ := applyLife_spec (n := n) hwf
    obtain ⟨hcommit', hcold', hfuses', hslots', hnonce⟩ := drawLcNonce_spec (s := applyLife n .sealed s)
    refine ⟨_, next_finalize_congr (runDesc_of_ends h (bodyLcChange_sealed hl ht h7 hd hst)), hfuses'.trans hfuses, fun j => ?_,
      hcommit'.trans hcommit, hcold'.trans hcold, by rw [hnonce, hdraws], by simp⟩
    rw [hslots', hslots]
    exact ⟨rfl, rfl, rfl⟩
  case provision => exact fun h hst hl ha hp hm => next_finalize_congr (runDesc_of_ends h (bodyRpmbProvision_passed hst hl ha hp hm))

end Sys2Proof.Machine

/-! PROOF. Host jobs (R365 to R372). -/

namespace Sys2Proof.Machine

/-! ### Reading and writing a job's buffers (R366) -/

theorem memRead_length {s : State} {a n : Nat} {l : List Byte} (h : memRead s a n = some l) : l.length = n := by
  unfold memRead at h
  split at h
  · cases h
  · obtain rfl := Option.some.inj h
    simp

theorem jobWrite_good {a : Nat} {l : List Byte} {r : Res} {s : State} (h : memWrBad s a l.length = false) :
    jobWrite false a l r s = (stored a l s, r) := by
  simp only [jobWrite, Bool.false_eq_true, if_false, memWrite_of_good h rfl]

/-- A tower job becomes one item, and its descriptor runs on. -/
theorem runDesc_towerJob {op n i : Nat} {w : List Word} {s : State} (h : starts s op n i w = true) : runDesc op bodyTowerJob n i s =
    running n i (setItem s.arr.nextId (some { kind := .job n i, cls := fld (wAt w 0) 16 2, dkey := n + 2 * 2 ^ 14, reqs := jobReqs w })
      { s with arr := { s.arr with nextId := s.arr.nextId + 1 } }) :=
  runDesc_of_runs h rfl

/-! ### What the towers compute (R367 to R369) -/

section
variable {w : List Word} {s : State}

theorem jobGcm_encrypt {key aad data : List Byte} (hdata : memRead s (join48 (wAt w 12) (wAt w 13)) (fld (wAt w 4) 6 17) = some data)
    (haad : memRead s (join48 (wAt w 9) (wAt w 10)) (fld (wAt w 11) 0 17) = some aad) (h0 : flag (wAt w 4) 0 = false)
    (hin : badOverlap (join48 (wAt w 12) (wAt w 13)) (fld (wAt w 4) 6 17) (join48 (wAt w 14) (wAt w 15)) (fld (wAt w 4) 6 17 + 16) = false)
    (haadOut : overlaps (join48 (wAt w 9) (wAt w 10)) (fld (wAt w 11) 0 17) (join48 (wAt w 14) (wAt w 15)) (fld (wAt w 4) 6 17 + 16) = false)
    (hm : memWrBad s (join48 (wAt w 14) (wAt w 15)) (fld (wAt w 4) 6 17 + 16) = false) {iv ct : List Byte}
    (hiv : iv = (wordsBytes [wAt w 5, wAt w 6, wAt w 7, wAt w 8]).take 12) (hct : ct = gcmCrypt key iv data) :
    jobGcm key w s = (stored (join48 (wAt w 14) (wAt w 15)) (ct ++ fitBytes 16 (gcmTag key iv aad ct)) s,
      okRes (fld (wAt w 4) 6 17 + 16)) := by
  have hlen : (ct ++ fitBytes 16 (gcmTag key iv aad ct)).length = fld (wAt w 4) 6 17 + 16 := by
    rw [List.length_append, fitBytes_length, hct, gcmCrypt_length, memRead_length hdata]
  have hwr := jobWrite_good (r := okRes (fld (wAt w 4) 6 17 + 16)) (hlen ▸ hm)
  simp only [jobGcm, h0, Bool.false_eq_true, if_false, haad, hdata, hin, haadOut, Bool.or_self, ← hiv, ← hct, hwr]

theorem jobXts_good {dk tk data : List Byte} (hdata : memRead s (join48 (wAt w 10) (wAt w 11)) (fld (wAt w 6) 2 17) = some data)
    (hin : badOverlap (join48 (wAt w 10) (wAt w 11)) (fld (wAt w 6) 2 17) (join48 (wAt w 12) (wAt w 13)) (fld (wAt w 6) 2 17) = false)
    (hm : memWrBad s (join48 (wAt w 12) (wAt w 13)) (fld (wAt w 6) 2 17) = false) : jobXts dk tk w s =
    (stored (join48 (wAt w 12) (wAt w 13)) (fitBytes (fld (wAt w 6) 2 17) (xts (!flag (wAt w 6) 0) dk tk (w64 w 7) data)) s,
      okRes (fld (wAt w 6) 2 17)) := by
  have hwr (l : List Byte) := jobWrite_good (a := join48 (wAt w 12) (wAt w 13)) (l := fitBytes (fld (wAt w 6) 2 17) l) (s := s)
    (r := okRes (fld (wAt w 6) 2 17)) (by rw [fitBytes_length, hm])
  simp only [jobXts, hdata, hin, hwr]

theorem macCut_length (bits : Nat) (l : List Byte) : (macCut bits l).length = 16 := by simp [macCut]

theorem secocOne_generate {key pdu : List Byte} {q : List Word} (hq : secocBad q = false)
    (hpdu : memRead s (secocPdu q).1 (secocPdu q).2 = some pdu) :
    secocOne key false s q = some (macCut (fld (wAt q 1) 12 8) (cmac key (secocMsg q pdu)) ++ [0, 0], .ok) := by
  simp only [secocOne, hq, hpdu, Bool.false_eq_true, if_false, secocRec, Option.some.injEq, Prod.mk.injEq, and_true]
  rfl

theorem jobSecoc_generate {key t pdu : List Byte} {q : List Word} (h0 : flag (wAt w 4) 0 = false) (hcnt : fld (wAt w 4) 1 7 = 1)
    (ht : memRead s (join48 (wAt w 5) (wAt w 6)) 39 = some t) (hqt : q = bytesWords 13 t) (hq : secocBad q = false)
    (hpdu : memRead s (secocPdu q).1 (secocPdu q).2 = some pdu)
    (htable : overlaps (join48 (wAt w 5) (wAt w 6)) 39 (join48 (wAt w 7) (wAt w 8)) 18 = false)
    (hout : overlaps (secocPdu q).1 (secocPdu q).2 (join48 (wAt w 7) (wAt w 8)) 18 = false)
    (hm : memWrBad s (join48 (wAt w 7) (wAt w 8)) 18 = false) : jobSecoc key w s =
    (stored (join48 (wAt w 7) (wAt w 8)) (macCut (fld (wAt q 1) 12 8) (cmac key (secocMsg q pdu)) ++ [0, 0]) s, okRes 0) := by
  have hall : secocAll key false s [q] = some [(macCut (fld (wAt q 1) 12 8) (cmac key (secocMsg q pdu)) ++ [0, 0], .ok)] := by
    simp only [secocAll, secocOne_generate hq hpdu]
  have hwr := jobWrite_good (a := join48 (wAt w 7) (wAt w 8)) (s := s) (r := okRes 0)
    (l := macCut (fld (wAt q 1) 12 8) (cmac key (secocMsg q pdu)) ++ [0, 0]) (by rw [List.length_append, macCut_length]; exact hm)
  generalize macCut (fld (wAt q 1) 12 8) (cmac key (secocMsg q pdu)) ++ [0, 0] = record at hall hwr ⊢
  simp [jobSecoc, hcnt, ht, secocEntries, ← hqt, h0, hall, htable, hq, hout, hwr]

end

/-! ### A tower ends a job (R366) -/

section
variable {id n i : Nat} {s : State} {e : Ent} (he : entAt s n i = some e) (hst : e.st = .running)
include he hst

theorem jobEnd_ok {a : Nat} {l : List Byte} {r : Res} (hr : r.st = .ok) :
    jobEnd id n i r (stored a l s) = finish n i r (setItem id none (stored a l s)) := by
  have he' : entAt (setItem id none (stored a l s)) n i = some e := (entAt_congr rfl n i).trans he
  simp [jobEnd, he', hst, hr]

variable {keys : List (List Byte)} {w : List Word} {a : Nat} {l : List Byte} {r : Res} (ha : alarmNow s = false) (hw : e.words = w)
  (hr : r.st = .ok)
include ha hw hr

theorem jobDone_gcm (hop : wOp w = 0x30) (h : jobGcm (keys.headD []) w s = (stored a l s, r)) :
    jobDone id n i keys s = finish n i r (setItem id none (stored a l s)) := by
  rw [← jobEnd_ok he hst hr]
  simp only [jobDone, he, hst, ha, hw, hop, h]
  simp

theorem jobDone_xts (hop : wOp w = 0x31) (h : jobXts (keys.headD []) (keys.getD 1 []) w s = (stored a l s, r)) :
    jobDone id n i keys s = finish n i r (setItem id none (stored a l s)) := by
  rw [← jobEnd_ok he hst hr]
  simp only [jobDone, he, hst, ha, hw, hop, h]
  simp

theorem jobDone_secoc (hop : wOp w = 0x32) (h : jobSecoc (keys.headD []) w s = (stored a l s, r)) :
    jobDone id n i keys s = finish n i r (setItem id none (stored a l s)) := by
  rw [← jobEnd_ok he hst hr]
  simp only [jobDone, he, hst, ha, hw, hop, h]
  simp

end

/-! ### The Dome's jobs (R371, R372) -/

section
variable {n i : Nat} {w : List Word} {s : State} {ick msg : List Byte} (hst : s.dome.st = .ready)
  (hick : resolve s (wAt w 2).toNat 0 .mkaIck 0 = .ok ick)
  (hmsg : memRead s (join48 (wAt w 5) (wAt w 6)) (fld (wAt w 7) 0 14) = some msg)
include hst hick hmsg

theorem bodyMkpduIcv_generate (h0 : flag (wAt w 4) 0 = false) (hm : memWrBad s (join48 (wAt w 8) (wAt w 9)) 16 = false) :
    bodyMkpduIcv n i w s = (stored (join48 (wAt w 8) (wAt w 9)) (fitBytes 16 (cmac ick msg)) s, some (okRes 16)) := by
  have hwr : memWrite (join48 (wAt w 8) (wAt w 9)) (fitBytes 16 (cmac ick msg)) s = _ := memWrite_of_good (by rw [fitBytes_length, hm]) rfl
  simp only [bodyMkpduIcv, domeReady, hst, if_true, hick, hmsg, h0, Bool.false_eq_true, if_false, hwr]

theorem bodyMkpduIcv_verify {got : List Byte} (h0 : flag (wAt w 4) 0 = true)
    (hgot : memRead s (join48 (wAt w 8) (wAt w 9)) 16 = some got) :
    bodyMkpduIcv n i w s = (s, some (if got = fitBytes 16 (cmac ick msg) then okRes 0 else failRes .authFail 0x0F)) := by
  simp only [bodyMkpduIcv, domeReady, hst, if_true, hick, hmsg, h0, hgot]

end

/-- Calls of at most 4 KiB each draw one run of bytes. -/
theorem randomBytes_spec {fuel n : Nat} {s : State} (h : n ≤ 4096 * fuel) :
    (randomBytes fuel n s).2 = (List.range n).map (fun j => Config.drbgByte (s.draws + j))
      ∧ (randomBytes fuel n s).1.draws = s.draws + n ∧ (randomBytes fuel n s).1.dome.slots = s.dome.slots
      ∧ (randomBytes fuel n s).1.memWrErr = s.memWrErr ∧ (randomBytes fuel n s).1.mem = s.mem := by
  induction fuel generalizing n s with
  | zero =>
    obtain rfl : n = 0 := by omega
    simp [randomBytes]
  | succ fuel ih =>
    unfold randomBytes
    split
    · next h0 => simp [h0]
    · next h0 =>
      obtain ⟨hbytes, hdraws, hslots, herr, hmem⟩ := ih (n := n - 4096) (s := (drbgGen false (min n 4096) s).1) (by omega)
      have hn : n = min n 4096 + (n - 4096) := by omega
      simp only [hbytes, hdraws, hslots, herr, hmem, drbgGen_draws, drbgGen_dome, drbgGen_leaves, drbgGen_snd, drbgGen_pending_mem, and_true]
      refine ⟨?_, by omega⟩
      conv_rhs => rw [hn, List.range_add, List.map_append, List.map_map]
      simp [Function.comp_def, Nat.add_assoc]

theorem bodyRandom_up {n i : Nat} {w : List Word} {s : State} (hd : s.dome.drbgOk = true) (hn : fld (wAt w 4) 0 17 ≤ 65536)
    (hm : memWrBad s (join48 (wAt w 5) (wAt w 6)) (fld (wAt w 4) 0 17) = false) :
    bodyRandom n i w s = (stored (join48 (wAt w 5) (wAt w 6)) (randomBytes 16 (fld (wAt w 4) 0 17) s).2
      (randomBytes 16 (fld (wAt w 4) 0 17) s).1, some (okRes (fld (wAt w 4) 0 17))) := by
  obtain ⟨hbytes, -, -, herr, -⟩ := randomBytes_spec (s := s) (fuel := 16) hn
  have hwr : memWrite (join48 (wAt w 5) (wAt w 6)) (randomBytes 16 (fld (wAt w 4) 0 17) s).2
      (randomBytes 16 (fld (wAt w 4) 0 17) s).1 = _ :=
    memWrite_of_good (by rw [hbytes, List.length_map, List.length_range, hm]) herr
  simp only [bodyRandom, hd, Bool.not_true, Bool.false_eq_true, if_false, hwr]

/-! ### The statement -/

/-- Settles O31: a tower job becomes an item and ends with what its tower computed; the Dome's jobs are their bodies. -/
theorem towerJobsRunAndTheDomesJobsComplete : Obligations.TowerJobsRunAndTheDomesJobsComplete := by
  unfold Obligations.TowerJobsRunAndTheDomesJobsComplete
  intro n i w s
  refine ⟨?starts, ?gcm, ?xts, ?secoc, ?icv, ?random⟩
  case starts =>
    rintro u rfl
    exact ⟨fun h => next_finalize_congr (runDesc_towerJob h), fun h => next_finalize_congr (runDesc_towerJob h),
      fun h => next_finalize_congr (runDesc_towerJob h)⟩
  case gcm =>
    intro id keys e data ha he hst hw hdata aad haad hop h0 hin haadOut hm iv ct hiv hct
    exact jobDone_gcm he hst ha hw rfl hop (jobGcm_encrypt hdata haad h0 hin haadOut hm hiv hct)
  case xts =>
    intro id keys e data ha he hst hw hop hdata hin hm
    exact jobDone_xts he hst ha hw rfl hop (jobXts_good hdata hin hm)
  case secoc =>
    intro id keys e t pdu q ha he hst hw hop h0 hcnt ht hqt hq hpdu htable hout hm
    exact jobDone_secoc he hst ha hw rfl hop (jobSecoc_generate h0 hcnt ht hqt hq hpdu htable hout hm)
  case icv =>
    intro ick msg h hst hick hmsg
    exact ⟨fun h0 hm => next_finalize_congr (runDesc_of_ends h (bodyMkpduIcv_generate hst hick hmsg h0 hm)),
      fun got h0 hgot => (next_finalize_congr (runDesc_of_ends h (bodyMkpduIcv_verify hst hick hmsg h0 hgot)))⟩
  case random =>
    intro h hd hn hm
    obtain ⟨hbytes, hdraws, hslots, -, hmem⟩ := randomBytes_spec (s := s) (fuel := 16) hn
    refine ⟨_, next_finalize_congr (runDesc_of_ends h (bodyRandom_up hd hn hm)), ?_, hdraws, hslots⟩
    rw [stored, hbytes, hmem]

end Sys2Proof.Machine

/-! PROOF. STC_CFG_SET and STC_CFG_READ (R360, R361). -/

namespace Sys2Proof.Machine

theorem stcCfg_setStcCfg_self {c k : Nat} {e : StcCfg} {s : State} : stcCfg (setStcCfg c k e s) c k = e := by
  simp [stcCfg, setStcCfg]

theorem stcCfg_setStcCfg_ne {c k d j : Nat} {e : StcCfg} {s : State} (h : (d, j) ≠ (c, k)) :
    stcCfg (setStcCfg c k e s) d j = stcCfg s d j := by
  by_cases hd : d = c
  · subst hd
    have hj : j ≠ k := fun hj => h (by rw [hj])
    simp [stcCfg, setStcCfg, tabGet_put_ne _ _ _ hj]
  · rw [stcCfg, setStcCfg, stc_setStc_ne hd]
    rfl

theorem xfers_setStcCfg {c k d : Nat} {e : StcCfg} {s : State} : (stc (setStcCfg c k e s) d).xfers = (stc s d).xfers := by
  by_cases hd : d = c
  · subst hd
    simp [setStcCfg]
  · rw [setStcCfg, stc_setStc_ne hd]

@[simp] theorem touchDcache_stcs {gen kref label : Nat} {u : Use} {len : Nat} {s : State} :
    (touchDcache gen kref label u len s).stcs = s.stcs := by
  unfold touchDcache
  dsimp only
  split_ifs <;> simp

@[simp] theorem stcTouch_leaves {e : StcCfg} {s : State} : (stcTouch e s).stcs = s.stcs ∧ (stcTouch e s).dome.slots = s.dome.slots := by
  simp [stcTouch]

theorem stcCfg_congr {s t : State} (h : t.stcs = s.stcs) (d j : Nat) : stcCfg t d j = stcCfg s d j := by simp only [stcCfg, stc, h]

/-- The entry that STC_CFG_SET names. -/
def stcEntryOf (w : List Word) : StcCfg :=
  { valid := true, alg := flag (wAt w 6) 9, dus := flag (wAt w 6) 10, dataKref := (wAt w 2).toNat
    dataLabel := (wAt w 3).toNat, tweakKref := (wAt w 4).toNat, tweakLabel := (wAt w 5).toNat }

section
variable {n i : Nat} {w : List Word} {s : State} (hst : s.dome.st = .ready)
include hst

theorem bodyStcCfgSet_resolved (h8 : flag (wAt w 6) 8 = true) (hk : stcKeys s (stcEntryOf w) = none) : bodyStcCfgSet n i w s =
    (setStcCfg (b2n (flag (wAt w 6) 0)) (fld (wAt w 6) 1 7) (stcEntryOf w) (stcTouch (stcEntryOf w) s), some (okRes 0)) := by
  rw [stcEntryOf] at hk ⊢
  simp only [bodyStcCfgSet, domeReady, hst, if_true, h8, hk]

theorem bodyStcCfgSet_unresolved {j : Nat} {r : Res} (h8 : flag (wAt w 6) 8 = true) (hk : stcKeys s (stcEntryOf w) = some (j, r)) :
    bodyStcCfgSet n i w s = (fetchFail 8 j r s, some r) := by
  rw [stcEntryOf] at hk
  simp only [bodyStcCfgSet, domeReady, hst, if_true, h8, hk]

theorem bodyStcCfgSet_clear (h8 : flag (wAt w 6) 8 = false) :
    bodyStcCfgSet n i w s = (setStcCfg (b2n (flag (wAt w 6) 0)) (fld (wAt w 6) 1 7) {} s, some (okRes 0)) := by
  simp only [bodyStcCfgSet, domeReady, hst, if_true, h8, Bool.false_eq_true, if_false]

end

theorem bodyStcCfgRead_good {n i c : Nat} {w : List Word} {s : State} (hc : c = b2n (flag (wAt w 4) 0))
    (hm : memWrBad s (join48 (wAt w 5) (wAt w 6)) (15 * fld (wAt w 4) 8 8) = false) : bodyStcCfgRead n i w s =
    (stored (join48 (wAt w 5) (wAt w 6)) (wordsBytes ((List.range (fld (wAt w 4) 8 8)).flatMap fun j =>
      stcRecord (fld (wAt w 4) 1 7 + j) (stcCfg s c (fld (wAt w 4) 1 7 + j)))) s, some (okRes (15 * fld (wAt w 4) 8 8))) := by
  have hlen : 3 * ((List.range (fld (wAt w 4) 8 8)).flatMap fun j =>
      stcRecord (fld (wAt w 4) 1 7 + j) (stcCfg s c (fld (wAt w 4) 1 7 + j))).length = 15 * fld (wAt w 4) 8 8 := by
    simp [List.length_flatMap, stcRecord]
    omega
  subst hc
  have hwr := memWriteWords_good (hlen.symm ▸ hm)
  simp only [bodyStcCfgRead, writeSnap, hwr, hlen]

/-- Settles O32: a resolved entry is written to its place, an unresolved one is recorded, and a read writes the records. -/
theorem storageEntriesAreSetAndRead : Obligations.StorageEntriesAreSetAndRead := by
  unfold Obligations.StorageEntriesAreSetAndRead
  intro n i c k w s
  refine ⟨?set, fun h hc hm => next_finalize_congr (runDesc_of_ends h (bodyStcCfgRead_good hc hm))⟩
  rintro e h hst rfl rfl he
  obtain rfl : e = stcEntryOf w := he
  refine ⟨fun h8 hk => ?_, fun j r h8 hk => ?_, fun h8 => ?_⟩
  · exact ⟨_, next_finalize_congr (runDesc_of_ends h (bodyStcCfgSet_resolved hst h8 hk)), stcCfg_setStcCfg_self,
      fun d j hne => (stcCfg_setStcCfg_ne hne).trans (stcCfg_congr stcTouch_leaves.1 d j),
      fun d => xfers_setStcCfg.trans (by simp [stc]), by simp, by simp⟩
  · exact ⟨next_finalize_congr (runDesc_of_ends h (bodyStcCfgSet_unresolved hst h8 hk)), by simp [fetchFail]⟩
  · exact ⟨_, next_finalize_congr (runDesc_of_ends h (bodyStcCfgSet_clear hst h8)), stcCfg_setStcCfg_self,
      fun d j hne => stcCfg_setStcCfg_ne hne, by simp, rfl⟩

end Sys2Proof.Machine

/-! PROOF. TIME_SAMPLE, TIME_DOMAIN, TIME_SELECT and TIME_READ (R381 to R386, R397, R399). -/

namespace Sys2Proof.Machine

/-! ### The domains and the working clock's source -/

theorem dom_congr {t t' : Tmu} (h0 : t'.d0 = t.d0) (h1 : t'.d1 = t.d1) (k : Nat) : dom t' k = dom t k := by simp only [dom, h0, h1]

theorem dom_modDom_self {k : Nat} {f : Domain → Domain} {s : State} : dom (modDom k f s).tmu k = f (dom s.tmu k) := by
  unfold dom modDom
  split_ifs <;> rfl

theorem dom_modDom_other {k : Nat} {f : Domain → Domain} {s : State} : dom (modDom k f s).tmu (1 - k) = dom s.tmu (1 - k) := by
  unfold dom modDom
  split_ifs with h1 h0
  · omega
  · rfl
  · rfl
  · omega

theorem dom_wcStep {wc : Nat} {t : Tmu} (k : Nat) : dom (wcStep wc t) k = dom t k := dom_congr rfl rfl k

@[simp] theorem modDom_leaves {k : Nat} {f : Domain → Domain} {s : State} :
    (modDom k f s).tmu.lc = s.tmu.lc ∧ (modDom k f s).tmu.cals = s.tmu.cals ∧ (modDom k f s).tmu.pull = s.tmu.pull
      ∧ (modDom k f s).regs = s.regs ∧ (modDom k f s).clock = s.clock := by
  unfold modDom
  split_ifs <;> simp

@[simp] theorem wcFollow_leaves {auto : Bool} {s : State} :
    (wcFollow auto s).1.tmu.d0 = s.tmu.d0 ∧ (wcFollow auto s).1.tmu.d1 = s.tmu.d1 ∧ (wcFollow auto s).1.tmu.sel = s.tmu.sel
      ∧ (wcFollow auto s).1.tmu.lc = s.tmu.lc ∧ (wcFollow auto s).1.tmu.cals = s.tmu.cals ∧ (wcFollow auto s).1.tmu.pull = s.tmu.pull
      ∧ (wcFollow auto s).1.regs = s.regs := by
  unfold wcFollow
  dsimp only
  split_ifs <;> simp [wcStep]

theorem dom_wcFollow {auto : Bool} {s : State} (k : Nat) : dom (wcFollow auto s).1.tmu k = dom s.tmu k :=
  dom_congr wcFollow_leaves.1 wcFollow_leaves.2.1 k

@[simp] theorem autoSwitch_leaves {s : State} :
    (autoSwitch s).1.tmu.d0 = s.tmu.d0 ∧ (autoSwitch s).1.tmu.d1 = s.tmu.d1 ∧ (autoSwitch s).1.tmu.lc = s.tmu.lc
      ∧ (autoSwitch s).1.tmu.cals = s.tmu.cals ∧ (autoSwitch s).1.tmu.pull = s.tmu.pull ∧ (autoSwitch s).1.regs = s.regs := by
  unfold autoSwitch
  split_ifs <;> simp

theorem dom_autoSwitch {s : State} (k : Nat) : dom (autoSwitch s).1.tmu k = dom s.tmu k :=
  dom_congr autoSwitch_leaves.1 autoSwitch_leaves.2.1 k

/-- Where the selected domain gives a new source, the working clock slews to a near one and steps to a far one (R384). -/
theorem wcFollow_of_new {auto : Bool} {s : State} (h : wcWanted s.tmu ≠ s.tmu.src) :
    (wcFollow auto s).2 = decide (1000 * 2 ^ 32 < (timeSub (srcTime s.tmu (wcWanted s.tmu)) s.tmu.wc).natAbs)
      ∧ (wcFollow auto s).1.tmu.src = wcWanted s.tmu ∧ (wcFollow auto s).1.tmu.slewing = !(wcFollow auto s).2
      ∧ (wcFollow auto s).1.tmu.wc = (if (wcFollow auto s).2 then srcTime s.tmu (wcWanted s.tmu) else s.tmu.wc) := by
  by_cases hd : (timeSub (srcTime s.tmu (wcWanted s.tmu)) s.tmu.wc).natAbs ≤ 1000 * 2 ^ 32
  · simp only [wcFollow, h, hd, if_true, if_false, raise_leaves]
    exact ⟨(decide_eq_false (not_lt.2 hd)).symm, trivial, rfl, rfl⟩
  · simp only [wcFollow, h, hd, if_false, raise_leaves]
    exact ⟨(decide_eq_true (not_le.1 hd)).symm, rfl, rfl, rfl⟩

theorem wcFollow_src {auto : Bool} {s : State} : (wcFollow auto s).1.tmu.src = wcWanted s.tmu := by
  by_cases h : wcWanted s.tmu = s.tmu.src
  · simp [wcFollow, h]
  · exact (wcFollow_of_new h).2.1

/-! ### A sample (R381, R382) -/

theorem applySample_step {k : Nat} {e : Int} {s : State} (h : sampleSteps s k e = true) : dom (applySample k e s).tmu k =
    { dom s.tmu k with time := timeAdd (dom s.tmu k).time (e * 2 ^ 24), st := .locked, lossAt := s.clock + lossClocks s k, ofs := ofsNs e } := by
  simp only [applySample, h, if_true, dom_wcFollow]
  split_ifs <;> simp only [raise_leaves, dom_wcStep] <;> exact dom_modDom_self

theorem applySample_servo {k : Nat} {e : Int} {s : State} (h : sampleSteps s k e = false) : dom (applySample k e s).tmu k =
    { servo s k e (dom s.tmu k) with st := .locked, lossAt := s.clock + lossClocks s k, ofs := ofsNs e } := by
  simp only [applySample, h, Bool.false_eq_true, if_false, dom_wcFollow, dom_modDom_self]

theorem applySample_leaves {k : Nat} {e : Int} {s : State} :
    dom (applySample k e s).tmu (1 - k) = dom s.tmu (1 - k) ∧ (applySample k e s).tmu.lc = s.tmu.lc
      ∧ (applySample k e s).tmu.cals = s.tmu.cals ∧ (applySample k e s).tmu.pull = s.tmu.pull ∧ (applySample k e s).regs = s.regs
      ∧ (applySample k e s).mem = s.mem := by
  unfold applySample
  dsimp only
  refine ⟨?other, ?_⟩
  case other =>
    split_ifs <;> simp only [dom_wcFollow, raise_leaves, dom_wcStep] <;> exact dom_modDom_other
  split_ifs <;> simp [wcStep]

/-! ### The four commands -/

section
variable {n i k : Nat} {w : List Word} {s : State} (hk : k = fld (wAt w 2) 0 1)
include hk

theorem bodyTimeSample_host {e : Int} (hsrc : rfld s (rD_CTRL k) 0 2 = 0)
    (he : e = sgn 48 (join48 (wAt w 4) (wAt w 5)) * 256 + fld (wAt w 6) 0 8) :
    bodyTimeSample n i w s = (applySample k e s, some (okRes (1 + b2n (sampleSteps s k e) * 4))) := by
  subst hk he
  simp only [bodyTimeSample, hsrc, ne_eq, not_true_eq_false, if_false]

theorem bodyTimeDomain_setRate (h : flag (wAt w 4) 0 = true) : bodyTimeDomain n i w s =
    (modDom k (fun d => { d with integ := sgn 32 ((wAt w 5).toNat + fld (wAt w 6) 0 8 * 2 ^ 24)
                                 rate := sgn 32 ((wAt w 5).toNat + fld (wAt w 6) 0 8 * 2 ^ 24) }) s, some (okRes 0)) := by
  subst hk
  simp only [bodyTimeDomain, h, if_true]

theorem bodyTimeDomain_invalidate (h : flag (wAt w 4) 0 = false) : ∃ u, bodyTimeDomain n i w s = (u, some (okRes 0))
    ∧ dom u.tmu k = { dom s.tmu k with st := .invalid, time := 0, integ := 0, rate := 0 } ∧ dom u.tmu (1 - k) = dom s.tmu (1 - k)
    ∧ u.tmu.lc = s.tmu.lc ∧ u.tmu.cals = s.tmu.cals ∧ u.regs = s.regs ∧ u.mem = s.mem := by
  subst hk
  simp only [bodyTimeDomain, h, Bool.false_eq_true, if_false]
  refine ⟨_, rfl, ?_⟩
  split_ifs <;> simp [dom_autoSwitch, dom_modDom_self, dom_modDom_other]

theorem bodyTimeSelect_of_invalid (h : (dom s.tmu k).st = .invalid) : bodyTimeSelect n i w s = (s, some (badRes 0x0B 2)) := by
  subst hk
  simp only [bodyTimeSelect, h, if_true]

theorem bodyTimeSelect_same (h : (dom s.tmu k).st ≠ .invalid) (hs : s.tmu.sel = k) : bodyTimeSelect n i w s = (s, some (okRes 0)) := by
  subst hk
  simp only [bodyTimeSelect, h, hs, if_true, if_false]

theorem bodyTimeSelect_other (h : (dom s.tmu k).st ≠ .invalid) (hs : s.tmu.sel ≠ k) : bodyTimeSelect n i w s =
    ((wcFollow false { s with tmu := { s.tmu with sel := k } }).1,
      some (okRes (b2n (wcFollow false { s with tmu := { s.tmu with sel := k } }).2))) := by
  subst hk
  simp only [bodyTimeSelect, h, hs, if_false]

end

theorem wcWanted_of_valid {t : Tmu} (h : (dom t t.sel).st ≠ .invalid) : wcWanted t = if t.sel = 0 then .d0 else .d1 := if_neg h

theorem bodyTimeRead_good {n i : Nat} {w : List Word} {s : State}
    (hm : memWrBad s (join48 (wAt w 4) (wAt w 5)) (3 * (timeRecord s).length) = false) : bodyTimeRead n i w s =
    (stored (join48 (wAt w 4) (wAt w 5)) (wordsBytes (timeRecord s)) s, some (okRes (3 * (timeRecord s).length))) := by
  simp only [bodyTimeRead, writeSnap, memWriteWords_good hm]

/-- Settles O33: a sample steps or steers its domain, the others act on the domain or the selection that they name. -/
theorem timeCommandsChangeTheTimeUnit : Obligations.TimeCommandsChangeTheTimeUnit := by
  unfold Obligations.TimeCommandsChangeTheTimeUnit
  intro n i k w s hk
  refine ⟨fun e h hsrc he => ?sample, fun h => ⟨fun h0 => ?rate, fun h0 => ?invalidate⟩,
    fun h => ⟨fun hi => ?bad, fun hv hs => ?same, fun hv hs => ?other⟩, fun h hm => ?read⟩
  case sample =>
    obtain ⟨ho, hlc, hcals, hpull, hregs, hmem⟩ := applySample_leaves (k := k) (e := e) (s := s)
    refine ⟨_, next_finalize_congr (runDesc_of_ends h (bodyTimeSample_host hk hsrc he)), ?_⟩
    cases hstep : sampleSteps s k e with
    | true => simp [applySample_step hstep, ho, hlc, hcals, hpull, hregs]
    | false => simp [applySample_servo hstep, servo, ho, hlc, hcals, hpull, hregs]
  case rate => exact next_finalize_congr (runDesc_of_ends h (bodyTimeDomain_setRate hk h0))
  case invalidate =>
    obtain ⟨u, hu, hdom, hother, hlc, hcals, hregs, hmem⟩ := bodyTimeDomain_invalidate hk h0
    refine ⟨u, next_finalize_congr (runDesc_of_ends h hu), ?_⟩
    simp [hdom, hother, hlc, hcals, hregs, hmem]
  case bad => exact next_finalize_congr (runDesc_of_ends h (bodyTimeSelect_of_invalid hk hi))
  case same => exact next_finalize_congr (runDesc_of_ends h (bodyTimeSelect_same hk hv hs))
  case other =>
    have hwant : wcWanted { s.tmu with sel := k } = if k = 0 then .d0 else .d1 := wcWanted_of_valid hv
    refine ⟨_, _, next_finalize_congr (runDesc_of_ends h (bodyTimeSelect_other hk hv hs)), wcFollow_leaves.2.2.1,
      wcFollow_src.trans hwant, wcFollow_leaves.1, wcFollow_leaves.2.1, wcFollow_leaves.2.2.2.1, fun hne => ?_, by simp, by simp, by simp⟩
    rw [wcFollow_src] at hne ⊢
    obtain ⟨hb, -, hslew, hwc⟩ := wcFollow_of_new (auto := false) hne
    exact ⟨hb, hslew, hwc⟩
  case read => exact next_finalize_congr (runDesc_of_ends h (bodyTimeRead_good hm))

end Sys2Proof.Machine

/-! PROOF. CAL_LOAD, CAL_SWITCH, CAL_CHANGEOVER and CAL_READ (R389, R398, R399). -/

namespace Sys2Proof.Machine

theorem cal_congr {s t : State} (h : t.tmu.cals = s.tmu.cals) (p : Nat) : cal t p = cal s p := by simp only [cal, h]

theorem calBank_setBank_self {b : Nat} {k : CalBank} {c : Cal} : calBank (setBank b k c) b = k := by
  unfold calBank setBank
  split_ifs <;> rfl

theorem calBank_setBank_other {a : Nat} {k : CalBank} {c : Cal} (h : a < 2) : calBank (setBank (1 - a) k c) a = calBank c a := by
  unfold calBank setBank
  split_ifs with h1 h0
  · omega
  · rfl
  · rfl
  · omega

@[simp] theorem setBank_leaves {b : Nat} {k : CalBank} {c : Cal} : (setBank b k c).active = c.active
    ∧ (setBank b k c).running = c.running ∧ (setBank b k c).claimed = c.claimed := by
  unfold setBank
  split_ifs <;> simp

/-! ### The changeover (R399) -/

/-- What a changeover does to its port's calendar. -/
def changedCal (p : Nat) (q : CalPend) (s : State) : State :=
  if q.stop then setCal p { cal s p with running := false, pend := none, claimed := [] } s
  else
    let t := setCal p { cal s p with running := true, active := q.bank, pend := none, claimed := [] } s
    setCal p { cal t p with seen := firstInst (calBank (cal s p) q.bank) (portPull t p) (wcNs t) } t

theorem changeover_cals {p : Nat} {q : CalPend} {s : State} :
    (changeover p q s).tmu.cals = (changedCal p q (freezeLaunches p s)).tmu.cals := by
  unfold changeover changedCal
  simp only [raise_leaves]
  split_ifs <;> rfl

theorem cal_changedCal_self {p : Nat} {q : CalPend} {s : State} : ∃ m, cal (changedCal p q s) p =
    { cal s p with running := !q.stop, active := if q.stop then (cal s p).active else q.bank, pend := none, claimed := [], seen := m } := by
  cases h : q.stop with
  | true => exact ⟨(cal s p).seen, by simp [changedCal, h]⟩
  | false => exact ⟨_, by simp only [changedCal, h, Bool.false_eq_true, if_false, cal_setCal_self]; rfl⟩

theorem cal_changedCal_ne {p j : Nat} {q : CalPend} {s : State} (h : j ≠ p) : cal (changedCal p q s) j = cal s j := by
  unfold changedCal
  split_ifs
  · exact cal_setCal_ne h
  · exact (cal_setCal_ne h).trans (cal_setCal_ne h)

@[simp] theorem changeover_secys {p : Nat} {q : CalPend} {s : State} : (changeover p q s).secys = s.secys := by
  unfold changeover
  simp only [raise_leaves]
  split_ifs <;> rfl

theorem cal_changeover_self {p : Nat} {q : CalPend} {s : State} : ∃ m, cal (changeover p q s) p =
    { cal s p with running := !q.stop, active := if q.stop then (cal s p).active else q.bank, pend := none, claimed := [], seen := m } := by
  obtain ⟨m, hm⟩ := cal_changedCal_self (p := p) (q := q) (s := freezeLaunches p s)
  exact ⟨m, (cal_congr changeover_cals p).trans hm⟩

theorem cal_changeover_ne {p j : Nat} {q : CalPend} {s : State} (h : j ≠ p) : cal (changeover p q s) j = cal s j :=
  (cal_congr changeover_cals j).trans (cal_changedCal_ne h)

theorem calChangeover_of_pending {p : Nat} {q : CalPend} {s : State} (hq : (cal s p).pend = some q) (hd : domOn s dTIME = true) :
    calChangeover p s = if boundary (activeBank (cal s p)) (portPull s p) q.cycle ≤ wcNs s then changeover p q s else s := by
  simp only [calChangeover, hq, hd, Bool.true_and, decide_eq_true_eq]

/-! ### The commands -/

/-- The calendar of a port while CAL_LOAD reads its entries: the inactive bank is not valid. -/
def clearedBank (c : Cal) : Cal :=
  setBank (1 - c.active) { calBank c (1 - c.active) with valid := false, entries := [] } c

theorem bodyCalSwitch_passes {n i : Nat} {w : List Word} {s : State} (hchk : chkCalSwitch n w s = none) :
    bodyCalSwitch n i w s = (appCalSwitch w s, some (calSwitchRes w s)) := by
  simp only [bodyCalSwitch, hchk]

section
variable {n i p : Nat} {w : List Word} {s : State} (hp : p = fld (wAt w 2) 0 5)
include hp

theorem bodyCalLoad_good {l : List Word} {es : List (Nat × Nat)} {cyc : Nat} (hok : portOk s n p = true)
    (hheld : heldBy s (.cal p) = false) (h1 : 1 ≤ fld (wAt w 6) 0 9) (h256 : fld (wAt w 6) 0 9 ≤ 256)
    (hc : cyc = (wAt w 10).toNat + fld (wAt w 11) 0 6 * 2 ^ 24) (hlo : 1000 ≤ cyc) (hhi : cyc ≤ 1000000000)
    (hl : memReadWords s (join48 (wAt w 4) (wAt w 5)) (2 * fld (wAt w 6) 0 9) = some l) (hes : calEntries l = some es)
    (hoff : offsetsOk cyc es = true) : bodyCalLoad n i w s =
    (setCal p (setBank (1 - (cal s p).active) { valid := true, base := w64 w 7, cycle := cyc, entries := es } (clearedBank (cal s p)))
      (setCal p (clearedBank (cal s p)) s), some (okRes (fld (wAt w 6) 0 9))) := by
  have hread (t : Cal) : memReadWords (setCal p t s) (join48 (wAt w 4) (wAt w 5)) (2 * fld (wAt w 6) 0 9) = some l := hl
  have hcount : (fld (wAt w 6) 0 9 = 0 || 256 < fld (wAt w 6) 0 9 : Bool) = false := by simp; omega
  have hcyc : (cyc < 1000 || 1000000000 < cyc : Bool) = false := by simp; omega
  simp only [bodyCalLoad, ← hp, ← hc, hok, hheld, hcount, hcyc, Bool.not_true, Bool.false_eq_true, if_false]
  simp only [← clearedBank.eq_1, hread, hes, hoff, if_true]

theorem calSwitch_running (h : (cal s p).running = true) :
    (appCalSwitch w s, some (calSwitchRes w s)) = (setCal p { cal s p with
        pend := some { stop := flag (wAt w 4) 0, bank := fld (wAt w 4) 1 1
                       cycle := cycleFrom (activeBank (cal s p)) (portPull s p) (wcNs s) } } s,
      some (okRes (unsgn 48 (boundary (activeBank (cal s p)) (portPull s p) (cycleFrom (activeBank (cal s p)) (portPull s p) (wcNs s)))))) := by
  subst hp
  simp only [appCalSwitch, calSwitchRes, switchBoundary, h, if_true]

theorem calSwitch_stopped (h : (cal s p).running = false) :
    (appCalSwitch w s, some (calSwitchRes w s)) =
      (changeover p { stop := flag (wAt w 4) 0, bank := fld (wAt w 4) 1 1, cycle := 0 } s, some (okRes (wcNs s % 2 ^ 48))) := by
  subst hp
  simp only [appCalSwitch, calSwitchRes, switchBoundary, h, Bool.false_eq_true, if_false]

theorem bodyCalRead_good (hok : portOk s n p = true)
    (hm : memWrBad s (join48 (wAt w 5) (wAt w 6)) (3 * (calRecord (cal s p) (fld (wAt w 4) 0 1)).length) = false) :
    bodyCalRead n i w s = (stored (join48 (wAt w 5) (wAt w 6)) (wordsBytes (calRecord (cal s p) (fld (wAt w 4) 0 1))) s,
      some (okRes (3 * (calRecord (cal s p) (fld (wAt w 4) 0 1)).length))) := by
  subst hp
  simp only [bodyCalRead, hok, Bool.not_true, Bool.false_eq_true, if_false, writeSnap, memWriteWords_good hm]

end

/-- Settles O34: a load fills the inactive bank, a switch waits for its boundary or changes over at once, a read writes the record. -/
theorem calendarCommandsActOnTheirPort : Obligations.CalendarCommandsActOnTheirPort := by
  unfold Obligations.CalendarCommandsActOnTheirPort
  intro n i p w s hp
  refine ⟨?load, ?switch, ?due, ?changes, fun h hok hm => next_finalize_congr (runDesc_of_ends h (bodyCalRead_good hp hok hm))⟩
  case load =>
    intro l es h hok hheld h1 h256 hlo hhi hl hes hoff hact
    refine ⟨_, next_finalize_congr (runDesc_of_ends h (bodyCalLoad_good hp hok hheld h1 h256 rfl hlo hhi hl hes hoff)), ?_⟩
    refine ⟨by rw [cal_setCal_self, calBank_setBank_self], ?_, by simp [clearedBank], by simp [clearedBank],
      fun q hq => (cal_setCal_ne hq).trans (cal_setCal_ne hq), rfl, rfl⟩
    rw [cal_setCal_self, activeBank, setBank_leaves.1, clearedBank, setBank_leaves.1, calBank_setBank_other hact, calBank_setBank_other hact]
    rfl
  case switch =>
    rintro q h hchk rfl
    have hb := bodyCalSwitch_passes (i := i) hchk
    exact ⟨fun hr => next_finalize_congr (runDesc_of_ends h (hb.trans (calSwitch_running hp hr))),
      fun hr => next_finalize_congr (runDesc_of_ends h (hb.trans (calSwitch_stopped hp hr)))⟩
  case due =>
    intro k q hq hd
    refine ⟨fun hb => next_finalize_congr ?_, fun hb => next_finalize_congr ?_⟩
    · exact (calChangeover_of_pending hq hd).trans (if_pos hb)
    · exact (calChangeover_of_pending hq hd).trans (if_neg (not_le.2 hb))
  case changes =>
    intro k q
    obtain ⟨m, hm⟩ := cal_changeover_self (p := k) (q := q) (s := s)
    exact ⟨by rw [hm], by rw [hm], by rw [hm], by rw [hm], by rw [hm], by rw [hm], fun j hj => cal_changeover_ne hj, by simp, by simp⟩

end Sys2Proof.Machine

/-! PROOF. The refutation of the statement on losses of lock and framing (R404, R413, R421, R447): its last clause, of a port
that goes down, ranges over every state, and one whose record index lies past the sixteen SPL_PERR records writes the
record of a discarded posted write over SP_CTRL. -/

namespace Sys2Proof.Machine

/-- A posted write to node 1 that no acknowledgement has freed. -/
def postedToNode1 : RPkt := { seq := 0, pkt := { vc := 0, ty := 3, dest := 1, src := 0 }, fwd := false }

/-- Port 0 ACTIVE and not enabled, with an index of 48 for the next of the sixteen records. -/
def recordPastItsEnd : State :=
  { State.reset with
    pwr := { State.reset.pwr with on := 2 ^ dSPIRE }
    spl := { State.reset.spl with perrNext := 48, ports := [(0, { st := .active, replay := [postedToNode1] })] } }

theorem recordPastItsEnd_notEnabled : mayTrain recordPastItsEnd 0 = false := by decide

/-- SPL_PERR record 48 begins at SP_CTRL of port 0: the record's first word, whose bit 0 is the node's, has set ENABLE, so that the port trains again. -/
theorem recordPastItsEnd_trains : (sport (linkDown 0 0 recordPastItsEnd) 0).st = .training := by decide

/-- Refutes O37: going down, a port that is not enabled writes the record of its discarded posted write over its own
SP_CTRL where the record index is 48, and trains. -/
theorem not_lossesOfLockAndFramingTakeThePortOn : ¬ Obligations.LossesOfLockAndFramingTakeThePortOn := by
  unfold Obligations.LossesOfLockAndFramingTakeThePortOn
  intro h
  obtain ⟨-, -, -, -, -, -, -, -, hdown⟩ := h 0 recordPastItsEnd (by decide)
  have hst : (sport (linkDown 0 0 recordPastItsEnd) 0).st = if mayTrain recordPastItsEnd 0 then .training else .down :=
    (hdown 0 (by decide)).1
  rw [recordPastItsEnd_notEnabled] at hst
  exact absurd (hst.symm.trans recordPastItsEnd_trains) (by decide)

end Sys2Proof.Machine

/-! PROOF. Packets on the Spire link: sending, acknowledging, replaying, discarding and forwarding (R414 to R418). -/

namespace Sys2Proof.Machine

theorem sport_congr {s t : State} (h : t.spl.ports = s.spl.ports) (p : Nat) : sport t p = sport s p := by simp only [sport, h]

@[simp] theorem sport_raise {src inst detail p : Nat} {s : State} : sport (raise src inst detail s) p = sport s p := by simp [sport]

@[simp] theorem sport_rsat {off lo len inc p : Nat} {s : State} : sport (rsat off lo len inc s) p = sport s p := rfl

@[simp] theorem setSport_spl {p : Nat} {v : SPort} {s : State} :
    (setSport p v s).spl.tags = s.spl.tags ∧ (setSport p v s).spl.epoch = s.spl.epoch := ⟨rfl, rfl⟩

theorem takesPkts_of_active {s : State} {p : Nat} (hd : domOn s dSPIRE = true) (ha : (sport s p).st = .active)
    (hf : (sport s p).framingLost = false) : takesPkts s p = true := by simp [takesPkts, hd, ha, hf]

/-! ### Sending (R414) -/

/-- The port that has put packet `q` of its queue on the line. -/
def sentPort (s : State) (p : Nat) (q : QPkt) : SPort :=
  { sport s p with
    queue := (sport s p).queue.erase q, txSeq := ((sport s p).txSeq + 1) % 4096
    replay := (sport s p).replay ++ [{ seq := (sport s p).txSeq, pkt := q.pkt, fwd := q.from_.isSome }]
    replayAt := if (sport s p).replay.isEmpty then s.clock else (sport s p).replayAt
    rr := if [2, 4, 6, 0, 1].contains q.pkt.vc then q.pkt.vc else (sport s p).rr }

section
variable {p : Nat} {s : State} (hd : domOn s dSPIRE = true) (ha : (sport s p).st = .active)
include hd ha

theorem splPacketSend_of_picked {q : QPkt} (hr : (sport s p).resend = []) (hq : pickPkt (sport s p) = some q) (hty : q.pkt.ty ≠ 10)
    (hown : q.own = none) : splPacketSend p s = onLine p (sentPort s p q) ((((sport s p).txSeq + 1) % 4096 + 4095) % 4096) q.pkt
      (setSport p { sport s p with queue := (sport s p).queue.erase q } s) := by
  have hstamp (t : State) : stampTime q.pkt t = (t, q.pkt) := if_pos hty
  simp [splPacketSend, hd, ha, hr, hq, sendNew, hstamp, hown, sentPort]

theorem splPacketSend_of_resend {seq : Nat} {rest : List Nat} {r : RPkt} (hr : (sport s p).resend = seq :: rest)
    (hf : (sport s p).replay.find? (fun q => q.seq == seq) = some r) :
    splPacketSend p s = onLine p { sport s p with resend := rest } seq r.pkt s := by
  simp [splPacketSend, hd, ha, hr, hf]

end

theorem sport_onLine_self {p seq : Nat} {v : SPort} {k : Pkt} {s : State} : sport (onLine p v seq k s) p =
    { v with ackDue := false, sentAt := s.clock, line := withCrc (pktWords seq (lastAccepted v) v.xoffTx k)
             lineAt := Config.freeNat s.draws % 4 } := sport_setSport_self

theorem sport_onLine_ne {p j seq : Nat} {v : SPort} {k : Pkt} {s : State} (h : j ≠ p) : sport (onLine p v seq k s) j = sport s j :=
  sport_setSport_ne h

/-! ### Acknowledging (R416) -/

/-- The packets that an acknowledgement number covers, of a port's replay buffer. -/
def ackCount (v : SPort) (ack : Nat) : Nat := (ack + 4097 - (match v.replay with | q :: _ => q.seq | [] => v.txSeq)) % 4096

theorem takeAck_of_some {p ack xoff : Nat} {s : State} (h0 : 0 < ackCount (sport s p) ack)
    (hlen : ackCount (sport s p) ack ≤ (sport s p).replay.length) : takeAck p ack xoff s =
    setSport p { sport s p with
      xoffRx := xoff, replay := (sport s p).replay.drop (ackCount (sport s p) ack)
      resend := (sport s p).resend.filter (fun q => ((sport s p).replay.drop (ackCount (sport s p) ack)).any fun r => r.seq == q)
      replayAt := s.clock, expiries := 0, retrains := 0 } s := by
  exact (if_neg (not_lt.2 hlen)).trans (if_neg h0.ne')

theorem takeAck_of_none {p ack xoff : Nat} {s : State} (h0 : ackCount (sport s p) ack = 0) :
    takeAck p ack xoff s = setSport p { sport s p with xoffRx := xoff } s := by
  exact (if_neg (not_lt.2 (h0.trans_le (Nat.zero_le _)))).trans (if_pos h0)

theorem ackReceive_of_good {p : Nat} {w : List Word} {s : State} (ht : takesPkts s p = true) (hc : (parsePkt w).crcOk = true)
    (hty : (parsePkt w).pkt.ty = 0) : ackReceive p w s = takeAck p (parsePkt w).ack (parsePkt w).xoff s := by
  simp [ackReceive, ht, hc, hty]

theorem sport_takeAck_ne {p ack xoff j : Nat} {s : State} (h : j ≠ p) : sport (takeAck p ack xoff s) j = sport s j := by
  unfold takeAck
  dsimp only
  split_ifs <;> simp [sport_setSport_ne h]

theorem sport_accept_ne {p j : Nat} {r : Rx} {s : State} (h : j ≠ p) : sport (accept p r s) j = sport s j :=
  (sport_setSport_ne h).trans (sport_takeAck_ne h)

/-! ### The timers (R415, R416) -/

theorem replayTimeout_of_due {p : Nat} {s : State} (hd : domOn s dSPIRE = true) (ha : (sport s p).st = .active)
    (hr : (sport s p).replay ≠ []) (hdue : (sport s p).replayAt + ceilDiv (rfld s (rSP_REPLAY p) 0 16) 2 ≤ s.clock)
    (he : (sport s p).expiries < 3) : replayTimeout p s = setSport p { sport s p with
      resend := (sport s p).replay.map (fun q => q.seq), replayAt := s.clock, expiries := (sport s p).expiries + 1 }
      (rsat (rSP_ERR p) 8 8 1 s) := by
  have hcond : (domOn s dSPIRE && (sport s p).st = .active && !(sport s p).replay.isEmpty
      && (sport s p).replayAt + ceilDiv (rfld s (rSP_REPLAY p) 0 16) 2 ≤ s.clock : Bool) = true := by simp [hd, ha, hr, hdue]
  unfold replayTimeout
  dsimp only
  rw [if_pos hcond, if_neg (by omega)]
  rfl

theorem ackTimer_of_due {p : Nat} {s : State} (hd : domOn s dSPIRE = true) (ha : (sport s p).st = .active)
    (hack : (sport s p).ackDue = true) (hdue : (sport s p).sentAt + 100 ≤ s.clock) : ackTimer p s = onStream p { sport s p with
      ackDue := false, sentAt := s.clock
      line := withCrc (pktWords 0 (lastAccepted (sport s p)) (sport s p).xoffTx { vc := 0, ty := 0, dest := 0, src := 0 }) } s := by
  simp only [ackTimer, hd, hack, hdue, Bool.and_self, decide_true, if_true, sendAck, ha]

/-! ### Discarding and forwarding (R417, R418) -/

theorem linkErr_spec {p : Nat} {s : State} : ∃ a b, sport (linkErr p s) p = { sport s p with crcSince := a, ovrSince := b } := by
  unfold linkErr
  dsimp only
  split_ifs
  · exact ⟨_, _, rfl⟩
  · exact ⟨0, 0, sport_setSport_self⟩

theorem sport_linkErr_ne {p j : Nat} {s : State} (h : j ≠ p) : sport (linkErr p s) j = sport s j := by
  unfold linkErr
  dsimp only
  split_ifs
  · rfl
  · rw [sport_setSport_ne h, sport_raise]

@[simp] theorem linkErr_regs {p : Nat} {s : State} : (linkErr p s).regs = s.regs := by
  unfold linkErr
  dsimp only
  split_ifs <;> simp

section
variable {p : Nat} {w : List Word} {s : State} (ht : takesPkts s p = true)
include ht

theorem packetDiscard_of_badCrc (hc : (parsePkt w).crcOk = false) (hat : (sport s p).crcAt = []) : packetDiscard p w s =
    linkErr p (rsat (rSP_ERR p) 0 8 1 (setSport p { sport s p with crcSince := (sport s p).crcSince + 1, crcAt := [s.clock] } s)) := by
  simp [packetDiscard, ht, hc, hat]

theorem packetDiscard_of_badType (hc : (parsePkt w).crcOk = true) (hty : (parsePkt w).pkt.ty ≠ 0)
    (hseq : (parsePkt w).seq = (sport s p).rxSeq) (hroom : rxRoom s p (parsePkt w).pkt = true)
    (hok : typeOk (parsePkt w).pkt = false) : packetDiscard p w s = cntDrop p 3 (accept p (parsePkt w) s) := by
  simp [packetDiscard, ht, hc, hty, hseq, hroom, hok]

end

theorem acceptable_iff {s : State} {p : Nat} {r : Rx} : acceptable s p r = true ↔
    takesPkts s p = true ∧ r.crcOk = true ∧ r.pkt.ty ≠ 0 ∧ r.seq = (sport s p).rxSeq ∧ rxRoom s p r.pkt = true := by
  simp [acceptable, and_assoc]

theorem packetDiscard_of_badSub {p : Nat} {w : List Word} {s : State} (ha : acceptable s p (parsePkt w) = true)
    (hok : typeOk (parsePkt w).pkt = true) (hsub : subOk (parsePkt w).pkt = false) (hr : route s (parsePkt w).pkt.dest = .here) :
    packetDiscard p w s = accept p (parsePkt w) s := by
  obtain ⟨ht, hc, hty, hseq, hroom⟩ := acceptable_iff.1 ha
  simp [packetDiscard, ht, hc, hty, hseq, hroom, hok, hsub, hr]

theorem splForward_of_up {p q : Nat} {w : List Word} {s : State} (ha : acceptable s p (parsePkt w) = true)
    (hok : typeOk (parsePkt w).pkt = true) (h4 : (parsePkt w).pkt.ty ≠ 4) (hr : route s (parsePkt w).pkt.dest = .port q) (hq : q ≠ p)
    (hh : (parsePkt w).pkt.hops < 14) (hup : portUp s q = true) : splForward p w s = enqueue q
      { pkt := { (parsePkt w).pkt with hops := (parsePkt w).pkt.hops + 1 }, from_ := some p } (accept p (parsePkt w) s) := by
  have hup' : portUp (accept p (parsePkt w) s) q = true := by rw [portUp, sport_accept_ne hq]; exact hup
  simp [splForward, ha, hok, h4, hr, not_le.2 hh, hq, hup']

/-- Settles O38: each packet command is the move of its port that the lemmas above name. -/
theorem packetsAreSentAcknowledgedAndReplayed : Obligations.PacketsAreSentAcknowledgedAndReplayed := by
  unfold Obligations.PacketsAreSentAcknowledgedAndReplayed
  intro p s hd hst
  refine ⟨?send, fun seq rest r hr hf => next_finalize_congr (splPacketSend_of_resend hd hst hr hf), ?ack,
    fun hr hdue he => next_finalize_congr (replayTimeout_of_due hd hst hr hdue he),
    fun hack hdue => next_finalize_congr (ackTimer_of_due hd hst hack hdue), ?crc,
    fun w hf hc hty hseq hroom hok => next_finalize_congr (packetDiscard_of_badType (takesPkts_of_active hd hst hf) hc hty hseq hroom hok),
    fun w ha hok hsub hr => next_finalize_congr (packetDiscard_of_badSub ha hok hsub hr),
    fun w q ha hok h4 hr hq hh hup => next_finalize_congr (splForward_of_up ha hok h4 hr hq hh hup)⟩
  case send =>
    intro q hr hq hty hown
    refine ⟨_, next_finalize_congr (splPacketSend_of_picked hd hst hr hq hty hown), ?_⟩
    rw [sport_onLine_self]
    refine ⟨rfl, rfl, rfl, rfl, rfl, fun hlt => ?_, rfl, rfl,
      fun k hk => (sport_onLine_ne hk).trans (sport_setSport_ne hk), rfl, rfl, rfl, rfl⟩
    have hseq : (((sport s p).txSeq + 1) % 4096 + 4095) % 4096 = (sport s p).txSeq := by omega
    rw [hseq]
    rfl
  case ack =>
    intro w oldest d hf hc hty hold hd'
    have hcount : ackCount (sport s p) (parsePkt w).ack = d := by rw [hd', hold]; rfl
    have hrecv := ackReceive_of_good (takesPkts_of_active hd hst hf) hc hty
    refine ⟨fun h0 hlen => ?_, fun h0 => next_finalize_congr (hrecv.trans (takeAck_of_none (hcount.trans h0)))⟩
    subst hcount
    refine ⟨_, next_finalize_congr (hrecv.trans (takeAck_of_some h0 hlen)), ?_⟩
    rw [sport_setSport_self]
    exact ⟨rfl, rfl, rfl, rfl, rfl, fun k hk => sport_setSport_ne hk, rfl, rfl⟩
  case crc =>
    intro w hf hc hat
    refine ⟨_, next_finalize_congr (packetDiscard_of_badCrc (takesPkts_of_active hd hst hf) hc hat), ?_⟩
    obtain ⟨a, b, hport⟩ := linkErr_spec (p := p) (s := rsat (rSP_ERR p) 0 8 1 (setSport p { sport s p with
      crcSince := (sport s p).crcSince + 1, crcAt := [s.clock] } s))
    rw [hport, sport_rsat, sport_setSport_self]
    refine ⟨?_, rfl, rfl, rfl, hst, fun k hk => ?_, by simp⟩
    · rw [rfld, rget, linkErr_regs]
      exact rfld_rsat_self (by decide)
    · rw [sport_linkErr_ne hk, sport_rsat, sport_setSport_ne hk]

end Sys2Proof.Machine

/-! PROOF. Egress frames: admission, start, launch and end (R123 to R163, R388). -/

namespace Sys2Proof.Machine

/-! ### A frame that its port accepts -/

/-- The frame as it is presented, before its classification. -/
def presentedFrame (p : Nat) (express : Bool) (len : Nat) (bytes : List Byte) (launch : Option (BitVec 32)) (err : Bool) (s : State) : EgFrame :=
  { port := p, express := express && flag (rget s (rPA_EG_CTRL p)) 2, len, bytes, marked := err || bytes.length + 4 != len, act := .plain 4
    launch := launch.map fun t => explicitLaunch s t.toNat, since := s.clock }

/-- The state in which the frame counts as received and has its number. -/
def receivedState (p : Nat) (s : State) : State := (takeId (cntEg p 1 s)).1

theorem egFrameAdmit_of_refused {p len : Nat} {express err : Bool} {bytes : List Byte} {launch : Option (BitVec 32)} {s : State}
    (h : dpRuns s = false ∨ portBlocked s p = true ∨ flag (rget s (rPA_EG_CTRL p)) 0 = false) :
    egFrameAdmit p express len bytes launch err s = s := by
  unfold egFrameAdmit
  dsimp only
  rw [if_pos (by rcases h with h | h | h <;> simp [h])]

section
variable {p len : Nat} {express err : Bool} {bytes : List Byte} {launch : Option (BitVec 32)} {s : State}
  (hrun : dpRuns s = true) (hres : s.pwr.restoring = false) (hent : entering s = false) (hleave : pipeLeaving s = false)
  (hctrl : flag (rget s (rPA_EG_CTRL p)) 0 = true) (hblk : portBlocked s p = false) (hne : bytes ≠ [])
  (hx : (parseFrame bytes).exhausted = false)
include hrun hres hent hleave hctrl hblk hne hx

theorem egFrameAdmit_eapol (het : (parseFrame bytes).etype = 0x888E) (hv : (parseFrame bytes).vlans.length ≤ 2)
    (hplain : flag (rget s (rPA_EG_CTRL p)) 1 = false) : egFrameAdmit p express len bytes launch err s =
    egPlain s.arr.nextId 5 (presentedFrame p express len bytes launch err s) (receivedState p s) := by
  unfold egFrameAdmit
  simp only [hrun, hres, hent, hleave, hctrl, hblk, hne, hx, het, hv, hplain, Bool.not_true, Bool.or_false, decide_false,
    decide_true, Bool.not_false, Bool.and_self, Bool.false_eq_true, if_true, if_false]
  rfl

theorem egFrameAdmit_classified (het : (parseFrame bytes).etype ≠ 0x888E) : egFrameAdmit p express len bytes launch err s =
    egLeaf s.arr.nextId (presentedFrame p express len bytes launch err s)
      (classify s p false (keyVector p (express && flag (rget s (rPA_EG_CTRL p)) 2) launch.isSome bytes (parseFrame bytes)))
      (receivedState p s) := by
  unfold egFrameAdmit
  simp only [hrun, hres, hent, hleave, hctrl, hblk, hne, hx, het, Bool.not_true, Bool.or_false, decide_false,
    Bool.false_and, Bool.false_eq_true, if_false]
  rfl

end

/-! ### Plain and protected frames -/

section
variable {p : Nat} {s : State}

theorem unitsFor_receivedState : unitsFor (receivedState p s) p = unitsFor s p := rfl

@[simp] theorem receivedState_leaves : (receivedState p s).marks = s.marks ∧ (receivedState p s).secys = s.secys
    ∧ (receivedState p s).regs = s.regs ∧ (receivedState p s).mem = s.mem ∧ (receivedState p s).assocs = s.assocs
    ∧ (receivedState p s).items = s.items := ⟨rfl, rfl, rfl, rfl, rfl, rfl⟩

theorem egFrame_receivedState {j : Nat} : egFrame (receivedState p s) j = egFrame s j := rfl

theorem assoc_receivedState {sa : Nat} : assoc (receivedState p s) sa = assoc s sa := rfl

theorem secy_receivedState {y : Nat} : secy (receivedState p s) y = secy s y := rfl

theorem assocTop_receivedState {a : Assoc} : assocTop (receivedState p s) a = assocTop s a := assocTop_congr rfl rfl a

theorem needsLease_receivedState {a : Assoc} : needsLease (receivedState p s) a = needsLease s a := needsLease_congr rfl rfl a

end

theorem egPlain_whole {id k : Nat} {f : EgFrame} {s : State} (hlen : f.len ≤ rfld s (rPA_EG_MAXLEN f.port) 0 14)
    (hu : ceilDiv (f.len - 4) 64 ≤ unitsFor s f.port) : egPlain id k f s =
    setEg id (some { f with act := .plain k, units := ceilDiv (f.len - 4) 64, st := .whole, out := fitBytes (f.len - 4) f.bytes }) s := by
  unfold egPlain egSpace
  rw [if_neg (not_lt.2 hlen), if_neg (not_lt.2 hu)]

/-- The item of a numbered frame asks for its association's key. -/
def egItem (f : EgFrame) (sa : Nat) (a : Assoc) : Item :=
  { kind := .eg, cls := if f.express || a.scheduled || f.launch.isSome then 0 else 1, dkey := frameKey sa false
    reqs := [linkReq a.kref a.label (fld f.settings 13 2)] }

theorem assoc_setItem_setEg {id i j : Nat} {x : Option Item} {f : Option EgFrame} {s : State} :
    assoc (setItem id x (setEg i f s)) j = assoc s j := rfl

@[simp] theorem egFrame_setItem {id j : Nat} {x : Option Item} {s : State} : egFrame (setItem id x s) j = egFrame s j := rfl

@[simp] theorem egFrame_cntEg {port c j : Nat} {s : State} : egFrame (cntEg port c s) j = egFrame s j := rfl

@[simp] theorem egFrame_setMac {f : EgFrame} {o : MacFrame} {j : Nat} {s : State} : egFrame (setMac f o s) j = egFrame s j := rfl

/-- The frame with the next PN of its association. -/
def numberedFrame (f : EgFrame) (a : Assoc) : EgFrame :=
  { f with an := a.an, ssci := a.ssci, salt := a.salt, pn := a.nextPn, st := .cipher }

theorem assignPn_within {port sa : Nat} {s : State} (hthr : (assoc s sa).nextPn < (assoc s sa).threshPn)
    (htop : (assoc s sa).nextPn ≠ assocTop s (assoc s sa))
    (hlease : needsLease s { assoc s sa with nextPn := (assoc s sa).nextPn + 1 } = false) :
    assignPn port sa s = modAssoc sa (fun a => { a with nextPn := (assoc s sa).nextPn + 1 }) s := by
  have hnone : requestLease sa (modAssoc sa (fun a => { a with nextPn := (assoc s sa).nextPn + 1 }) s)
      = modAssoc sa (fun a => { a with nextPn := (assoc s sa).nextPn + 1 }) s :=
    requestLease_of_not_needed (by rw [assoc_modAssoc_self]; exact (needsLease_congr (by simp) (by simp) _).trans hlease)
  unfold assignPn
  simp only [not_le.2 hthr, decide_false, Bool.false_and, Bool.false_eq_true, if_false, htop, hnone]

section
variable {id sa : Nat} {f : EgFrame} {s : State} (hthr : (assoc s sa).nextPn < (assoc s sa).threshPn)
  (htop : (assoc s sa).nextPn ≠ assocTop s (assoc s sa)) (hbel : (assoc s sa).belfry = none)
  (hlease : needsLease s { assoc s sa with nextPn := (assoc s sa).nextPn + 1 } = false)
include hthr htop hbel hlease

theorem egNumber_within : egNumber id sa f s = setItem id (some (egItem f sa (assoc s sa)))
    (setEg id (some (numberedFrame f (assoc s sa))) (modAssoc sa (fun a => { a with nextPn := (assoc s sa).nextPn + 1 }) s)) := by
  unfold egNumber
  simp only [assignPn_within hthr htop hlease, belfryTake, assoc_modAssoc_self, hbel]
  rfl

theorem egSpace_protected (hact : f.act = .protect) (hsa : f.sa = sa) (hu : f.units ≤ unitsFor s f.port)
    (hst : (assoc s sa).state = .inUse) (hser : f.serial = (assoc s sa).serial) (hsp : (assoc s sa).spent = false)
    (hpn : (assoc s sa).nextPn ≤ (assoc s sa).leaseEnd) : egSpace id f s = setItem id (some (egItem f sa (assoc s sa)))
    (setEg id (some (numberedFrame f (assoc s sa))) (modAssoc sa (fun a => { a with nextPn := (assoc s sa).nextPn + 1 }) s)) := by
  unfold egSpace
  rw [if_neg (not_lt.2 hu), hact]
  simp only [egAssoc, hsa, hst, hser, hsp, hpn, egNumber_within hthr htop hbel hlease, reduceCtorEq, ne_eq, not_true_eq_false, decide_false,
    Bool.or_self, Bool.false_eq_true, if_false, if_true]

end

theorem fireForFrame_of_disarmed {y : Nat} {s : State} (h : armedOf s y = none) : fireForFrame y s = s := by
  have hf : switchFire y s = s := by simp only [switchFire, h]
  unfold fireForFrame
  simp only [hf, h]
  cases encoding s y <;> rfl

theorem offer_of_stopped {y : Nat} {f : EgFrame} {s : State} (h : (cal s f.port).running = false) : offer y f s = (s, f) := by
  simp [offer, calOffer, h]

/-- The frame on its way under SecY `y` and association `sa`. -/
def protectedFrame (f : EgFrame) (y sa plen : Nat) (s : State) : EgFrame :=
  { f with secy := y, ySerial := (secy s y).serial, settings := (secy s y).settings, txSci := (secy s y).sci, act := .protect, sa
           serial := (assoc s sa).serial, units := ceilDiv (plen - 4) 64 }

theorem protectedFrame_receivedState {p y sa plen : Nat} {f : EgFrame} {s : State} :
    protectedFrame f y sa plen (receivedState p s) = protectedFrame f y sa plen s := rfl

theorem egSecyChecks_protects {id y sa plen : Nat} {f : EgFrame} {s : State} (hv : (secy s y).valid = true)
    (hport : secyPort (secy s y) = f.port) (hprot : secyProtect (secy s y) = true) (hplen : plen = f.len + tagLenOf (secy s y).settings + 16)
    (hlen : plen ≤ rfld s (rPA_EG_MAXLEN f.port) 0 14) (harm : armedOf s y = none) (henc : encoding s y = some sa)
    (hst : (assoc s sa).state = .inUse) (hcal : (cal s f.port).running = false) :
    egSecyChecks id y f s = egSpace id (protectedFrame f y sa plen s) s := by
  unfold egSecyChecks
  simp only [hv, hport, hprot, ← hplen, not_lt.2 hlen, fireForFrame_of_disarmed harm, henc, hst, reduceCtorEq, Bool.not_true, ne_eq,
    not_true_eq_false, Bool.false_eq_true, decide_false, if_false]
  rw [offer_of_stopped (f := { f with secy := y, ySerial := (secy s y).serial, settings := (secy s y).settings, txSci := (secy s y).sci }) hcal]
  rfl

/-! ### Start, launch and end -/

theorem egStart_whole {id : Nat} {f : EgFrame} {s : State} (hst : f.st = .whole) (hl : f.launch = none) : egStart id f s =
    setEg id (some { f with started := true }) (rmax (rPA_EG_LATENCY f.port) 0 12 (2 * (s.clock - f.since)) s) := by
  simp only [egStart, hst, hl, Option.isNone_none, if_true]

section
variable {id : Nat} {f : EgFrame} {s : State} (hf : egFrame s id = some f) (hrun : dpRuns s = true)
include hf hrun

theorem egFrameStart_of_ready (hstart : f.started = false) (hhead : egHead s id f = true) (hready : egReady s id f = true)
    (hl : (f.launch.isNone || f.released || latePolicy s f.port = 2 : Bool) = true) : egFrameStart id s =
    egStart id f (if f.launch.isSome && !f.released && dueOf s f = .past then noteLate f s else s) := by
  unfold egFrameStart
  rw [hf]
  exact if_pos (by simp only [hrun, hstart, hhead, hready, hl, Bool.not_false, Bool.and_self])

theorem egFrameEnd_of_done (hstart : f.started = true) (hst : f.st = .whole) (hab : f.abort = none) : egFrameEnd id s =
    if f.marked then cntEg f.port 23 (egSent f (setMac f { bytes := markedBytes f, err := true } (setItem id none (setEg id none s))))
    else egSent f (setMac f { bytes := f.out, err := false } (setItem id none (setEg id none s))) := by
  cases hm : f.marked <;> simp [egFrameEnd, hf, hrun, hstart, hst, hab, hm]

theorem egFrameEnd_of_aborted {c : Nat} (hstart : f.started = true) (hst : f.st = .whole) (hab : f.abort = some c) : egFrameEnd id s =
    cntEg f.port 23 (cntEg f.port c (setMac f { bytes := (abortBytes f s).2, err := true }
      (abortBytes f (setItem id none (setEg id none s))).1)) := by
  simp only [egFrameEnd, hf, hrun, hstart, hst, hab, Bool.and_self, decide_true, if_true]
  rfl

theorem launchRelease_of_held (hl : f.launch.isSome = true) (hstart : f.started = false) (hrel : f.released = false) :
    launchRelease id s = match dueOf s f with
      | .ahead => s
      | .now => if egHead s id f && egReady s id f then egStart id f s else s
      | .past => egLate id f s := by
  simp only [launchRelease, hf, hrun, hl, hstart, hrel, Bool.not_false, Bool.and_self, if_true] <;> rfl

end

theorem dueOf_of_release {s : State} {f : EgFrame} {r : Int} (hr : releaseAt s f = some r) :
    dueOf s f = if (wcNs s : Int) < r then .ahead else if s.tmu.wcWas < r then .now else .past := by simp only [dueOf, hr]

theorem dueOf_of_late {s : State} {f : EgFrame} (h : f.launch = some .late) : dueOf s f = .past := by simp only [dueOf, releaseAt, h]

theorem abortBytes_length {f : EgFrame} {s : State} (h : 16 ≤ f.out.length) : (abortBytes f s).2.length = f.out.length := by
  have hn : Config.freeNat s.draws % (f.out.length - 15) < f.out.length - 15 := Nat.mod_lt _ (by omega)
  simp only [abortBytes, List.length_append, List.length_take, zeroBytes_length]
  omega

/-- Settles O42: admission, start, launch and end of a frame are the moves that the lemmas above name. -/
theorem egressFramesAreAdmittedAndLeave : Obligations.EgressFramesAreAdmittedAndLeave := by
  unfold Obligations.EgressFramesAreAdmittedAndLeave
  intro p express l len bytes launch err s hl
  subst hl
  refine ⟨fun h => next_finalize_congr (egFrameAdmit_of_refused h), ?admission, fun id f hf hrun => ?leave⟩
  case admission =>
    intro hrun hres hent hleave hctrl hblk hne
    refine ⟨?drop, ?eapol, ?protect⟩
    case drop =>
      rintro v rfl hx het hc
      refine next_finalize_congr ((egFrameAdmit_classified hrun hres hent hleave hctrl hblk hne hx het).trans ?_)
      rw [hc]
      rfl
    case eapol =>
      rintro v rfl hx het hv hplain hlen hu
      refine ⟨_, _, next_finalize_congr ((egFrameAdmit_eapol hrun hres hent hleave hctrl hblk hne hx het hv hplain).trans
        (egPlain_whole (s := receivedState p s) (f := presentedFrame p express l.toNat bytes launch err s) hlen hu)), egFrame_setEg_self, rfl, rfl, rfl, rfl, fun j hj => ?_, rfl, by simp, by simp, by simp, by simp, by simp⟩
      rw [egFrame_setEg_ne hj, egFrame_receivedState]
    case protect =>
      rintro v y sa rfl hx het rfl hc hv hport hprot hlen hu harm henc hcal hst hsp hpn hthr htop hbel hlease
      have hadmit := egFrameAdmit_classified (len := l.toNat) (express := express) (launch := none) (err := err)
        hrun hres hent hleave hctrl hblk hne hx het
      rw [Option.isSome_none, hc] at hadmit
      have hchecks := egSecyChecks_protects (id := s.arr.nextId) (y := y) (sa := sa) (plen := l.toNat + tagLenOf (secy s y).settings + 16)
        (s := receivedState p s) (f := presentedFrame p express l.toNat bytes none err s) (by rw [secy_receivedState]; exact hv) (by rw [secy_receivedState]; exact hport)
        (by rw [secy_receivedState]; exact hprot) (by rw [secy_receivedState]; rfl) hlen harm henc hst hcal
      have hspace := egSpace_protected (id := s.arr.nextId) (sa := sa) (s := receivedState p s) (by rw [assoc_receivedState]; exact hthr)
        (by rw [assoc_receivedState, assocTop_receivedState]; exact htop) (by rw [assoc_receivedState]; exact hbel)
        (by rw [assoc_receivedState, needsLease_receivedState]; exact hlease)
        (f := protectedFrame (presentedFrame p express l.toNat bytes none err s) y sa
          (l.toNat + tagLenOf (secy s y).settings + 16) (receivedState p s)) rfl rfl
        (by show _ ≤ unitsFor (receivedState p s) p; rw [unitsFor_receivedState]; exact hu)
        (by rw [assoc_receivedState]; exact hst) rfl (by rw [assoc_receivedState]; exact hsp) (by rw [assoc_receivedState]; exact hpn)
      have hall := hadmit.trans (hchecks.trans hspace)
      rw [protectedFrame_receivedState, assoc_receivedState] at hall
      obtain ⟨g, hg⟩ : ∃ g, g = protectedFrame (presentedFrame p express l.toNat bytes none err s) y sa
        (l.toNat + tagLenOf (secy s y).settings + 16) s := ⟨_, rfl⟩
      rw [← hg] at hall
      refine ⟨_, _, egItem g sa (assoc s sa), next_finalize_congr hall, ?_, ?_, egFrame_setItem.trans egFrame_setEg_self, ?_⟩
      · rw [assoc_setItem_setEg, assoc_modAssoc_self, assoc_receivedState]
      · intro j hj
        rw [assoc_setItem_setEg, assoc_modAssoc_ne hj, assoc_receivedState]
      · subst hg
        exact ⟨rfl, rfl, rfl, rfl, rfl, item_setItem_self, rfl, rfl, rfl, rfl, rfl, by simp, by simp, by simp, by simp⟩
  case leave =>
    refine ⟨?start, ?latePolicy, ?finish, ?abort, ?release, ?late⟩
    case start =>
      intro hstart hhead hst hlaunch
      have hready : egReady s id f = true := by simp [egReady, hst]
      have hgo := egFrameStart_of_ready hf hrun hstart hhead hready (by simp [hlaunch])
      simp only [hlaunch, Option.isSome_none, Bool.false_and, Bool.false_eq_true, if_false] at hgo
      refine ⟨_, next_finalize_congr (hgo.trans (egStart_whole hst hlaunch)), egFrame_setEg_self, fun j hj => egFrame_setEg_ne hj,
        rfl, rfl, rfl, rfl⟩
    case latePolicy =>
      intro hstart hhead hready hlaunch hrel hpol
      refine next_finalize_congr ((egFrameStart_of_ready hf hrun hstart hhead hready (by simp [hpol])).trans ?_)
      simp [hrel, Option.isSome_iff_ne_none.2 hlaunch]
    case finish =>
      intro hstart hst hab
      have hend := egFrameEnd_of_done hf hrun hstart hst hab
      exact ⟨fun hm => next_finalize_congr (hend.trans (if_neg (by simp [hm]))), fun hm => next_finalize_congr (hend.trans (if_pos hm))⟩
    case abort =>
      intro c hstart hst hab hlen
      refine ⟨_, (abortBytes f s).2, next_finalize_congr (egFrameEnd_of_aborted hf hrun hstart hst hab), ?_, abortBytes_length hlen, ?_, ?_, ?_⟩
      · simp [setMac]
      · simp [cntEg, setMac, abortBytes]
      · simp only [egFrame_cntEg, egFrame_setMac]
        exact (egFrame_setEg_self : egFrame (setEg id none s) id = none)
      · simp [abortBytes]
    case release =>
      intro r hlaunch hstart hrel hr
      have hgo := launchRelease_of_held hf hrun hlaunch hstart hrel
      rw [dueOf_of_release hr] at hgo
      refine ⟨fun h => next_finalize_congr ?_, fun h hwas => next_finalize_congr ?_, fun h hwas hhead hready => next_finalize_congr ?_⟩
      · rw [hgo, if_pos h]
      · rw [hgo, if_neg (not_lt.2 h), if_neg (not_lt.2 hwas)]
      · rw [hgo, if_neg (not_lt.2 h), if_pos hwas]
        simp only [hhead, hready, Bool.and_self, if_true]
    case late =>
      intro hlaunch hstart hrel
      refine next_finalize_congr ((launchRelease_of_held hf hrun (by simp [hlaunch]) hstart hrel).trans ?_)
      rw [dueOf_of_late hlaunch]

end Sys2Proof.Machine

/-! PROOF. Armed switches, lease confirmations, and the records that mirroring waits for (R148, R266, R277). -/

namespace Sys2Proof.Machine

theorem switchFire_of_timed {y sa t : Nat} {s : State} (h : armedOf s y = some { target := sa, trigger := .atTime t })
    (hp : domOn s dPIPE = true) (ht : domOn s dTIME = true) : switchFire y s = if t ≤ wcNs s then fireSwitch y sa 2 s else s := by
  simp only [switchFire, h, hp, ht, Bool.true_and, decide_eq_true_eq]

/-! ### The next lease of an association without a partner -/

theorem openRecord_unmirrored {sa e : Nat} {aon : Bool} {s : State} (h : (assoc s sa).mirrored = false) : openRecord aon sa e s =
    setAssoc sa { assoc s sa with req := some { endPn := e, aon, partner := true, since := s.clock, sent := false } } s := by
  simp [openRecord, h]

theorem requestLease_unmirrored {sa : Nat} {s : State} (h : (assoc s sa).mirrored = false) :
    (∃ r, assoc (requestLease sa s) sa = { assoc s sa with req := r }) ∧ (∀ j, j ≠ sa → assoc (requestLease sa s) j = assoc s j)
      ∧ (requestLease sa s).marks = s.marks ∧ (requestLease sa s).secys = s.secys := by
  by_cases hn : needsLease s (assoc s sa) = true
  · simp only [requestLease, hn, if_true, openRecord_unmirrored h]
    exact ⟨⟨_, assoc_setAssoc_self⟩, fun j hj => assoc_setAssoc_ne hj, by simp, by simp⟩
  · rw [requestLease_of_not_needed (by simpa using hn)]
    exact ⟨⟨(assoc s sa).req, rfl⟩, fun j _ => rfl, rfl, rfl⟩

/-- The state in which an association's request is confirmed and its mark written. -/
def confirmedState (sa : Nat) (q : LeaseReq) (s : State) : State :=
  setAssoc sa { assoc s sa with leaseEnd := max (assoc s sa).leaseEnd q.endPn, req := none, stalled := false }
    (setAssoc sa { assoc s sa with req := some { q with aon := true } } (writeMark (assoc s sa).channel (assoc s sa).an sa q.endPn s))

theorem aonLeaseConfirm_of_unmirrored {sa : Nat} {q : LeaseReq} {s : State} (hst : (assoc s sa).state ≠ .free)
    (hq : (assoc s sa).req = some q) (ha : q.aon = false) (hp : q.partner = true) :
    aonLeaseConfirm sa s = requestLease sa (confirmedState sa q s) := by
  unfold aonLeaseConfirm
  dsimp only
  split
  next h => exact absurd h hst
  next q' h _ =>
    obtain rfl : q' = q := Option.some.inj (h.symm.trans hq)
    rw [if_neg (by simp [ha]), leaseProgress, assoc_setAssoc_self]
    exact if_pos (by simp [hp])
  next h _ => exact absurd (h.symm.trans hq) (by simp)

theorem assoc_confirmedState_self {sa : Nat} {q : LeaseReq} {s : State} : assoc (confirmedState sa q s) sa =
    { assoc s sa with leaseEnd := max (assoc s sa).leaseEnd q.endPn, req := none, stalled := false } := assoc_setAssoc_self

theorem assoc_confirmedState_ne {sa j : Nat} {q : LeaseReq} {s : State} (h : j ≠ sa) : assoc (confirmedState sa q s) j = assoc s j :=
  (assoc_setAssoc_ne h).trans (assoc_setAssoc_ne h)

/-- The mark of a confirmed lease: never below it, and never below the association's own mark before. -/
def confirmedMark (s : State) (sa : Nat) (q : LeaseReq) : Mark :=
  { valid := true, sa
    mark := if (mark s (assoc s sa).channel (assoc s sa).an).valid && (mark s (assoc s sa).channel (assoc s sa).an).sa = sa
      then max (mark s (assoc s sa).channel (assoc s sa).an).mark q.endPn else q.endPn }

theorem marks_confirmedState {sa : Nat} {q : LeaseReq} {s : State} : (confirmedState sa q s).marks =
    tabPut {} s.marks (markKey (assoc s sa).channel (assoc s sa).an) (confirmedMark s sa q) := rfl

theorem le_confirmedMark {sa : Nat} {q : LeaseReq} {s : State} : q.endPn ≤ (confirmedMark s sa q).mark := by
  unfold confirmedMark
  dsimp only
  split_ifs
  · exact le_max_right _ _
  · exact le_rfl

/-! ### The record that the partner has not confirmed -/

theorem mirrorConfirmTimeout_of_no_op {sa : Nat} {s : State} (h : tabGet none s.mirrorOps sa = none) :
    mirrorConfirmTimeout sa s = leaseReqTimeout sa s := by
  simp only [mirrorConfirmTimeout, mirrorOpTimeout, h]

section
variable {sa : Nat} {q : LeaseReq} {s : State} (hq : (assoc s sa).req = some q)
include hq

theorem leaseReqTimeout_of_early (h : s.clock < q.since + 50000) : leaseReqTimeout sa s = s := by
  have hearly : ¬q.since + 100 * usClocks ≤ s.clock := by rw [usClocks]; omega
  simp [leaseReqTimeout, hq, hearly]

theorem leaseReqTimeout_of_due (hm : (assoc s sa).mirrored = true) (hp : q.partner = false) (hs : q.sent = true)
    (h : q.since + 50000 ≤ s.clock) (hb : (assoc s sa).best = false) (hst : (assoc s sa).stalled = false) :
    leaseReqTimeout sa s = recordLate sa 0 s := by
  have hdue : q.since + 100 * usClocks ≤ s.clock := by rw [usClocks]; omega
  simp only [leaseReqTimeout, hq, hm, hp, hs, hdue, hb, hst, Bool.not_false, Bool.and_self, decide_true, Bool.false_eq_true, if_false, if_true]

theorem recordLate_required (hb : (assoc s sa).best = false) : recordLate sa 0 s = modAssoc sa (fun a => { a with stalled := true })
    (setAssoc sa { assoc s sa with
      req := some { q with late := true, cause := 0, resendAt := if q.late then q.resendAt else s.clock + 20 * usClocks } } s) := by
  simp [recordLate, hq, hb]

theorem leaseRecordResend_of_due (hd : domOn s dPIPE = true) (hst : (assoc s sa).state ≠ .free) (hm : (assoc s sa).mirrored = true)
    (hp : q.partner = false) (hl : q.late = true) (hat : q.resendAt ≤ s.clock) : leaseRecordResend sa s =
    sendRecord sa (assoc s sa) q.endPn (setAssoc sa { assoc s sa with
      req := some { q with
        resendAt := s.clock + 20 * usClocks, since := if q.sent then q.since else s.clock
        sent := q.sent || mirrorLinkUp s (assoc s sa).partner } } s) := by
  simp [leaseRecordResend, hq, hd, hst, hm, hp, hl, hat]

end

/-- Settles O43: a due switch fires, a confirmed lease is recorded in its mark, and a late record stalls or goes out again. -/
theorem leasesAreConfirmedAndSwitchesFire : Obligations.LeasesAreConfirmedAndSwitchesFire := by
  unfold Obligations.LeasesAreConfirmedAndSwitchesFire
  intro s
  refine ⟨fun y sa t harm hp ht => ?fire, ?confirm, ?timeout, ?resend⟩
  case fire =>
    have hfire := switchFire_of_timed harm hp ht
    exact ⟨fun h => next_finalize_congr (hfire.trans (if_pos h)), fun h => next_finalize_congr (hfire.trans (if_neg (not_le.2 h)))⟩
  case confirm =>
    rintro sa a q rfl hst hm hq haon hpart
    obtain ⟨⟨r, hself⟩, hne, hmarks, hsecys⟩ := requestLease_unmirrored (s := confirmedState sa q s) (sa := sa)
      (by rw [assoc_confirmedState_self]; exact hm)
    rw [assoc_confirmedState_self] at hself
    rw [marks_confirmedState] at hmarks
    refine ⟨_, next_finalize_congr (aonLeaseConfirm_of_unmirrored hst hq haon hpart), by rw [hself], by rw [hself], by rw [hself], by rw [hself],
      ?_, ?_, ?_, fun j hj => (hne j hj).trans (assoc_confirmedState_ne hj), fun k hk => ?_, hsecys, by simp [confirmedState]⟩
    · rw [mark, hmarks, tabGet_put_self]; rfl
    · rw [mark, hmarks, tabGet_put_self]; rfl
    · rw [mark, hmarks, tabGet_put_self]; exact le_confirmedMark
    · rw [hmarks, tabGet_put_ne _ _ _ hk]
  case timeout =>
    rintro sa a q rfl hop hq hm hp hs
    have hto := mirrorConfirmTimeout_of_no_op hop
    refine ⟨fun hdue hb hstall => ?_, fun h => next_finalize_congr (hto.trans (leaseReqTimeout_of_early hq h))⟩
    refine ⟨_, next_finalize_congr (hto.trans ((leaseReqTimeout_of_due hq hm hp hs hdue hb hstall).trans (recordLate_required hq hb))),
      ?_, fun j hj => (assoc_modAssoc_ne hj).trans (assoc_setAssoc_ne hj), rfl, rfl, rfl, rfl⟩
    rw [assoc_modAssoc_self, assoc_setAssoc_self]
    rfl
  case resend =>
    rintro sa a q rfl hd hst hq hm hp hl hat
    exact next_finalize_congr (leaseRecordResend_of_due hq hd hst hm hp hl hat)

end Sys2Proof.Machine

/-! PROOF. Items on their way through the towers, and the retirement of a tower's unit (R222, R225, R239). -/

namespace Sys2Proof.Machine

/-! ### Retirement (R239, R240) -/

theorem tower_congr {s u : State} (h : u.arr.towers = s.arr.towers) (t : Nat) : tower u t = tower s t := by simp only [tower, h]

@[simp] theorem tower_raise {src inst detail t : Nat} {s : State} : tower (raise src inst detail s) t = tower s t := by simp [tower]

@[simp] theorem noteHealth_leaves {s : State} : (noteHealth s).arr = s.arr ∧ (noteHealth s).items = s.items
    ∧ (noteHealth s).egFrames = s.egFrames ∧ (noteHealth s).plCnt = s.plCnt ∧ (noteHealth s).assocs = s.assocs
    ∧ (noteHealth s).dome = s.dome := by simp [noteHealth]

/-- Register writes one after the other leave the rest of the state. -/
@[simp] theorem foldl_rset_leaves {α : Type} {off : α → Nat} {v : α → Word} {l : List α} {s : State} :
    (l.foldl (fun s w => rset (off w) (v w) s) s).arr = s.arr ∧ (l.foldl (fun s w => rset (off w) (v w) s) s).items = s.items
    ∧ (l.foldl (fun s w => rset (off w) (v w) s) s).egFrames = s.egFrames ∧ (l.foldl (fun s w => rset (off w) (v w) s) s).plCnt = s.plCnt
    ∧ (l.foldl (fun s w => rset (off w) (v w) s) s).assocs = s.assocs ∧ (l.foldl (fun s w => rset (off w) (v w) s) s).dome = s.dome := by
  induction l generalizing s with
  | nil => simp
  | cons a l ih => simp only [List.foldl_cons, ih, rset_leaves, and_self]

@[simp] theorem refill_leaves {oldMode : Nat} {s : State} : (refill oldMode s).arr = s.arr ∧ (refill oldMode s).items = s.items
    ∧ (refill oldMode s).egFrames = s.egFrames ∧ (refill oldMode s).plCnt = s.plCnt ∧ (refill oldMode s).assocs = s.assocs
    ∧ (refill oldMode s).dome = s.dome := by
  unfold refill
  dsimp only
  split_ifs <;> simp

@[simp] theorem arrayChange_leaves {f : State → State} {s : State} : (arrayChange f s).arr = (f s).arr
    ∧ (arrayChange f s).items = (f s).items ∧ (arrayChange f s).egFrames = (f s).egFrames ∧ (arrayChange f s).plCnt = (f s).plCnt
    ∧ (arrayChange f s).assocs = (f s).assocs ∧ (arrayChange f s).dome = (f s).dome := by
  unfold arrayChange
  dsimp only
  split_ifs <;> simp

theorem tower_arrayChange {f : State → State} {s : State} (t : Nat) : tower (arrayChange f s) t = tower (f s) t :=
  tower_congr (by rw [arrayChange_leaves.1]) t

theorem tower_checkRemoved_self {t : Nat} {s : State} : ∃ b, tower (checkRemoved t s) t = { tower s t with removed := b } := by
  unfold checkRemoved
  dsimp only
  split_ifs
  · exact ⟨true, by simp⟩
  · exact ⟨(tower s t).removed, rfl⟩

theorem tower_checkRemoved_ne {t k : Nat} {s : State} (h : k ≠ t) : tower (checkRemoved t s) k = tower s k := by
  unfold checkRemoved
  dsimp only
  split_ifs
  · simp [tower_setTower_ne h]
  · rfl

@[simp] theorem checkRemoved_leaves {t : Nat} {s : State} : (checkRemoved t s).items = s.items ∧ (checkRemoved t s).egFrames = s.egFrames
    ∧ (checkRemoved t s).plCnt = s.plCnt ∧ (checkRemoved t s).assocs = s.assocs ∧ (checkRemoved t s).dome = s.dome := by
  unfold checkRemoved
  dsimp only
  split_ifs <;> simp

section
variable {t u c : Nat} {s : State}

theorem retireUnit_core (h : (tower s t).coreBad.testBit u = false) :
    (tower (retireUnit t false u c s) t).coreBad = (tower s t).coreBad + 2 ^ u := by
  unfold retireUnit
  dsimp only
  rw [if_neg Bool.false_ne_true, if_neg (by simp [h])]
  obtain ⟨b, hb⟩ := tower_checkRemoved_self (t := t) (s := raise 72 t (u + c * 2 ^ 4) (setTower t
    (if (tower s t).outCore = u then { tower s t with
      coreBad := (tower s t).coreBad + 2 ^ u, outCore := nextUnit { tower s t with coreBad := (tower s t).coreBad + 2 ^ u } false u }
    else { tower s t with coreBad := (tower s t).coreBad + 2 ^ u }) s))
  rw [hb, tower_raise, tower_setTower_self]
  split_ifs <;> rfl

theorem retireUnit_gh (h : (tower s t).ghBad.testBit u = false) :
    (tower (retireUnit t true u c s) t).ghBad = (tower s t).ghBad + 2 ^ u := by
  unfold retireUnit
  dsimp only
  rw [if_pos rfl, if_neg (by simp [h])]
  obtain ⟨b, hb⟩ := tower_checkRemoved_self (t := t) (s := raise 73 t (u + c * 2 ^ 4) (setTower t
    (if (tower s t).outGh = u then { tower s t with
      ghBad := (tower s t).ghBad + 2 ^ u, outGh := nextUnit { tower s t with ghBad := (tower s t).ghBad + 2 ^ u } true u }
    else { tower s t with ghBad := (tower s t).ghBad + 2 ^ u }) s))
  rw [hb, tower_raise, tower_setTower_self]
  split_ifs <;> rfl

theorem retireUnit_ne {gh : Bool} {k : Nat} (hk : k ≠ t) : tower (retireUnit t gh u c s) k = tower s k := by
  unfold retireUnit
  dsimp only
  split_ifs <;> simp [tower_checkRemoved_ne hk, tower_setTower_ne hk]

@[simp] theorem retireUnit_leaves {gh : Bool} : (retireUnit t gh u c s).items = s.items
    ∧ (retireUnit t gh u c s).egFrames = s.egFrames ∧ (retireUnit t gh u c s).plCnt = s.plCnt
    ∧ (retireUnit t gh u c s).assocs = s.assocs ∧ (retireUnit t gh u c s).dome = s.dome := by
  unfold retireUnit
  dsimp only
  split_ifs <;> simp

theorem coreBad_of_healthy (h : (healthy (tower s t) false).contains u = true) : (tower s t).coreBad.testBit u = false := by
  simp only [healthy, Bool.false_eq_true, if_false, List.contains_eq_mem, decide_eq_true_eq, List.mem_filter, Bool.not_eq_true'] at h
  exact h.2

end

/-! ### The item's steps -/

/-- The queued item takes the next place in the order, and its keys' slots as they stand. -/
def dispatched (t : Nat) (x : Item) (s : State) : Item :=
  { x with st := .queued, tower := t, order := s.arr.nextOrder, takes := x.reqs.map (takeOf s) }

/-- An item at the crossbar of a higher class than `x` that can go. -/
def goesBefore (s : State) (x : Item) (p : Nat × Option Item) : Bool :=
  match p.2 with
  | some y => y.st == .crossbar && y.cls < x.cls && (target s y).isSome
  | none => false

section
variable {id : Nat} {x : Item} {s : State} (hx : item s id = some x)
include hx

theorem itemDispatch_of_front (hd : domOn s dHOST = true) (hst : x.st = .crossbar) (hfront : (s.items.all fun p => match p.2 with
      | some y => !(y.st == .crossbar && decide (y.cls < x.cls) && (target s y).isSome)
      | none => true) = true) : itemDispatch id s = match target s x with
        | none => s
        | some t => setItem id (some (dispatched t x s)) { s with arr := { s.arr with
            nextOrder := s.arr.nextOrder + 1, lastRound := if dispMode (takeOrder s).1 = 1 then t else s.arr.lastRound } } := by
  have hahead : s.items.any (goesBefore s x) = false := by
    rw [← Bool.not_eq_true', List.not_any_eq_all_not]
    refine Eq.trans (congrArg (List.all s.items) ?_) hfront
    funext p
    unfold goesBefore
    cases p.2 <;> rfl
  have hcond : (domOn s dHOST && x.st = .crossbar && !s.items.any (goesBefore s x) : Bool) = true := by simp [hd, hst, hahead]
  unfold itemDispatch
  rw [hx]
  refine Eq.trans (if_pos hcond) ?_
  cases target s x <;> rfl

theorem keyFetchDone_of_waiting (hd : domOn s dDOME = true) (hm : s.pwr.remasking = false) (hk : x.hasKeys = false)
    (hst : x.st = .active ∨ x.st = .suspended) : keyFetchDone id s = match fetchKeys (tower s x.tower) s x.takes with
      | .error (some i, r) => itemFail id r (fetchFail x.tower i r s)
      | .error (none, r) => itemFail id r s
      | .ok keys => gotKeys id x keys (fillCache x.tower ((x.takes.zip keys).filter fun p => (missing (tower s x.tower) x).contains p.1) s) := by
  have hcond : (domOn s dDOME && !s.pwr.remasking && !x.hasKeys && (x.st = .active || x.st = .suspended) : Bool) = true := by
    simp [hd, hm, hk, hst]
  unfold keyFetchDone
  rw [hx]
  exact if_pos hcond

theorem towerItemDone_of_sound (hst : x.st = .active) (hk : x.hasKeys = true) (hrun : s.pwr.state = .run) (hbad : badKey s x.tower x = none) :
    towerItemDone id s = match x.kind with
      | .eg => match egFrame s id with
          | some f => egTowerDone id f (x.keys.headD []) s
          | none => setItem id none s
      | .ig => match igFrame s id with
          | some f => if igBehind s id f then s else igTowerDone id f (x.keys.headD []) (setItem id none s)
          | none => setItem id none s
      | .staging b => stagingDone b x (setItem id none s)
      | .unit => unitDone id x.keys s
      | .job n i => jobDone id n i x.keys s := by
  simp only [towerItemDone, hx, hst, hk, hrun, hbad, Bool.and_self, decide_true, if_true] <;> rfl

theorem parityMismatch_of_egress {t u : Nat} {f : EgFrame} (hst : x.st = .active) (ht : x.tower = t) (hk : x.hasKeys = true)
    (hrun : s.pwr.state = .run) (hkind : x.kind = .eg) (hf : egFrame s id = some f) (hstart : f.started = false)
    (hu : (healthy (tower s t) false).contains u = true) : parityMismatch t false u id s =
    arrayChange (retireUnit t false u 0) (raise 32 f.port (f.sa + t * 2 ^ 13) (egDrop id 16 f s)) := by
  have hpoison : itemPoison id t s = raise 32 f.port (f.sa + t * 2 ^ 13) (egDrop id 16 f s) := by
    simp only [itemPoison, hx, hkind, hf, egPoison, egEnd, hstart, Bool.false_eq_true, if_false]
  simp only [parityMismatch, hx, hst, ht, hk, hrun, hu, hpoison, Bool.and_self, decide_true, if_true]

end

/-! ### What a successful fetch leaves -/

@[simp] theorem cachePut_leaves {t : Nat} {e : CacheEnt} {s : State} : (cachePut t e s).items = s.items ∧ (cachePut t e s).dome = s.dome
    ∧ (cachePut t e s).egFrames = s.egFrames := ⟨rfl, rfl, rfl⟩

@[simp] theorem touchDcache_items {gen kref label len : Nat} {u : Use} {s : State} :
    (touchDcache gen kref label u len s).items = s.items ∧ (touchDcache gen kref label u len s).egFrames = s.egFrames := by
  unfold touchDcache
  dsimp only
  split_ifs <;> simp

@[simp] theorem fillCache_leaves {t : Nat} {l : List (Take × List Byte)} {s : State} : (fillCache t l s).items = s.items
    ∧ (fillCache t l s).dome.slots = s.dome.slots ∧ (fillCache t l s).egFrames = s.egFrames := by
  induction l generalizing s with
  | nil => exact ⟨rfl, rfl, rfl⟩
  | cons p r ih => unfold fillCache; simp [ih]

theorem gotKeys_of_not_ingress {id : Nat} {x : Item} {keys : List (List Byte)} {s : State} (h : x.kind ≠ .ig) :
    gotKeys id x keys s = setItem id (some { x with keys, hasKeys := true }) s := if_neg h

/-- Settles O44: dispatch, key fetch, the end of an item in its tower and a parity mismatch are the moves that the lemmas above name. -/
theorem itemsPassThroughTheirTower : Obligations.ItemsPassThroughTheirTower := by
  unfold Obligations.ItemsPassThroughTheirTower
  intro id x s hx
  refine ⟨fun hd hst hfront => ?dispatch, fun hd hm hk hst => ?fetch, fun hst hk hrun hbad => ?done, ?parity⟩
  case dispatch =>
    have hgo := itemDispatch_of_front hx hd hst hfront
    refine ⟨fun t ht => ?_, fun ht => ?_⟩ <;> rw [ht] at hgo
    · exact ⟨_, next_finalize_congr hgo, item_setItem_self, fun j hj => item_setItem_ne hj, rfl, rfl, rfl, rfl, rfl⟩
    · exact next_finalize_congr hgo
  case fetch =>
    have hgo := keyFetchDone_of_waiting hx hd hm hk hst
    refine ⟨fun keys hkeys hkind => ?_, fun i r herr => ?_⟩
    · rw [hkeys] at hgo
      refine ⟨_, next_finalize_congr (hgo.trans (gotKeys_of_not_ingress hkind)), item_setItem_self, fun j hj => ?_, by simp, by simp, by simp⟩
      rw [item_setItem_ne hj, item, fillCache_leaves.1]
      rfl
    · rw [herr] at hgo
      cases i <;> exact next_finalize_congr hgo
  case done =>
    have hgo := towerItemDone_of_sound hx hst hk hrun hbad
    refine ⟨fun f hkind hf => ?_, fun b hkind => ?_, fun f hkind hf => ⟨fun hb => ?_, fun hb => ?_⟩, fun hkind => ?_, fun n i hkind => ?_⟩
      <;> rw [hkind] at hgo
    · rw [hf] at hgo
      exact next_finalize_congr hgo
    · refine ⟨_, next_finalize_congr hgo, ?_, ?_, fun k hne => ?_, ?_, by simp [stagingDone], by simp [stagingDone]⟩
      · exact (item_setItem_self : item (setItem id none s) id = none)
      · exact bslot_setBslot_self
      · exact bslot_setBslot_ne hne
      · exact rfld_rsat_self (by decide)
    · rw [hf] at hgo
      exact next_finalize_congr (hgo.trans (if_neg (by simp [hb])))
    · rw [hf] at hgo
      exact next_finalize_congr (hgo.trans (if_pos hb))
    · exact next_finalize_congr hgo
    · exact next_finalize_congr hgo
  case parity =>
    intro t u f hst ht hk hrun hkind hf hstart hu
    have hbad : (tower (raise 32 f.port (f.sa + t * 2 ^ 13) (egDrop id 16 f s)) t).coreBad.testBit u = false := by
      rw [tower_raise]
      exact coreBad_of_healthy hu
    refine ⟨_, next_finalize_congr (parityMismatch_of_egress hx hst ht hk hrun hkind hf hstart hu), ?_, fun k hne => ?_, ?_, ?_, ?_, ?_, ?_, ?_⟩
    · rw [tower_arrayChange, retireUnit_core hbad, tower_raise]
      rfl
    · rw [tower_arrayChange, retireUnit_ne hne, tower_raise]
      rfl
    · simp [egFrame, egDrop, cntEg, setEg, setItem]
    · simp [item, egDrop, cntEg, setEg, setItem]
    all_goals simp [egDrop, cntEg]

end Sys2Proof.Machine

/-! PROOF. The rolling test, Belfry staging, calendar instances and the return queue (R138, R155, R241 to R243, R390). -/

namespace Sys2Proof.Machine

/-! ### Known-answer tests (R241, R243) -/

/-- A unit's rolling test runs now. -/
def rollingUnit (v : Tower) (gh : Bool) (u : Nat) : Bool :=
  if gh then v.testGh && v.outGh == u else v.testCore && v.outCore == u

theorem tower_enterService_self {t : Nat} {s : State} :
    (tower (enterService t s) t).kat = (tower s t).kat ∧ (tower (enterService t s) t).started = ((tower s t).started || (tower s t).kat == 0)
      ∧ (tower (enterService t s) t).coreBad = (tower s t).coreBad ∧ (tower (enterService t s) t).ghBad = (tower s t).ghBad := by
  unfold enterService
  dsimp only
  split_ifs with h
  · simp [h]
  · simp [h]

theorem tower_enterService_ne {t k : Nat} {s : State} (h : k ≠ t) : tower (enterService t s) k = tower s k := by
  unfold enterService
  dsimp only
  split_ifs
  · exact tower_setTower_ne h
  · rfl

@[simp] theorem enterService_leaves {t : Nat} {s : State} : (enterService t s).items = s.items ∧ (enterService t s).dome = s.dome := by
  unfold enterService
  dsimp only
  split_ifs <;> simp

section
variable {t u : Nat} {gh : Bool} {s : State} (hd : domOn s (twDomain t) = true)
include hd

theorem katDone_startup (hk : (tower s t).kat.testBit (unitBit gh u) = true) : katDone t gh u true s =
    arrayChange (fun s' => enterService t (setTower t { tower s t with kat := (tower s t).kat - 2 ^ unitBit gh u } s')) s := by
  simp only [katDone, hd, hk, Bool.and_self, if_true]

theorem katDone_rolling {pass : Bool} (hs : (tower s t).started = true) (hk : (tower s t).kat.testBit (unitBit gh u) = false)
    (hr : rollingUnit (tower s t) gh u = true) : katDone t gh u pass s =
    if pass then setTower t (if gh then { tower s t with testGh := false } else { tower s t with testCore := false }) s
    else arrayChange (retireUnit t gh u 1) s := by
  rw [rollingUnit] at hr
  simp only [katDone, hd, hs, hk, hr, Bool.and_self, Bool.and_false, Bool.false_eq_true, if_true, if_false]

theorem katDone_other {pass : Bool} (hk : (tower s t).kat.testBit (unitBit gh u) = false) (hr : rollingUnit (tower s t) gh u = false) :
    katDone t gh u pass s = s := by
  rw [rollingUnit] at hr
  simp only [katDone, hd, hk, hr, Bool.and_false, Bool.false_eq_true, if_false]

end

/-! ### The rolling test (R241) -/

/-- A tower whose next healthy unit of each kind is out for its test. -/
def underTest (v : Tower) : Tower :=
  { v with outCore := nextUnit v false v.outCore, outGh := nextUnit v true v.outGh, testCore := true, testGh := true }

def putUnderTest (s : State) (t : Nat) : State := setTower t (underTest (tower s t)) s

theorem tower_foldl_putUnderTest {t : Nat} {l : List Nat} {s : State} (hl : l.Nodup) :
    tower (l.foldl putUnderTest s) t = if t ∈ l then underTest (tower s t) else tower s t := by
  induction l generalizing s with
  | nil => simp
  | cons k l ih =>
    obtain ⟨hk, hl⟩ := List.nodup_cons.1 hl
    rw [List.foldl_cons, ih hl]
    by_cases h : t = k
    · subst h
      simp [putUnderTest, hk]
    · simp [putUnderTest, tower_setTower_ne h, h]

theorem foldl_putUnderTest_leaves {l : List Nat} {s : State} :
    (l.foldl putUnderTest s).arr.testAt = s.arr.testAt ∧ (l.foldl putUnderTest s).items = s.items ∧ (l.foldl putUnderTest s).dome = s.dome
      ∧ (l.foldl putUnderTest s).regs = s.regs ∧ (l.foldl putUnderTest s).mem = s.mem := by
  induction l generalizing s with
  | nil => simp
  | cons k l ih =>
    rw [List.foldl_cons]
    exact ih

theorem rollingTestStep_of_due {s : State} (hd : domOn s dHOST = true) (ht : testDue s = true) :
    rollingTestStep s = (serviceList s).foldl putUnderTest { s with arr := { s.arr with testAt := s.clock } } := by
  simp only [rollingTestStep, hd, ht, Bool.and_self, if_true]
  rfl

theorem rollingTestStep_of_early {s : State} (ht : testDue s = false) : rollingTestStep s = s := by simp [rollingTestStep, ht]

theorem nodup_serviceList {s : State} : (serviceList s).Nodup := List.nodup_range.filter _

theorem mem_serviceList {s : State} {t : Nat} (h : t < 8) : t ∈ serviceList s ↔ inService s t = true := by simp [serviceList, h]

/-! ### Staging (R155) -/

/-- The staging item of a slot. -/
def stagingItem (i sa : Nat) (s : State) : Item :=
  { kind := .staging i, cls := 1, dkey := frameKey sa false
    reqs := [linkReq (assoc s sa).kref (assoc s sa).label (secySuite (secy s (assoc s sa).channel))] }

/-- The slot that stages its association's next PN. -/
def stagingSlot (i sa : Nat) (s : State) : BSlot :=
  { sa := some sa, st := .staging s.arr.nextId, pn := (assoc s sa).nextPn, gen := (bslot s i).gen, key := (bslot s i).key
    nonce := ivOf (secySuite (secy s (assoc s sa).channel)) (secy s (assoc s sa).channel).sci (assoc s sa).ssci (assoc s sa).salt
      (assoc s sa).nextPn }

@[simp] theorem bslot_setItem {id i : Nat} {x : Option Item} {s : State} : bslot (setItem id x s) i = bslot s i := rfl

theorem bslot_takeTokens {n i : Nat} {s : State} : bslot (takeId (takeTokens n s)).1 i = bslot s i := rfl

theorem stagingStart_of_due {i sa : Nat} {s : State} (hsa : (bslot s i).sa = some sa) (hp : domOn s dPIPE = true) (hh : domOn s dHOST = true)
    (hst : (assoc s sa).state = .inUse) (he : (bslot s i).st = .empty) (hb : (bslot s i).barred = false)
    (hdue : ∀ t, nextLaunch s (secyPort (secy s (assoc s sa).channel)) (assoc s sa).channel = some t → t ≤ wcNs s + rfld s rBELFRY_CTRL 0 16) :
    stagingStart i s = if tokensNow s < stageCost (secy s (assoc s sa).channel) * usClocks
      then raise 79 (pplOf (secyPort (secy s (assoc s sa).channel))) i s
      else setItem s.arr.nextId (some (stagingItem i sa s)) (setBslot i (stagingSlot i sa s)
        (takeId (takeTokens (stageCost (secy s (assoc s sa).channel) * usClocks) s)).1) := by
  unfold stagingStart
  simp only [hsa, hp, hh, hst, he, hb, Bool.and_self, Bool.not_false, decide_true, Bool.true_and]
  cases hl : nextLaunch s (secyPort (secy s (assoc s sa).channel)) (assoc s sa).channel with
  | none => exact if_pos rfl
  | some t => exact if_pos (decide_eq_true (hdue t hl))

theorem stagingRaise_of_launch {i sa id : Nat} {x : Item} {t : Int} {s : State} (hsa : (bslot s i).sa = some sa)
    (hst : (bslot s i).st = .staging id) (hx : item s id = some x)
    (ht : nextLaunch s (secyPort (secy s (assoc s sa).channel)) (assoc s sa).channel = some t) :
    stagingRaise i s = if t < wcNs s + 1000 then setItem id (some { x with cls := 0 }) s else s := by
  simp only [stagingRaise, hsa, hst, ht, hx]

/-! ### Calendar instances (R390) and the return queue (R138) -/

theorem calInstancePass_of_running {p : Nat} {s : State} (hd : domOn s dTIME = true) (hr : (cal s p).running = true)
    (hne : (activeBank (cal s p)).entries ≠ []) : calInstancePass p s =
    if launchOf s p (cal s p).seen ≤ wcNs s then
      if (cal s p).claimed.contains (cal s p).seen then setCal p { cal s p with
        seen := (cal s p).seen + 1, claimed := (cal s p).claimed.filter fun m => m != (cal s p).seen } s
      else rsat (rP_CAL_UNUSED p) 0 24 1 (setCal p { cal s p with
        seen := (cal s p).seen + 1, claimed := (cal s p).claimed.filter fun m => m != (cal s p).seen } s)
    else s := by
  simp only [calInstancePass, hd, hr, List.isEmpty_eq_false_iff.2 hne, Bool.not_false, Bool.true_and, decide_eq_true_eq]

theorem returnQueueSend_of_cons {k : Nat} {f : RetFrame} {rest : List RetFrame} {s : State} (hq : (ppl s k).retQ = f :: rest)
    (hrun : dpRuns s = true) : returnQueueSend k s = cntEg f.port 6 { modPpl k (fun p => { p with retQ := rest }) s with
      retOut := tabPut none s.retOut k (some f) } := by
  simp only [returnQueueSend, hq, hrun, if_true]

/-- Settles O45: each command acts on the tower, slot, calendar or queue that the lemmas above name. -/
theorem rollingTestsStagingAndCalendarInstances : Obligations.RollingTestsStagingAndCalendarInstances := by
  unfold Obligations.RollingTestsStagingAndCalendarInstances
  intro s
  refine ⟨fun t gh u hd hs hk => ⟨fun hr => ?rolling, fun pass hr => next_finalize_congr (katDone_other hd hk hr)⟩,
    fun t gh u hd hk => ?startup, fun hd ht => ?step, fun ht => next_finalize_congr (rollingTestStep_of_early ht),
    fun i sa y hsa hy hp hh hst he hb hdue => ?staging, fun i sa id x t hsa hst hx ht => next_finalize_congr (stagingRaise_of_launch hsa hst hx ht),
    fun p hd hr hne => ?instance_, fun k f rest hq hrun => ?queue⟩
  case rolling =>
    refine ⟨next_finalize_congr (katDone_rolling hd hs hk hr), fun hg hbad => ?_, fun hg hbad => ?_⟩ <;> subst hg
    · refine ⟨_, next_finalize_congr (katDone_rolling (pass := false) hd hs hk hr), ?_, fun k hne => ?_, ?_, ?_, ?_⟩
      · exact (congrArg Tower.coreBad (tower_arrayChange _)).trans (retireUnit_core hbad)
      · exact (tower_arrayChange k).trans (retireUnit_ne hne)
      all_goals simp
    · refine ⟨_, next_finalize_congr (katDone_rolling (pass := false) hd hs hk hr), ?_, fun k hne => ?_, ?_, ?_, ?_⟩
      · exact (congrArg Tower.ghBad (tower_arrayChange _)).trans (retireUnit_gh hbad)
      · exact (tower_arrayChange k).trans (retireUnit_ne hne)
      all_goals simp
  case startup =>
    obtain ⟨hkat, hstart, hcore, hgh⟩ := tower_enterService_self (t := t)
      (s := setTower t { tower s t with kat := (tower s t).kat - 2 ^ unitBit gh u } s)
    rw [tower_setTower_self] at hkat hstart hcore hgh
    refine ⟨_, next_finalize_congr (katDone_startup hd hk), ?_, ?_, ?_, ?_, fun k hne => ?_, by simp, by simp, ?_⟩
    · rw [tower_arrayChange, hkat]
    · rw [tower_arrayChange, hstart, hkat]
    · rw [tower_arrayChange, hcore]
    · rw [tower_arrayChange, hgh]
    · rw [tower_arrayChange, tower_enterService_ne hne, tower_setTower_ne hne]
    · exact (arrayChange_pending_mem (by simp) (by simp)).2
  case step =>
    obtain ⟨hat, hitems, hdome, hregs, hmem⟩ := foldl_putUnderTest_leaves (l := serviceList s)
      (s := { s with arr := { s.arr with testAt := s.clock } })
    refine ⟨_, next_finalize_congr (rollingTestStep_of_due hd ht), hat, hitems, hdome, hregs, hmem, fun t hlt => ?_⟩
    rw [tower_foldl_putUnderTest nodup_serviceList]
    simp only [mem_serviceList hlt]
    rfl
  case staging =>
    subst hy
    have hgo := stagingStart_of_due hsa hp hh hst he hb hdue
    refine ⟨fun hlt => next_finalize_congr (hgo.trans (if_pos hlt)), fun hle => ?_⟩
    refine ⟨_, stagingItem i sa s, next_finalize_congr (hgo.trans (if_neg (not_lt.2 hle))), ?_⟩
    rw [bslot_setItem, bslot_setBslot_self]
    refine ⟨rfl, rfl, rfl, item_setItem_self, rfl, rfl, rfl, rfl, fun k hne => ?_, by simp [takeId, takeTokens], by simp [takeId, takeTokens],
      by simp⟩
    rw [bslot_setItem, bslot_setBslot_ne hne, bslot_takeTokens]
  case instance_ =>
    have hgo := calInstancePass_of_running hd hr hne
    refine ⟨fun hle => ?_, fun hlt => next_finalize_congr (hgo.trans (if_neg (not_le.2 hlt)))⟩
    rw [if_pos hle] at hgo
    cases hc : (cal s p).claimed.contains (cal s p).seen with
    | true =>
      refine ⟨_, next_finalize_congr (hgo.trans (if_pos hc)), cal_setCal_self, fun q hq => cal_setCal_ne hq, fun _ => rfl, ?_, rfl, rfl⟩
      simp
    | false =>
      refine ⟨_, next_finalize_congr (hgo.trans (if_neg (by rw [hc]; decide))), cal_setCal_self, fun q hq => cal_setCal_ne hq, ?_,
        fun _ => rfld_rsat_self (by decide), rfl, rfl⟩
      simp
  case queue =>
    exact ⟨_, next_finalize_congr (returnQueueSend_of_cons hq hrun), ppl_setPpl_self, tabGet_put_self none s.retOut k (some f), fun j hj => ppl_setPpl_ne hj,
      rfl, rfl, rfl⟩

end Sys2Proof.Machine

/-! PROOF. The aging sweep and the scrub of the SCI lookup table (R195 to R198). -/

namespace Sys2Proof.Machine

/-! ### Entries of a table -/

@[simp] theorem sltAt_sltPut_self {l : Nat} {e : Option SltEnt} {t : Slt} : sltAt (sltPut l e t) l = e := tabGet_put_self _ _ _ _

theorem sltAt_sltPut_ne {l j : Nat} {e : Option SltEnt} {t : Slt} (h : j ≠ l) : sltAt (sltPut l e t) j = sltAt t j := tabGet_put_ne _ _ _ h

theorem sltFind_pair {t : Slt} {port sci l : Nat} {e : SltEnt} (h : sltFind t port sci = some (l, e)) : e.port = port ∧ e.sci = sci := by
  have he := List.find?_some h
  simpa using he

theorem sltMod_of_found {t : Slt} {f : SltEnt → SltEnt} {port sci l : Nat} {e : SltEnt} (h : sltFind t port sci = some (l, e)) :
    sltMod port sci f t = sltPut l (some (f e)) t := by simp only [sltMod, h]

/-! ### The sweep (R195 to R197) -/

theorem sltAgingSweep_of_due {k : Nat} {s : State} (hrun : dpRuns s = true) (hdue : sweepDue k s = true) : sltAgingSweep k s =
    ((sltList (ppl s k).active).map Prod.snd).foldl (sweepVisit k)
      (setPpl k { ppl s k with epoch := !(ppl s k).epoch, sweptAt := s.clock + 1 } s) := by
  simp only [sltAgingSweep, hrun, hdue, Bool.and_self, if_true]
  rfl

theorem sltAgingSweep_of_idle {k : Nat} {s : State} (h : dpRuns s = false ∨ sweepDue k s = false) : sltAgingSweep k s = s := by
  rcases h with h | h <;> simp [sltAgingSweep, h]

/-- The pipeline in whose active table the visited entry has the sweep's epoch, changed by `f`. -/
def visited (k l : Nat) (e : SltEnt) (f : SltEnt → SltEnt) (s : State) : State :=
  setPpl k { ppl s k with active := sltPut l (some (f { e with epoch := (ppl s k).epoch })) (ppl s k).active } s

theorem sltAt_visited_self {k l : Nat} {e : SltEnt} {f : SltEnt → SltEnt} {s : State} :
    sltAt (ppl (visited k l e f s) k).active l = some (f { e with epoch := (ppl s k).epoch }) := by simp [visited]

theorem sltAt_visited_ne {k l j : Nat} {e : SltEnt} {f : SltEnt → SltEnt} {s : State} (h : j ≠ l) :
    sltAt (ppl (visited k l e f s) k).active j = sltAt (ppl s k).active j := by simp [visited, sltAt_sltPut_ne h]

section
variable {k l : Nat} {x e : SltEnt} {s : State} (hf : sltFind (ppl s k).active x.port x.sci = some (l, e))
include hf

theorem modPpl_sltMod_found (f : SltEnt → SltEnt) : modPpl k (fun p => { p with
    active := sltMod e.port e.sci (fun x => f { x with epoch := p.epoch }) p.active }) s = visited k l e f s := by
  obtain ⟨hport, hsci⟩ := sltFind_pair hf
  rw [← hport, ← hsci] at hf
  rw [modPpl, sltMod_of_found hf]
  rfl

theorem sweepVisit_same (he : e.epoch = (ppl s k).epoch) : sweepVisit k s x = s := by
  simp only [sweepVisit, hf, he, if_true]

variable (he : e.epoch ≠ (ppl s k).epoch)
include he

theorem sweepVisit_hit (hh : e.hitAt = s.clock + 1) : sweepVisit k s x = visited k l e id s := by
  simp only [sweepVisit, hf, he, hh, if_true, if_false]
  exact modPpl_sltMod_found hf id

variable (hh : e.hitAt ≠ s.clock + 1)
include hh

theorem sweepVisit_aged (ha : e.age = true) : sweepVisit k s x = visited k l e (fun x => { x with age := false }) s := by
  simp only [sweepVisit, hf, he, hh, ha, if_true, if_false]
  exact modPpl_sltMod_found hf (fun x => { x with age := false })

theorem sweepVisit_idles (ha : e.age = false) (hst : e.st = .bound) (hdis : rflag s (rPA_IG_CTRL e.port) 4 = false) : sweepVisit k s x =
    setRxsc e.rxsc { rxsc s e.rxsc with idle := true } (visited k l e (fun x => { x with idle := true }) s) := by
  simp only [sweepVisit, hf, he, hh, ha, hst, hdis, Bool.false_eq_true, if_true, if_false]
  rw [modPpl_sltMod_found hf (fun x => { x with idle := true })]

theorem sweepVisit_removes (ha : e.age = false) (hst : e.st ≠ .bound) (hp : pairStaged s e.port e.sci = false) :
    sweepVisit k s x = bothSlt k (sltDrop e.port e.sci) s := by
  simp only [sweepVisit, hf, he, hh, ha, hst, hp, Bool.false_eq_true, if_false]

end

@[simp] theorem ppl_setRxsc {i k : Nat} {c : Rxsc} {s : State} : ppl (setRxsc i c s) k = ppl s k := rfl

theorem ppl_rset {off k : Nat} {v : Word} {s : State} : ppl (rset off v s) k = ppl s k := by simp only [ppl, rset_leaves]

/-! ### The scrub (R198) -/

/-- The word of PPL_IG_PARITY for an entry of the active table that has not been put back, with the count of scrubs. -/
def parityWord (loc m : Nat) : Word := mkW (loc + b2n false * 2 ^ 13 + b2n false * 2 ^ 14 + m * 2 ^ 16)

/-- The scrub that has taken an entry out of the active table. -/
def scrubOf (loc : Nat) (e : SltEnt) (s : State) : Scrub :=
  { shadow := false, loc, rxsc := if e.st = .bound && (rxsc s e.rxsc).valid then some e.rxsc else none }

/-- The pipeline whose entry at `loc` is scrubbed, with its scrubs in progress. -/
def scrubbedPpl (k loc : Nat) (e : SltEnt) (b : List Scrub) (s : State) : Ppl :=
  { ppl s k with
    active := sltRemove loc (ppl s k).active
    shadow := if mirrors (ppl s k) then sltDrop e.port e.sci (ppl s k).shadow else (ppl s k).shadow
    scrubs := b }

/-- The scrub counts, and the entry is absent. -/
def scrubbedState (k loc : Nat) (e : SltEnt) (s : State) : State :=
  setPpl k (scrubbedPpl k loc e ((ppl s k).scrubs ++ [scrubOf loc e s]) s) { s with plCnt := cntAdd (igKey k 27) 1 s.plCnt }

theorem ppl_scrubbedState_ne {k loc j : Nat} {e : SltEnt} {s : State} (h : j ≠ k) : ppl (scrubbedState k loc e s) j = ppl s j :=
  ppl_setPpl_ne h

section
variable {k loc : Nat} {e : SltEnt} {s : State} (hat : sltAt (ppl s k).active loc = some e) (hrun : dpRuns s = true)
  (hst : e.st ≠ .reserved)
include hat hrun hst

theorem sltParity_of_entry : sltParity k false loc s = scrubbedState k loc e s := by
  have hcond : (!dpRuns s || e.st = .reserved : Bool) = false := by simp [hrun, hst]
  unfold sltParity
  dsimp only
  rw [if_neg Bool.false_ne_true, hat]
  dsimp only
  rw [hcond, if_neg Bool.false_ne_true, if_neg Bool.false_ne_true]
  rfl

end

section
variable {k loc : Nat} {b : Scrub} {s : State} (hrun : dpRuns s = true) (hb : b.shadow = false) (hloc : b.loc = loc) (hnone : b.rxsc = none)
  {l : List Scrub} (hl : (l.any fun b => b.shadow == false && b.loc == loc) = false) (hs : (ppl s k).scrubs = l ++ [b])
include hrun hb hloc hnone hl hs

theorem sltScrubEnd_of_last : sltScrubEnd k false loc s = raise 51 k (loc + b2n false * 2 ^ 13)
    (rset (rPPL_IG_PARITY k) (parityWord loc (satAdd 8 (rfld s (rPPL_IG_PARITY k) 16 8) 1))
      (setPpl k { ppl s k with scrubs := l } s)) := by
  have hnot : ∀ c ∈ l, ¬(c.shadow == false && c.loc == loc) = true := by simpa using hl
  have hfind : (ppl s k).scrubs.find? (fun b => b.shadow == false && b.loc == loc) = some b := by
    rw [hs, List.find?_append, List.find?_eq_none.2 hnot]
    simp [hb, hloc]
  have hmem : b ∉ l := fun hm => hnot b hm (by simp [hb, hloc])
  have herase : (ppl s k).scrubs.erase b = l := by rw [hs, List.erase_append_right _ hmem, List.erase_cons_head, List.append_nil]
  unfold sltScrubEnd
  dsimp only
  rw [hfind]
  simp only [hrun, hnone, herase, Bool.not_true, Bool.false_eq_true, if_false]
  rfl

end

/-- The scrub of an entry that was not BOUND has ended. -/
def scrubEndState (k loc : Nat) (e : SltEnt) (s : State) : State :=
  raise 51 k (loc + b2n false * 2 ^ 13)
    (rset (rPPL_IG_PARITY k) (parityWord loc (satAdd 8 (rfld s (rPPL_IG_PARITY k) 16 8) 1))
      (setPpl k (scrubbedPpl k loc e (ppl s k).scrubs s) (scrubbedState k loc e s)))

theorem sltScrub_start {k loc : Nat} {e : SltEnt} {s : State} (hat : sltAt (ppl s k).active loc = some e) (hrun : dpRuns s = true)
    (hst : e.st ≠ .reserved) : sltScrub k false loc false s = scrubbedState k loc e s :=
  (if_neg Bool.false_ne_true).trans (sltParity_of_entry hat hrun hst)

theorem sltScrub_whole {k loc : Nat} {e : SltEnt} {s : State} (hat : sltAt (ppl s k).active loc = some e) (hrun : dpRuns s = true)
    (hst : e.st ≠ .reserved) (hb : e.st ≠ .bound) (hno : ((ppl s k).scrubs.any fun b => b.shadow == false && b.loc == loc) = false) :
    sltScrub k false loc true s = scrubEndState k loc e s := by
  unfold sltScrub
  rw [if_pos rfl, hno, if_neg Bool.false_ne_true, sltParity_of_entry hat hrun hst]
  refine (sltScrubEnd_of_last (b := scrubOf loc e s) (s := scrubbedState k loc e s) hrun rfl rfl (by simp [scrubOf, hb]) hno ?_).trans ?_
  · rw [scrubbedState, ppl_setPpl_self]
    rfl
  · rw [scrubbedState, ppl_setPpl_self]
    rfl

theorem sltScrub_of_none {k loc : Nat} {shadow done : Bool} {s : State}
    (hat : sltAt (if shadow then (ppl s k).shadow else (ppl s k).active) loc = none)
    (hno : ((ppl s k).scrubs.any fun b => b.shadow == shadow && b.loc == loc) = false) : sltScrub k shadow loc done s = s := by
  have hpar : sltParity k shadow loc s = s := by simp only [sltParity, hat]
  have hfind : (ppl s k).scrubs.find? (fun b => b.shadow == shadow && b.loc == loc) = none := List.find?_eq_none.2 (by simpa using hno)
  have hend : sltScrubEnd k shadow loc s = s := by simp only [sltScrubEnd, hfind]
  cases done <;> simp [sltScrub, hno, hpar, hend]

theorem satAdd_lt {w a b : Nat} : satAdd w a b < 2 ^ w := by
  have := Nat.two_pow_pos w
  simp only [satAdd]
  omega

theorem fld_parityWord {loc m : Nat} (hloc : loc < 2 ^ 13) (hm : m < 2 ^ 8) :
    fld (parityWord loc m) 0 13 = loc ∧ fld (parityWord loc m) 16 8 = m := by
  simp [parityWord, fld, bitsN, mkW, b2n, Nat.shiftRight_eq_div_pow]
  omega

theorem ppl_scrubEndState {k loc j : Nat} {e : SltEnt} {s : State} : ppl (scrubEndState k loc e s) j =
    ppl (setPpl k (scrubbedPpl k loc e (ppl s k).scrubs s) (scrubbedState k loc e s)) j := by
  rw [scrubEndState, ppl_raise, ppl_rset]

theorem rget_scrubEndState {k loc : Nat} {e : SltEnt} {s : State} : rget (scrubEndState k loc e s) (rPPL_IG_PARITY k) =
    parityWord loc (satAdd 8 (rfld s (rPPL_IG_PARITY k) 16 8) 1) := by
  simp [scrubEndState, rget, rset]

@[simp] theorem scrubEndState_leaves {k loc : Nat} {e : SltEnt} {s : State} :
    (scrubEndState k loc e s).plCnt = cntAdd (igKey k 27) 1 s.plCnt ∧ (scrubEndState k loc e s).rxscs = s.rxscs
      ∧ (scrubEndState k loc e s).mem = s.mem := by
  simp [scrubEndState, scrubbedState]

/-- Settles O47: the sweep's visits and the scrub's two steps are the changes that the lemmas above name. -/
theorem theSciTableAgesAndIsScrubbed : Obligations.TheSciTableAgesAndIsScrubbed := by
  unfold Obligations.TheSciTableAgesAndIsScrubbed
  intro k s
  refine ⟨fun hrun hdue => next_finalize_congr (sltAgingSweep_of_due hrun hdue), fun h => next_finalize_congr (sltAgingSweep_of_idle h),
    fun x l e hf => ⟨sweepVisit_same hf, fun he => ⟨fun hh => ?hit, fun hh ha => ?aged, fun hh ha hst hdis => ?idles, sweepVisit_removes hf he⟩⟩,
    fun loc e hat hloc hrun hst => ⟨?start, fun hb hno => ?whole⟩, fun loc shadow done hat hno => next_finalize_congr (sltScrub_of_none hat hno)⟩
  case hit => rw [sweepVisit_hit hf he hh, sltAt_visited_self, id]
  case aged =>
    rw [sweepVisit_aged hf he hh ha]
    exact ⟨sltAt_visited_self, fun j hj => sltAt_visited_ne hj, rfl, rfl⟩
  case idles =>
    rw [sweepVisit_idles hf he hh ha hst hdis]
    rw [ppl_setRxsc]
    exact ⟨sltAt_visited_self, rxsc_setRxsc_self, fun c hc => rxsc_setRxsc_ne hc, rfl⟩
  case start =>
    exact ⟨_, next_finalize_congr (sltScrub_start hat hrun hst), ppl_setPpl_self, fun j hj => ppl_scrubbedState_ne hj, rfl, rfl, rfl, rfl⟩
  case whole =>
    obtain ⟨hfl, hfn⟩ := fld_parityWord hloc (satAdd_lt (w := 8) (a := rfld s (rPPL_IG_PARITY k) 16 8) (b := 1))
    refine ⟨_, next_finalize_congr (sltScrub_whole hat hrun hst hb hno), ppl_scrubEndState.trans ppl_setPpl_self, fun j hj => ?_,
      scrubEndState_leaves.1, ?_, ?_, scrubEndState_leaves.2.1, scrubEndState_leaves.2.2⟩
    · rw [ppl_scrubEndState, ppl_setPpl_ne hj, ppl_scrubbedState_ne hj]
    · rw [rfld, rget_scrubEndState, hfl]
    · rw [rfld, rget_scrubEndState, hfn]

end Sys2Proof.Machine

/-! PROOF. Storage transfers: acceptance, data units and return (R350 to R355). -/

namespace Sys2Proof.Machine

/-! ### Acceptance (R350 to R352) -/

/-- The transfer of a request, before its checks. -/
def xferOf (q : StcReq) (e : StcCfg) : StcXfer :=
  { tag := q.tag, fromDev := q.fromDev, ce := q.ce, cfg := q.cfg, dun := q.dun, len := q.len, entry := e }

def appendXfer (c : Nat) (x : StcXfer) (s : State) : State := setStc c { stc s c with xfers := (stc s c).xfers ++ [x] } s

/-- The entry that a request takes. -/
def takenEntry (s : State) (c : Nat) (q : StcReq) : StcCfg := if q.ce then stcCfg s c q.cfg else {}

section
variable {c : Nat} {q : StcReq} {s : State} (hready : stcReady s c = true) (hwait : (stc s c).tagWait = none)
include hready hwait

theorem stcRequest_of_busy (hb : tagBusy s c q.tag = true) : stcRequest c q s = setStc c { stc s c with tagWait := some q } s := by
  simp [stcRequest, hready, hwait, hb]

theorem stcRequest_of_free (hb : tagBusy s c q.tag = false) : stcRequest c q s = stcAccept c q s := by
  simp [stcRequest, hready, hwait, hb]

end

theorem stcAccept_of_failed {c : Nat} {q : StcReq} {r : Res} {s : State} (h : stcCheck s c q (takenEntry s c q) = some r) :
    stcAccept c q s = appendXfer c { xferOf q (takenEntry s c q) with fail := some (r, 0) } s := by
  rw [takenEntry] at h ⊢
  simp only [stcAccept, h]
  rfl

theorem stcAccept_plain {c : Nat} {q : StcReq} {s : State} (hce : q.ce = false) (h : stcCheck s c q (takenEntry s c q) = none) :
    stcAccept c q s = appendXfer c (xferOf q (takenEntry s c q)) s := by
  rw [takenEntry] at h ⊢
  simp only [stcAccept, h]
  exact if_pos (by simp [hce])

theorem stcAccept_encrypted {c : Nat} {q : StcReq} {s : State} (hce : q.ce = true) (h : stcCheck s c q (takenEntry s c q) = none)
    (hk : stcKeys s (takenEntry s c q) = none) : stcAccept c q s = appendXfer c (xferOf q (takenEntry s c q))
      (setStcCfg c q.cfg { stcCfg s c q.cfg with lost := false } (stcTouch (takenEntry s c q) s)) := by
  rw [takenEntry] at h hk ⊢
  simp only [stcAccept, h, hk]
  exact if_neg (by simp [hce])

theorem xfers_appendXfer {c : Nat} {x : StcXfer} {s : State} : (stc (appendXfer c x s) c).xfers = (stc s c).xfers ++ [x] := by
  rw [appendXfer, stc_setStc_self]

theorem stc_stcTouch {e : StcCfg} {d : Nat} {s : State} : stc (stcTouch e s) d = stc s d := by rw [stc, stcTouch_leaves.1, stc]

theorem stcCfg_appendXfer {c k : Nat} {x : StcXfer} {s : State} : stcCfg (appendXfer c x s) c k = stcCfg s c k := by
  simp [stcCfg, appendXfer]

/-! ### Data units (R353) -/

/-- What the bytes of one beat add to a transfer. -/
def takeBytes (s : State) (bytes : List Byte) (x : StcXfer) : StcXfer :=
  { x with buf := x.buf ++ bytes.take (x.len - x.got), got := x.got + bytes.length, since := if x.buf.length < 16 then s.clock else x.since }

theorem modXfer_of_single {c : Nat} {f : StcXfer → StcXfer} {x : StcXfer} {s : State} (h : (stc s c).xfers = [x]) :
    modXfer c 0 f s = setStc c { stc s c with xfers := [f x] } s := by
  rw [modXfer, h]
  rfl

theorem xferAt_of_single {c : Nat} {x : StcXfer} {s : State} (h : (stc s c).xfers = [x]) : xferAt s c 0 = some x := by
  rw [xferAt, h]
  rfl

theorem cutUnits_plain {fuel c : Nat} {x : StcXfer} {s : State} (h : (stc s c).xfers = [x]) (hce : x.ce = false) :
    cutUnits fuel c 0 s = s := by
  cases fuel with
  | zero => rfl
  | succ n => simp [cutUnits, xferAt_of_single h, hce]

theorem cutUnits_short {fuel c : Nat} {x : StcXfer} {s : State} (h : (stc s c).xfers = [x]) (hlen : x.buf.length < dusOf x.entry) :
    cutUnits fuel c 0 s = s := by
  cases fuel with
  | zero => rfl
  | succ n => simp [cutUnits, xferAt_of_single h, not_le.2 hlen]

/-- The unit that the buffered bytes make. -/
def unitOf (s : State) (x : StcXfer) : StcUnit := { id := s.arr.nextId, data := x.buf.take (dusOf x.entry), since := x.since }

/-- A unit of transfer `x` leaves the bytes of `y` and joins its units. -/
def addUnit (s : State) (x y : StcXfer) : StcXfer :=
  { y with units := y.units ++ [unitOf s x], buf := y.buf.drop (dusOf x.entry), since := s.clock }

theorem stc_setItem {id c : Nat} {x : Option Item} {s : State} : stc (setItem id x s) c = stc s c := rfl

theorem item_setStc {c j : Nat} {v : Stc} {s : State} : item (setStc c v s) j = item s j := rfl

theorem item_takeId {j : Nat} {s : State} : item (takeId s).1 j = item s j := rfl

/-- One data unit becomes an item. -/
def cutState (c : Nat) (x : StcXfer) (s : State) : State :=
  setItem s.arr.nextId (some (unitItem c x)) (setStc c { stc s c with xfers := [addUnit s x x] } (takeId s).1)

theorem stc_cutState_self {c : Nat} {x : StcXfer} {s : State} : stc (cutState c x s) c = { stc s c with xfers := [addUnit s x x] } := by
  rw [cutState, stc_setItem, stc_setStc_self]

theorem item_cutState_ne {c j : Nat} {x : StcXfer} {s : State} (h : j ≠ s.arr.nextId) : item (cutState c x s) j = item s j := by
  rw [cutState, item_setItem_ne h, item_setStc, item_takeId]

@[simp] theorem cutState_leaves {c : Nat} {x : StcXfer} {s : State} : (cutState c x s).dome = s.dome ∧ (cutState c x s).mem = s.mem := by
  simp [cutState, takeId]

theorem cutUnits_once {fuel c : Nat} {x : StcXfer} {s : State} (h : (stc s c).xfers = [x]) (hce : x.ce = true) (hfail : x.fail = none)
    (hlen : x.buf.length = dusOf x.entry) : cutUnits (fuel + 1) c 0 s = cutState c x s := by
  have hcond : (x.ce && x.fail.isNone && dusOf x.entry ≤ x.buf.length : Bool) = true := by simp [hce, hfail, hlen]
  have hpos : 0 < dusOf x.entry := by unfold dusOf; split_ifs <;> omega
  have hid : (stc (takeId s).1 c).xfers = [x] := h
  have hshort : cutUnits fuel c 0 (cutState c x s) = cutState c x s :=
    cutUnits_short (x := addUnit s x x) (by rw [stc_cutState_self]) (by simp [addUnit, hlen, hpos])
  unfold cutUnits
  rw [xferAt_of_single h]
  refine Eq.trans (if_pos hcond) ?_
  exact (congrArg (fun t => cutUnits fuel c 0 (setItem s.arr.nextId (some (unitItem c x)) t))
    (modXfer_of_single (f := addUnit s x) hid)).trans hshort

section
variable {c : Nat} {fromDev : Bool} {bytes : List Byte} {x : StcXfer} {s : State} (hrun : stcRuns s = true) (hx : (stc s c).xfers = [x])
  (hdir : x.fromDev = fromDev)
include hrun hx hdir

theorem stcDataIn_of_single (hlast : x.last = false) : stcDataIn c fromDev bytes false s =
    cutUnits (bytes.length / 512 + 8) c 0 (setStc c { stc s c with xfers := [takeBytes s bytes x] } s) := by
  have hopen : stcOpen s c fromDev = some 0 := by simp [stcOpen, hx, findIdxFrom, hdir, hlast]
  unfold stcDataIn
  rw [if_neg (by simp [hrun]), hopen]
  dsimp only
  rw [modXfer_of_single hx, if_neg Bool.false_ne_true]
  rfl

theorem stcDataIn_plain (hlast : x.last = false) (hce : x.ce = false) : stcDataIn c fromDev bytes false s =
    setStc c { stc s c with xfers := [takeBytes s bytes x] } s := by
  rw [stcDataIn_of_single hrun hx hdir hlast]
  exact cutUnits_plain (x := takeBytes s bytes x) (by rw [stc_setStc_self]) hce

theorem stcDataIn_unit (hlast : x.last = false) (hce : x.ce = true) (hfail : x.fail = none) (hbuf : x.buf = [])
    (hlen : bytes.length = dusOf x.entry) (hroom : x.got + bytes.length ≤ x.len) : stcDataIn c fromDev bytes false s =
    cutState c (takeBytes s bytes x) (setStc c { stc s c with xfers := [takeBytes s bytes x] } s) := by
  rw [stcDataIn_of_single hrun hx hdir hlast]
  refine cutUnits_once (x := takeBytes s bytes x) (by rw [stc_setStc_self]) hce hfail ?_
  simp only [takeBytes, hbuf, List.nil_append, List.length_take]
  omega

end

/-! ### Return (R355) -/

theorem rfld_radd48_ne {o lo hi inc l n : Nat} {s : State} (hlo : o ≠ lo) (hhi : o ≠ hi) : rfld (radd48 lo hi inc s) o l n = rfld s o l n := by
  rw [radd48, rfld_rset_ne _ _ hhi, rfld_rset_ne _ _ hlo]

theorem stcCount_plain {c : Nat} {x : StcXfer} {s : State} (hfail : x.fail = none) (hce : x.ce = false) :
    stcCount c x s = radd48 (rSTC_PLAIN_LO c) (rSTC_PLAIN_HI c) x.len (rsat (rSTC_XFER_OK c) 0 24 1 s) := by
  simp [stcCount, hfail, hce]

theorem rfld_stcCount_plain {c : Nat} {x : StcXfer} {s : State} (hfail : x.fail = none) (hce : x.ce = false) :
    rfld (stcCount c x s) (rSTC_XFER_OK c) 0 24 = satAdd 24 (rfld s (rSTC_XFER_OK c) 0 24) 1 := by
  rw [stcCount_plain hfail hce, rfld_radd48_ne (by simp [rSTC_XFER_OK, rSTC_PLAIN_LO, rSTC]) (by simp [rSTC_XFER_OK, rSTC_PLAIN_HI, rSTC])]
  exact rfld_rsat_self (by decide)

@[simp] theorem stcCount_plain_leaves {c : Nat} {x : StcXfer} {s : State} (hfail : x.fail = none) (hce : x.ce = false) :
    (stcCount c x s).stcs = s.stcs ∧ (stcCount c x s).items = s.items ∧ (stcCount c x s).dome = s.dome := by
  simp [stcCount_plain hfail hce]

/-- The output of a whole plain transfer. -/
def plainOut (x : StcXfer) : StcOut := { tag := x.tag, status := 0, bytes := fitBytes x.len x.buf }

/-- The channel that has returned its only transfer. -/
def returnedStc (v : Stc) (fromDev : Bool) (o : StcOut) : Stc :=
  if fromDev then { v with xfers := [], out1 := some o } else { v with xfers := [], out0 := some o }

theorem returnedStc_spec {v : Stc} {fromDev : Bool} {o : StcOut} : (returnedStc v fromDev o).xfers = []
    ∧ (if fromDev then (returnedStc v fromDev o).out1 else (returnedStc v fromDev o).out0) = some o
    ∧ (returnedStc v fromDev o).tagWait = v.tagWait := by cases fromDev <;> exact ⟨rfl, rfl, rfl⟩

section
variable {c : Nat} {fromDev : Bool} {x : StcXfer} {s : State} (hx : (stc s c).xfers = [x]) (hdir : x.fromDev = fromDev)
include hx hdir

theorem stcTransferComplete_early (hlast : x.last = false) : stcTransferComplete c fromDev s = s := by
  simp [stcTransferComplete, hx, findIdxFrom, hdir, hlast]

theorem stcTransferComplete_plain (hrun : stcRuns s = true) (hlast : x.last = true) (hce : x.ce = false) (hfail : x.fail = none)
    (hunits : x.units = []) (hwait : (stc s c).tagWait = none) : stcTransferComplete c fromDev s =
    stcCount c x (setStc c (returnedStc (stc s c) fromDev (plainOut x)) s) := by
  have hfind : findIdxFrom (fun x : StcXfer => x.fromDev == fromDev) 0 (stc s c).xfers = some (0, x) := by simp [hx, findIdxFrom, hdir]
  have hcond : (stcRuns s && x.last && xferWhole x) = true := by simp [hrun, hlast, xferWhole, hfail, hunits]
  have hdrop : dropUnits x 0 s = s := by simp [dropUnits, hunits]
  have hout : stcOutBytes x = fitBytes x.len x.buf := by simp [stcOutBytes, hce, hfail]
  have hv : (if fromDev then { { stc s c with xfers := (stc s c).xfers.eraseIdx 0 } with out1 := some (plainOut x) }
      else { { stc s c with xfers := (stc s c).xfers.eraseIdx 0 } with out0 := some (plainOut x) } : Stc)
      = returnedStc (stc s c) fromDev (plainOut x) := by rw [hx]; rfl
  have hretry : stcRetry c (stcCount c x (setStc c (returnedStc (stc s c) fromDev (plainOut x)) s))
      = stcCount c x (setStc c (returnedStc (stc s c) fromDev (plainOut x)) s) := by
    have hnone : (stc (stcCount c x (setStc c (returnedStc (stc s c) fromDev (plainOut x)) s)) c).tagWait = none := by
      rw [stc, (stcCount_plain_leaves hfail hce).1, ← stc, stc_setStc_self, returnedStc_spec.2.2, hwait]
    simp only [stcRetry, hnone]
  unfold stcTransferComplete
  rw [hfind]
  refine Eq.trans (if_pos hcond) ?_
  simp only [hdrop, hout, hfail, Option.map_none, Option.getD_none]
  exact (congrArg (fun v => stcRetry c (stcCount c x (setStc c v s))) hv).trans hretry

end

/-- Settles O48: a request is held, appended or appended as failed, data makes units, and a whole plain transfer is returned. -/
theorem storageTransfersAreAcceptedCutAndReturned : Obligations.StorageTransfersAreAcceptedCutAndReturned := by
  unfold Obligations.StorageTransfersAreAcceptedCutAndReturned
  intro c s
  refine ⟨fun tag fromDev ce cfg dun len q hready hwait hq => ?request, fun fromDev bytes last h => next_finalize_congr (if_pos (by simp [h])),
    fun fromDev bytes x hrun hx hdir hlast hce => next_finalize_congr (stcDataIn_plain hrun hx hdir hlast hce), ?unit, ?complete⟩
  case request =>
    subst hq
    refine ⟨fun hb => next_finalize_congr (stcRequest_of_busy hready hwait hb), fun x hb hce hchk hx => ?plain, fun hb hce hchk hk => ?encrypted,
      fun r hb hchk => ?failed⟩
    case plain =>
      subst hce hx
      exact next_finalize_congr ((stcRequest_of_free hready hwait hb).trans (stcAccept_plain rfl hchk))
    case encrypted =>
      subst hce
      refine ⟨_, xferOf { tag, fromDev, ce := true, cfg, dun := dun.toNat, len := len.toNat } (stcCfg s c cfg),
        next_finalize_congr ((stcRequest_of_free hready hwait hb).trans (stcAccept_encrypted rfl hchk hk)), ?_, rfl, rfl, rfl, rfl, rfl,
        rfl, ?_, fun d hd => ?_, by simp [appendXfer, setStcCfg], by simp [appendXfer, setStcCfg]⟩
      · rw [xfers_appendXfer, xfers_setStcCfg, stc_stcTouch]
        rfl
      · rw [stcCfg_appendXfer, stcCfg_setStcCfg_self]
      · rw [appendXfer, stc_setStc_ne hd, setStcCfg, stc_setStc_ne hd, stc_stcTouch]
    case failed =>
      exact ⟨_, next_finalize_congr ((stcRequest_of_free hready hwait hb).trans (stcAccept_of_failed hchk)), rfl, rfl⟩
  case unit =>
    intro fromDev bytes x hrun hx hdir hlast hce hfail hbuf hlen hroom
    refine ⟨_, next_finalize_congr (stcDataIn_unit hrun hx hdir hlast hce hfail hbuf hlen hroom), item_setItem_self, ?_,
      fun j hj => ?_, by simp, by simp⟩
    case refine_2 =>
      refine (item_cutState_ne ?_).trans item_setStc
      exact hj
    rw [stc_cutState_self]
    have hdata : bytes.take (x.len - x.got) = bytes := List.take_of_length_le (by omega)
    simp [addUnit, unitOf, takeBytes, hbuf, hdata, ← hlen, setStc]
  case complete =>
    intro fromDev x hrun hx hdir hce hfail hunits hwait
    refine ⟨fun hlast => ?_, fun hlast => next_finalize_congr (stcTransferComplete_early hx hdir hlast)⟩
    obtain ⟨hstcs, hitems, hdome⟩ := stcCount_plain_leaves (c := c) (s := setStc c (returnedStc (stc s c) fromDev (plainOut x)) s) hfail hce
    have hstc : stc (stcCount c x (setStc c (returnedStc (stc s c) fromDev (plainOut x)) s)) c = returnedStc (stc s c) fromDev (plainOut x) := by
      rw [stc, hstcs, ← stc, stc_setStc_self]
    refine ⟨_, next_finalize_congr (stcTransferComplete_plain hx hdir hrun hlast hce hfail hunits hwait), ?_, ?_,
      rfld_stcCount_plain hfail hce, hitems, hdome, by simp⟩
    · rw [hstc, returnedStc_spec.1]
    · rw [hstc]
      exact returnedStc_spec.2.1

end Sys2Proof.Machine

/-! PROOF. The Dome's random bit generator, the new masks after a wake, and the held keys (R268, R306 to R308). -/

namespace Sys2Proof.Machine

/-! ### The generator (R306, R307) -/

theorem drbgFail_dome {k : Nat} {b : Bool} {s : State} : (drbgFail k b s).dome = s.dome ∧ (drbgFail k b s).tmu = s.tmu := by simp [drbgFail]

theorem rfld_drbgFail {k : Nat} {b : Bool} {s : State} : rfld (drbgFail k b s) rDOM_DRBG 16 8 = satAdd 8 (rfld s rDOM_DRBG 16 8) 1 := by
  rw [drbgFail, rfld, rget, raise_leaves.1]
  exact rfld_rsat_self (by decide)

/-- The generator down for a restart. -/
def restartingState (s : State) : State :=
  { s with dome := { s.dome with drbgOk := false, drbgRetry := true, drbgFails := 0 }, draws := s.draws + 1 }

theorem drbgHealthFail_of_down {s : State} (hok : s.dome.drbgOk = false) : drbgHealthFail s = s := if_neg (by simp [hok])

section
variable {s : State} (hd : domOn s dDOME = true)
include hd

theorem drbgHealthFail_of_up (hok : s.dome.drbgOk = true) :
    drbgHealthFail s = drbgFail (Config.freeNat s.draws % 2) false (restartingState s) := by
  unfold drbgHealthFail
  exact if_pos (by simp [hd, hok])

theorem drbgRestartDone_pass (hr : s.dome.drbgRetry = true) : drbgRestartDone true s = raise 98 0 (s.dome.drbgFails + 1)
    { s with dome := { s.dome with drbgOk := true, drbgRetry := false, drbgFails := 0 } } := by
  simp only [drbgRestartDone, hd, hr, Bool.and_self, if_true]

theorem drbgRestartDone_fail (hr : s.dome.drbgRetry = true) : drbgRestartDone false s = restartFailed s := by
  simp only [drbgRestartDone, hd, hr, Bool.and_self, Bool.false_eq_true, if_true, if_false]

theorem drbgStartupDone_pass (hok : s.dome.drbgOk = false) (hr : s.dome.drbgRetry = false) (hdown : s.dome.drbgDown = false)
    (hm : s.pwr.remasking = false) : drbgStartupDone true s =
    drbgCountFree { s with dome := { s.dome with drbgOk := true, drbgFails := 0, drbgCalls := 0 } } := by
  unfold drbgStartupDone
  rw [if_pos (by simp [hd, hok, hr, hdown]), if_pos rfl]
  exact if_neg (by simp [hm])

end

theorem restartFailed_dome {s : State} : (restartFailed s).dome = { s.dome with
    drbgFails := s.dome.drbgFails + 1, drbgRetry := decide (s.dome.drbgFails < 3), drbgDown := decide (3 ≤ s.dome.drbgFails) } := by
  have hdown : decide (4 ≤ s.dome.drbgFails + 1) = decide (3 ≤ s.dome.drbgFails) := decide_eq_decide.2 (by omega)
  have hretry : (!decide (3 ≤ s.dome.drbgFails)) = decide (s.dome.drbgFails < 3) := by rw [← decide_not]; exact decide_eq_decide.2 (by omega)
  simp only [restartFailed, drbgFail_dome, hdown, hretry]

theorem restartFailed_leaves {s : State} : (restartFailed s).tmu = s.tmu := by simp only [restartFailed, drbgFail_dome]

/-! ### New masks after a wake (R308) -/

/-- A slot under a fresh mask from the draws given. -/
def freshMask (base i : Nat) (v : Slot) : Slot := { v with share := v.share.mapIdx fun j b => b ^^^ Config.drbgByte (base + 32 * i + j) }

theorem freshMask_empty (base i : Nat) : freshMask base i {} = {} := rfl

theorem drbgCountFree_dome {s : State} : (drbgCountFree s).dome.slots = s.dome.slots ∧ (drbgCountFree s).dome.upset = s.dome.upset := by
  unfold drbgCountFree drbgCount
  dsimp only
  split_ifs <;> simp

theorem slots_remaskSlots {s : State} : (remaskSlots s).dome.slots = tabMap {} (freshMask s.draws) s.dome.slots := by
  rw [remaskSlots, drbgCountFree_dome.1]
  rfl

theorem slot_remaskSlots {s : State} (hwf : tabWf {} s.dome.slots = true) (i : Nat) :
    slot (remaskSlots s) i = freshMask s.draws i (slot s i) := by
  rw [slot, slots_remaskSlots, tabGet_map _ _ (freshMask_empty _ _) (Bool.and_eq_true_iff.1 hwf).1]
  rfl

theorem remaskDone_of_up {s : State} (hd : domOn s dDOME = true) (hm : s.pwr.remasking = true) (hok : s.dome.drbgOk = true)
    (hu : s.dome.upset = false) : remaskDone s = remaskSlots { s with pwr := { s.pwr with remasking := false } } := by
  have hupset : (remaskSlots (modPwr (fun p => { p with remasking := false }) s)).dome.upset = false := by
    rw [remaskSlots, drbgCountFree_dome.2]
    exact hu
  unfold remaskDone
  rw [if_pos (by simp [hd, hm, hok])]
  exact if_neg (by simp [hupset])

theorem remaskDone_of_idle {s : State} (hm : s.pwr.remasking = false) : remaskDone s = s := if_neg (by simp [hm])

/-! ### Held keys (R268) -/

theorem precedingKeyRelease_of_free {h : Held} {rest : List Held} {s : State} (hd : domOn s dDOME = true) (hh : s.dome.held = h :: rest)
    (hn : holdNeeded s h.slot h.gen = false) : precedingKeyRelease s = { s with dome := { s.dome with
      held := s.dome.held.filter (fun g => g != h)
      dcache := s.dome.dcache.filter fun t => !(t.slot == h.slot && t.gen == h.gen) } } := by
  have hfind : s.dome.held.find? (fun h => !holdNeeded s h.slot h.gen) = some h := by
    rw [hh]
    exact List.find?_cons_of_pos (by simp [hn])
  simp only [precedingKeyRelease, hfind, hd, if_true]

theorem precedingKeyRelease_of_nil {s : State} (hh : s.dome.held = []) : precedingKeyRelease s = s := by
  simp only [precedingKeyRelease, hh, List.find?_nil]

/-- Settles O49: the generator goes down, restarts or stays down, the slots get new masks, and the first free held key is dropped. -/
theorem theDomesGeneratorAndHeldKeys : Obligations.TheDomesGeneratorAndHeldKeys := by
  unfold Obligations.TheDomesGeneratorAndHeldKeys
  intro s hd
  refine ⟨fun hok => ?fail, fun hok => next_finalize_congr (drbgHealthFail_of_down hok),
    fun hr => ⟨next_finalize_congr (drbgRestartDone_pass hd hr), ?restart⟩,
    fun hok hr hdown hm => next_finalize_congr (drbgStartupDone_pass hd hok hr hdown hm),
    fun hm hok hu => next_finalize_congr (remaskDone_of_up hd hm hok hu), fun hwf i => ?mask,
    fun hm => next_finalize_congr (remaskDone_of_idle hm), fun h rest hh hn => ?release,
    fun hh => next_finalize_congr (precedingKeyRelease_of_nil hh)⟩
  case fail =>
    exact ⟨_, next_finalize_congr (drbgHealthFail_of_up hd hok), drbgFail_dome.1, rfld_drbgFail, by simp [restartingState],
      drbgFail_dome.2⟩
  case restart =>
    exact ⟨_, next_finalize_congr (drbgRestartDone_fail hd hr), restartFailed_dome, by simp, restartFailed_leaves⟩
  case mask =>
    rw [slot_remaskSlots hwf]
    rfl
  case release =>
    exact ⟨_, next_finalize_congr (precedingKeyRelease_of_free hd hh hn), rfl, rfl, rfl, rfl, rfl⟩

end Sys2Proof.Machine

/-! PROOF. The events of the Time Unit and its timestamp bus (R375, R377, R382, R384, R386, R394, R395, R510). -/

namespace Sys2Proof.Machine

/-! ### LC and the domains (R377, R382, R384, R386) -/

theorem lcHalfwrap_of_due {s : State} (hd : domOn s dTIME = true) (h : s.tmu.halfDue = true) :
    lcHalfwrap s = raise 122 0 (bitsN (lcNs s) 31 24) { s with tmu := { s.tmu with halfDue := false } } := by
  simp only [lcHalfwrap, hd, h, Bool.and_self, if_true]

theorem lcHalfwrap_of_not_due {s : State} (h : s.tmu.halfDue = false) : lcHalfwrap s = s := if_neg (by simp [h])

/-- The domain in HOLDOVER, reported. -/
def holdoverState (k : Nat) (s : State) : State := raise 125 k 0 (modDom k (fun d => { d with st := .holdover }) s)

theorem dom_holdoverState_self {k : Nat} {s : State} : dom (holdoverState k s).tmu k = { dom s.tmu k with st := .holdover } := by
  simp only [holdoverState, raise_leaves, dom_modDom_self]

theorem dom_holdoverState_other {k : Nat} {s : State} : dom (holdoverState k s).tmu (1 - k) = dom s.tmu (1 - k) := by
  simp only [holdoverState, raise_leaves, dom_modDom_other]

@[simp] theorem modDom_wc {k : Nat} {f : Domain → Domain} {s : State} : (modDom k f s).tmu.wc = s.tmu.wc ∧ (modDom k f s).tmu.src = s.tmu.src
    ∧ (modDom k f s).tmu.sel = s.tmu.sel := by
  unfold modDom
  split_ifs <;> simp

@[simp] theorem holdoverState_leaves {k : Nat} {s : State} : (holdoverState k s).tmu.lc = s.tmu.lc
    ∧ (holdoverState k s).tmu.cals = s.tmu.cals ∧ (holdoverState k s).tmu.wc = s.tmu.wc ∧ (holdoverState k s).tmu.src = s.tmu.src
    ∧ (holdoverState k s).tmu.sel = s.tmu.sel ∧ (holdoverState k s).regs = s.regs ∧ (holdoverState k s).mem = s.mem := by simp [holdoverState]

section
variable {k : Nat} {s : State}

theorem sampleLoss_of_expired (hd : domOn s dTIME = true) (hst : (dom s.tmu k).st = .locked) (h : (dom s.tmu k).lossAt < s.clock) :
    sampleLoss k s = if s.tmu.sel = k then (autoSwitch (holdoverState k s)).1 else holdoverState k s := by
  have hsel : (holdoverState k s).tmu.sel = s.tmu.sel := holdoverState_leaves.2.2.2.2.1
  rw [← hsel]
  unfold sampleLoss
  exact if_pos (by simp [hd, hst, h])

theorem sampleLoss_of_early (h : s.clock ≤ (dom s.tmu k).lossAt) : sampleLoss k s = s := if_neg (by simp [h])

end

theorem slewDone_of_equal {s : State} (hd : domOn s dTIME = true) (hs : s.tmu.slewing = true) (h : s.tmu.wc = srcTime s.tmu s.tmu.src) :
    slewDone s = raise 126 0 0 { s with tmu := { s.tmu with slewing := false } } := if_pos (by simp [hd, hs, h])

theorem slewDone_of_apart {s : State} (h : s.tmu.wc ≠ srcTime s.tmu s.tmu.src) : slewDone s = s := if_neg (by simp [h])

/-! ### Cycle sync (R394, R395) -/

theorem cycSyncEdge_of_off {falling : Bool} {s : State}
    (h : rflag s rSYNC_CTRL 0 = false ∨ rflag s rSYNC_CTRL 1 ≠ falling ∨ refPort s = none) : cycSyncEdge falling s = s := by
  rcases h with h | h | h
  · exact if_neg (by simp [h])
  · exact if_neg (by simp [h])
  · simp [cycSyncEdge, h]

/-- The offset of an edge from the nearer boundary of its interval. -/
def edgeOffset (s : State) (r : Nat) : Int :=
  let b := activeBank (cal s r)
  let e0 : Int := (wcNs s : Int) - boundary b (portPull s r) (intervalAt s r (wcNs s))
  if 2 * e0 < b.cycle then e0 else e0 - b.cycle

/-- The pull that an edge with offset `e` asks for, within the limit. -/
def edgePull (s : State) (e : Int) : Int :=
  clampI (-2000) 2000 (clampI (-pullLimit s) (pullLimit s) (pullAfter s.tmu + clampI (-2000) 2000 e) - pullAfter s.tmu)

/-- The state in which a counting edge is recorded. -/
def edgeState (s : State) (r : Nat) : State :=
  { s with tmu := { s.tmu with
      lastEdge := some (wcNs s : Int), edgeAt := some (intervalAt s r (wcNs s)), lost := false
      syncErr := clampI (-8388608) 8388607 (edgeOffset s r), pulls := s.tmu.pulls ++ [(some (edgePull s (edgeOffset s r)), wcNs s + 4000)] } }

section
variable {falling : Bool} {r : Nat} {s : State} (hd : domOn s dTIME = true) (hon : rflag s rSYNC_CTRL 0 = true)
  (hf : rflag s rSYNC_CTRL 1 = falling) (hr : refPort s = some r)
include hd hon hf hr

theorem cycSyncEdge_of_second (h : s.tmu.lastEdge.map (intervalAt s r) = some (intervalAt s r (wcNs s))) : cycSyncEdge falling s = s := by
  unfold cycSyncEdge
  rw [if_pos (by simp [hd, hon, hf]), hr]
  exact if_pos h

theorem cycSyncEdge_of_first (h : s.tmu.lastEdge.map (intervalAt s r) ≠ some (intervalAt s r (wcNs s))) : cycSyncEdge falling s =
    if edgePull s (edgeOffset s r) ≠ clampI (-2000) 2000 (edgeOffset s r) then
      raise 127 0 (unsgn 24 (pullAfter s.tmu + edgePull s (edgeOffset s r))) (edgeState s r)
    else edgeState s r := by
  unfold cycSyncEdge
  rw [if_pos (by simp [hd, hon, hf]), hr]
  exact if_neg h

end

/-- The pull after one that waited: it adds, or it sets the pull to zero. -/
def appliedPull (t : Tmu) : Option Int → Int
  | some d => t.pull + d
  | none => 0

section
variable {d : Option Int} {t r : Nat} {rest : List (Option Int × Nat)} {s : State} (hp : s.tmu.pulls = (d, t) :: rest)
  (hr : refPort s = some r)
include hp hr

theorem cycPullApply_of_due (hd : domOn s dTIME = true)
    (h : boundary (activeBank (cal s r)) (portPull s r) (cycleFrom (activeBank (cal s r)) (portPull s r) t) ≤ wcNs s) : cycPullApply s =
    { s with tmu := { s.tmu with pull := appliedPull s.tmu d, pulls := rest } } := by
  unfold cycPullApply
  rw [hp, hr]
  refine Eq.trans (if_pos (by simp [hd, h])) ?_
  cases d <;> rfl

theorem cycPullApply_of_early
    (h : wcNs s < boundary (activeBank (cal s r)) (portPull s r) (cycleFrom (activeBank (cal s r)) (portPull s r) t)) : cycPullApply s = s := by
  unfold cycPullApply
  rw [hp, hr]
  exact if_neg (by simp [h])

end

theorem cycSyncLost_of_on {k e : Int} {s : State} (hd : domOn s dTIME = true) (hk : refCycle s = some k) (he : s.tmu.edgeAt = some e)
    (hon : rflag s rSYNC_CTRL 0 = true) : cycSyncLost s =
    if !s.tmu.lost && decide (e + 9 ≤ k) then raise 128 0 0 { s with tmu := { s.tmu with lost := true } } else s := by
  simp only [cycSyncLost, hk, he, hd, hon, Bool.true_and]

theorem tmuSyncClear_of_on {s : State} (hd : domOn s dTIME = true) :
    tmuSyncClear s = { s with tmu := { s.tmu with pulls := s.tmu.pulls ++ [(none, wcNs s + 4000)] } } := if_pos hd

/-! ### The timestamp bus (R375, R510) -/

/-- The digits of a number that is put together from digits below its base. -/
theorem digit_foldr {B : Nat} {l : List Nat} (h : ∀ x ∈ l, x < B) (i : Nat) :
    l.foldr (fun x acc => x + acc * B) 0 / B ^ i % B = l.getD i 0 := by
  induction l generalizing i with
  | nil => simp
  | cons x l ih =>
    have hx : x < B := h x (by simp)
    rw [List.foldr_cons]
    cases i with
    | zero => simp [Nat.mod_eq_of_lt hx]
    | succ i =>
      rw [Nat.pow_succ', ← Nat.div_div_eq_div_mul, Nat.add_mul_div_right _ _ (by omega), Nat.div_eq_of_lt hx, Nat.zero_add,
        ih (fun y hy => h y (by simp [hy]))]
      rfl

theorem digit_range {B m n : Nat} {f : Nat → Nat} (hf : ∀ k, f k < B) (h : n < m) :
    (List.range m).foldr (fun k acc => f k + acc * B) 0 / B ^ n % B = f n := by
  have hlt : ∀ x ∈ (List.range m).map f, x < B := by
    intro x hx
    obtain ⟨k, -, rfl⟩ := List.mem_map.1 hx
    exact hf k
  have hdigit := digit_foldr hlt n
  rw [List.foldr_map] at hdigit
  rw [hdigit]
  simp [List.getD_eq_getElem?_getD, h]

theorem unsgn_lt {w : Nat} {v : Int} : unsgn w v < 2 ^ w := by
  have hpos : (0 : Int) < 2 ^ w := by positivity
  have hlt := Int.emod_lt_of_pos v hpos
  have hnn := Int.emod_nonneg v hpos.ne'
  unfold unsgn
  zify
  rw [Int.toNat_of_nonneg hnn]
  exact hlt

theorem tsLane_lt {s : State} {n : Nat} {rx : Bool} : tsLane s n rx < 2 ^ 40 := by
  unfold tsLane
  split_ifs
  · exact unsgn_lt
  · exact unsgn_lt
  · exact Nat.two_pow_pos 40

/-- The 80 bits of a port. -/
def tsPort (s : State) (n : Nat) : Nat := tsLane s n false + tsLane s n true * 2 ^ 40

theorem pair_lt {a b w : Nat} (ha : a < 2 ^ w) (hb : b < 2 ^ w) : a + b * 2 ^ w < 2 ^ (w + w) :=
  calc a + b * 2 ^ w < 2 ^ w + b * 2 ^ w := Nat.add_lt_add_right ha _
    _ = (b + 1) * 2 ^ w := by ring
    _ ≤ 2 ^ w * 2 ^ w := Nat.mul_le_mul_right _ hb
    _ = 2 ^ (w + w) := (Nat.pow_add 2 w w).symm

theorem tsPort_lt {s : State} {n : Nat} : tsPort s n < 2 ^ 80 := pair_lt tsLane_lt tsLane_lt

theorem tsBus_eq {s : State} : tsBus s = (List.range 24).foldr (fun n acc => tsPort s n + acc * 2 ^ 80) 0 := by
  simp only [tsBus, tsPort]

theorem tsBus_port {s : State} {n : Nat} (h : n < 24) : tsBus s / 2 ^ (80 * n) % 2 ^ 80 = tsPort s n := by
  rw [tsBus_eq, Nat.pow_mul]
  exact digit_range (fun _ => tsPort_lt) h

theorem tsBus_tx {s : State} {n : Nat} (h : n < 24) : tsBus s / 2 ^ (80 * n) % 2 ^ 40 = tsLane s n false := by
  rw [← Nat.mod_mod_of_dvd _ (show 2 ^ 40 ∣ 2 ^ 80 from pow_dvd_pow 2 (by omega)), tsBus_port h, tsPort, Nat.add_mul_mod_self_right,
    Nat.mod_eq_of_lt tsLane_lt]

theorem tsBus_rx {s : State} {n : Nat} (h : n < 24) : tsBus s / 2 ^ (80 * n + 40) % 2 ^ 40 = tsLane s n true := by
  rw [Nat.pow_add, ← Nat.div_div_eq_div_mul, ← Nat.mod_mul_right_div_self, ← Nat.pow_add, tsBus_port h, tsPort,
    Nat.add_mul_div_right _ _ (by positivity), Nat.div_eq_of_lt tsLane_lt, Nat.zero_add]

theorem tsLane_of_on {s : State} {n : Nat} (hd : domOn s dTIME = true) :
    tsLane s n false = unsgn 40 ((s.tmu.lc / 2 ^ 24 : Nat) + sgn 24 (rget s (rP_TX_DELAY n)).toNat)
      ∧ tsLane s n true = unsgn 40 ((s.tmu.lc / 2 ^ 24 : Nat) - sgn 24 (rget s (rP_RX_DELAY n)).toNat) := by
  simp [tsLane, hd]

theorem tsBus_of_off {s : State} (hd : domOn s dTIME = false) : tsBus s = 0 := by
  have hlane (n : Nat) (rx : Bool) : tsLane s n rx = 0 := by simp [tsLane, hd]
  have hfold (l : List Nat) : l.foldr (fun n acc => tsLane s n false + tsLane s n true * 2 ^ 40 + acc * 2 ^ 80) 0 = 0 := by
    induction l with
    | nil => rfl
    | cons n l ih => rw [List.foldr_cons, ih, hlane, hlane, Nat.zero_mul, Nat.zero_mul]
  exact hfold _

/-- Settles O50: each event acts when it is due, and the bus carries the lanes of every port. -/
theorem timeEventsActOnTheTimeUnit : Obligations.TimeEventsActOnTheTimeUnit := by
  unfold Obligations.TimeEventsActOnTheTimeUnit
  intro s hd
  refine ⟨fun h => next_finalize_congr (lcHalfwrap_of_due hd h), fun h => next_finalize_congr (lcHalfwrap_of_not_due h), ?loss,
    fun hs h => next_finalize_congr (slewDone_of_equal hd hs h), fun h => next_finalize_congr (slewDone_of_apart h),
    fun falling h => next_finalize_congr (cycSyncEdge_of_off h), ?edge, ?pull,
    fun k e hk he hon => next_finalize_congr (cycSyncLost_of_on hd hk he hon), fun hb => ?clear, fun n => ?bus, fun t ht => tsBus_of_off ht⟩
  case loss =>
    intro k hst
    refine ⟨fun h => ?_, fun h => next_finalize_congr (sampleLoss_of_early h)⟩
    refine ⟨_, next_finalize_congr (sampleLoss_of_expired hd hst h), ?_⟩
    split_ifs with hsel
    · exact ⟨(dom_autoSwitch _).trans dom_holdoverState_self, (dom_autoSwitch _).trans dom_holdoverState_other, by simp, by simp,
        fun hne => absurd hsel hne, by simp, by simp⟩
    · exact ⟨dom_holdoverState_self, dom_holdoverState_other, by simp, by simp, fun _ => by simp, by simp, by simp⟩
  case edge =>
    rintro falling r b k e0 e hon hf hr rfl rfl rfl he
    obtain rfl : e = edgeOffset s r := he
    refine ⟨fun h => next_finalize_congr (cycSyncEdge_of_second hd hon hf hr h), fun h => ?_⟩
    refine ⟨_, next_finalize_congr (cycSyncEdge_of_first hd hon hf hr h), ?_⟩
    split_ifs
    · simp only [raise_leaves]
      exact ⟨rfl, rfl, rfl, rfl, ⟨_, rfl, rfl⟩, rfl, rfl, rfl, rfl, rfl⟩
    · exact ⟨rfl, rfl, rfl, rfl, ⟨_, rfl, rfl⟩, rfl, rfl, rfl, rfl, rfl⟩
  case pull =>
    rintro d t rest r k hp hr rfl
    exact ⟨fun h => ⟨_, next_finalize_congr (cycPullApply_of_due hp hr hd h), by cases d <;> rfl, rfl, rfl, rfl, rfl, rfl, rfl⟩,
      fun h => next_finalize_congr (cycPullApply_of_early hp hr h)⟩
  case clear =>
    rw [exec_hostRow_free rfl hb]
    exact next_finalize_congr (tmuSyncClear_of_on hd)
  case bus => exact ⟨(tsBus_tx n.isLt).trans (tsLane_of_on hd).1, (tsBus_rx n.isLt).trans (tsLane_of_on hd).2⟩

end Sys2Proof.Machine

/-! PROOF. O53: the host's writes to an event ring and to the pending bits, and an entry on its way to the ring (R40, R530 to R533). -/

namespace Sys2Proof.Machine

/-! ### The host's writes: enabling, the head and the pending bits -/

section
variable {m : Nat} {v : Word} {s : State}

theorem evtRingCtrl_of_off (hd : domOn s dHOST = false) : evtRingCtrl m v s = s := by simp [evtRingCtrl, hd]

theorem evtRingHead_of_off (hd : domOn s dHOST = false) : evtRingHead m v s = s := by simp [evtRingHead, hd]

theorem evtPendClear_of_off (hd : domOn s dHOST = false) : evtPendClear m v s = s := by simp [evtPendClear, hd]

theorem eventRingWrite_of_off (hd : domOn s dHOST = false) : eventRingWrite m s = s := by simp [eventRingWrite, hd]

theorem evtRingHead_of_on (hd : domOn s dHOST = true) : evtRingHead m v s = setEvRing m { evRing s m with head := fld v 0 12 } s :=
  if_pos hd

theorem evtPendClear_of_on (hd : domOn s dHOST = true) : evtPendClear m v s = rset (rEVT_PEND m) (rget s (rEVT_PEND m) &&& ~~~v) s :=
  if_pos hd

theorem evtRingCtrl_of_disable (hd : domOn s dHOST = true) (he : (evRing s m).enable = true) (hv : flag v 0 = false) :
    evtRingCtrl m v s = setEvRing m { evRing s m with enable := false, queue := [], lost := 0 } s := by
  simp [evtRingCtrl, hd, he, hv]

theorem evtRingCtrl_of_good (hd : domOn s dHOST = true) (he : (evRing s m).enable = false) (hv : flag v 0 = true) (hlo : 4 ≤ fld v 8 4)
    (hhi : fld v 8 4 ≤ 12) (hb : evBase s m % 2 ^ (fld v 8 4 + 4) = 0) :
    evtRingCtrl m v s = setEvRing m { enable := true, log2 := fld v 8 4 } s := by
  simp [evtRingCtrl, hd, he, hv, hb, Nat.not_lt.mpr hlo, Nat.not_lt.mpr hhi]

theorem evtRingCtrl_of_bad (hd : domOn s dHOST = true) (he : (evRing s m).enable = false) (hv : flag v 0 = true)
    (h : fld v 8 4 < 4 ∨ 12 < fld v 8 4 ∨ evBase s m % 2 ^ (fld v 8 4 + 4) ≠ 0) :
    evtRingCtrl m v s = setEvRing m { evRing s m with log2 := fld v 8 4, cfgErr := true } s := by
  simp only [evtRingCtrl, hd, he, hv, Bool.not_true, Bool.false_eq_true, if_false]
  exact if_pos (by simpa [or_assoc] using h)

end

/-! ### An entry written at TAIL (R531) -/

section
variable {m : Nat} {e : EvEntry} {s : State}

theorem evWords_bytes (ph : Bool) (e : EvEntry) : (wordsBytes (evWords ph e)).length = 12 := rfl

/-- The ring after an entry was written: its tail moved on, and its phase turned at the wrap. -/
def movedTail (r : EvRing) : EvRing :=
  { r with tail := (r.tail + 1) % 2 ^ r.log2, phase := if (r.tail + 1) % 2 ^ r.log2 = 0 then !r.phase else r.phase }

/-- Host memory that takes an entry has it at TAIL, and the tail moves on. -/
theorem evPut_good (h : memWrBad s (evBase s m + 12 * (evRing s m).tail) 12 = false) :
    ∃ t, evPut m e s = (setEvRing m (movedTail (evRing s m)) { s with mem := t }, true) ∧
      ∀ k, tabGet 0 t k = if evBase s m + 12 * (evRing s m).tail ≤ k ∧ k < evBase s m + 12 * (evRing s m).tail + 12
        then (wordsBytes (evWords (evRing s m).phase e)).getD (k - (evBase s m + 12 * (evRing s m).tail)) 0 else memByte s k := by
  obtain ⟨t, hw, hmem⟩ := writeEntry_good (ws := evWords (evRing s m).phase e) ((evWords_bytes _ e).symm ▸ by decide) h
  exact ⟨t, by simp only [evPut, hw]; rfl, hmem⟩

theorem eventRingWrite_of_full (h : evFull (evRing s m) = true) : eventRingWrite m s = s := by simp [eventRingWrite, h]

theorem eventRingWrite_of_queued {rest : List EvEntry} (hd : domOn s dHOST = true) (he : (evRing s m).enable = true)
    (hf : evFull (evRing s m) = false) (hl : (evRing s m).lost = 0) (hq : (evRing s m).queue = e :: rest) :
    eventRingWrite m s = (evPut m e (setEvRing m { evRing s m with queue := rest } s)).1 := by
  simp only [eventRingWrite, hd, he, hf, hl, hq, Bool.not_false, Bool.and_self, if_true, Nat.lt_irrefl, if_false]

theorem eventRingWrite_of_lost (hd : domOn s dHOST = true) (he : (evRing s m).enable = true) (hf : evFull (evRing s m) = false)
    (hl : 0 < (evRing s m).lost) : eventRingWrite m s = evReport m s := by
  simp [eventRingWrite, hd, he, hf, hl]

/-- HR_EVR_OVERFLOW with the number of events lost. -/
def overflowEvent (s : State) (m : Nat) : Event := { src := 10, inst := m, detail := (evRing s m).lost, sev := sevOf 10, skip := some m }

/-- The state in which a report is being written: its sequence number is used and the event is raised. -/
def reporting (m : Nat) (s : State) : State :=
  { setEvRing m { evRing s m with seq := ((evRing s m).seq + 1) % 2 ^ 16 } s with raised := s.raised ++ [overflowEvent s m] }

theorem evRing_reporting_self : evRing (reporting m s) m = { evRing s m with seq := ((evRing s m).seq + 1) % 2 ^ 16 } := evRing_setEvRing_self

theorem evRing_reporting_ne {k : Nat} (hk : k ≠ m) : evRing (reporting m s) k = evRing s k := evRing_setEvRing_ne hk

/-- A report that host memory takes moves the tail on and clears the number of events lost. -/
theorem evReport_good (h : memWrBad s (evBase s m + 12 * (evRing s m).tail) 12 = false) :
    ∃ t, evReport m s = setEvRing m { movedTail (evRing (reporting m s) m) with lost := 0 }
      (setEvRing m (movedTail (evRing (reporting m s) m)) { reporting m s with mem := t }) := by
  have hr : memWrBad (reporting m s) (evBase (reporting m s) m + 12 * (evRing (reporting m s) m).tail) 12 = false := by
    rw [evRing_reporting_self]
    exact h
  obtain ⟨t, hput, -⟩ := evPut_good (e := { ev := overflowEvent s m, time := stamp s, notime := !domOn s dTIME, seq := (evRing s m).seq }) hr
  refine ⟨t, ?_⟩
  unfold evReport
  change (match evPut m _ (reporting m s) with | (s, true) => setEvRing m { evRing s m with lost := 0 } s | (s, false) => s) = _
  simp only [overflowEvent] at hput
  rw [hput]
  simp only [evRing_setEvRing_self]

theorem evRing_evLose_self : evRing (evLose m s) m = { evRing s m with lost := satAdd 24 (evRing s m).lost 1 } := evRing_setEvRing_self

/-- An event routed to a full ring is lost. -/
theorem evQueue_of_full {ev : Event} (he : (evRing s m).enable = true) (hf : evFull (evRing s m) = true) :
    evQueue m ev s = evLose m (setEvRing m { evRing s m with seq := ((evRing s m).seq + 1) % 2 ^ 16 } s) := by
  simp [evQueue, he, hf]

end

/-- Settles O53: each write acts on its ring alone, an entry goes to TAIL where there is space, and the losses are reported first. -/
theorem eventRingsAndPendingBits : Obligations.EventRingsAndPendingBits := by
  unfold Obligations.EventRingsAndPendingBits
  intro m v s
  refine ⟨fun hd => ⟨next_finalize_congr (eventRingWrite_of_off hd), fun hb => ?off⟩, fun hd => ⟨fun hb => ?writes, ?entry, ?report, ?lose⟩⟩
  case off =>
    have hd' : domOn (hostTurn s) dHOST = false := hd
    refine ⟨?_, ?_, fun b => ?_⟩ <;> rw [exec_hostRow_free rfl hb]
    · exact next_finalize_congr (evtRingCtrl_of_off hd')
    · exact next_finalize_congr (evtRingHead_of_off hd')
    · exact next_finalize_congr (evtPendClear_of_off hd')
  case writes =>
    have hd' : domOn (hostTurn s) dHOST = true := hd
    refine ⟨?_, fun b => ?_, fun he hv => ⟨fun hlo hhi hbase => ?_, fun hbad => ?_⟩, fun he hv => ?_⟩ <;> rw [exec_hostRow_free rfl hb]
    · exact next_finalize_congr (evtRingHead_of_on hd')
    · exact next_finalize_congr (evtPendClear_of_on hd')
    · exact next_finalize_congr (evtRingCtrl_of_good (s := hostTurn s) hd' he hv hlo hhi hbase)
    · exact next_finalize_congr (evtRingCtrl_of_bad (s := hostTurn s) hd' he hv hbad)
    · exact next_finalize_congr (evtRingCtrl_of_disable (s := hostTurn s) hd' he hv)
  case entry =>
    intro e rest he hl hq
    refine ⟨fun hf hgood => ?_, fun hf => next_finalize_congr (eventRingWrite_of_full hf)⟩
    let w := setEvRing m { evRing s m with queue := rest } s
    have hring : evRing w m = { evRing s m with queue := rest } := evRing_setEvRing_self
    obtain ⟨t, hput, hmem⟩ := evPut_good (e := e) (s := w) (m := m) (by rw [hring]; exact hgood)
    rw [hring] at hput hmem
    refine ⟨_, next_finalize_congr ((eventRingWrite_of_queued hd he hf hl hq).trans (congrArg Prod.fst hput)), ?_⟩
    have hself : evRing (setEvRing m (movedTail { evRing s m with queue := rest }) { w with mem := t }) m
        = movedTail { evRing s m with queue := rest } := evRing_setEvRing_self
    rw [hself]
    refine ⟨rfl, rfl, rfl, fun j hj => ?_, fun a ha => ?_, fun k hk => ?_, rfl, rfl⟩
    · refine (hmem _).trans ((if_pos ⟨Nat.le_add_right _ _, Nat.add_lt_add_left hj _⟩).trans ?_)
      exact congrArg (fun i => (wordsBytes (evWords (evRing s m).phase e)).getD i 0) (Nat.add_sub_cancel_left _ _)
    · exact (hmem a).trans (if_neg fun h => ha.elim (fun hlt => Nat.not_le.mpr hlt h.1) (fun hge => Nat.not_lt.mpr hge h.2))
    · exact (evRing_setEvRing_ne hk).trans (evRing_setEvRing_ne (s := s) hk)
  case report =>
    intro he hl hf hgood
    obtain ⟨t, hrep⟩ := evReport_good hgood
    refine ⟨_, next_finalize_congr ((eventRingWrite_of_lost hd he hf hl).trans hrep), ?_⟩
    rw [evRing_setEvRing_self, evRing_reporting_self]
    exact ⟨rfl, rfl, rfl, rfl, fun k hk => by rw [evRing_setEvRing_ne hk, evRing_setEvRing_ne hk]; exact evRing_reporting_ne hk, rfl, rfl⟩
  case lose =>
    intro e he hf
    rw [evQueue_of_full he hf]
    refine ⟨?_, ?_, ?_, rfl⟩
    · exact (congrArg EvRing.queue evRing_evLose_self).trans (by rw [evRing_setEvRing_self])
    · exact (congrArg EvRing.lost evRing_evLose_self).trans (by rw [evRing_setEvRing_self])
    · exact rfld_rsat_self (by decide)

end Sys2Proof.Machine

/-! PROOF. O56: the requests for a power state and for power domains (R479 to R489). -/

namespace Sys2Proof.Machine

/-! ### Stopping every ring -/

@[simp] theorem reserveMembers_power {n : Nat} {s : State} : (reserveMembers n s).pwr = s.pwr ∧ (reserveMembers n s).dome = s.dome := by
  unfold reserveMembers
  split <;> simp

@[simp] theorem checkStopped_power {n : Nat} {s : State} : (checkStopped n s).pwr = s.pwr ∧ (checkStopped n s).dome = s.dome := by
  unfold checkStopped
  dsimp only
  split <;> simp

@[simp] theorem stopRing_power {n : Nat} {s : State} : (stopRing n s).pwr = s.pwr ∧ (stopRing n s).dome = s.dome := by
  unfold stopRing
  dsimp only
  split <;> simp

/-- Stopping rings leaves the registers, the power controller and the Dome. -/
theorem foldl_stopRing_leaves (l : List Nat) (s : State) : (l.foldl (fun s n => stopRing n s) s).regs = s.regs
    ∧ (l.foldl (fun s n => stopRing n s) s).pwr = s.pwr ∧ (l.foldl (fun s n => stopRing n s) s).dome = s.dome := by
  induction l generalizing s with
  | nil => exact ⟨rfl, rfl, rfl⟩
  | cons n l ih => simp [ih]

@[simp] theorem stopRings_leaves {s : State} : (stopRings s).regs = s.regs ∧ (stopRings s).pwr = s.pwr ∧ (stopRings s).dome = s.dome :=
  foldl_stopRing_leaves _ _

theorem stopRing_self_not_running {n : Nat} {s : State} : (ring (stopRing n s) n).state ≠ .running := by
  by_cases h : (ring s n).state = .running
  · rw [ring_stopRing_self h]
    split_ifs
    · exact RState.noConfusion
    · exact RState.noConfusion
  · rwa [stopRing, if_neg h]

theorem stopRing_not_running {n k : Nat} {s : State} (h : (ring s k).state ≠ .running) : (ring (stopRing n s) k).state ≠ .running := by
  by_cases hk : k = n
  · exact hk ▸ stopRing_self_not_running
  · rwa [ring_stopRing_ne hk]

theorem foldl_stopRing_not_running {k : Nat} (l : List Nat) (s : State) (h : k ∈ l ∨ (ring s k).state ≠ .running) :
    (ring (l.foldl (fun s n => stopRing n s) s) k).state ≠ .running := by
  induction l generalizing s with
  | nil => simpa using h
  | cons n l ih =>
    refine ih _ ?_
    obtain hk | hk := h
    · obtain rfl | hk := List.mem_cons.mp hk
      · exact .inr stopRing_self_not_running
      · exact .inl hk
    · exact .inr (stopRing_not_running hk)

theorem tabGet_of_not_mem {α : Type} {d : α} {k : Nat} {t : Tab α} (h : k ∉ tabKeys t) : tabGet d t k = d := by
  induction t with
  | nil => rfl
  | cons p t ih =>
    simp only [tabKeys, List.map_cons, List.mem_cons, not_or] at h
    obtain ⟨hp, ht⟩ := h
    exact (if_neg (Ne.symm hp)).trans (ih ht)

/-- No ring runs once all were stopped; a ring that the table does not list is DISABLED. -/
theorem stopRings_not_running (s : State) (k : Nat) : (ring (stopRings s) k).state ≠ .running := by
  refine foldl_stopRing_not_running _ s ?_
  by_cases hk : k ∈ tabKeys s.rings
  · exact .inl hk
  · refine .inr ?_
    rw [ring, tabGet_of_not_mem hk]
    exact RState.noConfusion

/-! ### Requests of power states -/

section
variable {s : State}

theorem not_entering_of_not_busy (h : pwrBusy s = false) : entering s = false := by
  have ht : s.pwr.trans = .none := by simpa [pwrBusy] using h
  rw [entering, ht]

theorem wakeRequest_of_run (he : entering s = false) (hst : s.pwr.state = .run) : wakeRequest s = s := by
  simp [wakeRequest, he, hst]

/-- The power controller as a wake from OFF begins. -/
def coldPwr (s : State) : Pwr :=
  { s.pwr with trans := .wake true, prev := .off, stage := 6, todo := wakeList s, nextAt := none, wakeO := true, retO := true, wakeAt := s.clock }

theorem wakeRequest_of_off (hst : s.pwr.state = .off) (ht : s.pwr.trans = .none) : wakeRequest s = { s with pwr := coldPwr s } := by
  have he : entering s = false := by rw [entering, ht]
  simp only [wakeRequest, he, hst, ht, Bool.false_eq_true, if_false, if_true]
  rfl

theorem vchWake_of_off (hst : s.pwr.state = .off) (ht : s.pwr.trans = .none) :
    vchWake true s = { s with pwr := coldPwr { s with pwr := { s.pwr with wakePin := true } } } := by
  refine (if_pos ?_).trans (wakeRequest_of_off (s := { s with pwr := { s.pwr with wakePin := true } }) hst ht)
  simp [modPwr, hst]

theorem pwrReq_of_busy (h : pwrBusy s = true) :
    pwrReqIdle s = pwrRefuse 1 5 s ∧ pwrReqRetain s = pwrRefuse 2 5 s ∧ pwrReqOff s = pwrRefuse 3 5 s :=
  ⟨if_pos h, if_pos h, if_pos h⟩

/-- The power controller as IDLE is entered. -/
def idlePwr (s : State) : Pwr := { s.pwr with state := .idle, stage := 0 }

theorem pwrReqIdle_of_ok (h : pwrBusy s = false) (hst : s.pwr.state = .run) (hi : idleOk s = true) (hp : s.tmp.pendMask = 0)
    (hw : s.pwr.wakePin = false) : pwrReqIdle s = raiseState .run { rset rPWR_REQ 1 s with pwr := idlePwr s } := by
  simp only [pwrReqIdle, h, hst, hi, Bool.false_eq_true, if_false, ne_eq, not_true_eq_false, Bool.not_true]
  exact if_neg (by simp [raiseState, modPwr, hp, hw])

theorem pwrReqIdle_of_not_ok (h : pwrBusy s = false) (hst : s.pwr.state = .run) (hi : idleOk s = false) :
    pwrReqIdle s = pwrRefuse 1 1 s := by
  simp [pwrReqIdle, h, hst, hi]

theorem pwrReqOff_of_off (hst : s.pwr.state = .off) (ht : s.pwr.trans = .none) : pwrReqOff s = pwrRefuse 3 7 s := by
  have hb : pwrBusy s = false := by simp [pwrBusy, ht]
  simp only [pwrReqOff, hb, hst, Bool.false_eq_true, if_false]

theorem startEntry_of_cause {toOff : Bool} {c : Nat} (h : entryCause toOff s = some c) :
    startEntry toOff s = pwrRefuse (if toOff then 3 else 2) c s := by
  simp only [startEntry, h]

/-- The power controller as the entry to RETAIN or OFF begins. -/
def entryPwr (toOff : Bool) (s : State) : Pwr :=
  { s.pwr with state := .run, prev := s.pwr.state, trans := .entry toOff, stage := 1, wakeHeld := false, restoreReq := false, restoring := false,
               entryAt := s.clock }

theorem startEntry_of_ok {toOff : Bool} (h : entryCause toOff s = none) :
    startEntry toOff s = stopRings { rset rPWR_REQ (mkW (if toOff then 3 else 2)) s with pwr := entryPwr toOff s } := by
  simp only [startEntry, h]
  rfl

theorem pwrReqRetain_of_run (h : pwrBusy s = false) (hst : s.pwr.state = .run) : pwrReqRetain s = startEntry false s := by
  simp only [pwrReqRetain, h, hst, Bool.false_eq_true, if_false]

theorem pwrReqOff_of_run (h : pwrBusy s = false) (hst : s.pwr.state = .run) : pwrReqOff s = startEntry true s := by
  simp only [pwrReqOff, h, hst, Bool.false_eq_true, if_false]

/-- What an entry to RETAIN or OFF that starts leaves behind. -/
theorem startEntry_starts {toOff : Bool} (h : entryCause toOff s = none) :
    (startEntry toOff s).pwr = entryPwr toOff s ∧ (∀ n, (ring (startEntry toOff s) n).state ≠ .running)
    ∧ rget (startEntry toOff s) rPWR_REQ = mkW (if toOff then 3 else 2) ∧ (startEntry toOff s).mem = s.mem
    ∧ (startEntry toOff s).dome = s.dome := by
  rw [startEntry_of_ok h]
  refine ⟨stopRings_leaves.2.1, stopRings_not_running _, ?_, stopRings_pending_mem.2, stopRings_leaves.2.2⟩
  rw [rget, stopRings_leaves.1]
  exact rget_rset_self _ _ _

theorem pwrRefuse_leaves {req c : Nat} : (pwrRefuse req c s).pwr = { s.pwr with refuse := c } ∧ (pwrRefuse req c s).regs = s.regs
    ∧ (pwrRefuse req c s).rings = s.rings := by
  simp [pwrRefuse, modPwr]

/-! ### Requests of power domains (R479) -/

/-- The switches that a write of the mask has to open. -/
def domainOffs (w : Nat) (s : State) : List Nat := offOrder.filter fun d => domOn s d && !w.testBit d

/-- The switches that it has to close. -/
def domainOns (w : Nat) (s : State) : List Nat := onOrder.filter fun d => !domOn s d && w.testBit d

/-- The power controller as domains begin to switch. -/
def domainPwr (w : Nat) (s : State) : Pwr :=
  { s.pwr with trans := .domains, prev := .run, stage := if (domainOffs w s).isEmpty then 5 else 4,
               todo := ((domainOffs w s).map fun d => (d, false)) ++ ((domainOns w s).map fun d => (d, true)), nextAt := none, drained := false }

theorem domain_range {d : Nat} (h : d ∈ offOrder ∨ d ∈ onOrder) : 3 ≤ d ∧ d < 8 := by
  have hall : (∀ d ∈ offOrder, 3 ≤ d ∧ d < 8) ∧ ∀ d ∈ onOrder, 3 ≤ d ∧ d < 8 := by decide
  exact h.elim (hall.1 d) (hall.2 d)

theorem domainOffs_eq_nil {w : Nat} (h : ∀ d, 3 ≤ d → d < 8 → w.testBit d = domOn s d) : domainOffs w s = [] :=
  List.filter_eq_nil_iff.mpr fun d hd => by
    obtain ⟨h3, h8⟩ := domain_range (.inl hd)
    simp [h d h3 h8]

theorem domainOns_eq_nil {w : Nat} (h : ∀ d, 3 ≤ d → d < 8 → w.testBit d = domOn s d) : domainOns w s = [] :=
  List.filter_eq_nil_iff.mpr fun d hd => by
    obtain ⟨h3, h8⟩ := domain_range (.inr hd)
    simp [h d h3 h8]

theorem domain_orders {d : Nat} (h3 : 3 ≤ d) (h8 : d < 8) : d ∈ offOrder ∧ d ∈ onOrder := by
  interval_cases d <;> decide

theorem domain_moves_ne_nil {w d : Nat} (h3 : 3 ≤ d) (h8 : d < 8) (h : w.testBit d ≠ domOn s d) :
    domainOffs w s ≠ [] ∨ domainOns w s ≠ [] := by
  obtain ⟨hoff, hon⟩ := domain_orders h3 h8
  cases hd : domOn s d with
  | true => exact .inl (List.ne_nil_of_mem (List.mem_filter.mpr ⟨hoff, by simpa [hd] using h⟩))
  | false => exact .inr (List.ne_nil_of_mem (List.mem_filter.mpr ⟨hon, by simpa [hd] using h⟩))

/-- The mask that a write of PWR_DOMAIN asks for: the first three domains stay. -/
def domainMask (v : Nat) : Nat := (v % 2 ^ 8) ||| 7

theorem pwrDomainWrite_of_same {v : Nat} (h : pwrBusy s = false) (hst : s.pwr.state = .run)
    (hd : ∀ d, 3 ≤ d → d < 8 → (domainMask v).testBit d = domOn s d) : pwrDomainWrite v s = rset rPWR_DOMAIN (mkW (domainMask v)) s := by
  simp only [pwrDomainWrite, h, hst, Bool.false_eq_true, if_false]
  refine if_pos (List.isEmpty_iff.mpr (List.append_eq_nil_iff.mpr ⟨?_, ?_⟩))
  · exact List.map_eq_nil_iff.mpr (domainOffs_eq_nil hd)
  · exact List.map_eq_nil_iff.mpr (domainOns_eq_nil hd)

theorem pwrDomainWrite_of_change {v d : Nat} (h : pwrBusy s = false) (hst : s.pwr.state = .run) (h3 : 3 ≤ d) (h8 : d < 8)
    (hd : (domainMask v).testBit d ≠ domOn s d) : pwrDomainWrite v s = towersLeave (domainOffs (domainMask v) s)
      { rset rPWR_DOMAIN (mkW (domainMask v)) s with pwr := domainPwr (domainMask v) s } := by
  simp only [pwrDomainWrite, h, hst, Bool.false_eq_true, if_false]
  refine if_neg fun hnil => ?_
  obtain ⟨hoff, hon⟩ := List.append_eq_nil_iff.mp (List.isEmpty_iff.mp hnil)
  obtain hne | hne := domain_moves_ne_nil h3 h8 hd
  · exact hne (List.map_eq_nil_iff.mp hoff)
  · exact hne (List.map_eq_nil_iff.mp hon)

end

/-! ### Towers that leave the service -/

/-- Register writes one after the other leave a register that is none of them. -/
theorem rget_foldl_rset_ne {α : Type} {o : Nat} {off : α → Nat} {v : α → Word} {l : List α} (s : State) (h : ∀ a ∈ l, o ≠ off a) :
    rget (l.foldl (fun s w => rset (off w) (v w) s) s) o = rget s o := by
  induction l generalizing s with
  | nil => rfl
  | cons a l ih =>
    rw [List.foldl_cons, ih _ fun b hb => h b (List.mem_cons_of_mem _ hb), rget_rset_ne _ _ (h a List.mem_cons_self)]

@[simp] theorem foldl_rset_power {α : Type} {off : α → Nat} {v : α → Word} {l : List α} {s : State} :
    (l.foldl (fun s w => rset (off w) (v w) s) s).pwr = s.pwr ∧ (l.foldl (fun s w => rset (off w) (v w) s) s).rings = s.rings := by
  induction l generalizing s with
  | nil => exact ⟨rfl, rfl⟩
  | cons a l ih => simp only [List.foldl_cons, ih, rset_leaves, and_self]

@[simp] theorem refill_power {m : Nat} {s : State} : (refill m s).pwr = s.pwr ∧ (refill m s).rings = s.rings := by
  unfold refill noteHealth
  dsimp only
  split_ifs <;> simp

@[simp] theorem rget_raise {src inst detail o : Nat} {s : State} : rget (raise src inst detail s) o = rget s o := by simp [rget]

/-- The registers of the towers stand from 0x6000 on. -/
theorem rget_refill_low {m o : Nat} {s : State} (h : o < 0x6000) : rget (refill m s) o = rget s o := by
  have htab (l : List Nat) (v : Nat → Word) (u : State) : rget (l.foldl (fun s w => rset (rTWR_ITBL w) (v w) s) u) o = rget u o :=
    rget_foldl_rset_ne u fun w _ => (by unfold rTWR_ITBL; omega)
  unfold refill noteHealth
  dsimp only
  split_ifs
  all_goals
    simp only [rget_raise]
    rw [rget_rset_ne _ _ (by unfold rTWR_HEALTH; omega), rget_rset_ne _ _ (by unfold rTWR_CAP128; omega),
      rget_rset_ne _ _ (by unfold rTWR_CAP256; omega), rget_rset_ne _ _ (by unfold rTWR_ITBL_GEN; omega)]
    exact htab _ _ _

theorem foldl_setTower_leaves (f : Tower → Tower) (l : List Nat) (s : State) :
    (l.foldl (fun s t => setTower t (f (tower s t)) s) s).pwr = s.pwr ∧ (l.foldl (fun s t => setTower t (f (tower s t)) s) s).rings = s.rings
    ∧ (l.foldl (fun s t => setTower t (f (tower s t)) s) s).dome = s.dome ∧ (l.foldl (fun s t => setTower t (f (tower s t)) s) s).regs = s.regs := by
  induction l generalizing s with
  | nil => exact ⟨rfl, rfl, rfl, rfl⟩
  | cons t l ih => simp only [List.foldl_cons, ih, setTower_leaves, and_self]

theorem towersLeave_leaves {offs : List Nat} {o : Nat} {s : State} (h : o < 0x6000) : (towersLeave offs s).pwr = s.pwr
    ∧ (towersLeave offs s).rings = s.rings ∧ (towersLeave offs s).dome = s.dome ∧ rget (towersLeave offs s) o = rget s o := by
  unfold towersLeave arrayChange
  dsimp only
  generalize (if offs.contains dTWA then [0, 1, 2, 3] else []) ++ (if offs.contains dTWB then [4, 5, 6, 7] else []) = ts
  obtain ⟨hpwr, hrings, hdome, hregs⟩ := foldl_setTower_leaves (fun t => { t with leaving := true }) ts s
  have hreg : rget (ts.foldl (fun s t => setTower t { tower s t with leaving := true } s) s) o = rget s o := by rw [rget, hregs, rget]
  split_ifs
  · exact ⟨rfl, rfl, rfl, rfl⟩
  · exact ⟨hpwr, hrings, hdome, hreg⟩
  · exact ⟨refill_power.1.trans hpwr, refill_power.2.trans hrings, refill_leaves.2.2.2.2.2.trans hdome, (rget_refill_low h).trans hreg⟩

/-- Settles O56: each request starts its transition where its conditions hold, and is refused otherwise. -/
theorem powerRequestsStartTheirTransition : Obligations.PowerRequestsStartTheirTransition := by
  unfold Obligations.PowerRequestsStartTheirTransition
  intro s
  refine ⟨fun hb hst he => ?run, fun hb hbusy => ?busy, fun hb hbusy hst => ⟨fun hi hp hw => ?idle, fun hi => ?notIdle, fun h => ?retain, fun h => ?off,
    fun c h => ?refused, fun v h => ?same, fun v h => ?change⟩, fun hb hst ht => ⟨?offAgain, ?cold⟩, rfl, fun hst ht => ?pin,
    fun req c => pwrRefuse_leaves⟩
  case run =>
    rw [exec_hostRow_free rfl hb]
    exact next_finalize_congr (wakeRequest_of_run (s := rset rPWR_REQ 0 (hostTurn s)) he hst)
  case busy =>
    obtain ⟨hidle, hretain, hoff⟩ := pwrReq_of_busy (s := hostTurn s) hbusy
    refine ⟨?_, ?_, ?_⟩ <;> rw [exec_hostRow_free rfl hb]
    · exact next_finalize_congr hidle
    · exact next_finalize_congr hretain
    · exact next_finalize_congr hoff
  case idle =>
    rw [exec_hostRow_free rfl hb]
    exact next_finalize_congr (pwrReqIdle_of_ok (s := hostTurn s) hbusy hst hi hp hw)
  case notIdle =>
    rw [exec_hostRow_free rfl hb]
    exact next_finalize_congr (pwrReqIdle_of_not_ok (s := hostTurn s) hbusy hst hi)
  case retain =>
    obtain ⟨hpwr, hrun, hreq, hmem, hdome⟩ := startEntry_starts (s := hostTurn s) h
    refine ⟨startEntry false (hostTurn s), ?_, ?_, ?_, ?_, fun n _ => hrun n, hreq, hmem, hdome⟩
    · rw [exec_hostRow_free rfl hb]
      exact next_finalize_congr (pwrReqRetain_of_run (s := hostTurn s) hbusy hst)
    all_goals rw [hpwr]; rfl
  case off =>
    obtain ⟨hpwr, hrun, hreq, hmem, hdome⟩ := startEntry_starts (s := hostTurn s) h
    refine ⟨startEntry true (hostTurn s), ?_, ?_, ?_, ?_, fun n _ => hrun n, hreq, hmem, hdome⟩
    · rw [exec_hostRow_free rfl hb]
      exact next_finalize_congr (pwrReqOff_of_run (s := hostTurn s) hbusy hst)
    all_goals rw [hpwr]; rfl
  case refused =>
    rw [exec_hostRow_free rfl hb]
    exact next_finalize_congr ((pwrReqRetain_of_run (s := hostTurn s) hbusy hst).trans (startEntry_of_cause (s := hostTurn s) h))
  case same =>
    rw [exec_hostRow_free rfl hb]
    exact next_finalize_congr (pwrDomainWrite_of_same (s := hostTurn s) hbusy hst h)
  case change =>
    obtain ⟨d, h3, h8, hd⟩ := h
    rw [exec_hostRow_free rfl hb]
    refine ⟨_, next_finalize_congr (pwrDomainWrite_of_change (s := hostTurn s) hbusy hst h3 h8 hd), ?_⟩
    obtain ⟨hpwr, hrings, hdome, hreg⟩ := towersLeave_leaves (offs := domainOffs (domainMask v.toNat) (hostTurn s)) (o := rPWR_DOMAIN) (by decide)
    rw [hpwr, hrings, hdome, hreg, towersLeave_pending_mem.2]
    exact ⟨rfl, rfl, hst, rget_rset_self _ _ _, rfl, rfl, rfl⟩
  case offAgain =>
    rw [exec_hostRow_free rfl hb]
    exact next_finalize_congr (pwrReqOff_of_off (s := hostTurn s) hst ht)
  case cold =>
    rw [exec_hostRow_free rfl hb]
    exact ⟨_, next_finalize_congr (wakeRequest_of_off (s := rset rPWR_REQ 0 (hostTurn s)) hst ht), rfl, rfl, rfl, rfl, rfl, rfl⟩
  case pin =>
    exact ⟨_, next_finalize_congr (vchWake_of_off hst ht), rfl, rfl, rfl, rfl, rfl⟩

end Sys2Proof.Machine

/-! PROOF. O57: the switches of a transition move, domains drain and come up (R479, R483, R489, R500, R501). -/

namespace Sys2Proof.Machine

/-! ### What keeps the power controller and the registers below the links

The registers of the power controller stand below 0x2000; those that a link writes stand above. -/

/-- The registers below 0x2000. -/
def lowRegs (t : Tab Word) (o : Nat) : Word := if o < 0x2000 then tabGet (regReset o) t o else 0

theorem rget_of_lowRegs {s u : State} {o : Nat} (h : lowRegs u.regs = lowRegs s.regs) (ho : o < 0x2000) : rget u o = rget s o := by
  have heq := congrFun h o
  simp only [lowRegs, if_pos ho] at heq
  exact heq

@[simp] theorem lowRegs_rset {off : Nat} {v : Word} {s : State} (h : 0x2000 ≤ off) : lowRegs (rset off v s).regs = lowRegs s.regs := by
  funext o
  by_cases ho : o < 0x2000
  · simp only [lowRegs, if_pos ho]
    exact rget_rset_ne v s (show o ≠ off by omega)
  · simp only [lowRegs, if_neg ho]

@[simp] theorem lowRegs_perr {i w : Nat} {v : Word} {s : State} : lowRegs (rset (rSPL_PERR i w) v s).regs = lowRegs s.regs :=
  lowRegs_rset (by unfold rSPL_PERR; omega)

@[simp] theorem lowRegs_perrStatus {lo len inc : Nat} {s : State} : lowRegs (rsat rSPL_PERR_STATUS lo len inc s).regs = lowRegs s.regs :=
  lowRegs_rset (by decide)

/-- A repeated operation keeps what each repetition keeps. -/
theorem foldl_keeps {α β : Type} {f : State → α → State} {v : State → β} (h : ∀ s a, v (f s a) = v s) (l : List α) (s : State) :
    v (l.foldl f s) = v s := by
  induction l generalizing s with
  | nil => rfl
  | cons a l ih => rw [List.foldl_cons, ih, h]

theorem foldl_pwr_low {α : Type} {f : State → α → State} {l : List α} {s : State}
    (h : ∀ s a, (f s a).pwr = s.pwr ∧ lowRegs (f s a).regs = lowRegs s.regs) :
    (l.foldl f s).pwr = s.pwr ∧ lowRegs (l.foldl f s).regs = lowRegs s.regs :=
  ⟨foldl_keeps (v := State.pwr) (fun s a => (h s a).1) l s, foldl_keeps (v := fun s => lowRegs s.regs) (fun s a => (h s a).2) l s⟩

@[simp] theorem memWrite_pwr {s : State} {addr} {l} : (memWrite addr l s).1.pwr = s.pwr := by
  unfold memWrite
  split <;> simp

@[simp] theorem raiseSev_pwr_low {s : State} {sev} {src} {inst} {detail} :
    (raiseSev sev src inst detail s).pwr = s.pwr ∧ lowRegs (raiseSev sev src inst detail s).regs = lowRegs s.regs := by
  unfold raiseSev
  dsimp only
  split_ifs <;> simp

@[simp] theorem raisePerm_pwr_low {s : State} {n} {i} {r} :
    (raisePerm n i r s).pwr = s.pwr ∧ lowRegs (raisePerm n i r s).regs = lowRegs s.regs := by
  unfold raisePerm
  split <;> simp

@[simp] theorem finish_pwr_low {s : State} {n} {i} {r} :
    (finish n i r s).pwr = s.pwr ∧ lowRegs (finish n i r s).regs = lowRegs s.regs := by simp [finish]

@[simp] theorem effect_pwr_low {s u : State} {n} {i} {r} (hp : u.pwr = s.pwr) (hm : lowRegs u.regs = lowRegs s.regs) :
    (effect n i r u s).pwr = s.pwr ∧ lowRegs (effect n i r u s).regs = lowRegs s.regs := by
  unfold effect; split <;> simp [hp, hm]

@[simp] theorem freeBytes_pwr_low {s : State} {n} :
    (freeBytes n s).1.pwr = s.pwr ∧ lowRegs (freeBytes n s).1.regs = lowRegs s.regs := ⟨rfl, rfl⟩

@[simp] theorem havoc_pwr {s : State} {addr} {n} : (havoc addr n s).pwr = s.pwr := by simp [havoc]

@[simp] theorem jobEnd_pwr {s : State} {id} {n} {i} {r} : (jobEnd id n i r s).pwr = s.pwr := by
  unfold jobEnd
  dsimp only
  (repeat' split) <;> simp

@[simp] theorem belfryAssign_pwr_low {s : State} {sa} :
    (belfryAssign sa s).pwr = s.pwr ∧ lowRegs (belfryAssign sa s).regs = lowRegs s.regs := by
  unfold belfryAssign
  split <;> simp

@[simp] theorem epochStep_pwr_low {s : State} : (epochStep s).pwr = s.pwr ∧ lowRegs (epochStep s).regs = lowRegs s.regs := ⟨rfl, rfl⟩

@[simp] theorem postedErr_pwr_low {s : State} {p} {node} {tag} {addr} {code} :
    (postedErr p node tag addr code s).pwr = s.pwr ∧ lowRegs (postedErr p node tag addr code s).regs = lowRegs s.regs := by
  unfold postedErr
  dsimp only
  split <;> simp

@[simp] theorem enqueue_pwr_low {s : State} {p} {q} :
    (enqueue p q s).pwr = s.pwr ∧ lowRegs (enqueue p q s).regs = lowRegs s.regs := ⟨rfl, rfl⟩

@[simp] theorem sendOwn_pwr_low {s : State} {k} : (sendOwn k s).pwr = s.pwr ∧ lowRegs (sendOwn k s).regs = lowRegs s.regs := by
  unfold sendOwn
  split <;> [split_ifs; skip] <;> simp

@[simp] theorem refuseForward_pwr_low {s : State} {k} {st} {reason} {code} :
    (refuseForward k st reason code s).pwr = s.pwr ∧ lowRegs (refuseForward k st reason code s).regs = lowRegs s.regs := by
  unfold refuseForward
  split_ifs <;> simp

@[simp] theorem sendLeaseRecord_pwr_low {s : State} {node} {words} :
    (sendLeaseRecord node words s).pwr = s.pwr ∧ lowRegs (sendLeaseRecord node words s).regs = lowRegs s.regs := by simp [sendLeaseRecord]

@[simp] theorem sendRecord_pwr_low {s : State} {sa} {a} {endPn} :
    (sendRecord sa a endPn s).pwr = s.pwr ∧ lowRegs (sendRecord sa a endPn s).regs = lowRegs s.regs := by simp [sendRecord]

@[simp] theorem mirrorLostNow_pwr_low {s : State} {sa} {cause} :
    (mirrorLostNow sa cause s).pwr = s.pwr ∧ lowRegs (mirrorLostNow sa cause s).regs = lowRegs s.regs := by
  unfold mirrorLostNow
  dsimp only
  split <;> simp

@[simp] theorem recordLate_pwr_low {s : State} {sa} {cause} :
    (recordLate sa cause s).pwr = s.pwr ∧ lowRegs (recordLate sa cause s).regs = lowRegs s.regs := by
  unfold recordLate
  dsimp only
  (repeat' split) <;> simp

@[simp] theorem openRecord_pwr_low {s : State} {aon} {sa} {e} :
    (openRecord aon sa e s).pwr = s.pwr ∧ lowRegs (openRecord aon sa e s).regs = lowRegs s.regs := by
  unfold openRecord
  dsimp only
  split_ifs <;> simp

@[simp] theorem requestLease_pwr_low {s : State} {sa} :
    (requestLease sa s).pwr = s.pwr ∧ lowRegs (requestLease sa s).regs = lowRegs s.regs := by
  unfold requestLease
  dsimp only
  split <;> simp

@[simp] theorem leaseProgress_pwr_low {s : State} {sa} :
    (leaseProgress sa s).pwr = s.pwr ∧ lowRegs (leaseProgress sa s).regs = lowRegs s.regs := by
  unfold leaseProgress
  dsimp only
  (repeat' split) <;> simp

@[simp] theorem claimSlot_pwr_low {s : State} {k} :
    (claimSlot k s).pwr = s.pwr ∧ lowRegs (claimSlot k s).regs = lowRegs s.regs := ⟨rfl, rfl⟩

@[simp] theorem appInstall_pwr_low {s : State} {w} {plan} :
    (appInstall w plan s).pwr = s.pwr ∧ lowRegs (appInstall w plan s).regs = lowRegs s.regs := by
  unfold appInstall
  (repeat' split) <;> simp

@[simp] theorem bestNow_pwr_low {s : State} {sa} : (bestNow sa s).pwr = s.pwr ∧ lowRegs (bestNow sa s).regs = lowRegs s.regs := by
  unfold bestNow
  dsimp only
  (repeat' split) <;> simp

@[simp] theorem appAdjust_pwr_low {s : State} {w} :
    (appAdjust w s).pwr = s.pwr ∧ lowRegs (appAdjust w s).regs = lowRegs s.regs := by simp [appAdjust]

@[simp] theorem dropReserved_pwr_low {s : State} :
    (dropReserved s).pwr = s.pwr ∧ lowRegs (dropReserved s).regs = lowRegs s.regs := by simp [dropReserved]

@[simp] theorem dropStaging_pwr_low {s : State} :
    (dropStaging s).pwr = s.pwr ∧ lowRegs (dropStaging s).regs = lowRegs s.regs := ⟨rfl, rfl⟩

@[simp] theorem closeGroup_pwr_low {s : State} {n} {c} :
    (closeGroup n c s).pwr = s.pwr ∧ lowRegs (closeGroup n c s).regs = lowRegs s.regs := by simp [closeGroup]

@[simp] theorem groupFail_pwr_low {s : State} {n} {k} {r} :
    (groupFail n k r s).pwr = s.pwr ∧ lowRegs (groupFail n k r s).regs = lowRegs s.regs := by simp [groupFail]

@[simp] theorem adjustLost_pwr_low {s : State} {cause} {endPn} {w} :
    (adjustLost cause endPn w s).pwr = s.pwr ∧ lowRegs (adjustLost cause endPn w s).regs = lowRegs s.regs := by simp [adjustLost]

@[simp] theorem mirrorEffect_pwr_low {s : State} {sa} {o} {w} {ans} :
    (mirrorEffect sa o w ans s).1.pwr = s.pwr ∧ lowRegs (mirrorEffect sa o w ans s).1.regs = lowRegs s.regs := by
  unfold mirrorEffect
  (repeat' split) <;> simp

@[simp] theorem stagedAnswer_pwr_low {s : State} {sa} {lost} :
    (stagedAnswer sa lost s).pwr = s.pwr ∧ lowRegs (stagedAnswer sa lost s).regs = lowRegs s.regs := by
  unfold stagedAnswer
  split <;> simp

@[simp] theorem mirrorAnswer_pwr_low {s : State} {sa} {ans} :
    (mirrorAnswer sa ans s).pwr = s.pwr ∧ lowRegs (mirrorAnswer sa ans s).regs = lowRegs s.regs := by
  unfold mirrorAnswer; dsimp only
  (repeat' split) <;> simp [effect, apply_ite State.pwr, apply_ite lowRegs, apply_ite State.regs]

@[simp] theorem mirrorPortDown_pwr_low {s : State} {p} :
    (mirrorPortDown p s).pwr = s.pwr ∧ lowRegs (mirrorPortDown p s).regs = lowRegs s.regs := by
  unfold mirrorPortDown; dsimp only
  rw [(foldl_pwr_low fun s x => by (repeat' split) <;> simp).1, (foldl_pwr_low fun s x => by (repeat' split) <;> simp).2]
  exact foldl_pwr_low fun s sa => by (repeat' split) <;> simp

@[simp] theorem finishRun_pwr_low {s : State} {n} {i} {r} :
    (finishRun n i r s).pwr = s.pwr ∧ lowRegs (finishRun n i r s).regs = lowRegs s.regs := by
  unfold finishRun
  split <;> [split_ifs; skip] <;> simp

@[simp] theorem endTag_pwr_low {s : State} {t} {r} : (endTag t r s).pwr = s.pwr ∧ lowRegs (endTag t r s).regs = lowRegs s.regs := by
  unfold endTag
  split <;> simp

@[simp] theorem dropHold_pwr_low {s : State} {t} : (dropHold t s).pwr = s.pwr ∧ lowRegs (dropHold t s).regs = lowRegs s.regs := by
  unfold dropHold
  split <;> [split_ifs; skip] <;> simp

@[simp] theorem discardPkt_pwr_low {s : State} {p} {k} {own} {fwd} :
    (discardPkt p k own fwd s).pwr = s.pwr ∧ lowRegs (discardPkt p k own fwd s).regs = lowRegs s.regs := by
  unfold discardPkt
  (repeat' split) <;> simp

@[simp] theorem toDetect_pwr_low {s : State} {p} {at_} :
    (toDetect p at_ s).pwr = s.pwr ∧ lowRegs (toDetect p at_ s).regs = lowRegs s.regs := ⟨rfl, rfl⟩

@[simp] theorem startTraining_pwr_low {s : State} {p} :
    (startTraining p s).pwr = s.pwr ∧ lowRegs (startTraining p s).regs = lowRegs s.regs := by
  unfold startTraining
  split <;> simp

@[simp] theorem linkDown_pwr_low {s : State} {p} {cause} :
    (linkDown p cause s).pwr = s.pwr ∧ lowRegs (linkDown p cause s).regs = lowRegs s.regs := by
  unfold linkDown; dsimp only
  have htags (l : List (Nat × Tag)) (s : State) := foldl_pwr_low (l := l) (s := s) (f := fun s t => match t.2 with
    | .used use _ _ _ port _ => if port = p && use != .bcast then dropHold t.1 (endTag t.1 lostRes s) else s
    | _ => s) fun s t => by (repeat' split) <;> simp
  split_ifs
  · exact ⟨rfl, rfl⟩
  all_goals
    simp only [startTraining_pwr_low, mirrorPortDown_pwr_low]
    refine ⟨(htags _ _).1.trans ?_, (htags _ _).2.trans ?_⟩
    · rw [foldl_keeps (v := State.pwr) fun _ _ => discardPkt_pwr_low.1, foldl_keeps (v := State.pwr) fun _ _ => discardPkt_pwr_low.1]
      simp
    · rw [foldl_keeps (v := fun s => lowRegs s.regs) fun _ _ => discardPkt_pwr_low.2,
        foldl_keeps (v := fun s => lowRegs s.regs) fun _ _ => discardPkt_pwr_low.2]
      simp

@[simp] theorem abortRing_pwr_low {s : State} {d} {n} :
    (abortRing d n s).pwr = s.pwr ∧ lowRegs (abortRing d n s).regs = lowRegs s.regs := by
  unfold abortRing; dsimp only
  split
  · exact foldl_pwr_low fun s e => by (repeat' split) <;> simp
  · split
    · simp only [modRing_leaves]
      exact foldl_pwr_low fun s e => by (repeat' split) <;> simp
    · simp only [raise_leaves, reserveMembers_power, reserveMembers_regs, modRing_leaves]
      split
      · split
        · simp only [dropStaging_pwr_low]
          exact foldl_pwr_low fun s e => by (repeat' split) <;> simp
        · exact foldl_pwr_low fun s e => by (repeat' split) <;> simp
      · exact foldl_pwr_low fun s e => by (repeat' split) <;> simp

@[simp] theorem abortJobs_pwr {s : State} : (abortJobs s).pwr = s.pwr := by
  unfold abortJobs
  split_ifs
  · rfl
  · exact foldl_keeps (v := State.pwr) (fun s p => by split <;> simp) _ _

/-! ### Domains that come up (R341, R489) -/

@[simp] theorem noteHealth_ground {s : State} : (noteHealth s).pwr = s.pwr ∧ (noteHealth s).fuses = s.fuses ∧ (noteHealth s).marks = s.marks := by
  simp [noteHealth]

@[simp] theorem foldl_rset_ground {α : Type} {off : α → Nat} {v : α → Word} {l : List α} {s : State} :
    (l.foldl (fun s w => rset (off w) (v w) s) s).fuses = s.fuses ∧ (l.foldl (fun s w => rset (off w) (v w) s) s).marks = s.marks := by
  induction l generalizing s with
  | nil => exact ⟨rfl, rfl⟩
  | cons a l ih => simp only [List.foldl_cons, ih, rset_leaves, and_self]

@[simp] theorem refill_ground {m : Nat} {s : State} : (refill m s).fuses = s.fuses ∧ (refill m s).marks = s.marks := by
  unfold refill
  dsimp only
  split_ifs <;> simp

@[simp] theorem checkRemoved_ground {t : Nat} {s : State} :
    (checkRemoved t s).pwr = s.pwr ∧ (checkRemoved t s).fuses = s.fuses ∧ (checkRemoved t s).marks = s.marks := by
  unfold checkRemoved
  dsimp only
  split_ifs <;> simp

@[simp] theorem retireUnit_ground {t u c : Nat} {gh : Bool} {s : State} : (retireUnit t gh u c s).pwr = s.pwr
    ∧ (retireUnit t gh u c s).fuses = s.fuses ∧ (retireUnit t gh u c s).marks = s.marks := by
  unfold retireUnit
  dsimp only
  split_ifs <;> simp

@[simp] theorem enterService_ground {t : Nat} {s : State} :
    (enterService t s).pwr = s.pwr ∧ (enterService t s).fuses = s.fuses ∧ (enterService t s).marks = s.marks := by
  unfold enterService
  dsimp only
  split_ifs <;> simp

/-- What the towers never change: the power controller, the fuses and the lease marks. -/
def ground (s : State) : Pwr × Fuses × Tab Mark := (s.pwr, s.fuses, s.marks)

theorem ground_eq_iff {s u : State} : ground u = ground s ↔ u.pwr = s.pwr ∧ u.fuses = s.fuses ∧ u.marks = s.marks := by simp [ground]

theorem ground_retireMarked {t mark cause : Nat} {s : State} : ground (retireMarked t mark cause s) = ground s := by
  unfold retireMarked
  dsimp only
  rw [foldl_keeps (v := ground) fun s u => by split_ifs <;> simp [ground], foldl_keeps (v := ground) fun s u => by split_ifs <;> simp [ground]]

theorem ground_startTowers {ts : List Nat} {s : State} : ground (startTowers ts s) = ground s := by
  have hfold (s : State) := foldl_keeps (v := ground) (l := ts) (s := s) (f := fun s t => enterService t (setTower t
      { tower (retireMarked t (defectOf s t) 2 s) t with
          kat := healthyMask (tower (retireMarked t (defectOf s t) 2 s) t), started := false, leaving := false, cache := [] }
      (retireMarked t (defectOf s t) 2 s))) fun s t => by
    refine Eq.trans ?_ (ground_retireMarked (t := t) (mark := defectOf s t) (cause := 2))
    simp [ground]
  unfold startTowers arrayChange
  dsimp only
  split_ifs
  · exact hfold s
  · exact (by simp [ground] : ground _ = ground _).trans (hfold s)

theorem ground_setDomeSt {st : DomeSt} {s : State} : ground (setDomeSt st s) = ground s := by
  unfold setDomeSt
  split_ifs <;> simp [ground]

theorem domeUp_ground {s : State} : (domeUp s).pwr.on = s.pwr.on ∧ (domeUp s).fuses = s.fuses ∧ (domeUp s).marks = s.marks := by
  unfold domeUp
  dsimp only
  split_ifs
  · exact ⟨rfl, rfl, rfl⟩
  · obtain ⟨hpwr, hfuses, hmarks⟩ := ground_eq_iff.mp (ground_setDomeSt (st := .alarmed) (s := _))
    exact ⟨congrArg Pwr.on hpwr, hfuses, hmarks⟩
  · exact ⟨rfl, rfl, rfl⟩

/-- Bringing up a domain sets its bit, and leaves host memory, fuses and lease marks. -/
theorem domainUp_leaves (d : Nat) (s : State) : (domainUp d s).pwr.on = setBit1 s.pwr.on d ∧ (domainUp d s).mem = s.mem
    ∧ (domainUp d s).fuses = s.fuses ∧ (domainUp d s).marks = s.marks := by
  have htowers (ts : List Nat) (s : State) : (startTowers ts s).pwr.on = s.pwr.on ∧ (startTowers ts s).mem = s.mem
      ∧ (startTowers ts s).fuses = s.fuses ∧ (startTowers ts s).marks = s.marks := by
    obtain ⟨hpwr, hfuses, hmarks⟩ := ground_eq_iff.mp (ground_startTowers (ts := ts) (s := s))
    exact ⟨congrArg Pwr.on hpwr, startTowers_pending_mem.2, hfuses, hmarks⟩
  unfold domainUp
  dsimp only
  split_ifs
  · obtain ⟨hon, hfuses, hmarks⟩ := domeUp_ground (s := modPwr (fun p => { p with on := setBit1 p.on d }) s)
    exact ⟨hon, domeUp_pending_mem.2, hfuses, hmarks⟩
  · exact htowers _ _
  · exact htowers _ _
  · unfold spireResetRegs
    split_ifs <;> exact ⟨rfl, rfl, rfl, rfl⟩
  · exact ⟨rfl, rfl, rfl, rfl⟩

theorem domOn_domainUp_self (d : Nat) (s : State) : domOn (domainUp d s) d = true := by
  rw [domOn, (domainUp_leaves d s).1, setBit1, Nat.testBit_or, Nat.testBit_two_pow_self, Bool.or_true]

theorem domOn_domainUp_ne {d e : Nat} (s : State) (h : e ≠ d) : domOn (domainUp d s) e = domOn s e := by
  rw [domOn, (domainUp_leaves d s).1, setBit1, Nat.testBit_or, Nat.testBit_two_pow_of_ne h.symm, Bool.or_false, domOn]

/-! ### Switches (R500, R501) -/

section
variable {s : State}

theorem pwrSwAck_of_closing {e t : Nat} (h : s.pwr.closing = some (e, t)) :
    pwrSwAck e s = domainUp e { s with pwr := staggerOver s { s.pwr with closing := none } } := by
  unfold pwrSwAck
  rw [h]
  exact if_pos rfl

theorem pwrSwAck_of_other {d e t : Nat} (h : s.pwr.closing = some (e, t)) (hd : e ≠ d) : pwrSwAck d s = s := by
  unfold pwrSwAck
  rw [h]
  exact if_neg hd

theorem pwrAckTimeout_of_late {e t : Nat} (h : s.pwr.closing = some (e, t)) (hdome : e ≠ dDOME) (hhost : e ≠ dHOST)
    (ht : t + 50000 < s.clock) : pwrAckTimeout e s = pwrRefuse (pstCode s.pwr.state) 3
      { s with pwr := staggerOver s { s.pwr with closing := none, sw := clearBit1 s.pwr.sw e } } := by
  unfold pwrAckTimeout
  rw [h]
  exact if_pos (by simp [hdome, hhost, usClocks, ht])

theorem pwrAckTimeout_of_other {d e t : Nat} (h : s.pwr.closing = some (e, t)) (hd : e ≠ d) : pwrAckTimeout d s = s := by
  unfold pwrAckTimeout
  rw [h]
  exact if_neg (by simp [hd])

theorem pwrAckTimeout_of_early {e t : Nat} (h : s.pwr.closing = some (e, t)) (ht : s.clock ≤ t + 50000) : pwrAckTimeout e s = s := by
  unfold pwrAckTimeout
  rw [h]
  exact if_neg (by simp [usClocks, Nat.not_lt.mpr ht])

theorem pwrSwitchStagger_of_over {t : Nat} (h : s.pwr.nextAt = some t) (ht : t ≤ s.clock) :
    pwrSwitchStagger s = { s with pwr := { s.pwr with nextAt := none } } := by
  simp [pwrSwitchStagger, modPwr, staggerOver, h, ht]

theorem pwrSwitchStagger_of_early {t : Nat} (h : s.pwr.nextAt = some t) (ht : s.clock < t) : pwrSwitchStagger s = s := by
  simp [pwrSwitchStagger, modPwr, staggerOver, h, Nat.not_le.mpr ht]

theorem idleExit_of_idle (hst : s.pwr.state = .idle) (ht : s.pwr.trans = .idleExit) :
    idleExit s = raiseState .idle { s with pwr := { s.pwr with state := .run, trans := .none, prev := .idle } } :=
  if_pos (by simp [hst, ht])

theorem idleExit_of_calm (ht : s.pwr.trans = .none) : idleExit s = s := if_neg (by simp [ht])

/-! ### Draining a domain and an entry (R479, R483, R484) -/

theorem domainDrainDone_of_calm (ht : s.pwr.trans = .none) : domainDrainDone s = s := by
  unfold domainDrainDone
  rw [ht]

theorem entryDrainDone_of_calm (ht : s.pwr.trans = .none) : entryDrainDone s = s := by
  unfold entryDrainDone
  rw [ht]

/-- A domain whose work has ended: the work that still needs it is aborted. -/
def domainAborted (d : Nat) (s : State) : State :=
  (List.range 64).foldl (fun s n => abortRing d n s) (if d = dTWA || d = dTWB then abortJobs s else s)

theorem domainAborted_pwr {d : Nat} : (domainAborted d s).pwr = s.pwr := by
  unfold domainAborted
  rw [foldl_keeps (v := State.pwr) fun _ _ => abortRing_pwr_low.1]
  split_ifs
  · exact abortJobs_pwr
  · rfl

section
variable {d : Nat} {rest : List (Nat × Bool)}

theorem domainDrainDone_of_busy (ht : s.pwr.trans = .domains) (htodo : s.pwr.todo = (d, false) :: rest) (h : domDrained s d = false) :
    domainDrainDone s = s := by
  unfold domainDrainDone
  rw [ht, htodo]
  exact if_pos (by simp [h])

theorem domainDrainDone_of_drained (ht : s.pwr.trans = .domains) (htodo : s.pwr.todo = (d, false) :: rest) (hn : s.pwr.nextAt = none)
    (hc : s.pwr.closing = none) (hd : d ≠ dSPIRE) (h : domDrained s d = true) :
    domainDrainDone s = modPwr (fun p => { p with drained := true }) (domainAborted d s) := by
  unfold domainDrainDone
  rw [ht, htodo]
  refine (if_neg (by simp [hn, hc, h])).trans ?_
  dsimp only
  rw [if_neg hd]
  rfl

end

/-- The links of PD_SPIRE are down. -/
def linksDown (s : State) : State := if domOn s dSPIRE then linkDown 2 4 (linkDown 1 4 (linkDown 0 4 s)) else s

theorem linksDown_leaves : (linksDown s).pwr = s.pwr ∧ lowRegs (linksDown s).regs = lowRegs s.regs := by
  unfold linksDown
  split_ifs <;> simp

theorem entrySwitches_leaves : (entrySwitches s).pwr = { s.pwr with stage := 4, todo := entryList s, nextAt := none }
    ∧ lowRegs (entrySwitches s).regs = lowRegs s.regs := by
  refine ⟨?_, linksDown_leaves.2⟩
  have hlist : entryList (linksDown s) = entryList s := by
    unfold entryList
    rw [show domOn (linksDown s) = domOn s from funext fun d => by rw [domOn, linksDown_leaves.1, domOn]]
  change { (linksDown s).pwr with stage := 4, todo := entryList (linksDown s), nextAt := none } = _
  rw [hlist, linksDown_leaves.1]

theorem entryDrainDone_of_waiting {toOff : Bool} (ht : s.pwr.trans = .entry toOff) (hs : s.pwr.stage < 3)
    (h : entryDrained (stopRings s) = false) : entryDrainDone s = stopRings s := by
  unfold entryDrainDone
  rw [ht]
  dsimp only
  rw [if_neg (Nat.not_le.mpr hs)]
  exact if_pos (by simp [h])

/-- An entry to OFF that has drained: the rings are stopped, the entry is counted, and the context image is void. -/
def offEntered (s : State) : State :=
  rsetFld rPWR_CTX_STATUS 0 1 0 (modPwr (fun p => { p with ctxKey := none }) (bumpRetcnt (stopRings s)))

theorem entryDrainDone_of_off (ht : s.pwr.trans = .entry true) (hs : s.pwr.stage < 3) (h : entryDrained (stopRings s) = true) :
    entryDrainDone s = entrySwitches (offEntered s) := by
  unfold entryDrainDone
  rw [ht]
  dsimp only
  rw [if_neg (Nat.not_le.mpr hs)]
  exact (if_neg (by simp [h, hs])).trans rfl

theorem offEntered_pwr : (offEntered s).pwr = { s.pwr with ctxKey := none } := by
  change { (stopRings s).pwr with ctxKey := none } = _
  rw [stopRings_leaves.2.1]

theorem rget_offEntered_retcnt : rget (offEntered s) rPWR_RETCNT = rget s rPWR_RETCNT + 1 := by
  rw [offEntered, rget_rsetFld_ne _ _ _ _ (by decide)]
  refine (rget_rset_self _ _ _).trans ?_
  rw [rget, stopRings_leaves.1, rget]

theorem imgValid_offEntered : imgValid (offEntered s) = false := by
  rw [imgValid, offEntered, rflag_rsetFld_self (by decide)]
  rfl

end

/-- Settles O57: each step of a transition moves it on where it is its turn, and otherwise changes nothing. -/
theorem switchesMoveAndDomainsComeUp : Obligations.SwitchesMoveAndDomainsComeUp := by
  unfold Obligations.SwitchesMoveAndDomainsComeUp
  intro s
  refine ⟨fun d e t hc => ⟨next_finalize_congr (pwrSwAck_of_closing hc), fun hne => ?other,
      fun hdome hhost ht => next_finalize_congr (pwrAckTimeout_of_late hc hdome hhost ht), fun ht => next_finalize_congr (pwrAckTimeout_of_early hc ht)⟩,
    fun t hn => ⟨fun ht => next_finalize_congr (pwrSwitchStagger_of_over hn ht), fun ht => next_finalize_congr (pwrSwitchStagger_of_early hn ht)⟩,
    fun bits => rfl, fun hst ht => next_finalize_congr (idleExit_of_idle hst ht),
    fun ht => ⟨next_finalize_congr (idleExit_of_calm ht), next_finalize_congr (domainDrainDone_of_calm ht),
      next_finalize_congr (entryDrainDone_of_calm ht)⟩,
    ?drain, ?entry, fun d _ => ?up⟩
  case other =>
    have hval : e.val ≠ d.val := fun h => hne (Fin.ext h.symm)
    exact ⟨next_finalize_congr (pwrSwAck_of_other hc hval), next_finalize_congr (pwrAckTimeout_of_other hc hval)⟩
  case drain =>
    intro d rest ht htodo hn hc hd
    refine ⟨fun h => next_finalize_congr (domainDrainDone_of_busy ht htodo h), fun h => ?_⟩
    exact ⟨_, next_finalize_congr (domainDrainDone_of_drained ht htodo hn hc hd h),
      congrArg (fun p : Pwr => { p with drained := true }) domainAborted_pwr⟩
  case entry =>
    intro toOff ht hs
    refine ⟨fun h => next_finalize_congr (entryDrainDone_of_waiting ht hs h), fun h hoff => ?_⟩
    subst hoff
    obtain ⟨hpwr, hlow⟩ := entrySwitches_leaves (s := offEntered s)
    refine ⟨_, next_finalize_congr (entryDrainDone_of_off ht hs h), ?_⟩
    rw [imgValid, rflag, rget_of_lowRegs hlow (by decide), rget_of_lowRegs hlow (by decide), hpwr, entryList]
    rw [show domOn (offEntered s) = domOn s from funext fun d => by rw [domOn, offEntered_pwr, domOn], offEntered_pwr]
    exact ⟨rfl, imgValid_offEntered, rfl, rfl, rfl, rget_offEntered_retcnt⟩
  case up =>
    obtain ⟨-, hmem, hfuses, hmarks⟩ := domainUp_leaves d s
    exact ⟨domOn_domainUp_self d s, fun e he => domOn_domainUp_ne s he, hmem, hfuses, hmarks⟩

end Sys2Proof.Machine

/-! PROOF. O58: the request, the start and the end of a restore of the context image (R278, R487, R488). -/

namespace Sys2Proof.Machine

/-! ### Requests and the start -/

section
variable {s : State}

theorem pwrCtxRestore_of_run (hst : s.pwr.state = .run) (he : entering s = false) :
    pwrCtxRestore s = { s with pwr := { s.pwr with restoreReq := true } } := if_pos (by simp [hst, he])

theorem contextRestoreStart_of_no_request (h : s.pwr.restoreReq = false) : contextRestoreStart s = s := if_neg (by simp [h])

/-- A request is taken up where the pipelines, a tower and the Dome are ready for it and the pipelines hold no work. -/
structure RestoreReady (s : State) : Prop where
  request : s.pwr.restoreReq = true
  idle : s.pwr.restoring = false
  pipe : domOn s dPIPE = true
  dome : domOn s dDOME = true
  masked : s.pwr.remasking = false
  tower : towerReady s = true
  awake : s.pwr.state ≠ .idle
  noWork : pipeWork s = false

/-- The state in which the image is checked: the request is taken and the image can be used once. -/
def restoreTaken (s : State) : State := rsetFld rPWR_CTX_STATUS 0 1 0 { s with pwr := { s.pwr with restoreReq := false } }

theorem contextRestoreStart_of_ready (h : RestoreReady s) : contextRestoreStart s = match restoreCheck (restoreTaken s) (imgValid s) with
    | some r => raise 142 0 r (rsetFld rPWR_CTX_STATUS 1 3 r (restoreTaken s))
    | none => { restoreTaken s with pwr := { (restoreTaken s).pwr with restoring := true, restoreAt := s.clock } } :=
  if_pos (by simp [h.request, h.idle, h.pipe, h.dome, h.masked, h.tower, h.awake, h.noWork])

theorem restoreCheck_of_invalid : restoreCheck s false = some 6 := rfl

end

/-! ### What the lifted associations leave (R278) -/

/-- The saved objects but the associations, the power controller, the Dome and its fuses, and host memory. -/
def restoreView (s : State) : Tab Secy × Tab Rxsc × Tab (Option Armed) × Tab Ppl × Tab Nat × Pwr × Dome × Fuses × Tab Byte :=
  (s.secys, s.rxscs, s.armed, s.ppls, s.plCnt, s.pwr, s.dome, s.fuses, s.mem)

section
variable {s : State} {sa : Nat}

theorem restoreView_raise {src inst detail : Nat} : restoreView (raise src inst detail s) = restoreView s := by simp [restoreView]

theorem restoreView_setAssoc {a : Assoc} : restoreView (setAssoc sa a s) = restoreView s := rfl

theorem restoreView_modAssoc {f : Assoc → Assoc} : restoreView (modAssoc sa f s) = restoreView s := rfl

theorem restoreView_sendOwn {k : Pkt} : restoreView (sendOwn k s) = restoreView s := by
  unfold sendOwn
  split
  · split_ifs <;> rfl
  · rfl

theorem restoreView_mirrorLostNow {cause : Nat} : restoreView (mirrorLostNow sa cause s) = restoreView s := by
  unfold mirrorLostNow
  dsimp only
  split_ifs
  · rfl
  · rw [restoreView_raise, restoreView_setAssoc]

theorem restoreView_recordLate {cause : Nat} : restoreView (recordLate sa cause s) = restoreView s := by
  unfold recordLate
  dsimp only
  split
  · split
    · rw [restoreView_mirrorLostNow, restoreView_setAssoc]
    · split_ifs <;> simp only [restoreView_modAssoc, restoreView_setAssoc]
  · rfl

theorem restoreView_openRecord {aon : Bool} {e : Nat} : restoreView (openRecord aon sa e s) = restoreView s := by
  unfold openRecord
  dsimp only
  split_ifs
  · rfl
  · rw [sendRecord, sendLeaseRecord, restoreView_sendOwn, restoreView_setAssoc]
  · rw [restoreView_recordLate, restoreView_setAssoc]

theorem restoreView_restoreTx {n : Nat} : restoreView (restoreTx sa (s, n)).1 = restoreView s := by
  unfold restoreTx
  dsimp only
  split_ifs
  · rfl
  · rw [restoreView_raise, restoreView_setAssoc]
  · rfl
  · rfl
  · rw [restoreView_openRecord, restoreView_setAssoc]
    rfl
  · rw [restoreView_openRecord, restoreView_setAssoc]
    rfl

theorem restoreView_foldl_restoreTx (l : List Nat) (x : State × Nat) : restoreView (l.foldl (fun x sa => restoreTx sa x) x).1 = restoreView x.1 := by
  induction l generalizing x with
  | nil => rfl
  | cons sa l ih => rw [List.foldl_cons, ih, restoreView_restoreTx]

/-! ### The end of a restore (R488) -/

/-- The saved objects, with what no restore touches. -/
def loadedView (v : PipeSave) (s : State) : Tab Secy × Tab Rxsc × Tab (Option Armed) × Tab Ppl × Tab Nat × Pwr × Dome × Fuses × Tab Byte :=
  (v.secys, v.rxscs, [], v.ppls, v.cnt, s.pwr, s.dome, s.fuses, s.mem)

theorem foldl_rset_ground_mem (l : Tab Word) (s : State) : (l.foldl (fun s e => rset e.1 e.2 s) s).pwr = s.pwr
    ∧ (l.foldl (fun s e => rset e.1 e.2 s) s).dome = s.dome ∧ (l.foldl (fun s e => rset e.1 e.2 s) s).fuses = s.fuses
    ∧ (l.foldl (fun s e => rset e.1 e.2 s) s).mem = s.mem :=
  ⟨foldl_rset_power.1, foldl_rset_leaves.2.2.2.2.2, foldl_rset_ground.1,
    foldl_keeps (v := State.mem) (f := fun s (e : Nat × Word) => rset e.1 e.2 s) (fun _ _ => rfl) l s⟩

theorem restoreView_loadSaved {v : PipeSave} : restoreView (loadSaved v s) = loadedView v s := by
  unfold loadSaved
  dsimp only
  rw [foldl_keeps (v := restoreView) fun s p => by split <;> rfl]
  obtain ⟨hpwr, hdome, hfuses, hmem⟩ := foldl_rset_ground_mem v.regs (dropRegs dPIPE { s with arr := { s.arr with belfry := [] } })
  simp only [restoreView, loadedView, hpwr, hdome, hfuses, hmem]
  rfl

/-- The state of a restore once its associations are lifted, and the number of their records. -/
def restoreLifted (v : PipeSave) (s : State) : State × Nat :=
  (((liveAssocs (loadSaved v s)).filter fun p => !p.2.rx).map Prod.fst).foldl (fun x sa => restoreTx sa x) (loadSaved v s, 0)

theorem restoreView_restoreLifted {v : PipeSave} : restoreView (restoreLifted v s).1 = loadedView v s :=
  (restoreView_foldl_restoreTx _ _).trans restoreView_loadSaved

/-- The state with CTX_STATUS OK, before the wake time is recorded. -/
def restoreEnded (v : PipeSave) (s : State) : State :=
  rsetFld rPWR_CTX_STATUS 1 3 1 (modPwr (fun p => { p with restoring := false }) (restoreLifted v s).1)

/-- The wake time is recorded. -/
def restoreTimed (v : PipeSave) (s : State) : State :=
  rsetFld rPWR_TIMING 0 12 (min 4095 (((restoreEnded v s).clock - (restoreEnded v s).pwr.wakeAt) / usClocks)) (restoreEnded v s)

/-- The detail of PW_CTX_RESTORED: the records and the time of the restore. -/
def restoreDetail (v : PipeSave) (s : State) : Nat :=
  (restoreLifted v s).2 % 2 ^ 12 + min 4095 (((restoreTimed v s).clock - (restoreTimed v s).pwr.restoreAt) / usClocks) * 2 ^ 12

theorem contextRestoreDone_of_idle (h : s.pwr.restoring = false) : contextRestoreDone s = s := if_pos (by simp [h])

theorem contextRestoreDone_of_saved {v : PipeSave} (h : s.pwr.restoring = true) (hv : s.saved = some v) :
    contextRestoreDone s = raise 143 0 (restoreDetail v s) (restoreTimed v s) := by
  unfold contextRestoreDone
  rw [hv]
  exact if_neg (by simp [h])

theorem restoreTimed_leaves {v : PipeSave} : (restoreTimed v s).secys = (restoreLifted v s).1.secys
    ∧ (restoreTimed v s).rxscs = (restoreLifted v s).1.rxscs ∧ (restoreTimed v s).armed = (restoreLifted v s).1.armed
    ∧ (restoreTimed v s).ppls = (restoreLifted v s).1.ppls ∧ (restoreTimed v s).plCnt = (restoreLifted v s).1.plCnt
    ∧ (restoreTimed v s).pwr = { (restoreLifted v s).1.pwr with restoring := false } ∧ (restoreTimed v s).dome = (restoreLifted v s).1.dome
    ∧ (restoreTimed v s).fuses = (restoreLifted v s).1.fuses ∧ (restoreTimed v s).mem = (restoreLifted v s).1.mem := by
  simp [restoreTimed, restoreEnded, modPwr]

theorem rfld_restoreTimed {v : PipeSave} : rfld (restoreTimed v s) rPWR_CTX_STATUS 1 3 = 1 := by
  unfold restoreTimed
  rw [rfld, rget_rsetFld_ne _ _ _ _ (by decide)]
  exact rfld_rsetFld_self (by decide) (by decide)

end

/-- Settles O58: a request is recorded, checked as it starts, and its end loads what was saved. -/
theorem contextsAreRequestedRestoredAndDiscarded : Obligations.ContextsAreRequestedRestoredAndDiscarded := by
  unfold Obligations.ContextsAreRequestedRestoredAndDiscarded
  intro s
  refine ⟨fun hb hst he => ?restore, fun hb => ?discard, fun h => next_finalize_congr (contextRestoreStart_of_no_request h), ?start,
    fun h => h ▸ restoreCheck_of_invalid, ?done, fun h => next_finalize_congr (contextRestoreDone_of_idle h)⟩
  case restore =>
    rw [exec_hostRow_free rfl hb]
    exact next_finalize_congr (pwrCtxRestore_of_run (s := hostTurn s) hst he)
  case discard =>
    rw [exec_hostRow_free rfl hb]
    rfl
  case start =>
    rintro v hreq hidle hpipe hdome hmask htower hawake hwork rfl
    have hgo := contextRestoreStart_of_ready ⟨hreq, hidle, hpipe, hdome, hmask, htower, hawake, hwork⟩
    change match restoreCheck (restoreTaken s) (imgValid s) with
      | some r => exec .contextRestoreStart s = .next (finalize (raise 142 0 r (rsetFld rPWR_CTX_STATUS 1 3 r (restoreTaken s))))
      | none => exec .contextRestoreStart s
          = .next (finalize { restoreTaken s with pwr := { (restoreTaken s).pwr with restoring := true, restoreAt := s.clock } })
    cases hc : restoreCheck (restoreTaken s) (imgValid s) with
    | some r => exact next_finalize_congr (hgo.trans (by rw [hc]))
    | none => exact next_finalize_congr (hgo.trans (by rw [hc]))
  case done =>
    intro v h hv
    refine ⟨_, next_finalize_congr (contextRestoreDone_of_saved h hv), ?_⟩
    have hview := restoreView_restoreLifted (v := v) (s := s)
    simp only [restoreView, loadedView, Prod.mk.injEq] at hview
    obtain ⟨hsecys, hrxscs, harmed, hppls, hcnt, -, hdome, hfuses, hmem⟩ := hview
    have hfld : rfld (raise 143 0 (restoreDetail v s) (restoreTimed v s)) rPWR_CTX_STATUS 1 3 = rfld (restoreTimed v s) rPWR_CTX_STATUS 1 3 := by
      simp [rfld]
    rw [hfld]
    simp only [raise_leaves, restoreTimed_leaves]
    exact ⟨hsecys, hrxscs, harmed, hppls, hcnt, trivial, rfld_restoreTimed, hdome, hfuses, hmem⟩

end Sys2Proof.Machine

/-! PROOF. The refutation of O18, and what it rests on: what follows a command leaves the SCI of every SecY, until PD_PIPE goes down
and takes the SecYs with it. The statement ranges over every state; where the SecY table lists a SecY twice, first with the
settings of a SecY that does not exist, clearing the default role at the port drops that first entry, and the second is found. -/

namespace Sys2Proof.Machine

/-- The SCI of each SecY of a table. -/
def scis (t : Tab Secy) (i : Nat) : Nat := (tabGet {} t i).sci

@[simp] theorem foldl_scis {α : Type} {f : State → α → State} (h : ∀ s a, scis (f s a).secys = scis s.secys) {l : List α} {s : State} :
    scis (l.foldl f s).secys = scis s.secys := foldl_keeps (v := fun s => scis s.secys) h l s

@[simp] theorem cntSecy_scis {s : State} {y i inc} : scis (cntSecy y i inc s).secys = scis s.secys := by
  unfold cntSecy
  split_ifs
  · funext j
    by_cases hj : j = y
    · subst hj
      simp only [scis, setSecy, tabGet_put_self]
      rfl
    · simp only [scis, setSecy, tabGet_put_ne _ _ _ hj]
  · rfl

/-! ### Host memory, rings and descriptors -/

@[simp] theorem memWrite_scis {s : State} {addr} {l} : scis (memWrite addr l s).1.secys = scis s.secys := by
  unfold memWrite
  split <;> simp

@[simp] theorem raiseSev_scis {s : State} {sev} {src} {inst} {detail} :
    scis (raiseSev sev src inst detail s).secys = scis s.secys := by
  unfold raiseSev
  dsimp only
  split_ifs <;> simp

@[simp] theorem evLose_scis {s : State} {m} : scis (evLose m s).secys = scis s.secys := rfl

@[simp] theorem evQueue_scis {s : State} {m} {e} : scis (evQueue m e s).secys = scis s.secys := by
  unfold evQueue
  dsimp only
  split_ifs <;> simp

@[simp] theorem raisePerm_scis {s : State} {n} {i} {r} :
    scis (raisePerm n i r s).secys = scis s.secys := by
  unfold raisePerm
  split <;> simp

@[simp] theorem finish_scis {s : State} {n} {i} {r} :
    scis (finish n i r s).secys = scis s.secys := by simp [finish]

@[simp] theorem reserveMembers_scis {s : State} {n} :
    scis (reserveMembers n s).secys = scis s.secys := by
  unfold reserveMembers
  split <;> simp

@[simp] theorem ringErr_scis {s : State} {n} {code} {idx} :
    scis (ringErr n code idx s).secys = scis s.secys := rfl

@[simp] theorem checkStopped_scis {s : State} {n} :
    scis (checkStopped n s).secys = scis s.secys := by
  unfold checkStopped
  dsimp only
  split <;> simp

@[simp] theorem stopRing_scis {s : State} {n} : scis (stopRing n s).secys = scis s.secys := by
  unfold stopRing
  dsimp only
  split <;> simp

@[simp] theorem ringEnable_scis {s : State} {n} : scis (ringEnable n s).secys = scis s.secys := by
  unfold ringEnable
  dsimp only
  (repeat' split) <;> simp

@[simp] theorem ringDisable_scis {s : State} {n} :
    scis (ringDisable n s).secys = scis s.secys := by
  unfold ringDisable
  split <;> simp

@[simp] theorem resumeCq_scis {s : State} {n} : scis (resumeCq n s).secys = scis s.secys := by
  unfold resumeCq
  split <;> simp

@[simp] theorem dblSqTail_scis {s : State} {n} {v} :
    scis (dblSqTail n v s).secys = scis s.secys := by
  unfold dblSqTail
  dsimp only
  split_ifs <;> simp

@[simp] theorem dblCqHead_scis {s : State} {n} {v} :
    scis (dblCqHead n v s).secys = scis s.secys := by
  unfold dblCqHead
  dsimp only
  split_ifs <;> simp

@[simp] theorem writeEntry_scis {s : State} {addr} {ws} : scis (writeEntry addr ws s).1.secys = scis s.secys := by
  unfold writeEntry
  grind [memWrite_scis]

@[simp] theorem admitEnt_scis {s : State} {n} {e} :
    scis (admitEnt n s e).secys = scis s.secys := by
  unfold admitEnt
  (repeat' split) <;> simp

@[simp] theorem admitAll_scis {s : State} : scis (admitAll s).secys = scis s.secys := by
  unfold admitAll
  split
  · exact foldl_scis fun _ _ => foldl_scis fun _ _ => admitEnt_scis
  · rfl

@[simp] theorem effect_scis {s u : State} {n} {i} {r} (hp : scis u.secys = scis s.secys) :
    scis (effect n i r u s).secys = scis s.secys := by
  unfold effect; split <;> simp [hp]

@[simp] theorem tmuSyncClear_scis {s : State} : scis (tmuSyncClear s).secys = scis s.secys := by
  unfold tmuSyncClear
  split <;> simp

@[simp] theorem touchDcache_scis {s : State} {gen} {kref} {label} {u} {len} :
    scis (touchDcache gen kref label u len s).secys = scis s.secys := by
  unfold touchDcache
  dsimp only
  split_ifs <;> simp

@[simp] theorem cntSecyOf_scis {s : State} {y} {serial} {i} {inc} :
    scis (cntSecyOf y serial i inc s).secys = scis s.secys := by
  unfold cntSecyOf
  split <;> simp

@[simp] theorem cntRxOf_scis {s : State} {c} {serial} {i} {inc} :
    scis (cntRxOf c serial i inc s).secys = scis s.secys := by
  unfold cntRxOf
  split <;> simp

@[simp] theorem cntSaOf_scis {s : State} {sa} {serial} {i} {inc} :
    scis (cntSaOf sa serial i inc s).secys = scis s.secys := by
  unfold cntSaOf
  split <;> simp

/-! ### Frames, items and towers -/

@[simp] theorem egDrop_scis {s : State} {id} {c} {f} :
    scis (egDrop id c f s).secys = scis s.secys := rfl

@[simp] theorem egEnd_scis {s : State} {id} {c} {f} :
    scis (egEnd id c f s).secys = scis s.secys := by
  unfold egEnd
  split <;> simp

@[simp] theorem egKeyFail_scis {s : State} {id} {st} {f} :
    scis (egKeyFail id st f s).secys = scis s.secys := by simp [egKeyFail]

@[simp] theorem igSecy_scis {s : State} {f} {i} {inc} :
    scis (igSecy f i inc s).secys = scis s.secys := by
  unfold igSecy
  split <;> simp

@[simp] theorem igRxsc_scis {s : State} {f} {i} {inc} :
    scis (igRxsc f i inc s).secys = scis s.secys := by
  unfold igRxsc
  split <;> simp

@[simp] theorem igSa_scis {s : State} {f} {i} {inc} :
    scis (igSa f i inc s).secys = scis s.secys := by simp [igSa]

@[simp] theorem igOctets_scis {s : State} {f} :
    scis (igOctets f s).secys = scis s.secys := by simp [igOctets]

@[simp] theorem igCharge_scis {s : State} {k} {f} :
    scis (igCharge k f s).secys = scis s.secys := by
  unfold igCharge
  (repeat' split) <;> simp

@[simp] theorem igGone_scis {s : State} {id} {f} :
    scis (igGone id f s).secys = scis s.secys := rfl

@[simp] theorem cutBytes_scis {s : State} {k} {f} :
    scis (cutBytes k f s).1.secys = scis s.secys := by
  unfold cutBytes
  split <;> simp

@[simp] theorem igAbort_scis {s : State} {id} {k} {f} :
    scis (igAbort id k f s).secys = scis s.secys := by simp [igAbort]

@[simp] theorem cutStarts_scis {s : State} {f} :
    scis (cutStarts f s).secys = scis s.secys := rfl

@[simp] theorem igEnd_scis {s : State} {id} {k} {f} :
    scis (igEnd id k f s).secys = scis s.secys := by
  unfold igEnd
  split <;> simp

@[simp] theorem igFail_scis {s : State} {id} {k} {f} :
    scis (igFail id k f s).secys = scis s.secys := by
  unfold igFail
  split <;> simp

@[simp] theorem igKeyFail_scis {s : State} {id} {st} {f} :
    scis (igKeyFail id st f s).secys = scis s.secys := by simp [igKeyFail]

@[simp] theorem dropUnits_scis {s : State} {x} {k} :
    scis (dropUnits x k s).secys = scis s.secys := by simp [dropUnits]

@[simp] theorem unitFail_scis {s : State} {id} {r} :
    scis (unitFail id r s).secys = scis s.secys := by
  unfold unitFail
  split <;> simp

@[simp] theorem freeBytes_scis {s : State} {n} :
    scis (freeBytes n s).1.secys = scis s.secys := rfl

@[simp] theorem havoc_scis {s : State} {addr} {n} : scis (havoc addr n s).secys = scis s.secys := by simp [havoc]

@[simp] theorem jobEnd_scis {s : State} {id} {n} {i} {r} : scis (jobEnd id n i r s).secys = scis s.secys := by
  unfold jobEnd
  dsimp only
  (repeat' split) <;> simp

@[simp] theorem bslotEmpty_scis {s : State} {i} : scis (bslotEmpty i s).secys = scis s.secys := by
  unfold bslotEmpty
  dsimp only
  split <;> simp

@[simp] theorem bslotDrop_scis {s : State} {i} : scis (bslotDrop i s).secys = scis s.secys := by
  unfold bslotDrop
  split <;> simp

@[simp] theorem itemFail_scis {s : State} {id} {r} : scis (itemFail id r s).secys = scis s.secys := by
  unfold itemFail
  (repeat' split) <;> simp

@[simp] theorem noteHealth_scis {s : State} : scis (noteHealth s).secys = scis s.secys := by simp [noteHealth]

@[simp] theorem refill_scis {s : State} {oldMode} :
    scis (refill oldMode s).secys = scis s.secys := by
  unfold refill
  dsimp only
  split <;> simp

@[simp] theorem arrayChange_scis {s : State} {f : State → State} (hp : scis (f s).secys = scis s.secys) :
    scis (arrayChange f s).secys = scis s.secys := by
  unfold arrayChange; dsimp only; split_ifs <;> simp [hp]

@[simp] theorem takeOrder_scis {s : State} :
    scis (takeOrder s).1.secys = scis s.secys := rfl

@[simp] theorem cachePut_scis {s : State} {t} {e} :
    scis (cachePut t e s).secys = scis s.secys := rfl

@[simp] theorem touchCache_scis {s : State} {t} {x} :
    scis (touchCache t x s).secys = scis s.secys := foldl_scis fun s k => by split <;> simp

@[simp] theorem dropBadTags_scis {s : State} {t} :
    scis (dropBadTags t s).secys = scis s.secys := rfl

@[simp] theorem igStream_scis {s : State} {id} {key} :
    scis (igStream id key s).secys = scis s.secys := by
  unfold igStream
  split <;> [split_ifs; skip] <;> simp

@[simp] theorem gotKeys_scis {s : State} {id} {x} {keys} :
    scis (gotKeys id x keys s).secys = scis s.secys := by
  unfold gotKeys
  split <;> simp

@[simp] theorem admitItem_scis {s : State} {t} {id} {x} : scis (admitItem t id x s).secys = scis s.secys := by
  unfold admitItem
  dsimp only
  (repeat' split) <;> simp

@[simp] theorem notePeak_scis {s : State} {t} :
    scis (notePeak t s).secys = scis s.secys := rfl

@[simp] theorem pump_scis {s : State} {fuel} {t} : scis (pump fuel t s).secys = scis s.secys := by
  induction fuel generalizing s with
  | zero => rfl
  | succ k ih => unfold pump; dsimp only [takeOrder]; (repeat' split) <;> simp [ih]

@[simp] theorem pumpAll_scis {s : State} : scis (pumpAll s).secys = scis s.secys := by simp [pumpAll]

@[simp] theorem reapJobs_scis {s : State} : scis (reapJobs s).secys = scis s.secys :=
  foldl_scis (fun s p => by (repeat' split) <;> simp)

@[simp] theorem streamAll_scis {s : State} : scis (streamAll s).secys = scis s.secys :=
  foldl_scis fun s p => by (repeat' split) <;> simp

@[simp] theorem fetchFail_scis {s : State} {inst} {slotNo} {r} :
    scis (fetchFail inst slotNo r s).secys = scis s.secys := by simp [fetchFail]

@[simp] theorem belfryAssign_scis {s : State} {sa} :
    scis (belfryAssign sa s).secys = scis s.secys := by
  unfold belfryAssign
  split <;> simp

@[simp] theorem belfryTake_scis {s : State} {port} {sa} {pn} {enc} :
    scis (belfryTake port sa pn enc s).1.secys = scis s.secys := by
  unfold belfryTake
  dsimp only
  (repeat' split) <;> simp

@[simp] theorem takeTokens_scis {s : State} {n} :
    scis (takeTokens n s).secys = scis s.secys := rfl

@[simp] theorem onStream_scis {s : State} {p} {v} :
    scis (onStream p v s).secys = scis s.secys := rfl

@[simp] theorem sendAck_scis {s : State} {p} : scis (sendAck p s).secys = scis s.secys := by
  unfold sendAck
  dsimp only
  split <;> simp

/-! ### Flow control and packets -/

@[simp] theorem xoffUpdate_scis {s : State} {p} : scis (xoffUpdate p s).secys = scis s.secys := by
  unfold xoffUpdate
  dsimp only
  split <;> simp

@[simp] theorem xoffAll_scis {s : State} : scis (xoffAll s).secys = scis s.secys := by simp [xoffAll]

@[simp] theorem epochStep_scis {s : State} : scis (epochStep s).secys = scis s.secys := rfl

@[simp] theorem postedErr_scis {s : State} {p} {node} {tag} {addr} {code} :
    scis (postedErr p node tag addr code s).secys = scis s.secys := by
  unfold postedErr
  dsimp only
  split <;> simp

@[simp] theorem enqueue_scis {s : State} {p} {q} :
    scis (enqueue p q s).secys = scis s.secys := rfl

@[simp] theorem sendOwn_scis {s : State} {k} : scis (sendOwn k s).secys = scis s.secys := by
  unfold sendOwn
  split <;> [split_ifs; skip] <;> simp

@[simp] theorem refuseForward_scis {s : State} {k} {st} {reason} {code} :
    scis (refuseForward k st reason code s).secys = scis s.secys := by
  unfold refuseForward
  split_ifs <;> simp

@[simp] theorem sendLeaseRecord_scis {s : State} {node} {words} :
    scis (sendLeaseRecord node words s).secys = scis s.secys := by simp [sendLeaseRecord]

@[simp] theorem forwardEvent_scis {s : State} {e} :
    scis (forwardEvent e s).secys = scis s.secys := by
  unfold forwardEvent
  split <;> simp

/-! ### Events and the tamper response -/

@[simp] theorem deliver_scis {s : State} {e} : scis (deliver e s).secys = scis s.secys := by
  unfold deliver
  dsimp only
  split_ifs <;> simp

@[simp] theorem settle_scis {s : State} : scis (settle s).secys = scis s.secys := by simp [settle]

@[simp] theorem idleWake_scis {s : State} : scis (idleWake s).secys = scis s.secys := by
  unfold idleWake
  split <;> simp

@[simp] theorem wakeRequest_scis {s : State} : scis (wakeRequest s).secys = scis s.secys := by
  unfold wakeRequest
  (repeat' split) <;> simp

@[simp] theorem clearIsland_scis {s : State} :
    scis (clearIsland s).secys = scis s.secys := rfl

@[simp] theorem noteResponse_scis {s : State} {mask} {level} :
    scis (noteResponse mask level s).secys = scis s.secys := by
  unfold noteResponse
  split <;> simp

@[simp] theorem aonResponse_scis {s : State} {mask} {level} :
    scis (aonResponse mask level s).secys = scis s.secys := by
  unfold aonResponse
  dsimp only
  split_ifs <;> simp

/-! ### Leases, groups and mirrored operations -/

@[simp] theorem sendRecord_scis {s : State} {sa} {a} {endPn} :
    scis (sendRecord sa a endPn s).secys = scis s.secys := by simp [sendRecord]

@[simp] theorem mirrorLostNow_scis {s : State} {sa} {cause} :
    scis (mirrorLostNow sa cause s).secys = scis s.secys := by
  unfold mirrorLostNow
  dsimp only
  split <;> simp

@[simp] theorem recordLate_scis {s : State} {sa} {cause} :
    scis (recordLate sa cause s).secys = scis s.secys := by
  unfold recordLate
  dsimp only
  (repeat' split) <;> simp

@[simp] theorem openRecord_scis {s : State} {aon} {sa} {e} :
    scis (openRecord aon sa e s).secys = scis s.secys := by
  unfold openRecord
  dsimp only
  split_ifs <;> simp

@[simp] theorem requestLease_scis {s : State} {sa} :
    scis (requestLease sa s).secys = scis s.secys := by
  unfold requestLease
  dsimp only
  split <;> simp

@[simp] theorem leaseProgress_scis {s : State} {sa} :
    scis (leaseProgress sa s).secys = scis s.secys := by
  unfold leaseProgress
  dsimp only
  (repeat' split) <;> simp

@[simp] theorem cancelSwitch_scis {s : State} {y} {sa} {cause} :
    scis (cancelSwitch y sa cause s).secys = scis s.secys := rfl

@[simp] theorem disarm_scis {s : State} {y} {cause} :
    scis (disarm y cause s).secys = scis s.secys := by
  unfold disarm
  split <;> simp

@[simp] theorem claimSlot_scis {s : State} {k} :
    scis (claimSlot k s).secys = scis s.secys := rfl

@[simp] theorem appInstall_scis {s : State} {w} {plan} :
    scis (appInstall w plan s).secys = scis s.secys := by
  unfold appInstall
  (repeat' split) <;> simp

@[simp] theorem bestNow_scis {s : State} {sa} : scis (bestNow sa s).secys = scis s.secys := by
  unfold bestNow
  dsimp only
  (repeat' split) <;> simp

@[simp] theorem appAdjust_scis {s : State} {w} :
    scis (appAdjust w s).secys = scis s.secys := by simp [appAdjust]

@[simp] theorem dropReserved_scis {s : State} :
    scis (dropReserved s).secys = scis s.secys := by simp [dropReserved]

@[simp] theorem dropStaging_scis {s : State} :
    scis (dropStaging s).secys = scis s.secys := rfl

@[simp] theorem closeGroup_scis {s : State} {n} {c} :
    scis (closeGroup n c s).secys = scis s.secys := by simp [closeGroup]

@[simp] theorem groupFail_scis {s : State} {n} {k} {r} :
    scis (groupFail n k r s).secys = scis s.secys := by simp [groupFail]

@[simp] theorem adjustLost_scis {s : State} {cause} {endPn} {w} :
    scis (adjustLost cause endPn w s).secys = scis s.secys := by simp [adjustLost]

@[simp] theorem mirrorEffect_scis {s : State} {sa} {o} {w} {ans} :
    scis (mirrorEffect sa o w ans s).1.secys = scis s.secys := by
  unfold mirrorEffect
  (repeat' split) <;> simp

@[simp] theorem stagedAnswer_scis {s : State} {sa} {lost} :
    scis (stagedAnswer sa lost s).secys = scis s.secys := by
  unfold stagedAnswer
  split <;> simp

@[simp] theorem mirrorAnswer_scis {s : State} {sa} {ans} :
    scis (mirrorAnswer sa ans s).secys = scis s.secys := by
  unfold mirrorAnswer; dsimp only
  (repeat' split) <;> simp [effect, apply_ite State.secys, apply_ite scis]

@[simp] theorem mirrorPortDown_scis {s : State} {p} :
    scis (mirrorPortDown p s).secys = scis s.secys := by
  unfold mirrorPortDown; dsimp only
  refine (foldl_scis fun s x => by (repeat' split) <;> simp).trans ?_
  exact foldl_scis fun s sa => by (repeat' split) <;> simp

@[simp] theorem finishRun_scis {s : State} {n} {i} {r} :
    scis (finishRun n i r s).secys = scis s.secys := by
  unfold finishRun
  split <;> [split_ifs; skip] <;> simp

/-! ### Frames and transfers that wait -/

@[simp] theorem assignPn_scis {s : State} {port} {sa} :
    scis (assignPn port sa s).secys = scis s.secys := by
  unfold assignPn
  dsimp only
  split_ifs <;> simp

@[simp] theorem egWait_scis {s : State} {id} {st} {f} :
    scis (egWait id st f s).secys = scis s.secys := rfl

@[simp] theorem egNumber_scis {s : State} {id} {sa} {f} :
    scis (egNumber id sa f s).secys = scis s.secys := by
  unfold egNumber
  dsimp only
  split <;> simp

@[simp] theorem leaseFor_scis {s : State} {sa} : scis (leaseFor sa s).secys = scis s.secys := by
  unfold leaseFor
  dsimp only
  split <;> simp

@[simp] theorem egAssoc_scis {s : State} {id} {f} :
    scis (egAssoc id f s).secys = scis s.secys := by
  unfold egAssoc
  dsimp only
  split_ifs <;> simp

@[simp] theorem egSpace_scis {s : State} {id} {f} :
    scis (egSpace id f s).secys = scis s.secys := by
  unfold egSpace
  (repeat' split) <;> simp

@[simp] theorem egReturn_scis {s : State} {id} {trap} {rule} {f} :
    scis (egReturn id trap rule f s).secys = scis s.secys := by
  unfold egReturn
  dsimp only
  split_ifs <;> simp

@[simp] theorem egRetryOne_scis {s : State} {p} : scis (egRetryOne s p).secys = scis s.secys := by
  unfold egRetryOne
  split <;> simp

@[simp] theorem egRetry_scis {s : State} : scis (egRetry s).secys = scis s.secys := by
  unfold egRetry
  split <;> simp

@[simp] theorem stcTouch_scis {s : State} {e} :
    scis (stcTouch e s).secys = scis s.secys := by simp [stcTouch]

@[simp] theorem stcKeyLost_scis {s : State} {c} {cfg} {slotNo} {r} :
    scis (stcKeyLost c cfg slotNo r s).secys = scis s.secys := by
  unfold stcKeyLost
  dsimp only
  split <;> simp

@[simp] theorem stcAccept_scis {s : State} {c} {q} :
    scis (stcAccept c q s).secys = scis s.secys := by
  unfold stcAccept
  dsimp only
  (repeat' split) <;> simp

@[simp] theorem stcRetry_scis {s : State} {c} : scis (stcRetry c s).secys = scis s.secys := by
  unfold stcRetry
  split <;> [split_ifs; skip] <;> simp

@[simp] theorem belfryClear_scis {s : State} :
    scis (belfryClear s).secys = scis s.secys := by simp [belfryClear]

/-! ### Event rings and the log -/

@[simp] theorem evPut_scis {s : State} {m} {e} : scis (evPut m e s).1.secys = scis s.secys := by
  unfold evPut
  grind [writeEntry_scis, evLose_scis, setEvRing_leaves]

@[simp] theorem evReport_scis {s : State} {m} : scis (evReport m s).secys = scis s.secys := by
  unfold evReport
  grind [evPut_scis, setEvRing_leaves]

@[simp] theorem eventRingWrite_scis {s : State} {m} : scis (eventRingWrite m s).secys = scis s.secys := by
  unfold eventRingWrite
  dsimp only
  (repeat' split) <;> simp

@[simp] theorem evFlush_scis {s : State} {k} {m} : scis (evFlush k m s).secys = scis s.secys := by
  induction k generalizing s with
  | zero => rfl
  | succ k ih => unfold evFlush; split_ifs <;> simp [ih]

@[simp] theorem evFlushAll_scis {s : State} : scis (evFlushAll s).secys = scis s.secys := by simp [evFlushAll]

@[simp] theorem evtRingCtrl_scis {s : State} {m} {v} :
    scis (evtRingCtrl m v s).secys = scis s.secys := by
  unfold evtRingCtrl
  dsimp only
  split_ifs <;> simp

@[simp] theorem evtRingHead_scis {s : State} {m} {v} :
    scis (evtRingHead m v s).secys = scis s.secys := by
  unfold evtRingHead
  split <;> simp

@[simp] theorem evtPendClear_scis {s : State} {b} {v} :
    scis (evtPendClear b v s).secys = scis s.secys := by
  unfold evtPendClear
  split <;> simp

@[simp] theorem evtForce_scis {s : State} {b} {v} :
    scis (evtForce b v s).secys = scis s.secys := by
  unfold evtForce
  split <;> simp

@[simp] theorem logRdIdx_scis {s : State} {v} :
    scis (logRdIdx v s).secys = scis s.secys := rfl

@[simp] theorem logCtrlAck_scis {s : State} : scis (logCtrlAck s).secys = scis s.secys := rfl

@[simp] theorem showClass_scis {s : State} {k} {cls} {peer} :
    scis (showClass k cls peer s).secys = scis s.secys := by
  unfold showClass
  split <;> simp

@[simp] theorem loopOff_scis {s : State} {k} : scis (loopOff k s).secys = scis s.secys := rfl

/-! ### Links -/

@[simp] theorem endTag_scis {s : State} {t} {r} : scis (endTag t r s).secys = scis s.secys := by
  unfold endTag
  split <;> simp

@[simp] theorem dropHold_scis {s : State} {t} : scis (dropHold t s).secys = scis s.secys := by
  unfold dropHold
  split <;> [split_ifs; skip] <;> simp

@[simp] theorem discardPkt_scis {s : State} {p} {k} {own} {fwd} :
    scis (discardPkt p k own fwd s).secys = scis s.secys := by
  unfold discardPkt
  (repeat' split) <;> simp

@[simp] theorem toDetect_scis {s : State} {p} {at_} :
    scis (toDetect p at_ s).secys = scis s.secys := rfl

@[simp] theorem startTraining_scis {s : State} {p} :
    scis (startTraining p s).secys = scis s.secys := by
  unfold startTraining
  split <;> simp

@[simp] theorem linkDown_scis {s : State} {p} {cause} :
    scis (linkDown p cause s).secys = scis s.secys := by
  unfold linkDown; dsimp only
  split_ifs
  · exact rfl
  all_goals
    simp only [startTraining_scis, mirrorPortDown_scis]
    refine (foldl_scis fun s t => by (repeat' split) <;> simp).trans ?_
    simp

@[simp] theorem startRetrain_scis {s : State} {p} {cause} :
    scis (startRetrain p cause s).secys = scis s.secys := by
  unfold startRetrain
  dsimp only
  split_ifs <;> simp

@[simp] theorem takeNodeId_scis {s : State} : scis (takeNodeId s).secys = scis s.secys := by
  unfold takeNodeId
  dsimp only
  split <;> simp

@[simp] theorem splPortEnable_scis {s : State} {p} :
    scis (splPortEnable p s).secys = scis s.secys := by
  unfold splPortEnable
  split <;> simp

@[simp] theorem splPortDisable_scis {s : State} {p} :
    scis (splPortDisable p s).secys = scis s.secys := by
  unfold splPortDisable
  split <;> simp

@[simp] theorem splRetrainRequest_scis {s : State} {p} :
    scis (splRetrainRequest p s).secys = scis s.secys := by
  unfold splRetrainRequest
  split <;> simp

/-! ### Power transitions -/

@[simp] theorem raiseState_scis {s : State} {prev} :
    scis (raiseState prev s).secys = scis s.secys := rfl

@[simp] theorem pwrRefuse_scis {s : State} {req} {cause} :
    scis (pwrRefuse req cause s).secys = scis s.secys := rfl

@[simp] theorem disarmTimed_scis {s : State} : scis (disarmTimed s).secys = scis s.secys :=
  foldl_scis fun s y => by split <;> simp

@[simp] theorem launchesLost_scis {s : State} : scis (launchesLost s).secys = scis s.secys :=
  foldl_scis fun s p => by split_ifs <;> simp

@[simp] theorem towersDown_scis {s : State} {ts} :
    scis (towersDown ts s).secys = scis s.secys := by simp [towersDown]

@[simp] theorem domeDown_scis {s : State} {retain} :
    scis (domeDown retain s).secys = scis s.secys := by
  unfold domeDown
  split <;> simp

@[simp] theorem pendToAon_scis {s : State} : scis (pendToAon s).secys = scis s.secys := by
  unfold pendToAon
  split <;> simp

@[simp] theorem closeSwitch_scis {s : State} {d} {rest} :
    scis (closeSwitch d rest s).secys = scis s.secys := rfl

@[simp] theorem stopRings_scis {s : State} :
    scis (stopRings s).secys = scis s.secys := by simp [stopRings]

@[simp] theorem beforeOpen_scis {s : State} {d} : scis (beforeOpen d s).secys = scis s.secys := by
  unfold beforeOpen
  split <;> simp

@[simp] theorem transEnd_scis {s : State} : scis (transEnd s).secys = scis s.secys := by
  unfold transEnd
  dsimp only
  (repeat' split) <;> simp

@[simp] theorem towersLeave_scis {s : State} {offs} :
    scis (towersLeave offs s).secys = scis s.secys := by
  unfold towersLeave
  split_ifs <;> simp

@[simp] theorem pwrDomainWrite_scis {s : State} {v} :
    scis (pwrDomainWrite v s).secys = scis s.secys := by
  unfold pwrDomainWrite
  dsimp only
  (repeat' split) <;> simp

@[simp] theorem pwrReqIdle_scis {s : State} : scis (pwrReqIdle s).secys = scis s.secys := by
  unfold pwrReqIdle
  dsimp only
  split_ifs <;> simp

@[simp] theorem pwrReqRun_scis {s : State} :
    scis (pwrReqRun s).secys = scis s.secys := by simp [pwrReqRun]

@[simp] theorem idleRangeAccess_scis {s : State} {off} :
    scis (idleRangeAccess off s).secys = scis s.secys := by
  unfold idleRangeAccess
  split <;> simp

@[simp] theorem startEntry_scis {s : State} {toOff} :
    scis (startEntry toOff s).secys = scis s.secys := by
  unfold startEntry
  dsimp only
  split <;> simp

@[simp] theorem retainToOff_scis {s : State} : scis (retainToOff s).secys = scis s.secys := by
  unfold retainToOff
  dsimp only
  split <;> simp

@[simp] theorem pwrReqRetain_scis {s : State} : scis (pwrReqRetain s).secys = scis s.secys := by
  unfold pwrReqRetain
  (repeat' split) <;> simp

@[simp] theorem pwrReqOff_scis {s : State} : scis (pwrReqOff s).secys = scis s.secys := by
  unfold pwrReqOff
  (repeat' split) <;> simp

@[simp] theorem pwrCtxRestore_scis {s : State} :
    scis (pwrCtxRestore s).secys = scis s.secys := by
  unfold pwrCtxRestore
  dsimp only
  split_ifs <;> simp

@[simp] theorem pwrCtxDiscard_scis {s : State} :
    scis (pwrCtxDiscard s).secys = scis s.secys := rfl

/-! ### Accesses to registers -/

@[simp] theorem readClear_scis {s : State} {off} :
    scis (readClear off s).secys = scis s.secys := by
  unfold readClear
  split <;> simp

@[simp] theorem latchRead_scis {s : State} {off} :
    scis (latchRead off s).secys = scis s.secys := by
  unfold latchRead
  split_ifs <;> simp

@[simp] theorem regReadFull_scis {s : State} {off} :
    scis (regReadFull off s).1.secys = scis s.secys := by simp [regReadFull]

@[simp] theorem regStore_scis {s : State} {off} {v} :
    scis (regStore off v s).secys = scis s.secys := rfl

@[simp] theorem ringCtrlWrite_scis {s : State} {n} {v} :
    scis (ringCtrlWrite n v s).secys = scis s.secys := by
  unfold ringCtrlWrite
  split_ifs <;> simp

@[simp] theorem tmpCtrlWrite_scis {s : State} {v} :
    scis (tmpCtrlWrite v s).secys = scis s.secys := by
  unfold tmpCtrlWrite
  dsimp only
  refine (foldl_scis fun s k => by split_ifs <;> simp).trans ?_
  exact regStore_scis

@[simp] theorem splNodeWrite_scis {s : State} {v} :
    scis (splNodeWrite v s).secys = scis s.secys := by
  unfold splNodeWrite
  dsimp only
  split_ifs <;> simp

@[simp] theorem spCtrlWrite_scis {s : State} {p} {v} :
    scis (spCtrlWrite p v s).secys = scis s.secys := by
  unfold spCtrlWrite
  split_ifs <;> simp

@[simp] theorem syncRestart_scis {s was : State} :
    scis (syncRestart was s).secys = scis s.secys := by
  unfold syncRestart; split_ifs <;> simp

@[simp] theorem syncCtrlWrite_scis {s : State} {v} :
    scis (syncCtrlWrite v s).secys = scis s.secys := by
  unfold syncCtrlWrite; dsimp only; split_ifs <;> simp

@[simp] theorem pwrReqWrite_scis {s : State} {v} :
    scis (pwrReqWrite v s).secys = scis s.secys := by
  unfold pwrReqWrite
  split <;> simp

@[simp] theorem ctxCtrlWrite_scis {s : State} {v} :
    scis (ctxCtrlWrite v s).secys = scis s.secys := by
  unfold ctxCtrlWrite
  split_ifs <;> simp

@[simp] theorem logCtrlWrite_scis {s : State} {v} :
    scis (logCtrlWrite v s).secys = scis s.secys := by
  unfold logCtrlWrite
  split <;> simp

@[simp] theorem doorbell_scis {s : State} {sq} {n} {v} :
    scis (doorbell sq n v s).secys = scis s.secys := by
  unfold doorbell
  split <;> simp

@[simp] theorem regWrite_scis {s : State} {off} {v} :
    scis (regWrite off v s).secys = scis s.secys := by
  simp [regWrite, apply_ite State.secys, apply_ite scis]

@[simp] theorem registerWrite_scis {s : State} {off} {v} {full} :
    scis (registerWrite off v full s).secys = scis s.secys := by
  unfold registerWrite
  split <;> simp

@[simp] theorem setLock_scis {s : State} {off} : scis (setLock off s).secys = scis s.secys := by
  unfold setLock
  split <;> simp

/-! ### Requests from other nodes -/

@[simp] theorem busRead_scis {s : State} {off} :
    scis (busRead off s).1.secys = scis s.secys := by simp [busRead]

@[simp] theorem busWrite_scis {s : State} {off} {v} :
    scis (busWrite off v s).secys = scis s.secys := by simp [busWrite]

@[simp] theorem busReads_scis {s : State} {l} : scis (busReads l s).1.secys = scis s.secys := by
  induction l generalizing s with
  | nil => exact rfl
  | cons o r ih => unfold busReads; simp [ih]

@[simp] theorem busWrites_scis {s : State} {l} : scis (busWrites l s).secys = scis s.secys := by
  induction l generalizing s with
  | nil => exact rfl
  | cons o r ih => unfold busWrites; simp [ih]

@[simp] theorem maskWrite_scis {s : State} {off} {data} {mask} :
    scis (maskWrite off data mask s).secys = scis s.secys := by simp [maskWrite]

@[simp] theorem runOps_scis {s : State} {l} {k} : scis (runOps l k s).1.secys = scis s.secys := by
  induction l generalizing s k with
  | nil => exact rfl
  | cons o r ih => unfold runOps; dsimp only; split_ifs <;> simp [ih]

@[simp] theorem bcastApply_scis {s : State} {k} :
    scis (bcastApply k s).1.secys = scis s.secys := by
  unfold bcastApply
  dsimp only
  split_ifs <;> simp

@[simp] theorem gatherEnd_scis {s : State} {g} : scis (gatherEnd g s).secys = scis s.secys := by
  unfold gatherEnd
  split <;> [split_ifs; skip] <;> simp

@[simp] theorem setGathers_scis {s : State} {l} :
    scis (setGathers l s).secys = scis s.secys := rfl

@[simp] theorem gatherBegin_scis {s : State} {g} :
    scis (gatherBegin g s).secys = scis s.secys := by
  unfold gatherBegin
  split <;> simp

@[simp] theorem bcastServe_scis {s : State} {p} {k} :
    scis (bcastServe p k s).secys = scis s.secys := by
  unfold bcastServe
  dsimp only
  rw [gatherBegin_scis, bcastApply_scis]
  exact foldl_scis fun _ _ => enqueue_scis

@[simp] theorem serveBus_scis {s : State} {p} {k} :
    scis (serveBus p k s).secys = scis s.secys := by
  grind [serveBus, sendOwn_scis, busReads_scis, runOps_scis, busWrites_scis, bcastServe_scis]

@[simp] theorem serveFar_scis {s : State} {p} {k} :
    scis (serveFar p k s).secys = scis s.secys := by simp [serveFar]

@[simp] theorem hostRead_scis {s : State} {off} {full} :
    scis (hostRead off full s).secys = scis s.secys := by
  unfold hostRead
  split <;> simp

@[simp] theorem hostLatch_scis {s : State} {off} {full} :
    scis (hostLatch off full s).secys = scis s.secys := by
  unfold hostLatch
  split <;> simp

@[simp] theorem hostAccess_scis {s : State} {c} : scis (hostAccess c s).secys = scis s.secys := by
  cases c <;> dsimp only [hostAccess] <;> simp

@[simp] theorem serveHost_scis {s : State} {c} :
    scis (serveHost c s).secys = scis s.secys := by simp [serveHost]

@[simp] theorem serveWaiting_scis {s : State} {n} :
    scis (serveWaiting n s).secys = scis s.secys := by
  induction n generalizing s with
  | zero => exact rfl
  | succ n ih => unfold serveWaiting; (repeat' split) <;> simp [ih]

/-! ### The pipelines go down -/

/-- PD_PIPE takes the SecYs with it; another domain leaves their SCIs. -/
theorem domainDown_scis {s : State} {d} : scis (domainDown d s).secys = if d = dPIPE then scis [] else scis s.secys := by
  unfold domainDown
  dsimp only
  split_ifs <;> simp_all [modPwr, dropRegs, pipeDown, dDOME, dHOST, dPIPE]

theorem openSwitch_noSci {s : State} {d rest} (h : scis s.secys = scis []) : scis (openSwitch d rest s).secys = scis [] := by
  refine (domainDown_scis (s := s) (d := d)).trans ?_
  rw [h, ite_self]

theorem movePower_noSci {s : State} {fuel} (h : scis s.secys = scis []) : scis (movePower fuel s).secys = scis [] := by
  induction fuel generalizing s with
  | zero => exact h
  | succ k ih =>
    unfold movePower
    split
    · exact h
    · split
      · exact transEnd_scis.trans h
      · split_ifs
        · exact ih (closeSwitch_scis.trans h)
        · exact h
      · dsimp only
        split_ifs
        · exact ih (openSwitch_noSci (beforeOpen_scis.trans h))
        · exact beforeOpen_scis.trans h

/-- Where no SecY has an SCI, what follows a command gives none. -/
theorem finalize_noSci {s : State} (h : scis s.secys = scis []) : scis (finalize s).secys = scis [] := by
  unfold finalize
  dsimp only
  rw [settle_scis]
  exact movePower_noSci (by simpa using h)

/-! ### The refutation -/

/-- SECY_SET of SecY 3, with the default role at port 0, created with SCI 0. -/
def setDefaultSecy : List Word := Tests.wd [(0, 0x10), (2, 3), (4, 0x100120)]

/-- A table that lists SecY 5 twice: as one that does not exist, and as one with an SCI. -/
def secyListedTwice : State := Tests.dsc setDefaultSecy { Tests.base with secys := [(5, {}), (5, { valid := true, sci := 7 })] }

/-- Clearing the default role has dropped the first entry: the command leaves SecY 5 with the second one's SCI. -/
theorem secySet_finds_second : scis (Tests.after (.secySet 0 0) secyListedTwice).secys 5 = 7 := by decide +kernel

/-- Before it, no SecY has one. -/
theorem secyListedTwice_noSci : scis secyListedTwice.secys = scis [] := by
  have hlist : secyListedTwice.secys = [(5, {}), (5, { valid := true, sci := 7 })] := rfl
  funext j
  by_cases hj : 5 = j <;> simp [scis, hlist, tabGet, hj]

/-- Refutes O18: SECY_SET with PORT_DEFAULT changes the SCI of another SecY where the table lists that one twice. -/
theorem not_secyCommandsChangeTheirSecy : ¬ Obligations.SecyCommandsChangeTheirSecy := by
  unfold Obligations.SecyCommandsChangeTheirSecy
  intro h
  obtain ⟨u, hexec, hself, hother, -⟩ := (h 0 0 setDefaultSecy secyListedTwice).1 (by decide) (by decide)
  have hu : scis u.secys = scis [] := by
    funext j
    by_cases hj : j = fld (wAt setDefaultSecy 2) 0 9
    · have hsci : (secy u j).sci = w64 setDefaultSecy 7 := by rw [hj, hself]
      have hzero : w64 setDefaultSecy 7 = 0 := by decide
      exact hsci.trans hzero
    · obtain ⟨-, -, hsci, -⟩ := hother j hj
      have hbefore : (secy secyListedTwice j).sci = scis [] j := congrFun secyListedTwice_noSci j
      exact hsci.trans hbefore
  have hend : Tests.after (.secySet 0 0) secyListedTwice = finalize (finish 0 0 (okRes 0) u) := by
    rw [Tests.after, hexec]
    rfl
  have hsci := secySet_finds_second
  rw [hend, finalize_noSci (finish_scis.trans hu)] at hsci
  exact absurd hsci (by decide)

end Sys2Proof.Machine

/-! PROOF. What follows a command keeps: the power domains that are on, until one goes down, and the register at 0x4C0, which no
access stores and no operation writes. -/

namespace Sys2Proof.Machine

/-! ### The spare register -/

/-- The register at 0x4C0: none of the table. -/
def spareReg (t : Tab Word) : Word := tabGet (regReset 0x4C0) t 0x4C0

theorem spareReg_rset_ne {off : Nat} {v : Word} {s : State} (h : off ≠ 0x4C0) : spareReg (rset off v s).regs = spareReg s.regs :=
  rget_rset_ne v s (Ne.symm h)

@[simp] theorem spareReg_rset {off : Nat} {v : Word} {s : State} (h : 0x1000 ≤ off) : spareReg (rset off v s).regs = spareReg s.regs :=
  spareReg_rset_ne (by omega)

@[simp] theorem spareReg_rsetFld {off lo len v : Nat} {s : State} (h : 0x1000 ≤ off) :
    spareReg (rsetFld off lo len v s).regs = spareReg s.regs := spareReg_rset h

@[simp] theorem spareReg_rsat {off lo len inc : Nat} {s : State} (h : 0x1000 ≤ off) :
    spareReg (rsat off lo len inc s).regs = spareReg s.regs := spareReg_rset h

@[simp] theorem spareReg_rmax {off lo len v : Nat} {s : State} (h : 0x1000 ≤ off) :
    spareReg (rmax off lo len v s).regs = spareReg s.regs := spareReg_rset h

/-- A write with the value that stands there. -/
theorem spareReg_rset_same {off : Nat} {v : Word} {s : State} (h : off = 0x4C0 → v = rget s 0x4C0) :
    spareReg (rset off v s).regs = spareReg s.regs := by
  by_cases ho : off = 0x4C0
  · subst ho
    exact (rget_rset_self _ _ _).trans (h rfl)
  · exact spareReg_rset_ne ho

/-- The registers that operations write stand from 0x1000 on. -/
@[simp] theorem written_above : 0x1000 ≤ rTMP_LATCH ∧ 0x1000 ≤ rBELFRY_DISC_DROP ∧ 0x1000 ≤ rPWR_RETCNT ∧ 0x1000 ≤ rDOM_RPMB_ADDR
    ∧ 0x1000 ≤ rLC_MID ∧ 0x1000 ≤ rLC_HI ∧ 0x1000 ≤ rLOG_TICK_HI ∧ 0x1000 ≤ rLOG_RD_IDX ∧ 0x1000 ≤ rTWR_HEALTH ∧ 0x1000 ≤ rTWR_CAP128
    ∧ 0x1000 ≤ rTWR_CAP256 ∧ 0x1000 ≤ rTMP_LAST ∧ 0x1000 ≤ rTMP_COUNT ∧ 0x1000 ≤ rSPL_PERR_STATUS ∧ 0x1000 ≤ rPWR_CTX_STATUS
    ∧ 0x1000 ≤ rPWR_DOMAIN ∧ 0x1000 ≤ rPWR_REQ ∧ 0x1000 ≤ rTWR_ITBL_GEN ∧ 0x1000 ≤ rTMP_STATUS ∧ 0x1000 ≤ rTMP_LOOP_PEER
    ∧ 0x1000 ≤ rSPL_NODE ∧ 0x1000 ≤ rPWR_TIMING ∧ 0x1000 ≤ rDOM_FETCH_FAIL ∧ 0x1000 ≤ rDOM_DCACHE_MISS := by decide

@[simp] theorem rEVT_RING_LOST_above {m : Nat} : 0x1000 ≤ rEVT_RING_LOST m := by unfold rEVT_RING_LOST; omega

@[simp] theorem rEVT_PEND_above {m : Nat} : 0x1000 ≤ rEVT_PEND m := by unfold rEVT_PEND; omega

@[simp] theorem rLOG_RD_W_above {m : Nat} : 0x1000 ≤ rLOG_RD_W m := by unfold rLOG_RD_W; omega

@[simp] theorem rSPL_PERR_above {i w : Nat} : 0x1000 ≤ rSPL_PERR i w := by unfold rSPL_PERR; omega

@[simp] theorem rTWR_ITBL_above {w : Nat} : 0x1000 ≤ rTWR_ITBL w := by unfold rTWR_ITBL; omega

@[simp] theorem rSP_above {p off : Nat} : 0x1000 ≤ rSP p off := by unfold rSP; omega

@[simp] theorem rTWR_TOW_MISS_above {t : Nat} : 0x1000 ≤ rTWR_TOW_MISS t := by unfold rTWR_TOW_MISS; omega

@[simp] theorem rTWR_TOW_CTX_above {t : Nat} : 0x1000 ≤ rTWR_TOW_CTX t := by unfold rTWR_TOW_CTX; omega

@[simp] theorem rPA_IG_LATENCY_above {n : Nat} : 0x1000 ≤ rPA_IG_LATENCY n := by unfold rPA_IG_LATENCY rPA; omega

@[simp] theorem rSP_CTRL_above {p : Nat} : 0x1000 ≤ rSP_CTRL p := rSP_above

@[simp] theorem rSP_ERR_above {p : Nat} : 0x1000 ≤ rSP_ERR p := rSP_above

@[simp] theorem spareReg_bumpRetcnt {s : State} : spareReg (bumpRetcnt s).regs = spareReg s.regs := spareReg_rset (by decide)

@[simp] theorem spareReg_setPend {src : Nat} {s : State} : spareReg (setPend src s).regs = spareReg s.regs := spareReg_rset rEVT_PEND_above

/-- It belongs to the domain that stays on. -/
@[simp] theorem spareReg_dropRegs {d : Nat} {s : State} (h : d ≠ dAON) : spareReg (dropRegs d s).regs = spareReg s.regs := by
  have hd : (regDomain 0x4C0 == some d) = false := by
    have : regDomain 0x4C0 = some dAON := by decide
    simpa [this] using Ne.symm h
  exact (tabGet_drop (regReset 0x4C0) (fun o => regDomain o == some d) s.regs 0x4C0).trans (if_neg (by simp [hd]))

/-! ### Folds -/

theorem foldl_spare {α : Type} {f : State → α → State} {l : List α} {s : State}
    (h : ∀ s a, (f s a).pwr.on = s.pwr.on ∧ spareReg (f s a).regs = spareReg s.regs) :
    (l.foldl f s).pwr.on = s.pwr.on ∧ spareReg (l.foldl f s).regs = spareReg s.regs :=
  ⟨foldl_keeps (v := fun s => s.pwr.on) (fun s a => (h s a).1) l s, foldl_keeps (v := fun s => spareReg s.regs) (fun s a => (h s a).2) l s⟩

/-- For `simp`, with the part it rewrites. -/
@[simp] theorem foldl_spare_on {α : Type} {f : State → α → State} {l : List α} {s : State} (h : ∀ s a, (f s a).pwr.on = s.pwr.on) :
    (l.foldl f s).pwr.on = s.pwr.on := foldl_keeps (v := fun s => s.pwr.on) h l s

@[simp] theorem foldl_spare_reg {α : Type} {f : State → α → State} {l : List α} {s : State} (h : ∀ s a, spareReg (f s a).regs = spareReg s.regs) :
    spareReg (l.foldl f s).regs = spareReg s.regs := foldl_keeps (v := fun s => spareReg s.regs) h l s

@[simp] theorem foldl_rings {α : Type} {f : State → α → State} {l : List α} {s : State} (h : ∀ s a, (f s a).rings = s.rings) :
    (l.foldl f s).rings = s.rings := foldl_keeps (v := State.rings) h l s

theorem foldl_kept {α : Type} {f : State → α → State} {l : List α} {s : State}
    (h : ∀ s a, (f s a).pwr.on = s.pwr.on ∧ spareReg (f s a).regs = spareReg s.regs ∧ (f s a).rings = s.rings) :
    (l.foldl f s).pwr.on = s.pwr.on ∧ spareReg (l.foldl f s).regs = spareReg s.regs ∧ (l.foldl f s).rings = s.rings :=
  ⟨foldl_spare_on fun s a => (h s a).1, foldl_spare_reg fun s a => (h s a).2.1, foldl_rings fun s a => (h s a).2.2⟩

/-! ### Memory, events and rings -/

@[simp] theorem memWrite_kept {s : State} {addr} {l} :
    (memWrite addr l s).1.pwr.on = s.pwr.on ∧ spareReg (memWrite addr l s).1.regs = spareReg s.regs ∧ (memWrite addr l s).1.rings = s.rings := by
  unfold memWrite
  split <;> simp

@[simp] theorem raiseSev_kept {s : State} {sev} {src} {inst} {detail} :
    (raiseSev sev src inst detail s).pwr.on = s.pwr.on ∧ spareReg (raiseSev sev src inst detail s).regs = spareReg s.regs
      ∧ (raiseSev sev src inst detail s).rings = s.rings := by
  unfold raiseSev
  dsimp only
  split_ifs <;> simp

@[simp] theorem evLose_kept {s : State} {m} :
    (evLose m s).pwr.on = s.pwr.on ∧ spareReg (evLose m s).regs = spareReg s.regs ∧ (evLose m s).rings = s.rings := by simp [evLose]

@[simp] theorem evQueue_kept {s : State} {m} {e} :
    (evQueue m e s).pwr.on = s.pwr.on ∧ spareReg (evQueue m e s).regs = spareReg s.regs ∧ (evQueue m e s).rings = s.rings := by
  unfold evQueue
  dsimp only
  split_ifs <;> simp

@[simp] theorem raisePerm_kept {s : State} {n} {i} {r} :
    (raisePerm n i r s).pwr.on = s.pwr.on ∧ spareReg (raisePerm n i r s).regs = spareReg s.regs ∧ (raisePerm n i r s).rings = s.rings := by
  unfold raisePerm
  split <;> simp

@[simp] theorem finish_spare {s : State} {n} {i} {r} :
    (finish n i r s).pwr.on = s.pwr.on ∧ spareReg (finish n i r s).regs = spareReg s.regs := by simp [finish]

@[simp] theorem reserveMembers_spare {s : State} {n} :
    (reserveMembers n s).pwr.on = s.pwr.on ∧ spareReg (reserveMembers n s).regs = spareReg s.regs := by
  unfold reserveMembers
  split <;> simp

@[simp] theorem ringErr_spare {s : State} {n} {code} {idx} :
    (ringErr n code idx s).pwr.on = s.pwr.on ∧ spareReg (ringErr n code idx s).regs = spareReg s.regs := ⟨rfl, rfl⟩

@[simp] theorem checkStopped_spare {s : State} {n} :
    (checkStopped n s).pwr.on = s.pwr.on ∧ spareReg (checkStopped n s).regs = spareReg s.regs := by
  unfold checkStopped
  dsimp only
  split <;> simp

@[simp] theorem stopRing_spare {s : State} {n} : (stopRing n s).pwr.on = s.pwr.on ∧ spareReg (stopRing n s).regs = spareReg s.regs := by
  unfold stopRing
  dsimp only
  split <;> simp

@[simp] theorem ringEnable_spare {s : State} {n} : (ringEnable n s).pwr.on = s.pwr.on ∧ spareReg (ringEnable n s).regs = spareReg s.regs := by
  unfold ringEnable
  dsimp only
  (repeat' split) <;> simp

@[simp] theorem ringDisable_spare {s : State} {n} :
    (ringDisable n s).pwr.on = s.pwr.on ∧ spareReg (ringDisable n s).regs = spareReg s.regs := by
  unfold ringDisable
  split <;> simp

@[simp] theorem resumeCq_spare {s : State} {n} : (resumeCq n s).pwr.on = s.pwr.on ∧ spareReg (resumeCq n s).regs = spareReg s.regs := by
  unfold resumeCq
  split <;> simp

@[simp] theorem dblSqTail_spare {s : State} {n} {v} :
    (dblSqTail n v s).pwr.on = s.pwr.on ∧ spareReg (dblSqTail n v s).regs = spareReg s.regs := by
  unfold dblSqTail
  dsimp only
  split_ifs <;> simp

@[simp] theorem dblCqHead_spare {s : State} {n} {v} :
    (dblCqHead n v s).pwr.on = s.pwr.on ∧ spareReg (dblCqHead n v s).regs = spareReg s.regs := by
  unfold dblCqHead
  dsimp only
  split_ifs <;> simp

@[simp] theorem writeEntry_kept {s : State} {addr} {ws} :
    (writeEntry addr ws s).1.pwr.on = s.pwr.on ∧ spareReg (writeEntry addr ws s).1.regs = spareReg s.regs
      ∧ (writeEntry addr ws s).1.rings = s.rings := by
  unfold writeEntry
  grind [memWrite_kept]

@[simp] theorem admitEnt_spare {s : State} {n} {e} :
    (admitEnt n s e).pwr.on = s.pwr.on ∧ spareReg (admitEnt n s e).regs = spareReg s.regs := by
  unfold admitEnt
  (repeat' split) <;> simp

@[simp] theorem admitAll_spare {s : State} : (admitAll s).pwr.on = s.pwr.on ∧ spareReg (admitAll s).regs = spareReg s.regs := by
  unfold admitAll
  split
  · exact foldl_spare fun _ _ => foldl_spare fun _ _ => admitEnt_spare
  · exact ⟨rfl, rfl⟩

@[simp] theorem effect_spare {s u : State} {n} {i} {r} (hp : u.pwr.on = s.pwr.on) (hm : spareReg u.regs = spareReg s.regs) :
    (effect n i r u s).pwr.on = s.pwr.on ∧ spareReg (effect n i r u s).regs = spareReg s.regs := by
  unfold effect; split <;> simp [hp, hm]

@[simp] theorem tmuSyncClear_kept {s : State} :
    (tmuSyncClear s).pwr.on = s.pwr.on ∧ spareReg (tmuSyncClear s).regs = spareReg s.regs ∧ (tmuSyncClear s).rings = s.rings := by
  unfold tmuSyncClear
  split <;> simp

/-! ### Frames and the data cache -/

@[simp] theorem touchDcache_kept {s : State} {gen} {kref} {label} {u} {len} :
    (touchDcache gen kref label u len s).pwr.on = s.pwr.on ∧ spareReg (touchDcache gen kref label u len s).regs = spareReg s.regs
      ∧ (touchDcache gen kref label u len s).rings = s.rings := by
  unfold touchDcache
  dsimp only
  split_ifs <;> simp

@[simp] theorem cntSecyOf_kept {s : State} {y} {serial} {i} {inc} :
    (cntSecyOf y serial i inc s).pwr.on = s.pwr.on ∧ spareReg (cntSecyOf y serial i inc s).regs = spareReg s.regs
      ∧ (cntSecyOf y serial i inc s).rings = s.rings := by
  unfold cntSecyOf
  split <;> simp

@[simp] theorem cntRxOf_kept {s : State} {c} {serial} {i} {inc} :
    (cntRxOf c serial i inc s).pwr.on = s.pwr.on ∧ spareReg (cntRxOf c serial i inc s).regs = spareReg s.regs
      ∧ (cntRxOf c serial i inc s).rings = s.rings := by
  unfold cntRxOf
  split <;> simp

@[simp] theorem cntSaOf_kept {s : State} {sa} {serial} {i} {inc} :
    (cntSaOf sa serial i inc s).pwr.on = s.pwr.on ∧ spareReg (cntSaOf sa serial i inc s).regs = spareReg s.regs
      ∧ (cntSaOf sa serial i inc s).rings = s.rings := by
  unfold cntSaOf
  split <;> simp

@[simp] theorem egDrop_kept {s : State} {id} {c} {f} :
    (egDrop id c f s).pwr.on = s.pwr.on ∧ spareReg (egDrop id c f s).regs = spareReg s.regs ∧ (egDrop id c f s).rings = s.rings := ⟨rfl, rfl, rfl⟩

@[simp] theorem egEnd_kept {s : State} {id} {c} {f} :
    (egEnd id c f s).pwr.on = s.pwr.on ∧ spareReg (egEnd id c f s).regs = spareReg s.regs ∧ (egEnd id c f s).rings = s.rings := by
  unfold egEnd
  split <;> simp

@[simp] theorem egKeyFail_kept {s : State} {id} {st} {f} :
    (egKeyFail id st f s).pwr.on = s.pwr.on ∧ spareReg (egKeyFail id st f s).regs = spareReg s.regs ∧ (egKeyFail id st f s).rings = s.rings :=
  by simp [egKeyFail]

@[simp] theorem igSecy_kept {s : State} {f} {i} {inc} :
    (igSecy f i inc s).pwr.on = s.pwr.on ∧ spareReg (igSecy f i inc s).regs = spareReg s.regs ∧ (igSecy f i inc s).rings = s.rings := by
  unfold igSecy
  split <;> simp

@[simp] theorem igRxsc_kept {s : State} {f} {i} {inc} :
    (igRxsc f i inc s).pwr.on = s.pwr.on ∧ spareReg (igRxsc f i inc s).regs = spareReg s.regs ∧ (igRxsc f i inc s).rings = s.rings := by
  unfold igRxsc
  split <;> simp

@[simp] theorem igSa_kept {s : State} {f} {i} {inc} :
    (igSa f i inc s).pwr.on = s.pwr.on ∧ spareReg (igSa f i inc s).regs = spareReg s.regs ∧ (igSa f i inc s).rings = s.rings := by simp [igSa]

@[simp] theorem igOctets_kept {s : State} {f} :
    (igOctets f s).pwr.on = s.pwr.on ∧ spareReg (igOctets f s).regs = spareReg s.regs ∧ (igOctets f s).rings = s.rings := by simp [igOctets]

@[simp] theorem igCharge_kept {s : State} {k} {f} :
    (igCharge k f s).pwr.on = s.pwr.on ∧ spareReg (igCharge k f s).regs = spareReg s.regs ∧ (igCharge k f s).rings = s.rings := by
  unfold igCharge
  (repeat' split) <;> simp

@[simp] theorem igGone_kept {s : State} {id} {f} :
    (igGone id f s).pwr.on = s.pwr.on ∧ spareReg (igGone id f s).regs = spareReg s.regs ∧ (igGone id f s).rings = s.rings := ⟨rfl, rfl, rfl⟩

@[simp] theorem cutBytes_kept {s : State} {k} {f} :
    (cutBytes k f s).1.pwr.on = s.pwr.on ∧ spareReg (cutBytes k f s).1.regs = spareReg s.regs ∧ (cutBytes k f s).1.rings = s.rings := by
  unfold cutBytes
  split <;> simp

@[simp] theorem igAbort_kept {s : State} {id} {k} {f} :
    (igAbort id k f s).pwr.on = s.pwr.on ∧ spareReg (igAbort id k f s).regs = spareReg s.regs ∧ (igAbort id k f s).rings = s.rings :=
  by simp [igAbort]

@[simp] theorem cutStarts_kept {s : State} {f} :
    (cutStarts f s).pwr.on = s.pwr.on ∧ spareReg (cutStarts f s).regs = spareReg s.regs ∧ (cutStarts f s).rings = s.rings := by simp [cutStarts]

@[simp] theorem igEnd_kept {s : State} {id} {k} {f} :
    (igEnd id k f s).pwr.on = s.pwr.on ∧ spareReg (igEnd id k f s).regs = spareReg s.regs ∧ (igEnd id k f s).rings = s.rings := by
  unfold igEnd
  split <;> simp

@[simp] theorem igFail_kept {s : State} {id} {k} {f} :
    (igFail id k f s).pwr.on = s.pwr.on ∧ spareReg (igFail id k f s).regs = spareReg s.regs ∧ (igFail id k f s).rings = s.rings := by
  unfold igFail
  split <;> simp

@[simp] theorem igKeyFail_kept {s : State} {id} {st} {f} :
    (igKeyFail id st f s).pwr.on = s.pwr.on ∧ spareReg (igKeyFail id st f s).regs = spareReg s.regs ∧ (igKeyFail id st f s).rings = s.rings :=
  by simp [igKeyFail]

@[simp] theorem dropUnits_kept {s : State} {x} {k} :
    (dropUnits x k s).pwr.on = s.pwr.on ∧ spareReg (dropUnits x k s).regs = spareReg s.regs ∧ (dropUnits x k s).rings = s.rings :=
  by simp [dropUnits]

@[simp] theorem unitFail_kept {s : State} {id} {r} :
    (unitFail id r s).pwr.on = s.pwr.on ∧ spareReg (unitFail id r s).regs = spareReg s.regs ∧ (unitFail id r s).rings = s.rings := by
  unfold unitFail
  split <;> simp

@[simp] theorem freeBytes_kept {s : State} {n} :
    (freeBytes n s).1.pwr.on = s.pwr.on ∧ spareReg (freeBytes n s).1.regs = spareReg s.regs ∧ (freeBytes n s).1.rings = s.rings := ⟨rfl, rfl, rfl⟩

@[simp] theorem havoc_kept {s : State} {addr} {n} :
    (havoc addr n s).pwr.on = s.pwr.on ∧ spareReg (havoc addr n s).regs = spareReg s.regs ∧ (havoc addr n s).rings = s.rings := by simp [havoc]

/-! ### Towers and their items -/

@[simp] theorem jobEnd_spare {s : State} {id} {n} {i} {r} :
    (jobEnd id n i r s).pwr.on = s.pwr.on ∧ spareReg (jobEnd id n i r s).regs = spareReg s.regs := by
  unfold jobEnd
  dsimp only
  (repeat' split) <;> simp

@[simp] theorem bslotEmpty_kept {s : State} {i} :
    (bslotEmpty i s).pwr.on = s.pwr.on ∧ spareReg (bslotEmpty i s).regs = spareReg s.regs ∧ (bslotEmpty i s).rings = s.rings := by
  unfold bslotEmpty
  dsimp only
  split <;> simp

@[simp] theorem bslotDrop_kept {s : State} {i} :
    (bslotDrop i s).pwr.on = s.pwr.on ∧ spareReg (bslotDrop i s).regs = spareReg s.regs ∧ (bslotDrop i s).rings = s.rings := by
  unfold bslotDrop
  split <;> simp

@[simp] theorem itemFail_spare {s : State} {id} {r} : (itemFail id r s).pwr.on = s.pwr.on ∧ spareReg (itemFail id r s).regs = spareReg s.regs := by
  unfold itemFail
  (repeat' split) <;> simp

@[simp] theorem noteHealth_kept {s : State} :
    (noteHealth s).pwr.on = s.pwr.on ∧ spareReg (noteHealth s).regs = spareReg s.regs ∧ (noteHealth s).rings = s.rings := by simp [noteHealth]

@[simp] theorem refill_kept {s : State} {oldMode} :
    (refill oldMode s).pwr.on = s.pwr.on ∧ spareReg (refill oldMode s).regs = spareReg s.regs ∧ (refill oldMode s).rings = s.rings := by
  unfold refill
  dsimp only
  split <;> simp

@[simp] theorem arrayChange_kept {s : State} {f : State → State} (hp : (f s).pwr.on = s.pwr.on) (hm : spareReg (f s).regs = spareReg s.regs)
    (hr : (f s).rings = s.rings) : (arrayChange f s).pwr.on = s.pwr.on ∧ spareReg (arrayChange f s).regs = spareReg s.regs
    ∧ (arrayChange f s).rings = s.rings := by
  unfold arrayChange; dsimp only; split_ifs <;> simp [hp, hm, hr]

@[simp] theorem takeOrder_kept {s : State} :
    (takeOrder s).1.pwr.on = s.pwr.on ∧ spareReg (takeOrder s).1.regs = spareReg s.regs ∧ (takeOrder s).1.rings = s.rings := ⟨rfl, rfl, rfl⟩

@[simp] theorem cachePut_kept {s : State} {t} {e} :
    (cachePut t e s).pwr.on = s.pwr.on ∧ spareReg (cachePut t e s).regs = spareReg s.regs ∧ (cachePut t e s).rings = s.rings := ⟨rfl, rfl, rfl⟩

@[simp] theorem touchCache_kept {s : State} {t} {x} :
    (touchCache t x s).pwr.on = s.pwr.on ∧ spareReg (touchCache t x s).regs = spareReg s.regs ∧ (touchCache t x s).rings = s.rings :=
  foldl_kept fun s k => by split <;> simp

@[simp] theorem dropBadTags_kept {s : State} {t} :
    (dropBadTags t s).pwr.on = s.pwr.on ∧ spareReg (dropBadTags t s).regs = spareReg s.regs ∧ (dropBadTags t s).rings = s.rings := ⟨rfl, rfl, rfl⟩

@[simp] theorem igStream_kept {s : State} {id} {key} :
    (igStream id key s).pwr.on = s.pwr.on ∧ spareReg (igStream id key s).regs = spareReg s.regs ∧ (igStream id key s).rings = s.rings := by
  unfold igStream
  split <;> [split_ifs; skip] <;> simp

@[simp] theorem gotKeys_kept {s : State} {id} {x} {keys} :
    (gotKeys id x keys s).pwr.on = s.pwr.on ∧ spareReg (gotKeys id x keys s).regs = spareReg s.regs ∧ (gotKeys id x keys s).rings = s.rings := by
  unfold gotKeys
  split <;> simp

@[simp] theorem admitItem_spare {s : State} {t} {id} {x} :
    (admitItem t id x s).pwr.on = s.pwr.on ∧ spareReg (admitItem t id x s).regs = spareReg s.regs := by
  unfold admitItem
  dsimp only
  (repeat' split) <;> simp

@[simp] theorem notePeak_kept {s : State} {t} :
    (notePeak t s).pwr.on = s.pwr.on ∧ spareReg (notePeak t s).regs = spareReg s.regs ∧ (notePeak t s).rings = s.rings := by simp [notePeak]

@[simp] theorem pump_spare {s : State} {fuel} {t} : (pump fuel t s).pwr.on = s.pwr.on ∧ spareReg (pump fuel t s).regs = spareReg s.regs := by
  induction fuel generalizing s with
  | zero => exact ⟨rfl, rfl⟩
  | succ k ih => unfold pump; dsimp only [takeOrder]; (repeat' split) <;> simp [ih]

@[simp] theorem pumpAll_spare {s : State} : (pumpAll s).pwr.on = s.pwr.on ∧ spareReg (pumpAll s).regs = spareReg s.regs := by simp [pumpAll]

@[simp] theorem reapJobs_kept {s : State} :
    (reapJobs s).pwr.on = s.pwr.on ∧ spareReg (reapJobs s).regs = spareReg s.regs ∧ (reapJobs s).rings = s.rings :=
  foldl_kept (fun s p => by (repeat' split) <;> simp)

@[simp] theorem streamAll_kept {s : State} :
    (streamAll s).pwr.on = s.pwr.on ∧ spareReg (streamAll s).regs = spareReg s.regs ∧ (streamAll s).rings = s.rings :=
  foldl_kept fun s p => by (repeat' split) <;> simp

@[simp] theorem fetchFail_kept {s : State} {inst} {slotNo} {r} :
    (fetchFail inst slotNo r s).pwr.on = s.pwr.on ∧ spareReg (fetchFail inst slotNo r s).regs = spareReg s.regs
      ∧ (fetchFail inst slotNo r s).rings = s.rings := by simp [fetchFail]

@[simp] theorem belfryAssign_kept {s : State} {sa} :
    (belfryAssign sa s).pwr.on = s.pwr.on ∧ spareReg (belfryAssign sa s).regs = spareReg s.regs ∧ (belfryAssign sa s).rings = s.rings := by
  unfold belfryAssign
  split <;> simp

@[simp] theorem belfryTake_kept {s : State} {port} {sa} {pn} {enc} :
    (belfryTake port sa pn enc s).1.pwr.on = s.pwr.on ∧ spareReg (belfryTake port sa pn enc s).1.regs = spareReg s.regs
      ∧ (belfryTake port sa pn enc s).1.rings = s.rings := by
  unfold belfryTake
  dsimp only
  have habove {b : BSlot} {gen pn enc r : Nat} (h : discardReg b gen pn enc = some r) : 0x1000 ≤ r := by
    unfold discardReg at h
    split_ifs at h <;> (cases h; decide)
  split
  · exact ⟨rfl, rfl, rfl⟩
  · split
    · next h => simp [habove h]
    · simp

@[simp] theorem takeTokens_kept {s : State} {n} :
    (takeTokens n s).pwr.on = s.pwr.on ∧ spareReg (takeTokens n s).regs = spareReg s.regs ∧ (takeTokens n s).rings = s.rings := ⟨rfl, rfl, rfl⟩

@[simp] theorem onStream_kept {s : State} {p} {v} :
    (onStream p v s).pwr.on = s.pwr.on ∧ spareReg (onStream p v s).regs = spareReg s.regs ∧ (onStream p v s).rings = s.rings := ⟨rfl, rfl, rfl⟩

/-! ### Packets and events -/

@[simp] theorem sendAck_kept {s : State} {p} :
    (sendAck p s).pwr.on = s.pwr.on ∧ spareReg (sendAck p s).regs = spareReg s.regs ∧ (sendAck p s).rings = s.rings := by
  unfold sendAck
  dsimp only
  split <;> simp

@[simp] theorem xoffUpdate_kept {s : State} {p} :
    (xoffUpdate p s).pwr.on = s.pwr.on ∧ spareReg (xoffUpdate p s).regs = spareReg s.regs ∧ (xoffUpdate p s).rings = s.rings := by
  unfold xoffUpdate
  dsimp only
  split <;> simp

@[simp] theorem xoffAll_kept {s : State} :
    (xoffAll s).pwr.on = s.pwr.on ∧ spareReg (xoffAll s).regs = spareReg s.regs ∧ (xoffAll s).rings = s.rings := by simp [xoffAll]

@[simp] theorem epochStep_kept {s : State} :
    (epochStep s).pwr.on = s.pwr.on ∧ spareReg (epochStep s).regs = spareReg s.regs ∧ (epochStep s).rings = s.rings := ⟨rfl, rfl, rfl⟩

@[simp] theorem postedErr_kept {s : State} {p} {node} {tag} {addr} {code} :
    (postedErr p node tag addr code s).pwr.on = s.pwr.on ∧ spareReg (postedErr p node tag addr code s).regs = spareReg s.regs
      ∧ (postedErr p node tag addr code s).rings = s.rings := by
  unfold postedErr
  dsimp only
  split <;> simp

@[simp] theorem enqueue_kept {s : State} {p} {q} :
    (enqueue p q s).pwr.on = s.pwr.on ∧ spareReg (enqueue p q s).regs = spareReg s.regs ∧ (enqueue p q s).rings = s.rings := ⟨rfl, rfl, rfl⟩

@[simp] theorem sendOwn_kept {s : State} {k} :
    (sendOwn k s).pwr.on = s.pwr.on ∧ spareReg (sendOwn k s).regs = spareReg s.regs ∧ (sendOwn k s).rings = s.rings := by
  unfold sendOwn
  split <;> [split_ifs; skip] <;> simp

@[simp] theorem refuseForward_kept {s : State} {k} {st} {reason} {code} :
    (refuseForward k st reason code s).pwr.on = s.pwr.on ∧ spareReg (refuseForward k st reason code s).regs = spareReg s.regs
      ∧ (refuseForward k st reason code s).rings = s.rings := by
  unfold refuseForward
  split_ifs <;> simp

@[simp] theorem sendLeaseRecord_kept {s : State} {node} {words} :
    (sendLeaseRecord node words s).pwr.on = s.pwr.on ∧ spareReg (sendLeaseRecord node words s).regs = spareReg s.regs
      ∧ (sendLeaseRecord node words s).rings = s.rings := by simp [sendLeaseRecord]

@[simp] theorem forwardEvent_kept {s : State} {e} :
    (forwardEvent e s).pwr.on = s.pwr.on ∧ spareReg (forwardEvent e s).regs = spareReg s.regs ∧ (forwardEvent e s).rings = s.rings := by
  unfold forwardEvent
  split <;> simp

@[simp] theorem deliver_kept {s : State} {e} :
    (deliver e s).pwr.on = s.pwr.on ∧ spareReg (deliver e s).regs = spareReg s.regs ∧ (deliver e s).rings = s.rings := by
  unfold deliver
  dsimp only
  split_ifs <;> simp

@[simp] theorem settle_kept {s : State} :
    (settle s).pwr.on = s.pwr.on ∧ spareReg (settle s).regs = spareReg s.regs ∧ (settle s).rings = s.rings := by simp [settle]

@[simp] theorem idleWake_kept {s : State} :
    (idleWake s).pwr.on = s.pwr.on ∧ spareReg (idleWake s).regs = spareReg s.regs ∧ (idleWake s).rings = s.rings := by
  unfold idleWake
  split <;> simp

@[simp] theorem wakeRequest_kept {s : State} :
    (wakeRequest s).pwr.on = s.pwr.on ∧ spareReg (wakeRequest s).regs = spareReg s.regs ∧ (wakeRequest s).rings = s.rings := by
  unfold wakeRequest
  (repeat' split) <;> simp

/-! ### Leases, associations and groups -/

@[simp] theorem clearIsland_kept {s : State} :
    (clearIsland s).pwr.on = s.pwr.on ∧ spareReg (clearIsland s).regs = spareReg s.regs ∧ (clearIsland s).rings = s.rings := by simp [clearIsland]

@[simp] theorem noteResponse_kept {s : State} {mask} {level} :
    (noteResponse mask level s).pwr.on = s.pwr.on ∧ spareReg (noteResponse mask level s).regs = spareReg s.regs
      ∧ (noteResponse mask level s).rings = s.rings := by
  unfold noteResponse
  split <;> simp

@[simp] theorem aonResponse_kept {s : State} {mask} {level} :
    (aonResponse mask level s).pwr.on = s.pwr.on ∧ spareReg (aonResponse mask level s).regs = spareReg s.regs
      ∧ (aonResponse mask level s).rings = s.rings := by
  unfold aonResponse
  dsimp only
  split_ifs <;> simp

@[simp] theorem sendRecord_kept {s : State} {sa} {a} {endPn} :
    (sendRecord sa a endPn s).pwr.on = s.pwr.on ∧ spareReg (sendRecord sa a endPn s).regs = spareReg s.regs
      ∧ (sendRecord sa a endPn s).rings = s.rings := by simp [sendRecord]

@[simp] theorem mirrorLostNow_kept {s : State} {sa} {cause} :
    (mirrorLostNow sa cause s).pwr.on = s.pwr.on ∧ spareReg (mirrorLostNow sa cause s).regs = spareReg s.regs
      ∧ (mirrorLostNow sa cause s).rings = s.rings := by
  unfold mirrorLostNow
  dsimp only
  split <;> simp

@[simp] theorem recordLate_kept {s : State} {sa} {cause} :
    (recordLate sa cause s).pwr.on = s.pwr.on ∧ spareReg (recordLate sa cause s).regs = spareReg s.regs
      ∧ (recordLate sa cause s).rings = s.rings := by
  unfold recordLate
  dsimp only
  (repeat' split) <;> simp

@[simp] theorem openRecord_kept {s : State} {aon} {sa} {e} :
    (openRecord aon sa e s).pwr.on = s.pwr.on ∧ spareReg (openRecord aon sa e s).regs = spareReg s.regs
      ∧ (openRecord aon sa e s).rings = s.rings := by
  unfold openRecord
  dsimp only
  split_ifs <;> simp

@[simp] theorem requestLease_kept {s : State} {sa} :
    (requestLease sa s).pwr.on = s.pwr.on ∧ spareReg (requestLease sa s).regs = spareReg s.regs ∧ (requestLease sa s).rings = s.rings := by
  unfold requestLease
  dsimp only
  split <;> simp

@[simp] theorem leaseProgress_kept {s : State} {sa} :
    (leaseProgress sa s).pwr.on = s.pwr.on ∧ spareReg (leaseProgress sa s).regs = spareReg s.regs ∧ (leaseProgress sa s).rings = s.rings := by
  unfold leaseProgress
  dsimp only
  (repeat' split) <;> simp

@[simp] theorem cancelSwitch_kept {s : State} {y} {sa} {cause} :
    (cancelSwitch y sa cause s).pwr.on = s.pwr.on ∧ spareReg (cancelSwitch y sa cause s).regs = spareReg s.regs
      ∧ (cancelSwitch y sa cause s).rings = s.rings := ⟨rfl, rfl, rfl⟩

@[simp] theorem disarm_kept {s : State} {y} {cause} :
    (disarm y cause s).pwr.on = s.pwr.on ∧ spareReg (disarm y cause s).regs = spareReg s.regs ∧ (disarm y cause s).rings = s.rings := by
  unfold disarm
  split <;> simp

@[simp] theorem claimSlot_kept {s : State} {k} :
    (claimSlot k s).pwr.on = s.pwr.on ∧ spareReg (claimSlot k s).regs = spareReg s.regs ∧ (claimSlot k s).rings = s.rings := ⟨rfl, rfl, rfl⟩

@[simp] theorem appInstall_kept {s : State} {w} {plan} :
    (appInstall w plan s).pwr.on = s.pwr.on ∧ spareReg (appInstall w plan s).regs = spareReg s.regs ∧ (appInstall w plan s).rings = s.rings := by
  unfold appInstall
  (repeat' split) <;> simp

@[simp] theorem bestNow_kept {s : State} {sa} :
    (bestNow sa s).pwr.on = s.pwr.on ∧ spareReg (bestNow sa s).regs = spareReg s.regs ∧ (bestNow sa s).rings = s.rings := by
  unfold bestNow
  dsimp only
  (repeat' split) <;> simp

@[simp] theorem appAdjust_kept {s : State} {w} :
    (appAdjust w s).pwr.on = s.pwr.on ∧ spareReg (appAdjust w s).regs = spareReg s.regs ∧ (appAdjust w s).rings = s.rings := by simp [appAdjust]

@[simp] theorem dropReserved_kept {s : State} :
    (dropReserved s).pwr.on = s.pwr.on ∧ spareReg (dropReserved s).regs = spareReg s.regs ∧ (dropReserved s).rings = s.rings :=
  by simp [dropReserved]

@[simp] theorem dropStaging_kept {s : State} :
    (dropStaging s).pwr.on = s.pwr.on ∧ spareReg (dropStaging s).regs = spareReg s.regs ∧ (dropStaging s).rings = s.rings := ⟨rfl, rfl, rfl⟩

@[simp] theorem closeGroup_spare {s : State} {n} {c} :
    (closeGroup n c s).pwr.on = s.pwr.on ∧ spareReg (closeGroup n c s).regs = spareReg s.regs := by simp [closeGroup]

@[simp] theorem groupFail_spare {s : State} {n} {k} {r} :
    (groupFail n k r s).pwr.on = s.pwr.on ∧ spareReg (groupFail n k r s).regs = spareReg s.regs := by simp [groupFail]

@[simp] theorem adjustLost_kept {s : State} {cause} {endPn} {w} :
    (adjustLost cause endPn w s).pwr.on = s.pwr.on ∧ spareReg (adjustLost cause endPn w s).regs = spareReg s.regs
      ∧ (adjustLost cause endPn w s).rings = s.rings := by simp [adjustLost]

@[simp] theorem mirrorEffect_kept {s : State} {sa} {o} {w} {ans} :
    (mirrorEffect sa o w ans s).1.pwr.on = s.pwr.on ∧ spareReg (mirrorEffect sa o w ans s).1.regs = spareReg s.regs
      ∧ (mirrorEffect sa o w ans s).1.rings = s.rings := by
  unfold mirrorEffect
  (repeat' split) <;> simp

@[simp] theorem stagedAnswer_kept {s : State} {sa} {lost} :
    (stagedAnswer sa lost s).pwr.on = s.pwr.on ∧ spareReg (stagedAnswer sa lost s).regs = spareReg s.regs
      ∧ (stagedAnswer sa lost s).rings = s.rings := by
  unfold stagedAnswer
  split <;> simp

@[simp] theorem mirrorAnswer_spare {s : State} {sa} {ans} :
    (mirrorAnswer sa ans s).pwr.on = s.pwr.on ∧ spareReg (mirrorAnswer sa ans s).regs = spareReg s.regs := by
  unfold mirrorAnswer; dsimp only
  (repeat' split) <;> simp [effect, apply_ite State.pwr, apply_ite State.regs, apply_ite spareReg]

@[simp] theorem mirrorPortDown_spare {s : State} {p} :
    (mirrorPortDown p s).pwr.on = s.pwr.on ∧ spareReg (mirrorPortDown p s).regs = spareReg s.regs := by
  unfold mirrorPortDown; dsimp only
  rw [(foldl_spare fun s x => by (repeat' split) <;> simp).1, (foldl_spare fun s x => by (repeat' split) <;> simp).2]
  exact foldl_spare fun s sa => by (repeat' split) <;> simp

@[simp] theorem finishRun_spare {s : State} {n} {i} {r} :
    (finishRun n i r s).pwr.on = s.pwr.on ∧ spareReg (finishRun n i r s).regs = spareReg s.regs := by
  unfold finishRun
  split <;> [split_ifs; skip] <;> simp

/-! ### Frames and transfers that were held -/

@[simp] theorem assignPn_kept {s : State} {port} {sa} :
    (assignPn port sa s).pwr.on = s.pwr.on ∧ spareReg (assignPn port sa s).regs = spareReg s.regs ∧ (assignPn port sa s).rings = s.rings := by
  unfold assignPn
  dsimp only
  split_ifs <;> simp

@[simp] theorem egWait_kept {s : State} {id} {st} {f} :
    (egWait id st f s).pwr.on = s.pwr.on ∧ spareReg (egWait id st f s).regs = spareReg s.regs ∧ (egWait id st f s).rings = s.rings :=
  ⟨rfl, rfl, rfl⟩

@[simp] theorem egNumber_kept {s : State} {id} {sa} {f} :
    (egNumber id sa f s).pwr.on = s.pwr.on ∧ spareReg (egNumber id sa f s).regs = spareReg s.regs ∧ (egNumber id sa f s).rings = s.rings := by
  unfold egNumber
  dsimp only
  split <;> simp

@[simp] theorem leaseFor_kept {s : State} {sa} :
    (leaseFor sa s).pwr.on = s.pwr.on ∧ spareReg (leaseFor sa s).regs = spareReg s.regs ∧ (leaseFor sa s).rings = s.rings := by
  unfold leaseFor
  dsimp only
  split <;> simp

@[simp] theorem egAssoc_kept {s : State} {id} {f} :
    (egAssoc id f s).pwr.on = s.pwr.on ∧ spareReg (egAssoc id f s).regs = spareReg s.regs ∧ (egAssoc id f s).rings = s.rings := by
  unfold egAssoc
  dsimp only
  split_ifs <;> simp

@[simp] theorem egSpace_kept {s : State} {id} {f} :
    (egSpace id f s).pwr.on = s.pwr.on ∧ spareReg (egSpace id f s).regs = spareReg s.regs ∧ (egSpace id f s).rings = s.rings := by
  unfold egSpace
  (repeat' split) <;> simp

@[simp] theorem egReturn_kept {s : State} {id} {trap} {rule} {f} :
    (egReturn id trap rule f s).pwr.on = s.pwr.on ∧ spareReg (egReturn id trap rule f s).regs = spareReg s.regs
      ∧ (egReturn id trap rule f s).rings = s.rings := by
  unfold egReturn
  dsimp only
  split_ifs <;> simp

@[simp] theorem egRetryOne_kept {s : State} {p} :
    (egRetryOne s p).pwr.on = s.pwr.on ∧ spareReg (egRetryOne s p).regs = spareReg s.regs ∧ (egRetryOne s p).rings = s.rings := by
  unfold egRetryOne
  split <;> simp

@[simp] theorem egRetry_kept {s : State} :
    (egRetry s).pwr.on = s.pwr.on ∧ spareReg (egRetry s).regs = spareReg s.regs ∧ (egRetry s).rings = s.rings := by
  unfold egRetry
  split <;> simp

@[simp] theorem stcTouch_kept {s : State} {e} :
    (stcTouch e s).pwr.on = s.pwr.on ∧ spareReg (stcTouch e s).regs = spareReg s.regs ∧ (stcTouch e s).rings = s.rings := by simp [stcTouch]

@[simp] theorem stcKeyLost_kept {s : State} {c} {cfg} {slotNo} {r} :
    (stcKeyLost c cfg slotNo r s).pwr.on = s.pwr.on ∧ spareReg (stcKeyLost c cfg slotNo r s).regs = spareReg s.regs
      ∧ (stcKeyLost c cfg slotNo r s).rings = s.rings := by
  unfold stcKeyLost
  dsimp only
  split <;> simp

@[simp] theorem stcAccept_kept {s : State} {c} {q} :
    (stcAccept c q s).pwr.on = s.pwr.on ∧ spareReg (stcAccept c q s).regs = spareReg s.regs ∧ (stcAccept c q s).rings = s.rings := by
  unfold stcAccept
  dsimp only
  (repeat' split) <;> simp

@[simp] theorem stcRetry_kept {s : State} {c} :
    (stcRetry c s).pwr.on = s.pwr.on ∧ spareReg (stcRetry c s).regs = spareReg s.regs ∧ (stcRetry c s).rings = s.rings := by
  unfold stcRetry
  split <;> [split_ifs; skip] <;> simp

/-! ### Event rings and the log -/

@[simp] theorem belfryClear_kept {s : State} :
    (belfryClear s).pwr.on = s.pwr.on ∧ spareReg (belfryClear s).regs = spareReg s.regs ∧ (belfryClear s).rings = s.rings := by simp [belfryClear]

@[simp] theorem evPut_kept {s : State} {m} {e} :
    (evPut m e s).1.pwr.on = s.pwr.on ∧ spareReg (evPut m e s).1.regs = spareReg s.regs ∧ (evPut m e s).1.rings = s.rings := by
  unfold evPut
  grind [writeEntry_kept, evLose_kept, setEvRing_leaves]

@[simp] theorem evReport_kept {s : State} {m} :
    (evReport m s).pwr.on = s.pwr.on ∧ spareReg (evReport m s).regs = spareReg s.regs ∧ (evReport m s).rings = s.rings := by
  unfold evReport
  grind [evPut_kept, setEvRing_leaves]

@[simp] theorem eventRingWrite_kept {s : State} {m} :
    (eventRingWrite m s).pwr.on = s.pwr.on ∧ spareReg (eventRingWrite m s).regs = spareReg s.regs ∧ (eventRingWrite m s).rings = s.rings := by
  unfold eventRingWrite
  dsimp only
  (repeat' split) <;> simp

@[simp] theorem evFlush_kept {s : State} {k} {m} :
    (evFlush k m s).pwr.on = s.pwr.on ∧ spareReg (evFlush k m s).regs = spareReg s.regs ∧ (evFlush k m s).rings = s.rings := by
  induction k generalizing s with
  | zero => exact ⟨rfl, rfl, rfl⟩
  | succ k ih => unfold evFlush; split_ifs <;> simp [ih]

@[simp] theorem evFlushAll_kept {s : State} :
    (evFlushAll s).pwr.on = s.pwr.on ∧ spareReg (evFlushAll s).regs = spareReg s.regs ∧ (evFlushAll s).rings = s.rings := by simp [evFlushAll]

@[simp] theorem evtRingCtrl_kept {s : State} {m} {v} :
    (evtRingCtrl m v s).pwr.on = s.pwr.on ∧ spareReg (evtRingCtrl m v s).regs = spareReg s.regs ∧ (evtRingCtrl m v s).rings = s.rings := by
  unfold evtRingCtrl
  dsimp only
  split_ifs <;> simp

@[simp] theorem evtRingHead_kept {s : State} {m} {v} :
    (evtRingHead m v s).pwr.on = s.pwr.on ∧ spareReg (evtRingHead m v s).regs = spareReg s.regs ∧ (evtRingHead m v s).rings = s.rings := by
  unfold evtRingHead
  split <;> simp

@[simp] theorem evtPendClear_kept {s : State} {b} {v} :
    (evtPendClear b v s).pwr.on = s.pwr.on ∧ spareReg (evtPendClear b v s).regs = spareReg s.regs ∧ (evtPendClear b v s).rings = s.rings := by
  unfold evtPendClear
  split <;> simp

@[simp] theorem evtForce_kept {s : State} {b} {v} :
    (evtForce b v s).pwr.on = s.pwr.on ∧ spareReg (evtForce b v s).regs = spareReg s.regs ∧ (evtForce b v s).rings = s.rings := by
  unfold evtForce
  split <;> simp

@[simp] theorem logRdIdx_kept {s : State} {v} :
    (logRdIdx v s).pwr.on = s.pwr.on ∧ spareReg (logRdIdx v s).regs = spareReg s.regs ∧ (logRdIdx v s).rings = s.rings := by simp [logRdIdx]

@[simp] theorem logCtrlAck_kept {s : State} :
    (logCtrlAck s).pwr.on = s.pwr.on ∧ spareReg (logCtrlAck s).regs = spareReg s.regs ∧ (logCtrlAck s).rings = s.rings := ⟨rfl, rfl, rfl⟩

@[simp] theorem showClass_kept {s : State} {k} {cls} {peer} :
    (showClass k cls peer s).pwr.on = s.pwr.on ∧ spareReg (showClass k cls peer s).regs = spareReg s.regs
      ∧ (showClass k cls peer s).rings = s.rings := by
  unfold showClass
  split <;> simp

@[simp] theorem loopOff_kept {s : State} {k} :
    (loopOff k s).pwr.on = s.pwr.on ∧ spareReg (loopOff k s).regs = spareReg s.regs ∧ (loopOff k s).rings = s.rings := by simp [loopOff]

@[simp] theorem endTag_spare {s : State} {t} {r} : (endTag t r s).pwr.on = s.pwr.on ∧ spareReg (endTag t r s).regs = spareReg s.regs := by
  unfold endTag
  split <;> simp

@[simp] theorem dropHold_kept {s : State} {t} :
    (dropHold t s).pwr.on = s.pwr.on ∧ spareReg (dropHold t s).regs = spareReg s.regs ∧ (dropHold t s).rings = s.rings := by
  unfold dropHold
  split <;> [split_ifs; skip] <;> simp

/-! ### Ports -/

@[simp] theorem discardPkt_spare {s : State} {p} {k} {own} {fwd} :
    (discardPkt p k own fwd s).pwr.on = s.pwr.on ∧ spareReg (discardPkt p k own fwd s).regs = spareReg s.regs := by
  unfold discardPkt
  (repeat' split) <;> simp

@[simp] theorem toDetect_kept {s : State} {p} {at_} :
    (toDetect p at_ s).pwr.on = s.pwr.on ∧ spareReg (toDetect p at_ s).regs = spareReg s.regs ∧ (toDetect p at_ s).rings = s.rings :=
  ⟨rfl, rfl, rfl⟩

@[simp] theorem startTraining_kept {s : State} {p} :
    (startTraining p s).pwr.on = s.pwr.on ∧ spareReg (startTraining p s).regs = spareReg s.regs ∧ (startTraining p s).rings = s.rings := by
  unfold startTraining
  split <;> simp

@[simp] theorem linkDown_spare {s : State} {p} {cause} :
    (linkDown p cause s).pwr.on = s.pwr.on ∧ spareReg (linkDown p cause s).regs = spareReg s.regs := by
  unfold linkDown; dsimp only
  split_ifs
  · exact ⟨rfl, rfl⟩
  all_goals
    simp only [startTraining_kept, mirrorPortDown_spare]
    rw [foldl_spare_on fun s t => by (repeat' split) <;> simp, foldl_spare_reg fun s t => by (repeat' split) <;> simp]
    simp

@[simp] theorem startRetrain_spare {s : State} {p} {cause} :
    (startRetrain p cause s).pwr.on = s.pwr.on ∧ spareReg (startRetrain p cause s).regs = spareReg s.regs := by
  unfold startRetrain
  dsimp only
  split_ifs <;> simp

@[simp] theorem takeNodeId_kept {s : State} :
    (takeNodeId s).pwr.on = s.pwr.on ∧ spareReg (takeNodeId s).regs = spareReg s.regs ∧ (takeNodeId s).rings = s.rings := by
  unfold takeNodeId
  dsimp only
  split <;> simp

@[simp] theorem splPortEnable_kept {s : State} {p} :
    (splPortEnable p s).pwr.on = s.pwr.on ∧ spareReg (splPortEnable p s).regs = spareReg s.regs ∧ (splPortEnable p s).rings = s.rings := by
  unfold splPortEnable
  split <;> simp

@[simp] theorem splPortDisable_spare {s : State} {p} :
    (splPortDisable p s).pwr.on = s.pwr.on ∧ spareReg (splPortDisable p s).regs = spareReg s.regs := by
  unfold splPortDisable
  split <;> simp

@[simp] theorem splRetrainRequest_spare {s : State} {p} :
    (splRetrainRequest p s).pwr.on = s.pwr.on ∧ spareReg (splRetrainRequest p s).regs = spareReg s.regs := by
  unfold splRetrainRequest
  split <;> simp

/-! ### Power -/

@[simp] theorem raiseState_kept {s : State} {prev} :
    (raiseState prev s).pwr.on = s.pwr.on ∧ spareReg (raiseState prev s).regs = spareReg s.regs ∧ (raiseState prev s).rings = s.rings :=
  ⟨rfl, rfl, rfl⟩

@[simp] theorem pwrRefuse_kept {s : State} {req} {cause} :
    (pwrRefuse req cause s).pwr.on = s.pwr.on ∧ spareReg (pwrRefuse req cause s).regs = spareReg s.regs
      ∧ (pwrRefuse req cause s).rings = s.rings := ⟨rfl, rfl, rfl⟩

@[simp] theorem disarmTimed_kept {s : State} :
    (disarmTimed s).pwr.on = s.pwr.on ∧ spareReg (disarmTimed s).regs = spareReg s.regs ∧ (disarmTimed s).rings = s.rings :=
  foldl_kept fun s y => by split <;> simp

@[simp] theorem launchesLost_kept {s : State} :
    (launchesLost s).pwr.on = s.pwr.on ∧ spareReg (launchesLost s).regs = spareReg s.regs ∧ (launchesLost s).rings = s.rings :=
  foldl_kept fun s p => by split_ifs <;> simp

@[simp] theorem towersDown_kept {s : State} {ts} :
    (towersDown ts s).pwr.on = s.pwr.on ∧ spareReg (towersDown ts s).regs = spareReg s.regs ∧ (towersDown ts s).rings = s.rings :=
  by simp [towersDown]

@[simp] theorem domeDown_kept {s : State} {retain} :
    (domeDown retain s).pwr.on = s.pwr.on ∧ spareReg (domeDown retain s).regs = spareReg s.regs ∧ (domeDown retain s).rings = s.rings := by
  have hne : dDOME ≠ dAON := by decide
  unfold domeDown
  split <;> simp [hne]

@[simp] theorem pendToAon_kept {s : State} :
    (pendToAon s).pwr.on = s.pwr.on ∧ spareReg (pendToAon s).regs = spareReg s.regs ∧ (pendToAon s).rings = s.rings := by
  unfold pendToAon
  split <;> simp

@[simp] theorem closeSwitch_kept {s : State} {d} {rest} :
    (closeSwitch d rest s).pwr.on = s.pwr.on ∧ spareReg (closeSwitch d rest s).regs = spareReg s.regs ∧ (closeSwitch d rest s).rings = s.rings :=
  ⟨rfl, rfl, rfl⟩

@[simp] theorem stopRings_spare {s : State} :
    (stopRings s).pwr.on = s.pwr.on ∧ spareReg (stopRings s).regs = spareReg s.regs := by simp [stopRings]

@[simp] theorem beforeOpen_spare {s : State} {d} : (beforeOpen d s).pwr.on = s.pwr.on ∧ spareReg (beforeOpen d s).regs = spareReg s.regs := by
  unfold beforeOpen
  split <;> simp

@[simp] theorem transEnd_kept {s : State} :
    (transEnd s).pwr.on = s.pwr.on ∧ spareReg (transEnd s).regs = spareReg s.regs ∧ (transEnd s).rings = s.rings := by
  unfold transEnd
  dsimp only
  (repeat' split) <;> simp

@[simp] theorem towersLeave_kept {s : State} {offs} :
    (towersLeave offs s).pwr.on = s.pwr.on ∧ spareReg (towersLeave offs s).regs = spareReg s.regs ∧ (towersLeave offs s).rings = s.rings := by
  unfold towersLeave
  split_ifs <;> simp

@[simp] theorem pwrDomainWrite_kept {s : State} {v} :
    (pwrDomainWrite v s).pwr.on = s.pwr.on ∧ spareReg (pwrDomainWrite v s).regs = spareReg s.regs ∧ (pwrDomainWrite v s).rings = s.rings := by
  unfold pwrDomainWrite
  dsimp only
  (repeat' split) <;> simp

@[simp] theorem pwrReqIdle_kept {s : State} :
    (pwrReqIdle s).pwr.on = s.pwr.on ∧ spareReg (pwrReqIdle s).regs = spareReg s.regs ∧ (pwrReqIdle s).rings = s.rings := by
  unfold pwrReqIdle
  dsimp only
  split_ifs <;> simp

@[simp] theorem pwrReqRun_kept {s : State} :
    (pwrReqRun s).pwr.on = s.pwr.on ∧ spareReg (pwrReqRun s).regs = spareReg s.regs ∧ (pwrReqRun s).rings = s.rings := by simp [pwrReqRun]

@[simp] theorem idleRangeAccess_kept {s : State} {off} :
    (idleRangeAccess off s).pwr.on = s.pwr.on ∧ spareReg (idleRangeAccess off s).regs = spareReg s.regs
      ∧ (idleRangeAccess off s).rings = s.rings := by
  unfold idleRangeAccess
  split <;> simp

@[simp] theorem startEntry_spare {s : State} {toOff} :
    (startEntry toOff s).pwr.on = s.pwr.on ∧ spareReg (startEntry toOff s).regs = spareReg s.regs := by
  unfold startEntry
  dsimp only
  split <;> simp

@[simp] theorem retainToOff_kept {s : State} :
    (retainToOff s).pwr.on = s.pwr.on ∧ spareReg (retainToOff s).regs = spareReg s.regs ∧ (retainToOff s).rings = s.rings := by
  unfold retainToOff
  dsimp only
  split <;> simp

@[simp] theorem pwrReqRetain_spare {s : State} : (pwrReqRetain s).pwr.on = s.pwr.on ∧ spareReg (pwrReqRetain s).regs = spareReg s.regs := by
  unfold pwrReqRetain
  (repeat' split) <;> simp

@[simp] theorem pwrReqOff_spare {s : State} : (pwrReqOff s).pwr.on = s.pwr.on ∧ spareReg (pwrReqOff s).regs = spareReg s.regs := by
  unfold pwrReqOff
  (repeat' split) <;> simp

@[simp] theorem pwrCtxRestore_kept {s : State} :
    (pwrCtxRestore s).pwr.on = s.pwr.on ∧ spareReg (pwrCtxRestore s).regs = spareReg s.regs ∧ (pwrCtxRestore s).rings = s.rings := by
  unfold pwrCtxRestore
  dsimp only
  split_ifs <;> simp

@[simp] theorem pwrCtxDiscard_kept {s : State} :
    (pwrCtxDiscard s).pwr.on = s.pwr.on ∧ spareReg (pwrCtxDiscard s).regs = spareReg s.regs ∧ (pwrCtxDiscard s).rings = s.rings :=
  by simp [pwrCtxDiscard]

/-! ### Accesses to registers -/

@[simp] theorem readClear_kept {s : State} {off} :
    (readClear off s).pwr.on = s.pwr.on ∧ spareReg (readClear off s).regs = spareReg s.regs ∧ (readClear off s).rings = s.rings := by
  unfold readClear
  split
  · next h =>
    have hrc : regRc 0x4C0 = 0 := by decide
    exact ⟨rfl, spareReg_rset_same fun ho => by simp [ho, hrc] at h, rfl⟩
  · exact ⟨rfl, rfl, rfl⟩

@[simp] theorem latchRead_kept {s : State} {off} :
    (latchRead off s).pwr.on = s.pwr.on ∧ spareReg (latchRead off s).regs = spareReg s.regs ∧ (latchRead off s).rings = s.rings := by
  unfold latchRead
  split_ifs
  · exact ⟨rfl, rfl, rfl⟩
  · simp
  · simp
  · next h =>
    simp only [Bool.and_eq_true, decide_eq_true_eq] at h
    exact ⟨rfl, spareReg_rset (by omega), rfl⟩
  · exact ⟨rfl, rfl, rfl⟩

@[simp] theorem regReadFull_kept {s : State} {off} :
    (regReadFull off s).1.pwr.on = s.pwr.on ∧ spareReg (regReadFull off s).1.regs = spareReg s.regs ∧ (regReadFull off s).1.rings = s.rings :=
  by simp [regReadFull]

@[simp] theorem regStore_kept {s : State} {off} {v} :
    (regStore off v s).pwr.on = s.pwr.on ∧ spareReg (regStore off v s).regs = spareReg s.regs ∧ (regStore off v s).rings = s.rings := by 
  refine ⟨rfl, spareReg_rset_same fun h => ?_, rfl⟩
  have hrw : rwBits 0x4C0 = 0 := by decide
  have hlock : lockBit 0x4C0 = 0 := by decide
  subst h
  simp only [hrw, hlock, mkW]
  exact (by simp : _ = rget s 0x4C0 &&& BitVec.allOnes 24).trans BitVec.and_allOnes

@[simp] theorem ringCtrlWrite_spare {s : State} {n} {v} :
    (ringCtrlWrite n v s).pwr.on = s.pwr.on ∧ spareReg (ringCtrlWrite n v s).regs = spareReg s.regs := by
  unfold ringCtrlWrite
  split_ifs <;> simp

@[simp] theorem tmpCtrlWrite_kept {s : State} {v} :
    (tmpCtrlWrite v s).pwr.on = s.pwr.on ∧ spareReg (tmpCtrlWrite v s).regs = spareReg s.regs ∧ (tmpCtrlWrite v s).rings = s.rings := by
  constructor <;> grind [tmpCtrlWrite, regStore_kept, loopOff_kept]

@[simp] theorem splNodeWrite_kept {s : State} {v} :
    (splNodeWrite v s).pwr.on = s.pwr.on ∧ spareReg (splNodeWrite v s).regs = spareReg s.regs ∧ (splNodeWrite v s).rings = s.rings := by
  unfold splNodeWrite
  dsimp only
  split_ifs <;> simp

@[simp] theorem spCtrlWrite_spare {s : State} {p} {v} :
    (spCtrlWrite p v s).pwr.on = s.pwr.on ∧ spareReg (spCtrlWrite p v s).regs = spareReg s.regs := by
  unfold spCtrlWrite
  split_ifs <;> simp

@[simp] theorem syncRestart_kept {s was : State} :
    (syncRestart was s).pwr.on = s.pwr.on ∧ spareReg (syncRestart was s).regs = spareReg s.regs ∧ (syncRestart was s).rings = s.rings := by
  unfold syncRestart; split_ifs <;> simp

@[simp] theorem syncCtrlWrite_kept {s : State} {v} :
    (syncCtrlWrite v s).pwr.on = s.pwr.on ∧ spareReg (syncCtrlWrite v s).regs = spareReg s.regs ∧ (syncCtrlWrite v s).rings = s.rings := by
  unfold syncCtrlWrite; dsimp only; split_ifs <;> simp

@[simp] theorem pwrReqWrite_spare {s : State} {v} :
    (pwrReqWrite v s).pwr.on = s.pwr.on ∧ spareReg (pwrReqWrite v s).regs = spareReg s.regs := by
  unfold pwrReqWrite
  split <;> simp

@[simp] theorem ctxCtrlWrite_kept {s : State} {v} :
    (ctxCtrlWrite v s).pwr.on = s.pwr.on ∧ spareReg (ctxCtrlWrite v s).regs = spareReg s.regs ∧ (ctxCtrlWrite v s).rings = s.rings := by
  unfold ctxCtrlWrite
  split_ifs <;> simp

@[simp] theorem logCtrlWrite_kept {s : State} {v} :
    (logCtrlWrite v s).pwr.on = s.pwr.on ∧ spareReg (logCtrlWrite v s).regs = spareReg s.regs ∧ (logCtrlWrite v s).rings = s.rings := by
  unfold logCtrlWrite
  split <;> simp

@[simp] theorem doorbell_spare {s : State} {sq} {n} {v} :
    (doorbell sq n v s).pwr.on = s.pwr.on ∧ spareReg (doorbell sq n v s).regs = spareReg s.regs := by
  unfold doorbell
  split <;> simp

@[simp] theorem regWrite_spare {s : State} {off} {v} :
    (regWrite off v s).pwr.on = s.pwr.on ∧ spareReg (regWrite off v s).regs = spareReg s.regs := by
  unfold regWrite; (repeat' split) <;> simp

@[simp] theorem registerWrite_spare {s : State} {off} {v} {full} :
    (registerWrite off v full s).pwr.on = s.pwr.on ∧ spareReg (registerWrite off v full s).regs = spareReg s.regs := by
  unfold registerWrite
  split <;> simp

@[simp] theorem setLock_kept {s : State} {off} :
    (setLock off s).pwr.on = s.pwr.on ∧ spareReg (setLock off s).regs = spareReg s.regs ∧ (setLock off s).rings = s.rings := by
  unfold setLock
  split
  · have hlock : lockBit 0x4C0 = 0 := by decide
    exact ⟨rfl, spareReg_rset_same fun h => by simp [h, hlock, mkW], rfl⟩
  · exact ⟨rfl, rfl, rfl⟩

@[simp] theorem busRead_kept {s : State} {off} :
    (busRead off s).1.pwr.on = s.pwr.on ∧ spareReg (busRead off s).1.regs = spareReg s.regs ∧ (busRead off s).1.rings = s.rings := by simp [busRead]

@[simp] theorem busWrite_spare {s : State} {off} {v} :
    (busWrite off v s).pwr.on = s.pwr.on ∧ spareReg (busWrite off v s).regs = spareReg s.regs := by simp [busWrite]

@[simp] theorem busReads_kept {s : State} {l} :
    (busReads l s).1.pwr.on = s.pwr.on ∧ spareReg (busReads l s).1.regs = spareReg s.regs ∧ (busReads l s).1.rings = s.rings := by
  induction l generalizing s with
  | nil => exact ⟨rfl, rfl, rfl⟩
  | cons o r ih => unfold busReads; simp [ih]

@[simp] theorem busWrites_spare {s : State} {l} : (busWrites l s).pwr.on = s.pwr.on ∧ spareReg (busWrites l s).regs = spareReg s.regs := by
  induction l generalizing s with
  | nil => exact ⟨rfl, rfl⟩
  | cons o r ih => unfold busWrites; simp [ih]

@[simp] theorem maskWrite_spare {s : State} {off} {data} {mask} :
    (maskWrite off data mask s).pwr.on = s.pwr.on ∧ spareReg (maskWrite off data mask s).regs = spareReg s.regs := by simp [maskWrite]

@[simp] theorem runOps_spare {s : State} {l} {k} : (runOps l k s).1.pwr.on = s.pwr.on ∧ spareReg (runOps l k s).1.regs = spareReg s.regs := by
  induction l generalizing s k with
  | nil => exact ⟨rfl, rfl⟩
  | cons o r ih => unfold runOps; dsimp only; split_ifs <;> simp [ih]

@[simp] theorem bcastApply_spare {s : State} {k} :
    (bcastApply k s).1.pwr.on = s.pwr.on ∧ spareReg (bcastApply k s).1.regs = spareReg s.regs := by
  unfold bcastApply
  dsimp only
  split_ifs <;> simp

@[simp] theorem gatherEnd_spare {s : State} {g} : (gatherEnd g s).pwr.on = s.pwr.on ∧ spareReg (gatherEnd g s).regs = spareReg s.regs := by
  unfold gatherEnd
  split <;> [split_ifs; skip] <;> simp

@[simp] theorem setGathers_kept {s : State} {l} :
    (setGathers l s).pwr.on = s.pwr.on ∧ spareReg (setGathers l s).regs = spareReg s.regs ∧ (setGathers l s).rings = s.rings := ⟨rfl, rfl, rfl⟩

@[simp] theorem gatherBegin_spare {s : State} {g} :
    (gatherBegin g s).pwr.on = s.pwr.on ∧ spareReg (gatherBegin g s).regs = spareReg s.regs := by
  unfold gatherBegin
  split <;> simp

@[simp] theorem bcastServe_spare {s : State} {p} {k} :
    (bcastServe p k s).pwr.on = s.pwr.on ∧ spareReg (bcastServe p k s).regs = spareReg s.regs := by simp [bcastServe]

@[simp] theorem serveBus_spare {s : State} {p} {k} :
    (serveBus p k s).pwr.on = s.pwr.on ∧ spareReg (serveBus p k s).regs = spareReg s.regs := by
  constructor <;> grind [serveBus, sendOwn_kept, busReads_kept, runOps_spare, busWrites_spare, bcastServe_spare]

@[simp] theorem serveFar_spare {s : State} {p} {k} :
    (serveFar p k s).pwr.on = s.pwr.on ∧ spareReg (serveFar p k s).regs = spareReg s.regs := by simp [serveFar]

@[simp] theorem hostRead_kept {s : State} {off} {full} :
    (hostRead off full s).pwr.on = s.pwr.on ∧ spareReg (hostRead off full s).regs = spareReg s.regs ∧ (hostRead off full s).rings = s.rings := by
  unfold hostRead
  split <;> simp

@[simp] theorem hostLatch_kept {s : State} {off} {full} :
    (hostLatch off full s).pwr.on = s.pwr.on ∧ spareReg (hostLatch off full s).regs = spareReg s.regs ∧ (hostLatch off full s).rings = s.rings := by
  unfold hostLatch
  split <;> simp

@[simp] theorem hostAccess_spare {s : State} {c} : (hostAccess c s).pwr.on = s.pwr.on ∧ spareReg (hostAccess c s).regs = spareReg s.regs := by
  cases c <;> dsimp only [hostAccess] <;> simp

@[simp] theorem serveHost_spare {s : State} {c} :
    (serveHost c s).pwr.on = s.pwr.on ∧ spareReg (serveHost c s).regs = spareReg s.regs := by simp [serveHost]

@[simp] theorem serveWaiting_spare {s : State} {n} :
    (serveWaiting n s).pwr.on = s.pwr.on ∧ spareReg (serveWaiting n s).regs = spareReg s.regs := by
  induction n generalizing s with
  | zero => exact ⟨rfl, rfl⟩
  | succ n ih => unfold serveWaiting; (repeat' split) <;> simp [ih]

end Sys2Proof.Machine

/-! PROOF. What follows a command never brings back a descriptor that waits alone in its ring: a ring in which none waits keeps none. -/

namespace Sys2Proof.Machine

/-! ### A descriptor that waits alone -/

/-- RING_STOP of ring 0. -/
def stopRingZero : List Word := Tests.wd [(0, 0x72)]

/-- The window holds RING_STOP of ring 0 alone, read and waiting outside a group. -/
def WaitsIn (w : List Ent) : Prop := ∃ e, w = [e] ∧ e.st = .waiting ∧ e.readable = true ∧ e.member = false ∧ e.words = stopRingZero

/-- It does not wait in ring `n`. -/
def Gone (n : Nat) (t : Tab Ring) : Prop := ¬WaitsIn (tabGet {} t n).window

@[simp] theorem gone_nil {n : Nat} : Gone n [] := by
  rintro ⟨e, h, -⟩
  exact nomatch h

theorem waitsIn_singleton {e : Ent} :
    WaitsIn [e] ↔ e.st = .waiting ∧ e.readable = true ∧ e.member = false ∧ e.words = stopRingZero := by
  simp [WaitsIn]

theorem not_waitsIn_long {x y : Ent} {l : List Ent} : ¬WaitsIn (x :: y :: l) := by
  rintro ⟨e, h, -⟩
  exact nomatch h

theorem not_waitsIn_done {c : Comp} {e : Ent} {l : List Ent} : ¬WaitsIn (entDone c e :: l) := by
  rintro ⟨x, h, hst, -⟩
  cases h
  exact nomatch hst

/-- An operation on windows that keeps their length, and under which no entry comes to wait. -/
theorem waitsIn_of_map {g : Ent → Ent} (hg : ∀ e, WaitsIn [g e] → WaitsIn [e]) {w : List Ent} (h : WaitsIn (w.map g)) : WaitsIn w := by
  match w with
  | [] => exact h
  | [x] => exact hg x h
  | _ :: _ :: _ => exact absurd h not_waitsIn_long

theorem waitsIn_of_modFirst_done {p : Ent → Bool} {c : Comp} {w : List Ent} (h : WaitsIn (modFirst p (fun e => { e with st := .done c }) w)) :
    WaitsIn w := by
  match w with
  | [] => exact h
  | [x] =>
    unfold modFirst at h
    split at h
    · exact absurd h not_waitsIn_done
    · exact h
  | x :: y :: l =>
    unfold modFirst at h
    split at h
    · exact absurd h not_waitsIn_long
    · unfold modFirst at h
      split at h <;> exact absurd h not_waitsIn_long

/-- What counts of an entry. -/
def waitKey (e : Ent) : EntSt × Bool × Bool × List Word := (e.st, e.readable, e.member, e.words)

theorem waitsIn_iff_map {w : List Ent} : WaitsIn w ↔ w.map waitKey = [(.waiting, true, false, stopRingZero)] := by
  match w with
  | [] => simp [WaitsIn]
  | [x] => simp [waitsIn_singleton, waitKey]
  | _ :: _ :: _ => simp [not_waitsIn_long]

theorem waitsIn_of_reserveList {k : Nat} {w : List Ent} (h : WaitsIn (reserveList k w)) : WaitsIn w := by
  rw [waitsIn_iff_map] at h ⊢
  rwa [reserveList_map (g := waitKey) (fun _ => rfl)] at h

theorem waitsIn_of_closeMembers {c : Nat → Comp} {k : Nat} {w : List Ent} (h : WaitsIn (closeMembers c k w)) : WaitsIn w := by
  match w with
  | [] => exact h
  | [x] =>
    rw [closeMembers] at h
    split at h
    · exact absurd h not_waitsIn_done
    · exact h
  | x :: y :: l =>
    simp only [closeMembers] at h
    (repeat' split at h) <;> exact absurd h not_waitsIn_long

theorem waitsIn_of_stopEnt {s : State} {o : Bool} {e : Ent} (h : WaitsIn [stopEnt s o e]) : WaitsIn [e] := by
  unfold stopEnt at h
  (repeat' split at h) <;> first | exact h | exact absurd h not_waitsIn_done

theorem waitsIn_of_keep {w : List Ent} (h : WaitsIn (w.map keepEnt)) : WaitsIn w :=
  waitsIn_of_map (fun _ hw => waitsIn_singleton.2 (by simpa [keepEnt] using waitsIn_singleton.1 hw)) h

/-! ### Operations on rings -/

section
variable {n k : Nat} {s : State}

theorem gone_setRing {r : Ring} (h : Gone n s.rings) (hr : WaitsIn r.window → WaitsIn (ring s k).window) : Gone n (setRing k r s).rings := by
  by_cases hk : n = k
  · subst hk
    exact fun hw => h (hr (by rwa [setRing, tabGet_put_self] at hw))
  · exact fun hw => h (by rwa [setRing, tabGet_put_ne _ _ _ hk] at hw)

theorem gone_modRing {f : Ring → Ring} (h : Gone n s.rings) (hf : WaitsIn (f (ring s k)).window → WaitsIn (ring s k).window) :
    Gone n (modRing k f s).rings := gone_setRing h hf

end

theorem raise_rings {src inst detail : Nat} {s : State} : (raise src inst detail s).rings = s.rings := by simp

@[simp] theorem foldl_gone {α : Type} {f : State → α → State} {n : Nat} {l : List α} {s : State}
    (hf : ∀ s a, Gone n s.rings → Gone n (f s a).rings) (h : Gone n s.rings) : Gone n (l.foldl f s).rings := by
  induction l generalizing s with
  | nil => exact h
  | cons a l ih => exact ih (hf s a h)

@[simp] theorem finish_gone {s : State} {n} {i} {r} {n₀} (h : Gone n₀ s.rings) : Gone n₀ (finish n i r s).rings := by
  unfold finish modEnt
  rw [raisePerm_kept.2.2]
  exact gone_modRing h waitsIn_of_modFirst_done

@[simp] theorem reserveMembers_gone {s : State} {n} {n₀} (h : Gone n₀ s.rings) :
    Gone n₀ (reserveMembers n s).rings := by
  unfold reserveMembers
  split
  · exact h
  · exact gone_modRing h waitsIn_of_reserveList

@[simp] theorem ringErr_gone {s : State} {n} {code} {idx} {n₀} (h : Gone n₀ s.rings) :
    Gone n₀ (ringErr n code idx s).rings := by
  unfold ringErr
  rw [raise_rings]
  exact gone_modRing h id

@[simp] theorem checkStopped_gone {s : State} {n} {n₀} (h : Gone n₀ s.rings) :
    Gone n₀ (checkStopped n s).rings := by
  unfold checkStopped
  dsimp only
  split
  · rw [raise_rings]
    exact gone_setRing h id
  · exact h

@[simp] theorem stopRing_gone {s : State} {n} {n₀} (h : Gone n₀ s.rings) : Gone n₀ (stopRing n s).rings := by
  unfold stopRing
  dsimp only
  split
  · exact checkStopped_gone (reserveMembers_gone (gone_setRing h (waitsIn_of_map fun _ => waitsIn_of_stopEnt)))
  · exact h

@[simp] theorem ringEnable_gone {s : State} {n} {n₀} (h : Gone n₀ s.rings) : Gone n₀ (ringEnable n s).rings := by
  unfold ringEnable
  dsimp only
  split
  · split
    · rw [raise_rings]
      exact gone_setRing h id
    · exact gone_setRing h fun hw => absurd hw (gone_nil (n := 0))
  · exact h

@[simp] theorem ringDisable_gone {s : State} {n} {n₀} (h : Gone n₀ s.rings) : Gone n₀ (ringDisable n s).rings := by
  unfold ringDisable
  split
  · exact stopRing_gone (gone_modRing h id)
  · exact h

@[simp] theorem resumeCq_gone {s : State} {n} {n₀} (h : Gone n₀ s.rings) : Gone n₀ (resumeCq n s).rings := by
  unfold resumeCq
  split
  · exact gone_modRing h waitsIn_of_keep
  · exact h

@[simp] theorem dblSqTail_gone {s : State} {n} {v} {n₀} (h : Gone n₀ s.rings) : Gone n₀ (dblSqTail n v s).rings := by
  unfold dblSqTail
  dsimp only
  (repeat' split) <;> [exact h; simp [h]; exact h; exact h; exact gone_setRing h id; exact h]

@[simp] theorem dblCqHead_gone {s : State} {n} {v} {n₀} (h : Gone n₀ s.rings) : Gone n₀ (dblCqHead n v s).rings := by
  unfold dblCqHead
  dsimp only
  (repeat' split) <;> [exact h; simp [h]; exact h; simp [h]; exact h; exact reserveMembers_gone (gone_setRing h id); exact h]

@[simp] theorem admitEnt_gone {s : State} {n} {e} {n₀} (h : Gone n₀ s.rings) :
    Gone n₀ (admitEnt n s e).rings := by
  unfold admitEnt
  (repeat' split) <;> simp [h]

@[simp] theorem admitAll_gone {s : State} {n₀} (h : Gone n₀ s.rings) : Gone n₀ (admitAll s).rings := by
  unfold admitAll
  split
  · exact foldl_gone (fun _ _ h => foldl_gone (fun _ _ h => admitEnt_gone h) h) h
  · exact h

@[simp] theorem effect_gone {s u : State} {n} {i} {r} {n₀} (hp : Gone n₀ u.rings) (h : Gone n₀ s.rings) :
    Gone n₀ (effect n i r u s).rings := by
  unfold effect; split <;> simp [hp, h]

/-! ### Items and groups -/

@[simp] theorem jobEnd_gone {s : State} {id} {n} {i} {r} {n₀} (h : Gone n₀ s.rings) : Gone n₀ (jobEnd id n i r s).rings := by
  unfold jobEnd
  dsimp only
  (repeat' split) <;> simp [h]

@[simp] theorem itemFail_gone {s : State} {id} {r} {n₀} (h : Gone n₀ s.rings) : Gone n₀ (itemFail id r s).rings := by
  unfold itemFail
  (repeat' split) <;> simp [h]

@[simp] theorem admitItem_gone {s : State} {t} {id} {x} {n₀} (h : Gone n₀ s.rings) : Gone n₀ (admitItem t id x s).rings := by
  unfold admitItem
  dsimp only
  (repeat' split) <;> simp [h]

@[simp] theorem pump_gone {s : State} {fuel} {t} {n₀} (h : Gone n₀ s.rings) : Gone n₀ (pump fuel t s).rings := by
  induction fuel generalizing s with
  | zero => exact h
  | succ k ih => unfold pump; dsimp only [takeOrder]; (repeat' split) <;> simp [h, ih]

@[simp] theorem pumpAll_gone {s : State} {n₀} (h : Gone n₀ s.rings) : Gone n₀ (pumpAll s).rings := foldl_gone (fun _ _ h => pump_gone h) h

@[simp] theorem closeGroup_gone {s : State} {n} {c} {n₀} (h : Gone n₀ s.rings) :
    Gone n₀ (closeGroup n c s).rings :=
  reserveMembers_gone (gone_modRing (by rwa [dropStaging_kept.2.2]) waitsIn_of_closeMembers)

@[simp] theorem groupFail_gone {s : State} {n} {k} {r} {n₀} (h : Gone n₀ s.rings) :
    Gone n₀ (groupFail n k r s).rings := by simp [h, groupFail]

@[simp] theorem mirrorAnswer_gone {s : State} {sa} {ans} {n₀} (h : Gone n₀ s.rings) :
    Gone n₀ (mirrorAnswer sa ans s).rings := by
  unfold mirrorAnswer
  dsimp only
  split
  · exact h
  · split
    · (repeat' split) <;> simp [h]
    · split
      · split
        · exact effect_gone (by simpa using h) (by simpa using h)
        · simpa using h
      · simpa using h

@[simp] theorem mirrorPortDown_gone {s : State} {p} {n₀} (h : Gone n₀ s.rings) :
    Gone n₀ (mirrorPortDown p s).rings := by
  unfold mirrorPortDown
  exact foldl_gone (fun s x h => by (repeat' split) <;> simp [h]) (foldl_gone (fun s sa h => by (repeat' split) <;> simp [h]) h)

@[simp] theorem finishRun_gone {s : State} {n} {i} {r} {n₀} (h : Gone n₀ s.rings) :
    Gone n₀ (finishRun n i r s).rings := by
  unfold finishRun
  split <;> [split_ifs; skip] <;> simp [h]

/-! ### Ports -/

@[simp] theorem endTag_gone {s : State} {t} {r} {n₀} (h : Gone n₀ s.rings) : Gone n₀ (endTag t r s).rings := by
  unfold endTag
  split <;> simp [h]

@[simp] theorem discardPkt_gone {s : State} {p} {k} {own} {fwd} {n₀} (h : Gone n₀ s.rings) :
    Gone n₀ (discardPkt p k own fwd s).rings := by
  unfold discardPkt
  (repeat' split) <;> simp [h]

@[simp] theorem linkDown_gone {s : State} {p} {cause} {n₀} (h : Gone n₀ s.rings) :
    Gone n₀ (linkDown p cause s).rings := by
  unfold linkDown
  dsimp only
  split
  · exact h
  · rw [startTraining_kept.2.2]
    refine mirrorPortDown_gone (foldl_gone (fun s t h => by (repeat' split) <;> simp [h]) ?_)
    refine foldl_gone (fun _ _ h => discardPkt_gone h) (foldl_gone (fun _ _ h => discardPkt_gone h) ?_)
    split <;> simpa using h

@[simp] theorem startRetrain_gone {s : State} {p} {cause} {n₀} (h : Gone n₀ s.rings) :
    Gone n₀ (startRetrain p cause s).rings := by
  unfold startRetrain
  dsimp only
  split_ifs <;> simp [h]

@[simp] theorem splPortDisable_gone {s : State} {p} {n₀} (h : Gone n₀ s.rings) :
    Gone n₀ (splPortDisable p s).rings := by
  unfold splPortDisable
  split <;> simp [h]

@[simp] theorem splRetrainRequest_gone {s : State} {p} {n₀} (h : Gone n₀ s.rings) :
    Gone n₀ (splRetrainRequest p s).rings := by
  unfold splRetrainRequest
  split <;> simp [h]

/-! ### Power -/

@[simp] theorem stopRings_gone {s : State} {n₀} (h : Gone n₀ s.rings) :
    Gone n₀ (stopRings s).rings := foldl_gone (fun _ _ h => stopRing_gone h) h

@[simp] theorem beforeOpen_gone {s : State} {d} {n₀} (h : Gone n₀ s.rings) : Gone n₀ (beforeOpen d s).rings := by
  unfold beforeOpen
  split <;> simp [h]

@[simp] theorem startEntry_gone {s : State} {toOff} {n₀} (h : Gone n₀ s.rings) :
    Gone n₀ (startEntry toOff s).rings := by
  unfold startEntry
  dsimp only
  split <;> simp [h]

@[simp] theorem pwrReqRetain_gone {s : State} {n₀} (h : Gone n₀ s.rings) : Gone n₀ (pwrReqRetain s).rings := by
  unfold pwrReqRetain
  (repeat' split) <;> simp [h]

@[simp] theorem pwrReqOff_gone {s : State} {n₀} (h : Gone n₀ s.rings) : Gone n₀ (pwrReqOff s).rings := by
  unfold pwrReqOff
  (repeat' split) <;> simp [h]

/-! ### Accesses to registers -/

@[simp] theorem ringCtrlWrite_gone {s : State} {n} {v} {n₀} (h : Gone n₀ s.rings) :
    Gone n₀ (ringCtrlWrite n v s).rings := by
  unfold ringCtrlWrite
  split_ifs <;> simp [h]

@[simp] theorem spCtrlWrite_gone {s : State} {p} {v} {n₀} (h : Gone n₀ s.rings) :
    Gone n₀ (spCtrlWrite p v s).rings := by
  unfold spCtrlWrite
  split_ifs <;> simp [h]

@[simp] theorem pwrReqWrite_gone {s : State} {v} {n₀} (h : Gone n₀ s.rings) :
    Gone n₀ (pwrReqWrite v s).rings := by
  unfold pwrReqWrite
  split <;> simp [h]

@[simp] theorem doorbell_gone {s : State} {sq} {n} {v} {n₀} (h : Gone n₀ s.rings) :
    Gone n₀ (doorbell sq n v s).rings := by
  unfold doorbell
  split <;> simp [h]

@[simp] theorem regWrite_gone {s : State} {off} {v} {n₀} (h : Gone n₀ s.rings) :
    Gone n₀ (regWrite off v s).rings := by
  unfold regWrite; (repeat' split) <;> simp [h]

@[simp] theorem registerWrite_gone {s : State} {off} {v} {full} {n₀} (h : Gone n₀ s.rings) :
    Gone n₀ (registerWrite off v full s).rings := by
  unfold registerWrite
  split <;> simp [h]

@[simp] theorem busWrite_gone {s : State} {off} {v} {n₀} (h : Gone n₀ s.rings) :
    Gone n₀ (busWrite off v s).rings := by simp [h, busWrite]

@[simp] theorem busWrites_gone {s : State} {l} {n₀} (h : Gone n₀ s.rings) : Gone n₀ (busWrites l s).rings := by
  induction l generalizing s with
  | nil => exact h
  | cons o r ih => unfold busWrites; simp [h, ih]

@[simp] theorem maskWrite_gone {s : State} {off} {data} {mask} {n₀} (h : Gone n₀ s.rings) :
    Gone n₀ (maskWrite off data mask s).rings := by simp [h, maskWrite]

@[simp] theorem runOps_gone {s : State} {l} {k} {n₀} (h : Gone n₀ s.rings) : Gone n₀ (runOps l k s).1.rings := by
  induction l generalizing s k with
  | nil => exact h
  | cons o r ih => unfold runOps; dsimp only; split_ifs <;> simp [h, ih]

@[simp] theorem bcastApply_gone {s : State} {k} {n₀} (h : Gone n₀ s.rings) :
    Gone n₀ (bcastApply k s).1.rings := by
  unfold bcastApply
  dsimp only
  split_ifs <;> simp [h]

@[simp] theorem gatherEnd_gone {s : State} {g} {n₀} (h : Gone n₀ s.rings) : Gone n₀ (gatherEnd g s).rings := by
  unfold gatherEnd
  split <;> [split_ifs; skip] <;> simp [h]

@[simp] theorem gatherBegin_gone {s : State} {g} {n₀} (h : Gone n₀ s.rings) :
    Gone n₀ (gatherBegin g s).rings := by
  unfold gatherBegin
  split <;> simp [h]

@[simp] theorem bcastServe_gone {s : State} {p} {k} {n₀} (h : Gone n₀ s.rings) :
    Gone n₀ (bcastServe p k s).rings := by
  unfold bcastServe
  dsimp only
  exact gatherBegin_gone (bcastApply_gone (by rwa [foldl_rings fun _ _ => enqueue_kept.2.2]))

@[simp] theorem serveBus_gone {s : State} {p} {k} {n₀} (h : Gone n₀ s.rings) :
    Gone n₀ (serveBus p k s).rings := by
  grind [serveBus, sendOwn_kept, busReads_kept, runOps_gone, busWrites_gone, bcastServe_gone]

@[simp] theorem serveFar_gone {s : State} {p} {k} {n₀} (h : Gone n₀ s.rings) :
    Gone n₀ (serveFar p k s).rings := by simp [h, serveFar]

@[simp] theorem hostAccess_gone {s : State} {c} {n₀} (h : Gone n₀ s.rings) : Gone n₀ (hostAccess c s).rings := by
  cases c <;> dsimp only [hostAccess] <;> simp [h]

@[simp] theorem serveHost_gone {s : State} {c} {n₀} (h : Gone n₀ s.rings) :
    Gone n₀ (serveHost c s).rings := by simp [h, serveHost]

@[simp] theorem serveWaiting_gone {s : State} {n} {n₀} (h : Gone n₀ s.rings) :
    Gone n₀ (serveWaiting n s).rings := by
  induction n generalizing s with
  | zero => exact h
  | succ n ih => unfold serveWaiting; (repeat' split) <;> simp [h, ih]

end Sys2Proof.Machine

/-! PROOF. The refutation of O36 (R46, R69, R421). The statement's clause on SPL_PORT_DISABLE ranges over every state. Where the index of
the next SPL_PERR record is 48, the record of the discarded packet sets the ENABLE bit that the command has just cleared. Ring 81664, past
the 64 of the block, has its group in that same register, and its descriptor that waits passes its admission checks for that bit alone; with
the bit clear, as the clause wants it, the descriptor ends before anything that follows a command can set it. -/

namespace Sys2Proof.Machine

/-! ### What is lost and stays so -/

/-- PD_HOST is off, the spare register is not 1, or the descriptor does not wait in ring `n`. -/
def Lost (n : Nat) (s : State) : Prop := domOn s dHOST = false ∨ spareReg s.regs ≠ 1 ∨ Gone n s.rings

section
variable {n : Nat} {s : State}

theorem lost_of_kept {u : State} (hk : u.pwr.on = s.pwr.on ∧ spareReg u.regs = spareReg s.regs) (hg : Gone n s.rings → Gone n u.rings)
    (h : Lost n s) : Lost n u := by
  obtain ⟨hon, hreg⟩ := hk
  obtain h | h | h := h
  · exact .inl (by rwa [domOn, hon])
  · exact .inr (.inl (by rwa [hreg]))
  · exact .inr (.inr (hg h))

theorem lost_of_untouched {u : State} (hk : u.pwr.on = s.pwr.on ∧ spareReg u.regs = spareReg s.regs ∧ u.rings = s.rings) (h : Lost n s) :
    Lost n u := by
  obtain ⟨hon, hreg, hrings⟩ := hk
  exact lost_of_kept ⟨hon, hreg⟩ (fun hg => by rwa [hrings]) h

theorem testBit_of_sub_pow {m d e : Nat} (hd : m.testBit d = true) (h : (m - 2 ^ d).testBit e = true) : m.testBit e = true := by
  induction d generalizing m e with
  | zero =>
    cases e with
    | zero => simpa using hd
    | succ e =>
      have hodd : m % 2 = 1 := by simpa using hd
      have hhalf : (m - 2 ^ 0) / 2 = m / 2 := by omega
      rwa [Nat.testBit_succ, hhalf, ← Nat.testBit_succ] at h
  | succ d ih =>
    have hpow : 2 ^ (d + 1) = 2 * 2 ^ d := Nat.pow_succ'
    have hle : 2 ^ (d + 1) ≤ m := Nat.ge_two_pow_of_testBit hd
    rw [Nat.testBit_succ] at hd
    cases e with
    | zero =>
      have hpar : (m - 2 ^ (d + 1)) % 2 = m % 2 := by omega
      simpa [hpar] using h
    | succ e =>
      have hhalf : (m - 2 ^ (d + 1)) / 2 = m / 2 - 2 ^ d := by omega
      rw [Nat.testBit_succ, hhalf] at h
      rw [Nat.testBit_succ]
      exact ih hd h

theorem testBit_of_clearBit1 {m d e : Nat} (h : (clearBit1 m d).testBit e = true) : m.testBit e = true := by
  unfold clearBit1 at h
  split_ifs at h with hd
  · exact testBit_of_sub_pow hd h
  · exact h

theorem domainDown_kept {d : Nat} : (domainDown d s).pwr.on = clearBit1 s.pwr.on d ∧ spareReg (domainDown d s).regs = spareReg s.regs
    ∧ (domainDown d s).rings = if d = dHOST then [] else s.rings := by
  have hHOST : dHOST ≠ dAON := by decide
  have hPIPE : dPIPE ≠ dAON := by decide
  have hTIME : dTIME ≠ dAON := by decide
  have hSPIRE : dSPIRE ≠ dAON := by decide
  have hDOME : dDOME ≠ dHOST := by decide
  unfold domainDown
  dsimp only
  split_ifs <;> simp_all [modPwr, pipeDown]

theorem domainDown_lost {d : Nat} (h : Lost n s) : Lost n (domainDown d s) := by
  obtain ⟨hon, hreg, hrings⟩ := domainDown_kept (d := d) (s := s)
  obtain h | h | h := h
  · refine .inl (Bool.eq_false_iff.2 fun hd => ?_)
    rw [domOn, hon] at hd
    exact Bool.false_ne_true (h.symm.trans (testBit_of_clearBit1 hd))
  · exact .inr (.inl (by rwa [hreg]))
  · refine .inr (.inr ?_)
    rw [hrings]
    split_ifs
    · exact gone_nil
    · exact h

theorem movePower_lost {fuel : Nat} (h : Lost n s) : Lost n (movePower fuel s) := by
  induction fuel generalizing s with
  | zero => exact h
  | succ k ih =>
    unfold movePower
    split
    · exact h
    · split
      · exact lost_of_untouched transEnd_kept h
      · split_ifs
        · exact ih (lost_of_untouched closeSwitch_kept h)
        · exact h
      · next d _ _ =>
        have hb : Lost n (beforeOpen d s) := lost_of_kept beforeOpen_spare beforeOpen_gone h
        dsimp only
        split_ifs
        · exact ih (domainDown_lost hb)
        · exact hb

/-- What of finalize comes after the admission checks. -/
def afterAdmission (s : State) : State :=
  let s := egRetry (reapJobs s)
  let s := streamAll (pumpAll s)
  let s := stcRetry 1 (stcRetry 0 s)
  let s := serveWaiting (s.hostWait.length + s.spl.busWait.length) s
  settle (movePower 20 (xoffAll s))

theorem finalize_eq_afterAdmission : finalize s = afterAdmission (admitAll s) := rfl

theorem afterAdmission_lost (h : Lost n s) : Lost n (afterAdmission s) := by
  have hreap : Lost n (reapJobs s) := lost_of_untouched reapJobs_kept h
  have hretry : Lost n (egRetry (reapJobs s)) := lost_of_untouched egRetry_kept hreap
  have hpump : Lost n (pumpAll (egRetry (reapJobs s))) := lost_of_kept pumpAll_spare pumpAll_gone hretry
  have hstream : Lost n (streamAll (pumpAll (egRetry (reapJobs s)))) := lost_of_untouched streamAll_kept hpump
  have hstc (t : State) (ht : Lost n t) : Lost n (stcRetry 1 (stcRetry 0 t)) :=
    lost_of_untouched stcRetry_kept (lost_of_untouched stcRetry_kept ht)
  have hserve (k : Nat) (t : State) (ht : Lost n t) : Lost n (serveWaiting k t) := lost_of_kept serveWaiting_spare serveWaiting_gone ht
  have hpower (t : State) (ht : Lost n t) : Lost n (settle (movePower 20 (xoffAll t))) :=
    lost_of_untouched settle_kept (movePower_lost (lost_of_untouched xoffAll_kept ht))
  exact hpower _ (hserve _ _ (hstc _ hstream))

/-! ### The admission check of the descriptor that waits (R46, R69) -/

theorem familyOk_stop (h : familyOk s n stopRingZero = true) : ringGroup s 0 = ringGroup s n := by
  have hop : fld (wAt stopRingZero 0) 0 8 = 0x72 := by decide
  have hring : fld (wAt stopRingZero 4) 0 6 = 0 := by decide
  simp [familyOk, hop, hring] at h
  exact h.2

theorem familyOk_congr {u : State} (h : u.regs = s.regs) : familyOk u n stopRingZero = familyOk s n stopRingZero := by
  simp [familyOk, rflag, ringGroup, rfld, rget, h]

theorem admitNow_of_family (h : familyOk s n stopRingZero = false) : admitNow s n stopRingZero = some (failRes .perm 1) := by
  have hearly : admitEarly stopRingZero = none := by decide
  have hend : wEND stopRingZero = false := by decide
  have hrange : rangeBad s stopRingZero = none := rfl
  simp [admitNow, hearly, hend, admitLate, hrange, h]

/-- The descriptor that waits alone and is not permitted ends. -/
theorem admitEnt_ends {e : Ent} (hw : (ring s n).window = [e]) (hst : e.st = .waiting) (hread : e.readable = true) (hmem : e.member = false)
    (hwords : e.words = stopRingZero) (hf : familyOk s n stopRingZero = false) : Gone n (admitEnt n s e).rings := by
  have hopen : e.isOpen = true := by simp [Ent.isOpen, hst]
  have hent : entAt s n e.idx = some e := by simp [entAt, hw, hopen]
  have hstart : mayStart s n e = true := by
    have hbefore : before (ring s n) e.idx = [] := by simp [before, hw, hopen]
    have hbits : wFENCE stopRingZero = false ∧ wBARRIER stopRingZero = false ∧ wOp stopRingZero = 0x72 ∧ needsPipe 0x72 = false := by decide
    obtain ⟨hfence, hbarrier, hop, hpipe⟩ := hbits
    simp [mayStart, mayBegin, hbefore, hwords, hfence, hbarrier, hop, hpipe]
  have hgo : admitEnt n s e = finish n e.idx (failRes .perm 1) s := by
    simp [admitEnt, hent, hst, hread, hmem, hstart, hwords, admitNow_of_family hf]
  rw [hgo, finish, raisePerm_kept.2.2]
  refine fun hwait => not_waitsIn_done (c := compNow s (failRes .perm 1)) (e := e) (l := []) ?_
  change WaitsIn (ring (modEnt n e.idx _ s) n).window at hwait
  simpa [modEnt, hw, modFirst, hopen, entDone] using hwait

theorem raisePerm_regs {k i : Nat} {r : Res} : (raisePerm k i r s).regs = s.regs := by
  unfold raisePerm
  split <;> rfl

theorem admitEnt_regs {k : Nat} {e : Ent} : (admitEnt k s e).regs = s.regs := by
  unfold admitEnt
  split
  · split
    · exact raisePerm_regs
    · rfl
  · rfl

theorem foldl_admitEnt_ends (hf : familyOk s n stopRingZero = false) : Gone n ((ring s n).window.foldl (admitEnt n) s).rings := by
  by_cases hg : Gone n s.rings
  · exact foldl_gone (fun _ _ h => admitEnt_gone h) hg
  · obtain ⟨e, hw, hst, hread, hmem, hwords⟩ := not_not.1 hg
    have hw' : (ring s n).window = [e] := hw
    rw [hw']
    exact admitEnt_ends hw' hst hread hmem hwords hf

theorem foldl_admission_ends (l : List Nat) (hn : n ∈ l) (hf : familyOk s n stopRingZero = false) :
    Gone n (l.foldl (fun s k => (ring s k).window.foldl (admitEnt k) s) s).rings := by
  have hkeep (l : List Nat) (s : State) (h : Gone n s.rings) : Gone n (l.foldl (fun s k => (ring s k).window.foldl (admitEnt k) s) s).rings :=
    foldl_gone (fun _ _ h => foldl_gone (fun _ _ h => admitEnt_gone h) h) h
  induction l generalizing s with
  | nil => exact absurd hn List.not_mem_nil
  | cons k l ih =>
    by_cases hk : k = n
    · subst hk
      exact hkeep l _ (foldl_admitEnt_ends hf)
    · refine ih ((List.mem_cons.1 hn).resolve_left (Ne.symm hk)) ?_
      rwa [familyOk_congr (foldl_keeps (v := State.regs) (fun _ _ => admitEnt_regs) _ _)]

theorem admitAll_ends (hon : domOn s dHOST = true) (hf : familyOk s n stopRingZero = false) : Gone n (admitAll s).rings := by
  by_cases hn : n ∈ tabKeys s.rings
  · rw [admitAll, if_pos hon]
    exact foldl_admission_ends _ hn hf
  · refine admitAll_gone ?_
    rw [Gone, tabGet_of_not_mem hn]
    exact gone_nil (n := 0)

/-- Where the descriptor still waits in the end, it was permitted in the beginning. -/
theorem permitted_of_not_lost (h : ¬Lost n (finalize s)) : spareReg s.regs = 1 ∧ ringGroup s 0 = ringGroup s n := by
  have hafter : ¬Lost n (admitAll s) := fun hl => h (afterAdmission_lost hl)
  simp only [Lost, not_or, Bool.not_eq_false, not_not] at hafter
  obtain ⟨hon, hreg, hwait⟩ := hafter
  obtain ⟨hson, hsreg⟩ := admitAll_spare (s := s)
  have hhost : domOn s dHOST = true := by rwa [domOn, hson] at hon
  refine ⟨hsreg.symm.trans hreg, familyOk_stop (Bool.eq_true_of_not_eq_false fun hf => hwait (admitAll_ends hhost hf))⟩

end

/-! ### The state -/

/-- RING_STOP of ring 0 waits alone. -/
def ringThatWaits : Ring := { state := .running, en := true, window := [{ idx := 0, seq := 1, words := stopRingZero, slot := true }] }

/-- The ring whose group stands in SP_CTRL of port 0. -/
def ringOfPortZero : Nat := 8 * ((rSP_CTRL 0 - rRGRP 0) / 4)

/-- Port 0 ACTIVE with a posted packet to node 1, the next record at index 48, and two rings past the block's: group 1 may stop rings, and
ring 0 and ring 128, whose group stands in the spare register, are of it. -/
def disableSetsEnable : State :=
  { State.reset with
    regs := [(rPG_OPS 1, 0x7F), (rRGRP 0, 1), (0x4C0, 1)]
    rings := [(128, ringThatWaits), (ringOfPortZero, ringThatWaits)]
    pwr := { State.reset.pwr with on := 2 ^ dSPIRE + 2 ^ dHOST + 1, state := .run }
    spl := { State.reset.spl with perrNext := 48, ports := [(0, { st := .active, replay := [postedToNode1] })] } }

/-- After SPL_PORT_DISABLE both descriptors wait as before. -/
theorem disableSetsEnable_waits : domOn (Tests.after (.splPortDisable 0) disableSetsEnable) dHOST = true
    ∧ spareReg (Tests.after (.splPortDisable 0) disableSetsEnable).regs = 1
    ∧ ring (Tests.after (.splPortDisable 0) disableSetsEnable) 128 = ringThatWaits
    ∧ ring (Tests.after (.splPortDisable 0) disableSetsEnable) ringOfPortZero = ringThatWaits := by decide +kernel

theorem not_gone_of_ring {n : Nat} {s : State} (h : ring s n = ringThatWaits) : ¬Gone n s.rings :=
  not_not.2 (congrArg Ring.window h ▸ waitsIn_singleton.2 ⟨rfl, rfl, rfl, rfl⟩)

/-- A group that is 1 has its bit 0 set. -/
theorem group_bit {w : Word} (h : fld w 0 3 = 1) : flag w 0 = true := by
  unfold fld bitsN at h
  rw [flag, Nat.testBit_zero]
  simp only [Nat.shiftRight_zero] at h
  exact decide_eq_true (by omega)

/-- Refutes O36: where the next record stands at index 48, SPL_PORT_DISABLE leaves ENABLE set, and no state with ENABLE clear has the same
outcome. -/
theorem not_portControlAndTraining : ¬ Obligations.PortControlAndTraining := by
  unfold Obligations.PortControlAndTraining
  intro h
  obtain ⟨-, -, hdisable, -⟩ := h 0 disableSetsEnable (by decide)
  obtain ⟨u, hexec, -, hbit, -⟩ := hdisable rfl
  have hend : Tests.after (.splPortDisable 0) disableSetsEnable = finalize u := by
    rw [Tests.after, hexec]
  have hwaits := disableSetsEnable_waits
  rw [hend] at hwaits
  obtain ⟨hon, hreg, hspare, hport⟩ := hwaits
  have hkept {n : Nat} (hr : ring (finalize u) n = ringThatWaits) : ¬Lost n (finalize u) := by
    rintro (hl | hl | hl)
    · exact Bool.false_ne_true (hl.symm.trans hon)
    · exact hl hreg
    · exact not_gone_of_ring hr hl
  obtain ⟨hone, hgroup⟩ := permitted_of_not_lost (hkept hspare)
  obtain ⟨-, hgroup'⟩ := permitted_of_not_lost (hkept hport)
  have hctrl : fld (rget u (rSP_CTRL 0)) 0 3 = 1 := by
    have hs : ringGroup u 128 = fld (spareReg u.regs) 0 3 := rfl
    have hp : ringGroup u ringOfPortZero = fld (rget u (rSP_CTRL 0)) 0 3 := rfl
    rw [← hp, ← hgroup', hgroup, hs, hone]
    decide
  exact Bool.false_ne_true (hbit.symm.trans (group_bit hctrl))

end Sys2Proof.Machine
